-- ==== Sys2Proof/Word.lean ====
section
/-! DEFINITION. Words, bytes, little-endian packing and the saturating arithmetic of the conventions chapter
(spec/00_scope.md R14, R17, R18, R26, R27). -/

namespace Sys2Proof

/-- One byte. -/
abbrev Byte := BitVec 8
/-- One 32-bit register (R30). -/
abbrev Reg := BitVec 32

/-- Little-endian bytes of the low `n` bytes of a number (R27). -/
def leBytes : Nat → Nat → List Byte
  | 0, _ => []
  | n + 1, v => BitVec.ofNat 8 v :: leBytes n (v / 256)

/-- The number that little-endian bytes spell (R27). -/
def leNat : List Byte → Nat
  | [] => 0
  | b :: bs => b.toNat + 256 * leNat bs

/-- Two's complement of an integer in `n` bytes, as a natural (R1040). -/
def twosComp (n : Nat) (v : Int) : Nat := (v % (2 ^ (8 * n) : Int)).toNat

/-- One part of a register word: low bit, width, value (R26). -/
structure Part where
  lo : Nat
  width : Nat
  val : Nat
  deriving DecidableEq, Repr

/-- A register word from its fields; every bit no field names is a reserved bit and reads 0 (R33). -/
def packReg (ps : List Part) : Reg :=
  BitVec.ofNat 32 (ps.foldl (fun acc p => acc + (p.val % 2 ^ p.width) * 2 ^ p.lo) 0)

/-- A field of a register word (R26). -/
def field (r : Reg) (lo width : Nat) : Nat := r.toNat / 2 ^ lo % 2 ^ width

/-- One bit of a register word. -/
def bit (r : Reg) (i : Nat) : Bool := r.getLsbD i

/-- A number clipped to a maximum: every count but those of R17 saturates. -/
def satTo (mx v : Nat) : Nat := if v < mx then v else mx

/-- A 32-bit count one higher, kept at its maximum (R17). -/
def bump32 (c : BitVec 32) : BitVec 32 := BitVec.ofNat 32 (satTo (2 ^ 32 - 1) (c.toNat + 1))

/-- Clip an integer to a symmetric range. -/
def clampInt (lo hi v : Int) : Int := if v < lo then lo else if hi < v then hi else v

/-- Serial-number comparison of R18: `a` is newer than `b`. -/
def newer (a b : BitVec 32) : Bool :=
  let d := (a - b).toNat
  1 ≤ d && d ≤ 2 ^ 31 - 1

/-- A 64-bit statistics counter with its sticky overflow flag (R14). -/
structure Counter where
  val : BitVec 64
  ovf : Bool
  deriving DecidableEq, Repr

/-- A cleared counter: a clear also clears the flag (R14). -/
def Counter.zero : Counter := ⟨0, false⟩

/-- Add to a counter: one that reaches its maximum stays there and has its sticky flag set, so that no reader sees the maximum without the
flag (R14). -/
def Counter.add (c : Counter) (n : Nat) : Counter :=
  if c.val.toNat + n < 2 ^ 64 - 1 then ⟨BitVec.ofNat 64 (c.val.toNat + n), c.ovf⟩ else ⟨BitVec.allOnes 64, true⟩

/-- A counter as its 8 kept bytes give it back: the flag goes with the maximum (R14). -/
def Counter.kept (v : Nat) : Counter := ⟨BitVec.ofNat 64 v, decide (v = 2 ^ 64 - 1)⟩

/-- Count one. -/
def Counter.inc (c : Counter) : Counter := c.add 1

/-- The low 32 bits of a counter. -/
def Counter.lo (c : Counter) : Reg := c.val.truncate 32
/-- The high 32 bits of a counter. -/
def Counter.hi (c : Counter) : Reg := (c.val >>> 32).truncate 32

/-- The two actuators, channels, sequencers (R10). -/
inductive Act where
  | a0 | a1
  deriving DecidableEq, Repr

/-- 0 for the first, 1 for the second. -/
def Act.idx : Act → Nat
  | .a0 => 0
  | .a1 => 1

/-- The other actuator. -/
def Act.other : Act → Act
  | .a0 => .a1
  | .a1 => .a0

/-- The actuator of a number: even zones belong to actuator 0 and odd to actuator 1 (R9). -/
def Act.ofNum (n : Nat) : Act := if n % 2 = 0 then .a0 else .a1

/-- One value for each actuator, channel, sequencer or port. -/
structure Pair (α : Type) where
  p0 : α
  p1 : α
  deriving DecidableEq, Repr

/-- The part of one actuator. -/
def Pair.get {α : Type} (p : Pair α) : Act → α
  | .a0 => p.p0
  | .a1 => p.p1

/-- Change the part of one actuator. -/
def Pair.upd {α : Type} (p : Pair α) (a : Act) (f : α → α) : Pair α :=
  match a with
  | .a0 => { p with p0 := f p.p0 }
  | .a1 => { p with p1 := f p.p1 }

/-- Both parts alike. -/
def Pair.both {α : Type} (x : α) : Pair α := ⟨x, x⟩

/-- Change the element at an index of a list; outside the list nothing changes. -/
def updAt {α : Type} : List α → Nat → (α → α) → List α
  | [], _, _ => []
  | x :: xs, 0, f => f x :: xs
  | x :: xs, n + 1, f => x :: updAt xs n f

/-- Look a key up in a list of pairs. -/
def assoc {α : Type} (d : α) : List (Nat × α) → Nat → α
  | [], _ => d
  | (k, v) :: r, x => if k = x then v else assoc d r x

/-- Set a key in a sparse table kept in rising key order; a value equal to the default has no entry. -/
def assocSet {α : Type} [DecidableEq α] (d : α) : List (Nat × α) → Nat → α → List (Nat × α)
  | [], x, v => if v = d then [] else [(x, v)]
  | (k, w) :: r, x, v =>
    if x < k then (if v = d then (k, w) :: r else (x, v) :: (k, w) :: r)
    else if x = k then (if v = d then r else (x, v) :: r)
    else (k, w) :: assocSet d r x v

/-- The canonical form of a sparse table: keys strictly rising above `lo`, no entry equal to the default. -/
def assocWf {α : Type} [DecidableEq α] (d : α) : Option Nat → List (Nat × α) → Bool
  | _, [] => true
  | lo, (k, v) :: r => (match lo with | none => true | some l => decide (l < k)) && decide (v ≠ d) && assocWf d (some k) r

/-- A list without repeats, the first of each kept. -/
def nubList {α : Type} [DecidableEq α] (l : List α) : List α := l.foldl (fun acc x => if acc.contains x then acc else acc ++ [x]) []

/-- Insert into a list kept in rising order of a key, after equal keys. -/
def insBy {α : Type} (key : α → Nat) (x : α) : List α → List α
  | [] => [x]
  | y :: r => if key x < key y then x :: y :: r else y :: insBy key x r

/-- Sort by a key; equal keys keep their order. -/
def sortBy {α : Type} (key : α → Nat) (l : List α) : List α := l.foldl (fun acc x => insBy key x acc) []

/-- The element of a list with the least key, the earliest of equals. -/
def leastBy {α : Type} (key : α → Nat) : List α → Option α
  | [] => none
  | x :: r => match leastBy key r with
    | some y => if key y < key x then some y else some x
    | none => some x

end Sys2Proof
end

