-- ==== Sys2Proof/Operand.lean ====
section
/-! DEFINITION. The kinds of value that commands and registers carry: modes, transports, request headers, causes.
Each type cites the rule of spec/ that lists its values. -/

namespace Sys2Proof

/-- The orderable variants of Table 0-2 (R4). -/
inductive Variant where
  | u0 | u1 | s0
  deriving DecidableEq, Repr

/-- The eight major modes of Table 4-1 (R197). -/
inductive Mode where
  | off | standby | idleLow | idleReady | idleFly | active | safe | service
  deriving DecidableEq, Repr

/-- The code of Table 4-1. -/
def Mode.code : Mode → Nat
  | .off => 0 | .standby => 1 | .idleLow => 2 | .idleReady => 3
  | .idleFly => 4 | .active => 5 | .safe => 6 | .service => 7

/-- The mode of a code of Table 4-1. -/
def Mode.ofCode : Nat → Option Mode
  | 0 => some .off | 1 => some .standby | 2 => some .idleLow | 3 => some .idleReady
  | 4 => some .idleFly | 5 => some .active | 6 => some .safe | 7 => some .service
  | _ => none

/-- Severity of an event (Table 19-9). -/
inductive Sev where
  | info | notice | error | critical
  deriving DecidableEq, Repr

/-- The code of a severity (Table 19-9). -/
def Sev.code : Sev → Nat
  | .info => 0 | .notice => 1 | .error => 2 | .critical => 3

/-- The sticky event registers of the machine, one for each EVENTS register of the spec. -/
inductive EvBlock where
  | svc | pwr | clk | spn | srvRef (a : Act) | srvCtl (a : Act) | hif (a : Act) | ch (a : Act) | cfx (a : Act)
  | sch | zmg | bcm | vlt | fe | dsv | evr | cal | prt
  deriving DecidableEq, Repr

/-- What the manual says of one event code: its severity and the sticky bit it sets, if any (R985). -/
structure EventInfo where
  code : Nat
  sev : Sev
  sticky : Option (EvBlock × Nat)
  deriving DecidableEq, Repr

/-- Who sent a service request: one NVMe controller, the MCTP endpoint of the management port, or the J6 UART (R908, R1042). -/
inductive Transport where
  | nvme (cntlid : BitVec 16)
  | mctp
  | uart
  deriving DecidableEq, Repr

/-- The three-byte code of a transport instance (R1042). -/
def Transport.bytes : Transport → List Byte
  | .nvme c => 0x00#8 :: leBytes 2 c.toNat
  | .mctp => [0x01#8, 0#8, 0#8]
  | .uart => [0x02#8, 0#8, 0#8]

/-- The part of a request header that is left once the opcode has been told apart (Table 18-1): the carrier, TAG, NOTIFY,
AUTHREF and the four inline parameters. -/
structure Hdr where
  who : Transport
  tag : Reg
  notify : Bool
  auth : Reg
  p0 : Reg
  p1 : Reg
  p2 : Reg
  p3 : Reg
  deriving DecidableEq, Repr

/-- An NVMe command's place: the port, the controller, its submission queue and the command identifier (R820). -/
structure NvCmd where
  port : Act
  cntlid : BitVec 16
  sqid : BitVec 16
  cid : BitVec 16
  deriving DecidableEq, Repr

/-- The kinds of mains input (Table 2-7 INPUT_KIND, R101). -/
inductive InputKind where
  | none | ac | dc
  deriving DecidableEq, Repr

/-- The code of PWR.STATUS.INPUT_KIND. -/
def InputKind.code : InputKind → Nat
  | .none => 0 | .ac => 1 | .dc => 2

/-- Why a bulk measurement ended early (R130). -/
inductive AbandonReason where
  | powerLoss | loadChange | overtime
  deriving DecidableEq, Repr

/-- The parameter of PWR 0x0112 (R130). -/
def AbandonReason.code : AbandonReason → Nat
  | .powerLoss => 1 | .loadChange => 2 | .overtime => 3

/-- Reset groups of Table 3-4 by name (R176). -/
inductive Group where
  | aon | fab | spn | fe (e : Act) | port (p : Act) | act (a : Act)
  deriving DecidableEq, Repr

/-- The group's bit of Table 3-4. -/
def Group.bitNo : Group → Nat
  | .aon => 0 | .fab => 1 | .spn => 2
  | .fe .a0 => 3 | .fe .a1 => 4 | .port .a0 => 5 | .port .a1 => 6 | .act .a0 => 7 | .act .a1 => 8

/-- The group of a bit number of Table 3-4. -/
def Group.ofBit : Nat → Option Group
  | 0 => some .aon | 1 => some .fab | 2 => some .spn | 3 => some (.fe .a0) | 4 => some (.fe .a1)
  | 5 => some (.port .a0) | 6 => some (.port .a1) | 7 => some (.act .a0) | 8 => some (.act .a1)
  | _ => none

/-- The groups marked Yes in Table 3-4: those that may be reset alone. -/
def Group.alone : Group → Bool
  | .fe _ | .port _ | .act _ => true
  | _ => false

/-- Place of a group in the order of R188. -/
def Group.rank : Group → Nat
  | .fe _ | .port _ | .act _ => 0
  | .spn => 1
  | .fab => 2
  | .aon => 3

/-- The phases of the spindle motor (R257). -/
inductive MotorPhase where
  | a | b | c
  deriving DecidableEq, Repr

/-- The rails of PWR 0x0130 (R152): VMOT, VAUX, VAON, or the point-of-load rail of a group. -/
inductive Rail where
  | vmot | vaux | vaon | load (g : Group)
  deriving DecidableEq, Repr

/-- What the preamp answers to a frame (Table 8-2 ACK). -/
inductive Ack where
  | accepted | rejected | silent
  deriving DecidableEq, Repr

/-- The ACK bits (Table 8-2). -/
def Ack.code : Ack → Nat
  | .accepted => 1 | .rejected => 2 | .silent => 3

/-- One head-bus frame (R413): a write with its words, or a read of a number of words. -/
structure Frame where
  write : Bool
  page : Nat
  addr : Nat
  words : List (BitVec 16)
  count : Nat
  deriving DecidableEq, Repr

/-- One settings record: a type, and its value bytes, the key first when the type is keyed (R71, R78). -/
structure SRec where
  ty : Nat
  val : List Byte
  deriving DecidableEq, Repr

/-! ### The data path -/

/-- One 4 KiB sector of data (R471, R606). -/
abbrev Sector := BitVec 32768

/-- What a sector carries on the media beside its data (Tables 9-5 and 12-6). -/
structure SecMeta where
  /-- TAG: track, slot, head -/
  tag : BitVec 64
  /-- WSEQ -/
  wseq : BitVec 32
  /-- FLAGS: PORCH, SPARE, CONV, RSV in bits 0 to 3 -/
  flags : BitVec 16
  /-- META 0 to 3: the namespace -/
  nsid : BitVec 32
  /-- META 4 to 11: the LBA -/
  lba : BitVec 64
  /-- META 12 to 27: protection information -/
  pi : BitVec 128
  /-- META 28 to 31: the band, or the logical band of a porch sector -/
  pbn : BitVec 32
  /-- META 32 to 35: zone reset count -/
  zrc : BitVec 32
  deriving DecidableEq, Repr

/-- A sector as written: its data, as ciphertext, and its identity (Table 9-5). -/
structure Payload where
  data : Sector
  info : SecMeta
  deriving DecidableEq, Repr

/-- SYNC of CHn.LASTSEC (Table 9-15, R483). -/
inductive SyncKind where
  | both | pennantOnly | byBurgee | slip | miss
  deriving DecidableEq, Repr

/-- The code of SYNC. -/
def SyncKind.code : SyncKind → Nat
  | .both => 0 | .pennantOnly => 1 | .byBurgee => 2 | .slip => 3 | .miss => 4

/-- One decode of a codeword: whether it ends with a zero syndrome, in the codeword that stands on the media; iterations over all passes; bits corrected. -/
structure Decode where
  ok : Bool
  iters : Nat
  flips : Nat
  deriving DecidableEq, Repr

/-- What the decoder and the signal path find in one sector (R458, R464, R487, R488, R494, R506): the decode on the fly, the
extended decode of ladder step 1, the sweep of step 2 with the shift that succeeded, the timing loop, the gains, the mean
squared error, and the equalizer taps, target and noise predictors to which adaptation leads. -/
structure SecSignal where
  fly : Decode
  ext : Decode
  sweep : Option (Int × Decode)
  trLost : Bool
  phErr : BitVec 16
  fofs : BitVec 16
  gains : BitVec 32
  mse : Nat
  eq : List Int
  target : Int × Int
  np : List Byte
  deriving DecidableEq, Repr

/-- Whose sector a descriptor moves: what the scheduler keeps beside Table 11-3 so that results reach their owner (R574, R669). -/
inductive Use where
  /-- a read into the cache -/
  | fill (nsid lba : Nat)
  /-- a dirty sector of the cache to slot index `k` of a band -/
  | destage (nsid lba pbn k : Nat)
  /-- a verify of a destaged sector -/
  | verify (nsid lba pbn k : Nat)
  /-- a sector of a band being cleaned: read from its live place, written to its new one -/
  | clean (nsid lba : Nat)
  /-- a sector of the reserved media area, of a calibration track or of a format -/
  | internal
  deriving DecidableEq, Repr

/-- What a read or scrub finds in a protected word (R590, R591, R703). -/
inductive EccFind where
  | clean | corrected | uncorrectable
  deriving DecidableEq, Repr

/-- What a scrub visit of an actuator's memories reads: a row of the control store or of its spares (R592), an entry of the region table RAM
(R466), or a row of a servo table (R404). -/
inductive ScrubSite where
  | store (row : BitVec 13)
  | region (head region : Byte)
  | servo (array : Byte) (row : BitVec 16)
  deriving DecidableEq, Repr

/-- What one calibration step measured (Table 10-2, R532, R537 to R540). -/
inductive CalMeas where
  /-- CLEARANCE: ln R in 1/65,536, and the modulation M in 0.01 % -/
  | clearance (lnR : Int) (modulation : Nat)
  /-- ASSIST: written SNR in 0.01 dB, and the mean LDPC iterations in 0.01 -/
  | assist (snr : Int) (iters : Nat)
  /-- PRECOMP: mean shift in 0.01 % of a bit -/
  | shift (v : Int)
  /-- ADC_SKEW: image level in 0.1 dBc, and mean and rms of each slice, reader 0 first -/
  | skew (level : Int) (slices : List (Int × Nat))
  /-- ALIGN_MAP: the scan has ended; its fields were measured by ALIGN -/
  | align
  /-- ASSIST, PRECOMP: a write inhibit cut the step -/
  | inhibited
  deriving DecidableEq, Repr

/-- One descriptor (Table 11-3) with its use. -/
structure Desc where
  start : BitVec 24
  s : BitVec 16
  slot : BitVec 16
  defect : Bool
  last : Bool
  failed : Bool
  use : Use
  /-- its result was taken by DECRES -/
  taken : Bool
  deriving DecidableEq, Repr

/-- One track operation (Table 11-2). -/
structure TrackOp where
  op : Nat
  p : List (BitVec 24)
  descs : List Desc
  /-- speculative work of Table 13-2 -/
  spec : Bool
  deriving DecidableEq, Repr

/-- A parameter P0 to P7 of an operation; 0 when unused. -/
def TrackOp.param (o : TrackOp) (i : Nat) : BitVec 24 := o.p.getD i 0

/-- Protection information handling of an NVMe command (R867): PRACT, PRCHK (guard, application tag, reference tag in bits 2 to 0), the
expected or initial reference tag, the application tag and its mask. -/
structure Prot where
  pract : Bool
  prchk : BitVec 3
  ref : BitVec 64
  app : BitVec 16
  mask : BitVec 16
  deriving DecidableEq, Repr

/-- An I/O command as its submission entry states it (R822). Data sectors are the host's plaintext, each with the protection
information that accompanies it. -/
inductive IoCmd where
  | read (nsid lba n : Nat) (prot : Prot)
  | write (nsid lba n : Nat) (prot : Prot) (data : List (Sector × BitVec 128))
  | append (nsid lba n : Nat) (prot : Prot) (data : List (Sector × BitVec 128))
  | writeZeroes (nsid lba n : Nat) (prot : Prot)
  | compare (nsid lba n : Nat) (prot : Prot) (data : List (Sector × BitVec 128))
  | verify (nsid lba n : Nat) (prot : Prot)
  | deallocate (nsid : Nat) (ranges : List (Nat × Nat))
  | zoneOpen (nsid lba : Nat) (all : Bool)
  | zoneClose (nsid lba : Nat) (all : Bool)
  | zoneFinish (nsid lba : Nat) (all : Bool)
  | zoneReset (nsid lba : Nat) (all : Bool)
  | zoneReport (nsid lba : Nat)
  | flush (nsid : Nat)
  deriving DecidableEq, Repr

/-- Completion statuses that the spec names (NVMe Base 2.0 and its command sets); success is the first. -/
inductive NvSt where
  | success | invalidField | invalidNamespace | lbaOutOfRange | namespaceNotReady | namespaceNotReadyDnr | invalidFormat | namespaceIdUnavailable
  | namespaceInsufficientCapacity | namespaceAlreadyAttached | namespaceNotAttached | tooManyOpenZones | tooManyActiveZones
  | zoneReadOnly | zoneOffline | zoneFull | zoneInvalidWrite | zoneBoundary | zoneInvalidTransition | deallocated
  | unrecoveredRead | writeFault | abortRequested | accessDenied | guardCheck | appTagCheck | refTagCheck | compareFailure
  | invalidFirmwareImage | invalidFirmwareSlot | connectInvalidParams | controllerBusy | reservationConflict | invalidQueueId
  | invalidQueueSize | invalidQueueDeletion | completionQueueInvalid | aerLimit | internalError | sanitizeInProgress | invalidLogPage
  deriving DecidableEq, Repr

/-- Priority of a submission queue: urgent, high, medium, low (Table 13-1). -/
inductive Prio where
  | urgent | high | medium | low
  deriving DecidableEq, Repr

/-- The class of a priority (Table 13-1). -/
def Prio.cls : Prio → Nat
  | .urgent => 0 | .high => 1 | .medium => 2 | .low => 3

/-- What a host sets up on a controller that it enables or connects to (R248, R632, R630, R913): its host identifier, the notices it wants, and the
namespaces for which Deallocated or Unwritten Logical Block Error is on. The table has no row for these Set Features (log entry 57). -/
structure HostCfg where
  host : BitVec 128
  vendorAen : Bool
  zoneAen : Bool
  dulbe : List (BitVec 32)
  deriving DecidableEq, Repr

/-- Outcome of a sector rewrite of the event store (R970, R972): done, a failed program or erase, or cut by the end of supply after the
staging copy was written. -/
inductive NorOutcome where
  | done | failed | cut
  deriving DecidableEq, Repr

/-- The memory in which an uncorrectable error was found (Table 19-4). -/
inductive UeSite where
  | engine (e : Act) (array : Byte)
  | port (p : Act) (array : Byte)
  | store (a : Act) (row : BitVec 16)
  | regionRam (a : Act) (head region : Byte)
  | servo (a : Act) (array : Byte) (row : BitVec 16)
  | spindle (array : Byte)
  | fabric (array : Byte) (addr : BitVec 40) (rows : BitVec 8)
  | supervisor (array : Byte) (addr : BitVec 40)
  deriving DecidableEq, Repr

/-- What has been measured and counted in a second: input power and VMOT current as they stand at its end, input energy (Table 2-9), and the line
errors and corrected codewords of each port (Table 16-13). -/
structure SecondMeas where
  /-- PIN, mW -/
  pin : BitVec 24
  /-- VMOT, 10 mV -/
  vmot : BitVec 16
  /-- time since the brake resistor's thermal model was last brought up to date, µs -/
  heatUs : BitVec 20
  /-- IMOT, mA -/
  imot : BitVec 16
  /-- input energy of the second, mJ -/
  energy : BitVec 32
  /-- PCIe replays and receiver errors, or uncorrected FEC and FCS errors -/
  errs : Pair (BitVec 32)
  /-- RS-FEC codewords corrected, not counted in PCIe -/
  fec : Pair (BitVec 32)
  deriving DecidableEq, Repr

end Sys2Proof
end

