-- ==== Sys2Proof/Machine/StateServo.lean ====
section
/-! DEFINITION. State of the servo units: reference and position sensing (spec/06) and the control engine (spec/07). -/

namespace Sys2Proof.Machine

/-- The two lane sets of the reference pattern (Table 6-1). -/
inductive LaneSet where
  | setA | setB
  deriving DecidableEq, Repr

/-- One range of the lane-damage map, record 0xn84 (R341, Table 6-10). -/
structure LaneRange where
  first : BitVec 32
  periods : BitVec 16
  set : LaneSet
  deriving DecidableEq, Repr

/-- A run of windows in which one lane set failed at one period index, toward a whole revolution (R341). -/
structure LaneFail where
  set : LaneSet
  period : Nat
  windows : Nat
  deriving DecidableEq, Repr

/-- Reference and position sensing of one actuator (spec/06_servo_position.md). -/
structure SrvRef where
  /-- REFSTAT.ACQUIRED; 1 bit; 06 Table 6-7 R321; reset 0 -/
  acquired : Bool := false
  /-- REFSTAT.INDEX_VALID; 1 bit; 06 Table 6-7 R320; reset 0 -/
  indexValid : Bool := false
  /-- REFSTAT.ALIGN_TRUST; 1 bit; 06 Table 6-7 R335; reset 0 -/
  alignTrust : Bool := false
  /-- REFSTAT.WUS_POS; 1 bit; 06 Table 6-7 R337; reset 0 -/
  wusPos : Bool := false
  /-- the write-unsafe of WUS_POS came from an alignment case; 1 bit; 06 R338; reset 0 -/
  wusAlign : Bool := false
  /-- REFSTAT.MARK_OK; 1 bit; 06 Table 6-7; reset 0 -/
  markOk : Bool := false
  /-- REFSTAT.SET_IN_USE; 2 bits; 06 Table 6-7; reset 0b00 -/
  setInUse : BitVec 2 := 0
  /-- REFSTAT.A_OK; 1 bit; 06 Table 6-7 R313; reset 0 -/
  aOk : Bool := false
  /-- REFSTAT.B_OK; 1 bit; 06 Table 6-7 R313; reset 0 -/
  bOk : Bool := false
  /-- REFPOS; 32 bits; 06 Table 6-9 R317; reset 0 -/
  pos : BitVec 32 := 0
  /-- DATAPOS; 32 bits; 06 Table 6-9 R329; reset 0 -/
  dataPos : BitVec 32 := 0
  /-- ALIGNMEAS.FIELD; 7 bits; 06 Table 6-9; reset 0 -/
  fieldNo : BitVec 7 := 0
  /-- ALIGNMEAS.VALID; 1 bit; 06 Table 6-9; reset 0 -/
  fieldValid : Bool := false
  /-- ALIGNMEAS.ERR; 24 bits; 06 Table 6-9 R333; reset 0 -/
  fieldErr : BitVec 24 := 0
  /-- REFAMP.AMP_A; 16 bits; 06 Table 6-9; reset 0 -/
  ampA : BitVec 16 := 0
  /-- REFAMP.AMP_B; 16 bits; 06 Table 6-9; reset 0 -/
  ampB : BitVec 16 := 0
  /-- POSCFG.ALIGN_LIMIT; 11 bits; 06 Table 6-9 R342; reset 300 -/
  alignLimit : BitVec 11 := 300
  /-- POSCFG.LANE_AGREE; 10 bits; 06 Table 6-9; reset 96 -/
  laneAgree : BitVec 10 := 96
  /-- POSCFG.INV_LIMIT; 6 bits; 06 Table 6-9; reset 8 -/
  invLimit : BitVec 6 := 8
  /-- POSCFG.MISS_LIMIT; 3 bits; 06 Table 6-9; reset 3 -/
  missLimit : BitVec 3 := 3
  /-- POSCFG.ALIGN_READER; 2 bits; 06 Table 6-9; reset 0b00 -/
  alignReader : BitVec 2 := 0
  /-- consecutive invalid windows; 06 R337; reset 0 -/
  invRun : Nat := 0
  /-- consecutive valid windows; 06 R338; reset 0 -/
  validRun : Nat := 0
  /-- consecutive fields not found, and the first of them; 06 R337; reset 0 -/
  missRun : Nat := 0
  /-- first field of the run of missed fields; 06 Table 6-12; reset 0 -/
  missFirst : BitVec 7 := 0
  /-- consecutive good fields since write-unsafe; 06 R338; reset 0 -/
  goodFields : Nat := 0
  /-- last valid word; 32 bits or none; 06 R317; reset none -/
  word1 : Option (BitVec 32) := none
  /-- valid word before the last; 32 bits or none; 06 R317; reset none -/
  word2 : Option (BitVec 32) := none
  /-- gain of the demodulator in 1/65,536, by which tone magnitudes are brought to the AGC reference; 06 R312; reset 65,536 (DESIGN CHOICE, log entry 16) -/
  gain : Nat := 65536
  /-- gain control frozen in the last window; 1 bit; 06 R312; reset 0 -/
  agcFrozen : Bool := false
  /-- the next window falls in a period correction and is invalid; 1 bit; 06 R319; reset 0 -/
  correcting : Bool := false
  /-- event 0x43 stands for the present absence of frame 0, so the other actuator anchors; 1 bit; 06 R323; reset 0 -/
  markLost : Bool := false
  /-- lane sets failing at one period index; 06 R341; reset none -/
  laneFails : List LaneFail := []
  /-- lane-damage map, at most 256 ranges, in force and staged as record 0xn84; 06 R341; reset none -/
  damage : List LaneRange := []
  /-- INVCNT; 64 bits and flag; 06 Table 6-6; reset 0 -/
  invCnt : Counter := .zero
  /-- FBCNT; 64 bits and flag; 06 Table 6-6; reset 0 -/
  fbCnt : Counter := .zero
  /-- AMISSCNT; 64 bits and flag; 06 Table 6-6; reset 0 -/
  amissCnt : Counter := .zero
  deriving DecidableEq, Repr

/-- Servo states of Table 7-3 (R367). -/
inductive SrvState where
  | opened | hold | seek | settle | follow | retract
  deriving DecidableEq, Repr

/-- The code of CTLSTAT.STATE. -/
def SrvState.code : SrvState → Nat
  | .opened => 0 | .hold => 1 | .seek => 2 | .settle => 3 | .follow => 4 | .retract => 5

/-- CTLSTAT.PHASE in SEEK (Table 7-11). -/
inductive SeekPhase where
  | track | load | unload
  deriving DecidableEq, Repr

/-- The code of CTLSTAT.PHASE. -/
def SeekPhase.code : SeekPhase → Nat
  | .track => 0 | .load => 1 | .unload => 2

/-- The four loops with coefficient banks, in register order (R361). -/
inductive Loop where
  | current | position | align | micro
  deriving DecidableEq, Repr

/-- The loop number of Table 7-7. -/
def Loop.idx : Loop → Nat
  | .current => 0 | .position => 1 | .align => 2 | .micro => 3

/-- The loop of a number. -/
def Loop.ofNum : Nat → Option Loop
  | 0 => some .current | 1 => some .position | 2 => some .align | 3 => some .micro | _ => none

/-- States of one compensator: first-order section w, biquad s1 s2, six notches (R354, R356). -/
structure Comp where
  w : Int := 0
  s1 : Int := 0
  s2 : Int := 0
  n1 : List Int := [0, 0, 0, 0, 0, 0]
  n2 : List Int := [0, 0, 0, 0, 0, 0]
  /-- last output before OUT_SHIFT -/
  yLast : Int := 0
  deriving DecidableEq, Repr

/-- Why a HOLD runs, and its limits (R379, R380). -/
structure HoldReq where
  current : Int
  window : Nat
  durMs : Nat
  req : Option Hdr
  deriving DecidableEq, Repr

/-- Control engine of one actuator (spec/07_servo_control.md). -/
structure SrvCtl where
  /-- CTLSTAT.STATE; 3 bits; 07 Table 7-11 R367; reset 0 OPEN -/
  st : SrvState := .opened
  /-- CTLSTAT.PHASE; 2 bits; 07 Table 7-11; reset 0b00 -/
  phase : SeekPhase := .track
  /-- heads off the ramp; 07 R376 R378 R398; reset parked -/
  loaded : Bool := false
  /-- CTLSTAT.SAT; 1 bit; 07 Table 7-11; reset 0 -/
  sat : Bool := false
  /-- CTLSTAT.RVFF_ACTIVE; 1 bit; 07 Table 7-11; reset 0 -/
  rvffActive : Bool := false
  /-- CTLSTAT.XFF_ACTIVE; 1 bit; 07 Table 7-11; reset 0 -/
  xffActive : Bool := false
  /-- CTLSTAT.RRO_LEARN; 1 bit; 07 Table 7-11; reset 0 -/
  rroLearn : Bool := false
  /-- CTLSTAT.MA_ACTIVE; 1 bit; 07 Table 7-11; reset 0 -/
  maActive : Bool := false
  /-- CTLSTAT.DRV_MODE, true for PWM; 1 bit; 07 Table 7-11 R359; reset 0 linear -/
  pwm : Bool := false
  /-- CTLSTAT.ON_TRACK_R; 1 bit; 07 R368; reset 0 -/
  onTrackR : Bool := false
  /-- CTLSTAT.ON_TRACK_W; 1 bit; 07 R368; reset 0 -/
  onTrackW : Bool := false
  /-- CTLSTAT.RET_ACTIVE; 1 bit; 07 R398; reset 0 -/
  retActive : Bool := false
  /-- CTLSTAT.RET_SRC, true for back-EMF; 1 bit; 07 Table 7-11 R398; reset 0 VMOT -/
  retSrc : Bool := false
  /-- voltage that the retract path drives, 0.1 V; 8 bits; 07 R398; reset 0 -/
  retV : BitVec 8 := 0
  /-- CTLSTAT.SHOCK_WI; 1 bit; 07 R402; reset 0 -/
  shockWi : Bool := false
  /-- SHOCK_HOLD has run out and the inhibit waits for ON_TRACK_W; 1 bit; 07 R402; reset 0 -/
  shockHeld : Bool := false
  /-- CTLSTAT.WUS_CTL: write-unsafe of R350; 1 bit; 07 R350; reset 0 -/
  wusOvr : Bool := false
  /-- CTLSTAT.WUS_CTL: write-unsafe of R360; 1 bit; 07 R360; reset 0 -/
  wusDrv : Bool := false
  /-- CTLSTAT.WUS_CTL: write-unsafe of R403; 1 bit; 07 R403; reset 0 -/
  wusOff : Bool := false
  /-- CTLSTAT.HEAD; 4 bits; 07 Table 7-11; reset 0 -/
  head : BitVec 4 := 0
  /-- LOOPCTL bank selections in force, CUR POS ALIGN MA; 2 bits each; 07 Table 7-13; reset 0 -/
  banksel : List (BitVec 2) := [0, 0, 0, 0]
  /-- bank selections waiting for a sample boundary, per loop; 07 R364 R366; reset none -/
  bankPend : List (Option (BitVec 2)) := [none, none, none, none]
  /-- SRV_SELECT_BANK requests whose reply follows the switch; 07 R407; reset none -/
  bankReqs : List (Hdr × Nat) := []
  /-- LOOPCTL.TRAJ_SET; 1 bit; 07 Table 7-13 R370; reset 0 -/
  trajSet : Bool := false
  /-- trajectory table of the present seek; 1 bit; 07 R370; reset 0 -/
  trajNow : Bool := false
  /-- LOOPCTL.MA_EN; 1 bit; 07 Table 7-13; reset 1 -/
  maEn : Bool := true
  /-- LOOPCTL.XFF_EN; 1 bit; 07 Table 7-13; reset 1 -/
  xffEn : Bool := true
  /-- LOOPCTL.RVFF_EN; 1 bit; 07 Table 7-13; reset 1 -/
  rvffEn : Bool := true
  /-- SEEKTGT.HEAD; 4 bits; 07 Table 7-13; reset 0 -/
  tgtHead : BitVec 4 := 0
  /-- SEEKTGT.TRACK; 21 bits; 07 Table 7-13; reset 0 -/
  tgtTrack : BitVec 21 := 0
  /-- seek requests that wait in HOLD: head and track; 07 R381; reset none -/
  seekWait : Option (BitVec 4 × BitVec 21) := none
  /-- the last seek failed and its failure has been signalled; 07 R372; reset 0 -/
  seekFailed : Bool := false
  /-- angle after the once-around mark at the last window or cycle, 1/65,536 revolution; 16 bits; 06 R328 07 R388; reset 0 -/
  angle : BitVec 16 := 0
  /-- velocity reference on the ramp as back-EMF, mV, positive inward, 0 off the ramp; 07 R376 R378; reset 0 -/
  bemfRef : Int := 0
  /-- PES; 32 bits signed, clipped to ±2^23; 07 Table 7-13 R352; reset 0 -/
  pes : Int := 0
  /-- largest |PES| since entry to SETTLE; 07 Table 7-14; reset 0 -/
  pesMax : Nat := 0
  /-- ICMD.IMEAS, 0.1 mA; 16 bits signed; 07 Table 7-13; reset 0 -/
  imeas : Int := 0
  /-- ICMD.ISP, 0.1 mA; 16 bits signed; 07 Table 7-13; reset 0 -/
  isp : Int := 0
  /-- the set-point less its feed-forward terms, for the preset of R365; 07 R365; reset 0 -/
  ispBase : Int := 0
  /-- driver command, the current loop's output; 07 Table 7-1; reset 0 -/
  drive : Int := 0
  /-- CORR.VMA, mV; 16 bits signed; 07 Table 7-13; reset 0 -/
  vma : Int := 0
  /-- CORR.ALIGN_C, units; 16 bits signed; 07 Table 7-13; reset 0 -/
  alignC : Int := 0
  /-- stored corrections of the data heads, sparse by head; 07 R385; reset 0 each -/
  storedC : List (Nat × Int) := []
  /-- RROCTL.RRO_LIMIT; 16 bits; 07 Table 7-13; reset 1024 -/
  rroLimit : BitVec 16 := 1024
  /-- RROCTL.LEAD; 4 bits; 07 Table 7-13; reset 2 -/
  lead : BitVec 4 := 2
  /-- RROCTL.FREEZE; 1 bit; 07 Table 7-13; reset 0 -/
  freeze : Bool := false
  /-- RROCTL.LEARN_N; 4 bits; 07 Table 7-13; reset 8 -/
  learnN : BitVec 4 := 8
  /-- HOLDCUR.HOLD_I, 0.1 mA; 16 bits signed; 07 Table 7-13; reset 0 -/
  holdI : Int := 0
  /-- the HOLD in force; 07 R379 R380; reset none -/
  holdReq : Option HoldReq := none
  /-- TIMING.SP_MAX; 8 bits; 07 Table 7-13; reset 0 -/
  spMax : BitVec 8 := 0
  /-- TIMING.SP_LAST; 8 bits; 07 Table 7-13; reset 0 -/
  spLast : BitVec 8 := 0
  /-- SEEKCNT; 64 bits and flag; 07 Table 7-10; reset 0 -/
  seekCnt : Counter := .zero
  /-- OFFTRKCNT; 64 bits and flag; 07 Table 7-10; reset 0 -/
  offTrkCnt : Counter := .zero
  /-- RETRACTCNT; 64 bits and flag; 07 Table 7-10; reset 0 -/
  retractCnt : Counter := .zero
  /-- OVRCNT; 64 bits and flag; 07 Table 7-10; reset 0 -/
  ovrCnt : Counter := .zero
  /-- the compensator of a loop is preset at its next sample, per loop; 07 R364 R365; reset none -/
  presetDue : List Bool := [false, false, false, false]
  /-- bank words and feed-forward words, sparse by register offset 0x1000 to 0x207C; 32 bits each; 07 Table 7-10; reset 0 -/
  words : List (Nat × Reg) := []
  /-- compensator states of the current loop; 48 bits each; 07 R354; reset 0 -/
  cCur : Comp := {}
  /-- compensator states of the position loop with six notches; 48 bits each; 07 R356; reset 0 -/
  cPos : Comp := {}
  /-- compensator states of the alignment loop; 48 bits each; 07 R384; reset 0 -/
  cAlign : Comp := {}
  /-- compensator states of the microactuator loop; 48 bits each; 07 R374; reset 0 -/
  cMa : Comp := {}
  /-- states of the cross-actuator filter; 48 bits each; 07 R397; reset 0 -/
  cXff : Comp := {}
  /-- states of the vibration filter; 48 bits each; 07 R397; reset 0 -/
  cRvff : Comp := {}
  /-- estimator position, units; 07 R347; reset 0 -/
  xEst : Int := 0
  /-- estimator velocity, units per µs; 07 R347; reset 0 -/
  vEst : Int := 0
  /-- word of the most recent valid window of the position cycle; 07 R347; reset none -/
  cycWord : Option (BitVec 32) := none
  /-- windows since that valid window; 07 R347; reset 0 -/
  cycAge : Nat := 0
  /-- repetitive-controller tables by 1024 × head + bin, sparse; 16 bits signed each; 07 R388; reset 0 -/
  rro : List (Nat × Int) := []
  /-- the tables have been read back in this power cycle; 1 bit; 07 R392; reset 0 -/
  rroLoaded : Bool := false
  /-- saved tables in the reserved media area; 07 R392; reset none (DESIGN CHOICE, log entry 2) -/
  rroSaved : List (Nat × Int) := []
  /-- present bin; 10 bits; 07 R388; reset 0 -/
  bin : Nat := 0
  /-- sum of PES and number of samples in the present bin; 07 R389; reset 0 -/
  binSum : Int := 0
  /-- number of samples in the present bin; 07 R389; reset 0 -/
  binCnt : Nat := 0
  /-- the present bin holds an invalid window; 07 R390; reset 0 -/
  binBad : Bool := false
  /-- mean of the bin before the present one, as sum and number of samples, none when invalid; 07 R389 R390; reset none -/
  m1 : Option (Int × Nat) := none
  /-- mean of the bin two before the present one, as sum and number of samples, none when invalid; 07 R389; reset none -/
  m2 : Option (Int × Nat) := none
  /-- a head switch has occurred in the present revolution; 07 R390; reset 0 -/
  switched : Bool := false
  /-- consecutive overruns; 07 R350; reset 0 -/
  ovrRun : Nat := 0
  /-- cycles without overrun since write-unsafe; 07 R350; reset 0 -/
  ovrClean : Nat := 0
  /-- consecutive current samples off by more than 0.3 A; 07 R360; reset 0 -/
  drvRun : Nat := 0
  /-- position cycles free of the driver conditions; 07 R360; reset 0 -/
  drvClean : Nat := 0
  /-- a driver condition stood in the present position cycle; 07 R360; reset 0 -/
  drvBad : Bool := false
  /-- consecutive current samples with small set-point; 07 R359; reset 0 -/
  linRun : Nat := 0
  /-- consecutive samples within SETTLE_LIMIT; 07 R367; reset 0 -/
  settleRun : Nat := 0
  /-- consecutive samples within WRITE_LIMIT; 07 R368; reset 0 -/
  writeRun : Nat := 0
  /-- consecutive cycles at ±MA_VMAX; 07 R394; reset 0 -/
  maRun : Nat := 0
  /-- SETTLE_TMO reported for the present SETTLE; 07 R373; reset 0 -/
  settleLate : Bool := false
  /-- the unit was in FOLLOW with the same head since the present field began; 07 R382; reset 0 -/
  fieldOk : Bool := false
  /-- load attempts made in the present load, counting from 1; 07 R377; reset 0 -/
  loadTry : Nat := 0
  /-- the unload in progress ends a failed attempt and a further one follows; 07 R377; reset 0 -/
  loadAgain : Bool := false
  /-- last reason of a failed load attempt; 8 bits; 07 R377; reset 0 -/
  loadReason : BitVec 8 := 0
  /-- load failed after all attempts; 07 R377; reset 0 -/
  loadFailed : Bool := false
  /-- the load in progress was asked for by SRV_CLOSE_LOOP, with head and track; 07 R407; reset none -/
  closeReq : Option (Hdr × BitVec 4 × BitVec 21) := none
  /-- SRV_OPEN_LOOP requests whose reply follows entry to OPEN; 07 R407; reset none -/
  openReqs : List Hdr := []
  /-- cause of the present or last retract, Table 7-4; 8 bits; 07 R400; reset 0 -/
  retCause : BitVec 8 := 0
  /-- heads to be loaded again after a retract with cause 0x02 or 0x03; 1 bit; 07 R401; reset 0 -/
  reload : Bool := false
  /-- an ONTRACK of the sequencer waits for this seek; 11 R571; reset 0 -/
  seekReq : Bool := false
  deriving DecidableEq, Repr

end Sys2Proof.Machine
end

