-- ==== Sys2Proof/Machine/StateMaps.lean ====
section
/-! DEFINITION. The tables of the zone manager (spec/12) that the reserved media area and the vault keep: namespaces, zones, managed maps,
pending lists. -/

namespace Sys2Proof.Machine

/-- The kinds of Table 12-1. -/
inductive NsKind where
  | zoned | managed | conventional
  deriving DecidableEq, Repr

/-- One namespace (R605 to R610). -/
structure Ns where
  /-- NSID, 1 to 32; 12 R605 -/
  nsid : Nat
  /-- kind; 12 Table 12-1 -/
  kind : NsKind
  /-- NSZE in LBAs; 12 Table 12-1 -/
  size : Nat
  /-- LBA format, 0 to 2; 12 R606 -/
  fmt : Nat
  /-- protection information type, 0 to 3; 17 R867 -/
  pit : Nat
  /-- attached to the controllers of ports A and B; 12 R610 -/
  att : Pair Bool
  /-- bands of each actuator, in list order; 12 R608 R618 -/
  bands : Pair (List Nat)
  /-- pool bands of each actuator; 12 R636 -/
  pool : Pair (List Nat)
  deriving DecidableEq, Repr

/-- The states of a zone (R620 to R632). -/
inductive ZoneSt where
  | empty | impOpen | expOpen | closed | full | readOnly | offline
  deriving DecidableEq, Repr

/-- One zone that is not as at creation (Table 12-3). -/
structure Zone where
  /-- state; 12 R620 -/
  st : ZoneSt := .empty
  /-- write pointer, LBAs from the zone start; 12 R625 -/
  wp : Nat := 0
  /-- order of its last write, for the choice of R621 -/
  order : Nat := 0
  /-- reset count; 12 Table 12-6 -/
  zrc : BitVec 32 := 0
  /-- sectors that wait for a spare slot; 12 Table 12-7 -/
  spares : List Nat := []
  deriving DecidableEq, Repr

/-- Where an LBA of a MANAGED namespace lives when not in MAP[L] (R634). -/
inductive Loc where
  /-- a sector of a porch band -/
  | porch (pbn k : Nat)
  /-- a sector of L's band under direct rewrite -/
  | rewrite
  /-- no live location -/
  | dead
  deriving DecidableEq, Repr

/-- A direct rewrite (R637, R638). -/
structure Rewrite where
  /-- logical band -/
  band : Nat
  /-- pool band it is written into -/
  pbn : Nat
  /-- frontier, sectors -/
  frontier : Nat
  /-- closed but incomplete -/
  closed : Bool
  deriving DecidableEq, Repr

/-- The managed maps of one namespace on one actuator (R634 to R642). -/
structure Managed where
  /-- MAP[L] by logical band, sparse, unmapped bands absent; PBN + 1 -/
  map : List (Nat × Nat) := []
  /-- live locations other than MAP[L], by LBA, sparse -/
  live : List (Nat × Loc) := []
  /-- bands of the porch log, oldest first, with the slots used -/
  porch : List (Nat × Nat) := []
  /-- free pool bands -/
  free : List Nat := []
  /-- direct rewrite in progress -/
  rewrite : Option Rewrite := none
  /-- logical band being cleaned and its new band, written and verified or not -/
  cleaning : Option (Nat × Nat) := none
  /-- cleaning journal: logical band, new band, replaced band + 1 or 0 -/
  journal : Option (Nat × Nat × Nat) := none
  deriving DecidableEq, Repr

/-- What the reserved media area and the vault's metadata hold (Table 12-3). -/
structure ZmgMaps where
  /-- namespaces; at most 32 -/
  nss : List Ns := []
  /-- zones not as at creation, by 2^20 × NSID + zone, sparse -/
  zones : List (Nat × Zone) := []
  /-- managed maps by 2 × NSID + actuator, sparse -/
  man : List (Nat × Managed) := []
  /-- pending lists: namespace and LBA, at most 4,096 each; 12 R650 -/
  pend : Pair (List (Nat × Nat)) := ⟨[], []⟩
  /-- spare slots used, by 2^24 × actuator + PBN, sparse; 12 R645 -/
  spareUsed : List (Nat × Nat) := []
  /-- sectors moved to a spare slot: by band and user sector, the spare's number; 12 R645 -/
  moved : List (Nat × Nat × Nat) := []
  /-- media write frontier of bands in shingled form, by 2^24 × actuator + PBN: the next slot index to write, sparse; 12 R633 -/
  front : List (Nat × Nat) := []
  /-- bands out of service, actuator and PBN; 12 R646 -/
  gone : List (Nat × Nat) := []
  /-- bands that SPARE_COMMIT moved into the cellar, actuator and PBN; 12 R648 -/
  cellarAdded : List (Nat × Nat) := []
  /-- destage-operation count of each actuator (WSEQ); 32 bits each; 12 Table 12-6 -/
  wseq : Pair (BitVec 32) := ⟨0, 0⟩
  deriving DecidableEq, Repr

end Sys2Proof.Machine
end

