-- ==== Sys2Proof/Machine/StateOpal.lean ====
section
/-! DEFINITION. Data services' tables that the HDA NOR keeps or that frames carry (spec/17): locking ranges and SPs, placement entries, ZGP
messages. -/

namespace Sys2Proof.Machine

/-! ### Opal -/

/-- One locking range (R855, R859, R861). -/
structure LRange where
  /-- in use; the Global Range always is -/
  on : Bool := false
  /-- RANGE_NSID; 0 for the Global Range -/
  nsid : Nat := 0
  /-- RangeStart -/
  start : Nat := 0
  /-- RangeLength -/
  len : Nat := 0
  /-- ReadLockEnabled -/
  rle : Bool := false
  /-- WriteLockEnabled -/
  wle : Bool := false
  /-- ReadLocked -/
  rl : Bool := false
  /-- WriteLocked -/
  wl : Bool := false
  /-- LockOnReset holds Power Cycle -/
  lor : Bool := true
  /-- its 512-bit XTS key; 17 R855; reset 0 for a new module (DESIGN CHOICE, log entry 2) -/
  key : BitVec 512 := 0
  deriving DecidableEq, Repr

/-- What records 0x1180 and 0x1181 carry (R856, R904): the state of the SPs and the range keys. -/
structure Opal where
  /-- the Locking SP is activated; DSV.STATUS.OPAL_ACTIVE; 17 R859 -/
  active : Bool := false
  /-- locking ranges, Global Range first; 17 Table 17-1; reset: the Global Range alone, not locking -/
  ranges : List LRange := ({ on := true } : LRange) :: List.replicate 15 {}
  /-- the credentials that differ from the manufactured ones, by authority number; 17 Table 17-1; reset none -/
  pins : List (Nat × List Byte) := []
  /-- authorities enabled beside those that always are, by number; 17 Table 17-1; reset none -/
  enabled : List Nat := []
  /-- authorities allowed to set ReadLocked and WriteLocked of a range beside the Admins: range and authority; 17 Table 17-1; reset none -/
  ace : List (Nat × Nat) := []
  /-- bytes of the DataStore table, sparse; 128 KiB; 17 Table 17-1; reset zeros -/
  store : List (Nat × Byte) := []
  deriving DecidableEq, Repr

/-- What Security Send carries beside a method (R859): a session with an SP begins or ends, or bytes that are neither. -/
inductive SecMsg where
  | start (locking : Bool)
  | stop
  | other (bytes : List Byte)
  deriving DecidableEq, Repr

/-- What Get names (R859, Table 17-1): a row of the Locking table, the MSID, a count of tries and its limit, an authority's Enabled column, the
authorities that may lock a range, bytes of the DataStore table. -/
inductive OpalGet where
  | range (n : BitVec 4)
  | msid
  | tries (auth : BitVec 5)
  | enabled (auth : BitVec 5)
  | lockers (n : BitVec 4)
  | store (off len : BitVec 18)
  deriving DecidableEq, Repr

/-- What Set names and gives (R859, R860, Table 17-1); columns left out keep their value. -/
inductive OpalSet where
  | place (n : BitVec 4) (nsid : BitVec 32) (start len : BitVec 64)
  | locks (n : BitVec 4) (rle wle rl wl lor : Option Bool)
  | pin (auth : BitVec 5) (value : List Byte)
  | enabled (auth : BitVec 5) (on : Bool)
  | lockers (n : BitVec 4) (users : List (BitVec 5))
  | store (off : BitVec 18) (bytes : List Byte)
  deriving DecidableEq, Repr

/-! ### Peer groups -/

/-- STATE of Table 17-4. -/
inductive ColState where
  | up | down | stale | rebuilding
  deriving DecidableEq, Repr

/-- The code of Table 17-4. -/
def ColState.code : ColState → Nat
  | .up => 0 | .down => 1 | .stale => 2 | .rebuilding => 3

/-- The state of a code of Table 17-4. -/
def ColState.ofCode : Nat → ColState
  | 0 => .up | 1 => .down | 2 => .stale | _ => .rebuilding

/-- An override range of Table 17-11: extents of one column that differ from the default. -/
structure Override where
  col : Nat
  st : ColState
  holder : Nat
  first : Nat
  count : Nat
  /-- namespace at the holder -/
  nsid : Nat
  /-- the holder's extent for `first` -/
  hext : Nat
  /-- rows of `first` already rebuilt while REBUILDING -/
  mark : Nat
  deriving DecidableEq, Repr

/-- What a ZGP frame carries (Table 17-2 TYPE). -/
inductive ZMsg where
  | hello
  /-- ACK of a frame -/
  | ack
  /-- GROUP_DEF: identifier, k, m, C, FRESH, columns -/
  | groupDef (gid : BitVec 32) (k m c : Nat) (fresh : Bool) (cols : List (Nat × Nat))
  /-- GROUP_DEF answered: accepted or refused; also the end of a creation on every member -/
  | groupAns (gid : BitVec 32) (ok : Bool)
  /-- STATE: the sender's override ranges of a group, and the ranges that it has just restored -/
  | state (gid : BitVec 32) (excepts restored : List Override)
  /-- PARITY_UPDATE: group, data column, first LBA, deltas with protection information -/
  | parity (gid : BitVec 32) (col lba : Nat) (delta : List (BitVec 32768 × BitVec 128))
  /-- RECON_READ: group, column, row -/
  | reconRead (gid : BitVec 32) (col row : Nat)
  /-- RECON_DATA: group, column, first LBA, sectors -/
  | reconData (gid : BitVec 32) (col lba : Nat) (secs : List (BitVec 32768 × BitVec 128))
  deriving DecidableEq, Repr

/-- What wrapped bytes on the HDA NOR stand for: the values of records 0x1180 and 0x1181 and of the KEY of record 0x1182 as last written,
with the contents they wrap (R856, Table 17-11; log entry 59). -/
structure Wrapped where
  keys : List Byte
  sps : List Byte
  opal : Opal
  domWrapped : List Byte
  domKey : List Byte
  deriving DecidableEq, Repr

end Sys2Proof.Machine
end

