-- ==== Sys2Proof/Machine/StateSup.lean ====
section
/-! DEFINITION. State of the module's identity, of the HDA NOR (spec/01), of the supervisor (spec/04), of the service
request unit (spec/18), of the event recorder (spec/19) and of the pins (spec/20). -/

namespace Sys2Proof.Machine

/-- What the module is from manufacture (spec/00 R4, spec/18 Table 18-7, spec/17 R870 to R872). -/
structure Ident where
  /-- variant code of Table 0-2; 8 bits; 00 R4 R5; reset U0 (DESIGN CHOICE, log entry 1) -/
  variant : Variant := .u0
  /-- module serial, ASCII; 16 bytes; 18 Table 18-7, 20 R1029; reset IX5U0-0000-00000, unit 0 of lot 0 (DESIGN CHOICE, log entry 1) -/
  serial : List Byte := [0x49, 0x58, 0x35, 0x55, 0x30, 0x2D] ++ List.replicate 4 0x30 ++ [0x2D] ++ List.replicate 5 0x30
  /-- MAC of port A; 48 bits; 18 Table 18-7; reset 0 (DESIGN CHOICE, log entry 1) -/
  macA : BitVec 48 := 0
  /-- MAC of port B; 48 bits; 18 Table 18-7; reset 0 (DESIGN CHOICE, log entry 1) -/
  macB : BitVec 48 := 0
  /-- hash of the factory credential in one-time memory; 32 bytes; 18 R921; reset zeros (DESIGN CHOICE, log entry 1) -/
  factoryHash : List Byte := List.replicate 32 0
  /-- revocation bits of the four signing key slots in one-time memory; 17 R870; reset none revoked (DESIGN CHOICE, log entry 1) -/
  revoked : BitVec 4 := 0
  /-- MIN_SVN in one-time memory; 8 bits; 17 R871 R872; reset 0 (DESIGN CHOICE of a new module, log entry 3) -/
  minSvn : BitVec 8 := 0
  /-- raises of MIN_SVN used, 0 to 64; 17 R872 19 Table 19-8; reset 0 (DESIGN CHOICE of a new module, log entry 3) -/
  svnRaises : Nat := 0
  deriving DecidableEq, Repr

/-- The identity page of the HDA NOR (Table 1-8). -/
structure IdPage where
  /-- MAGIC, at 0x000; 32 bits; 01 Table 1-8 -/
  magic : BitVec 32
  /-- LAYOUT; 16 bits; 01 Table 1-8 -/
  layout : BitVec 16
  /-- the reserved bytes at 0x006; 16 bits; 01 Table 1-8 -/
  resv : BitVec 16
  /-- SERIAL; 24 bytes; 01 Table 1-8 -/
  serial : List Byte
  /-- GEOM_SIG; 64 bits; 01 Table 1-8 -/
  geomSig : BitVec 64
  /-- HEADS0 and HEADS1; 8 bits each; 01 Table 1-8 -/
  heads : Pair (BitVec 8)
  /-- PLATTERS; 8 bits; 01 Table 1-8 -/
  platters : BitVec 8
  /-- ASSIST; 8 bits, 1 laser, 2 spin-torque; 01 Table 1-8 -/
  assist : BitVec 8
  /-- RPM_FULL; 16 bits; 01 Table 1-8 -/
  rpmFull : BitVec 16
  /-- CAP_TB, 0.1 TB; 16 bits; 01 Table 1-8 R50 -/
  capTb : BitVec 16
  /-- HEADMAP; 24 bytes; 01 Table 1-8 -/
  headmap : List Byte
  /-- the reserved bytes from 0x048 on, as far as they are programmed; 4,020 bytes; 01 Table 1-8 -/
  tail : List Byte
  /-- CRC, at 0xFFC; 32 bits; 01 Table 1-8 -/
  crc : BitVec 32
  deriving DecidableEq, Repr

/-- One settings bank as it stands on the HDA NOR (Table 1-5): the fields of its 32-byte header, and its payload as bytes. -/
structure Bank where
  /-- MAGIC, at 0x00; 32 bits; 01 Table 1-5 -/
  magic : BitVec 32
  /-- FORMAT, high byte major, at 0x04; 16 bits; 01 Table 1-5 -/
  format : BitVec 16
  /-- HDR_LEN, at 0x06; 16 bits; 01 Table 1-5 -/
  hdrLen : BitVec 16
  /-- SEQ, at 0x08; 32 bits; 01 Table 1-5 -/
  seq : BitVec 32
  /-- PAYLOAD_LEN, at 0x0C; 32 bits; 01 Table 1-5 -/
  payloadLen : BitVec 32
  /-- GEOM_SIG, at 0x10; 64 bits; 01 Table 1-5 -/
  geomSig : BitVec 64
  /-- the reserved word, at 0x18; 32 bits; 01 Table 1-5 -/
  resv : BitVec 32
  /-- CRC, at 0x1C; 32 bits; 01 Table 1-5 -/
  crc : BitVec 32
  /-- the bytes programmed from bank offset 0x1000 on; up to 16,773,120 bytes; 01 R71 to R74 -/
  payload : List Byte
  deriving DecidableEq, Repr

/-- STATE of a last-shutdown slot (Table 1-9). -/
inductive SlotState where
  | running | clean | lost
  deriving DecidableEq, Repr

/-- A valid last-shutdown slot (Table 1-9); an erased or invalid slot is absent. -/
structure Slot where
  /-- SEQ; 32 bits; 01 Table 1-9 -/
  seq : BitVec 32
  /-- STATE; 8 bits; 01 Table 1-9 -/
  state : SlotState
  /-- MODULE; 16 bytes; 01 Table 1-9 -/
  module : List Byte
  /-- PCYCLE; 32 bits; 01 Table 1-9 -/
  pcycle : BitVec 32
  /-- OPSEC; 40 bits; 01 Table 1-9 -/
  opsec : BitVec 40
  /-- VSEQ; 32 bits; 01 Table 1-9 -/
  vseq : BitVec 32
  deriving DecidableEq, Repr

/-- The HDA as the module sees it: NOR, strap (spec/01). The reset contents are those of an HDA at manufacture
(DESIGN CHOICE, log entry 2). -/
structure Hda where
  /-- identity strap connected to ground inside the HDA; 1 bit; 01 R48 R49; reset true (DESIGN CHOICE, log entry 2) -/
  strapOk : Bool := true
  /-- NOR answers SFDP as Table 1-3 asks; 1 bit; 01 R51 R53; reset true (DESIGN CHOICE, log entry 2) -/
  norOk : Bool := true
  /-- identity page, none when wholly erased; 4 KiB; 01 R84 R85; reset none (DESIGN CHOICE, log entry 2) -/
  page : Option IdPage := none
  /-- settings bank A, none when its header is erased; 16 MiB; 01 Table 1-4; reset none (DESIGN CHOICE, log entry 2) -/
  bankA : Option Bank := none
  /-- settings bank B; 16 MiB; 01 Table 1-4; reset none (DESIGN CHOICE, log entry 2) -/
  bankB : Option Bank := none
  /-- last-shutdown slot 0; 2 KiB; 01 R88; reset erased (DESIGN CHOICE, log entry 2) -/
  slot0 : Option Slot := none
  /-- last-shutdown slot 1; 2 KiB; 01 R88; reset erased (DESIGN CHOICE, log entry 2) -/
  slot1 : Option Slot := none
  /-- size of the NOR in bytes; 64 MiB at least; 01 Table 1-3; reset 64 MiB (DESIGN CHOICE, log entry 2) -/
  norSize : Nat := 0x400_0000
  /-- the reserved remainder from 0x200_2000 on, sparse, erased bytes 0xFF not listed; 01 Table 1-4 R54; reset erased (DESIGN CHOICE, log entry 2) -/
  rest : List (Nat × Byte) := []
  /-- the data surfaces: the information bits of the codeword in each slot, scrambled, by actuator, head, track and slot, sparse; 33,280 bits each; 09 R471 R472 R473 12 R611 R613; reset none written (DESIGN CHOICE, log entry 2) -/
  surface : List (Nat × Option (BitVec 33280)) := []
  /-- the structures of the reserved media area, both copies alike; 12 R617 Table 12-3; reset none (DESIGN CHOICE, log entry 2) -/
  rsv : ZmgMaps := {}
  /-- what the wrapped bytes of its records 0x1180 to 0x1182 stand for, as last written; 17 R856; reset none (DESIGN CHOICE, log entry 59) -/
  wrapped : Option Wrapped := none
  deriving DecidableEq, Repr

/-- What started the clean shutdown that runs (R245). -/
inductive ShutTrigger where
  | pwrDis | setMode | resetGroup | notify
  deriving DecidableEq, Repr

/-- SUP.SHUT.STATE (Table 4-13). -/
inductive ShutState where
  | none | draining | vaulting | unloading | complete | completeVaulted
  deriving DecidableEq, Repr

/-- The code of SUP.SHUT.STATE. -/
def ShutState.code : ShutState → Nat
  | .none => 0 | .draining => 1 | .vaulting => 2 | .unloading => 3 | .complete => 4 | .completeVaulted => 5

/-- One firmware slot (spec/04 R222, spec/17 R869 to R872). -/
structure FwSlot where
  /-- the image's signature verifies under a key not revoked; 04 R222 17 R870 -/
  sigOk : Bool
  /-- security version number; 8 bits; 17 R870 -/
  svn : BitVec 8
  /-- ADVANCE flag; 17 R872 -/
  advance : Bool
  /-- key slot of the signature, 0 to 3; 17 R870 -/
  key : BitVec 2
  /-- FW_REV, ASCII; 8 bytes; 18 Table 18-7 -/
  rev : List Byte
  deriving DecidableEq, Repr, Inhabited

/-- The supervisor's part of block SUP (spec/04_modes_and_bringup.md). -/
structure Sup where
  /-- power-cycle count, kept over life, saturating; 32 bits; 00 R15; reset 0 (DESIGN CHOICE of a new module, log entry 3) -/
  pcycle : BitVec 32 := 0
  /-- operating time in seconds, kept over life, saturating; 40 bits; 00 R22; reset 0 (DESIGN CHOICE of a new module, log entry 3) -/
  opSec : BitVec 40 := 0
  /-- MODE.MODE; 3 bits; 04 Table 4-11; reset 0 -/
  mode : Mode := .off
  /-- MODE.TARGET; 3 bits; 04 Table 4-11; reset 0 -/
  target : Mode := .off
  /-- MODE.TRANS; 1 bit; 04 Table 4-11; reset 0 -/
  trans : Bool := false
  /-- the row of Table 4-2 that caused the transition in progress; 4 bits; 04 R200; reset 0 -/
  transCause : BitVec 8 := 0
  /-- MODE.NVME_PS; 3 bits; 04 Table 4-11; reset 0 -/
  nvmePs : BitVec 3 := 0
  /-- last operational power state the host set, 0 or 1; 3 bits; 04 R208; reset 0 -/
  lastOpPs : BitVec 3 := 0
  /-- MODE.APST_EN; 1 bit; 04 Table 4-11 R201; reset 0 -/
  apstEn : Bool := false
  /-- MODE.DEMAND, spin demand in force; 8 bits; 04 Table 4-11 R212; reset 0 -/
  demand : BitVec 8 := 0
  /-- SAFECAUSE.CODE, and its high byte MODE.SAFE_BLOCK; 16 bits; 04 Table 4-13 R234; reset 0 -/
  safeCause : BitVec 16 := 0
  /-- BOOT.CTRL_READY; 1 bit; 04 Table 4-12 R227; reset 0 -/
  ctrlReady : Bool := false
  /-- BOOT.ACT0_READY, ACT1_READY; 1 bit each; 04 Table 4-12 R228; reset 0 -/
  actReady : Pair Bool := ⟨false, false⟩
  /-- stages of Table 4-7 completed, bit i for stage i + 1; 12 bits; 04 R215; reset 0 -/
  stages : BitVec 12 := 0
  /-- BOOT.FW_SLOT; 2 bits; 04 Table 4-12; reset 0 -/
  fwSlot : BitVec 2 := 0
  /-- BOOT.REPLAYED; 1 bit; 04 Table 4-12; reset 0 -/
  replayed : Bool := false
  /-- BOOT.CAP_RETRY; 1 bit; 04 Table 4-12; reset 0 -/
  capRetry : Bool := false
  /-- BOOTTIME.MEDIA_T, 10 ms; 16 bits; 04 Table 4-13; reset 0 -/
  mediaT : BitVec 16 := 0
  /-- BOOTTIME.CTRL_T, ms; 16 bits; 04 Table 4-13; reset 0 -/
  ctrlT : BitVec 16 := 0
  /-- SHUT.DESTAGED, MiB; 16 bits; 04 Table 4-13; reset 0 -/
  destaged : BitVec 16 := 0
  /-- SHUT.STATE; 3 bits; 04 Table 4-13; reset 0 -/
  shut : ShutState := .none
  /-- trigger of the shutdown that runs; 04 R245; reset none -/
  shutTrigger : Option ShutTrigger := none
  /-- shutdown complete has been reported, and the steps of Table 4-8 after it are still to come; 1 bit; 04 R247 R248; reset 0 -/
  tail : Bool := false
  /-- sectors destaged by the shutdown that runs, from which DESTAGED follows; 04 Table 4-13; reset 0 -/
  shutDirty : Nat := 0
  /-- VSEQ of the image a vaulted shutdown wrote, for slot 1; 32 bits or none; 04 R250; reset none -/
  shutVseq : Option (BitVec 32) := none
  /-- bank in use; none, A or B; 01 R59 R63 18 Table 18-6; reset none -/
  bankInUse : Option Act := none
  /-- bank selection of stage 3 left no record in force although a bank is in use; 01 R62; reset false -/
  noRecords : Bool := false
  /-- the settings records in force; 01 R71; reset none -/
  records : List SRec := []
  /-- the records from which the next commit starts: those of the bank in use, less adaptive records discarded; 01 R63 R66 18 R941; reset none -/
  base : List SRec := []
  /-- stage 7 failed a check on an integrator record; 01 R82; reset false -/
  checksFailed : Bool := false
  /-- record 0x1201 stands failed: the factory arming applies; 19 R951; reset false -/
  armFailed : Bool := false
  /-- S of R90; 32 bits; 01 R90; reset 0 -/
  slotSeq : BitVec 32 := 0
  /-- the last-shutdown record is resolved; 1 bit; 01 R94 R95; reset false -/
  resolved : Bool := false
  /-- slot 0 has been programmed RUNNING for the present cycle; 1 bit; 01 R93 R98; reset false -/
  opened : Bool := false
  /-- the loss recorded on the HDA is another module's and not disposed; 1 bit; 04 R232 01 R92; reset false -/
  foreign : Bool := false
  /-- firmware slots 1 and 2, none when empty; 04 R222; reset: a verified image of security version 0 in both (DESIGN CHOICE, log entry 1) -/
  fw : Pair (Option FwSlot) := .both (some ⟨true, 0, false, 0, List.replicate 8 0⟩)
  /-- slot marked active; slot 1 or 2; 04 R222 R224; reset slot 1 (DESIGN CHOICE, log entry 1) -/
  fwActive : Act := .a0
  /-- revision of the running image, ASCII; 8 bytes; 18 Table 18-7; reset zeros (DESIGN CHOICE, log entry 1) -/
  fwRev : List Byte := List.replicate 8 0
  /-- firmware image being downloaded, bytes received; 17 R871; reset empty -/
  fwBuf : List Byte := []
  /-- a microcode block stayed uncorrectable at stage 8: SAFE after stage 9; 04 R226; reset false -/
  ucodeFail : Bool := false
  /-- SUP 0x0025 reported in this power cycle; 1 bit; 04 R230; reset 0 -/
  holdReported : Bool := false
  /-- an integrator record was committed or an image loaded during the SERVICE stay; 1 bit; 04 R244; reset 0 -/
  serviceDirty : Bool := false
  /-- the supervisor core restarts from its boot ROM at the module reset that follows; 19 Table 19-4 R957; reset 0 -/
  restart : Bool := false
  /-- SET_MODE requests that wait for their target, with the target; 04 R206; reset none -/
  modeReqs : List (Hdr × Mode) := []
  /-- RESET_GROUP request that waits for its reset, with the group bit or 255; 04 R245 03 R182; reset none -/
  resetReqs : List (Hdr × Nat) := []
  /-- mode to bring up after the module reset of R244, or after a clean shutdown to STANDBY that a later SET_MODE redirects; 04 R206 R244; reset none -/
  afterReset : Option Mode := none
  /-- HDA temperature sensors, signed 0.1 °C; 16 bits each; 08 Table 8-11; reset 0 -/
  hdaTemp : Pair (BitVec 16) := ⟨0, 0⟩
  /-- helium pressure, 0.1 kPa; 16 bits; 08 Table 8-11; reset 0 -/
  press : BitVec 16 := 0
  /-- humidity; 16 bits; 08 Table 8-11; reset 0 -/
  humid : BitVec 16 := 0
  /-- sensor fault bits; 4 bits; 08 Table 8-11 R452; reset 0 -/
  sensFault : BitVec 4 := 0
  /-- sensor readings outside the limits of record 0x0002: temperature 0 and 1, pressure, humidity; 4 bits; 08 R453; reset 0 -/
  sensOut : BitVec 4 := 0
  /-- MODTEMP.PFC_HS, signed, 0.1 °C; 16 bits; 20 Table 20-13; reset 0 -/
  modTempPfc : BitVec 16 := 0
  /-- MODTEMP.CORE, signed, 0.1 °C; 16 bits; 20 Table 20-13; reset 0 -/
  modTempCore : BitVec 16 := 0
  deriving DecidableEq, Repr

/-- A reply (Table 18-2): STATUS, DETAIL and the result bytes. -/
structure Reply where
  status : Nat
  detail : Reg
  data : List Byte
  deriving DecidableEq, Repr

/-- A request that is outstanding (R908, R911). -/
structure OutReq where
  /-- the carrier; 18 R908 -/
  who : Transport
  /-- TAG; 32 bits; 18 R905 -/
  tag : Reg
  /-- OPCODE; 16 bits; 18 R905 -/
  opcode : BitVec 16
  /-- NOTIFY; 1 bit; 18 R913 -/
  notify : Bool
  /-- the reply once it is ready; 18 R906 -/
  reply : Option Reply
  /-- operating second at which the reply became ready; 18 R915 -/
  readyAt : BitVec 40
  /-- it carried a payload although its opcode takes none; 18 Table 18-4 step 10 -/
  extra : Bool
  deriving DecidableEq, Repr

/-- An open session (R919, R923). -/
structure Session where
  /-- reference, never 0; 32 bits; 18 R920 -/
  ref : Reg
  /-- authority: 1 MAINT, 2 FACTORY; 18 R919 -/
  level : Nat
  /-- its transport instance; 18 R919 -/
  who : Transport
  /-- operating second of its last request; 18 R923 -/
  lastUse : BitVec 40
  deriving DecidableEq, Repr

/-- A challenge that has been given out (R920, R982). -/
structure Challenge where
  /-- for the transport instance; 18 R920 19 R982 -/
  who : Transport
  /-- for EVR_CLEAR, otherwise for AUTH_OPEN; 19 R982 -/
  forClear : Bool
  /-- authority asked for; 18 R920 -/
  level : Nat
  /-- the 16 bytes; 18 R920 -/
  bytes : List Byte
  /-- operating second of issue, valid for 60 s; 18 R920 -/
  at_ : BitVec 40
  deriving DecidableEq, Repr

/-- A commit in progress (R63, R64, R941). -/
structure Commit where
  /-- the bank being written; 01 R63 -/
  bank : Act
  /-- the image; 18 R941 -/
  image : Bank
  /-- the records of the image; 18 R941 -/
  recs : List SRec
  /-- the stagings it took in; 18 R941 -/
  taken : List (SRec × Bool × Bool)
  /-- the request that asked for it, none for a commit of the module's own (R68); 18 R941 -/
  req : Option Hdr
  /-- FORCE; 18 R941 -/
  force : Bool
  deriving DecidableEq, Repr

/-- The service part of block SUP (spec/18_service_packets_and_registers.md). -/
structure Svc where
  /-- open sessions, at most 8; SVCSTAT.SESSIONS; 18 R923; reset none -/
  sessions : List Session := []
  /-- challenges given out and not yet used; 18 R920 19 R982; reset none -/
  challenges : List Challenge := []
  /-- recent proof failures, carrier and second; 18 R924; reset none -/
  fails : List (Transport × BitVec 40) := []
  /-- lockouts in force, carrier and the second at which it began; SVCSTAT.LOCKOUT; 18 R924; reset none -/
  lockouts : List (Transport × BitVec 40) := []
  /-- outstanding requests, at most 48 hold reserved contexts; SVCSTAT.HELD; 18 R911; reset none -/
  out : List OutReq := []
  /-- the last reply delivered on MCTP or UART; 18 R917 R918; reset none -/
  sent : Option (Transport × Reg × Reply) := none
  /-- acceptance status of the last request refused at steps 1 to 5; 16 bits; 18 R914; reset 0 -/
  accept : Nat := 0
  /-- AUTHFAILCNT; 64 bits and flag; 18 R924; reset 0 -/
  authFail : Counter := .zero
  /-- REPLYDROPCNT; 64 bits and flag; 18 R915; reset 0 -/
  replyDrop : Counter := .zero
  /-- UARTERRCNT; 64 bits and flag; 18 R918; reset 0 -/
  uartErr : Counter := .zero
  /-- the staging area: record, staged DELETE, and whether the module staged it itself; SVCSTAT.STAGED; 18 R937; reset none -/
  staged : List (SRec × Bool × Bool) := []
  /-- the commit that runs; 18 R941 01 R64 R66; reset none -/
  commit : Option Commit := none
  /-- commits asked for while one runs: the request, none for one of the module's own, and FORCE; 01 R66; reset none -/
  commitQueue : List (Option Hdr × Bool) := []
  /-- last result: 0 none, 1 OK, 2 failed; 8 bits; 18 Table 18-6 STATUS; reset 0 -/
  lastCommit : Nat := 0
  /-- operating seconds of the last commit; 18 Table 18-6 STATUS; reset 0 -/
  lastCommitAt : BitVec 40 := 0
  /-- operating seconds of the last adaptive commit; 01 R68; reset 0 -/
  lastAdaptAt : BitVec 40 := 0
  /-- a partly received UART frame: bytes so far; 18 R918; reset none -/
  uartBuf : List Byte := []
  /-- high registers latched by a read of their low registers, by address of the low register; 00 R20; reset none -/
  latch : List (Nat × Reg) := []
  deriving DecidableEq, Repr

/-- One event record (Table 19-9). -/
structure EvRec where
  /-- CODE; 16 bits; 19 Table 19-9 -/
  code : BitVec 16
  /-- SEV; 8 bits; 19 Table 19-9 -/
  sev : Sev
  /-- ACT; 8 bits; 19 Table 19-9 R1041 -/
  act : Byte
  /-- HEAD; 8 bits; 19 Table 19-9 R1041 -/
  head : Byte
  /-- ZONE; 24 bits; 19 Table 19-9 R1041 -/
  zone : BitVec 24
  /-- OPSEC; 40 bits; 19 Table 19-9 -/
  opsec : BitVec 40
  /-- REPEAT; 16 bits; 19 Table 19-9 R16 -/
  rep : BitVec 16
  /-- PCYCLE; 32 bits; 19 Table 19-9 -/
  pcycle : BitVec 32
  /-- SEQ; 32 bits; 19 Table 19-9 R966 -/
  seq : BitVec 32
  /-- PARAM; 8 bytes; 19 Table 19-9 R1040 -/
  param : List Byte
  deriving DecidableEq, Repr

/-- A held record, and what its NOR slot holds (R969, R970). -/
structure EvSlot where
  /-- the record of the working copy; 19 R970 -/
  cur : EvRec
  /-- the NOR slot's number, 0 to 16,383; 19 R969 -/
  slot : Nat
  /-- what the NOR slot holds, none when erased; 19 R970 -/
  nor : Option EvRec
  deriving DecidableEq, Repr

/-- Block EVR (spec/19_faults_spares_and_events.md). -/
structure Evr where
  /-- held records, newest SEQ first, at most 16,384; 19 R969; reset none (DESIGN CHOICE of a new module, log entry 3) -/
  held : List EvSlot := []
  /-- newest SEQ assigned, kept in the control sector; 32 bits; 19 R966; reset 0 -/
  newest : BitVec 32 := 0
  /-- STATUS.POLICY: true for IXD-3 log mode, kept in the control sector; 1 bit; 19 R975; reset 0 (native) -/
  ixd3 : Bool := false
  /-- STATUS.RESTORED; 1 bit; 19 R971; reset 0 -/
  restored : Bool := false
  /-- STATUS.NOR_OK; 1 bit; 19 R972; reset 0 -/
  norOk : Bool := false
  /-- EVR 0x1210 reported in this power cycle; 1 bit; 19 R972; reset 0 -/
  norFailed : Bool := false
  /-- DROPSEL.SEVERITY; 2 bits; 19 Table 19-13; reset 0 -/
  dropSel : BitVec 2 := 0
  /-- the four dropped counts, INFO first, kept with the store; 64 bits and flag each; 19 R976; reset 0 -/
  drop0 : Counter := .zero
  /-- dropped count of NOTICE; 64 bits and flag; 19 R976; reset 0 -/
  drop1 : Counter := .zero
  /-- dropped count of ERROR; 64 bits and flag; 19 R976; reset 0 -/
  drop2 : Counter := .zero
  /-- dropped count of CRITICAL; 64 bits and flag; 19 R976; reset 0 -/
  drop3 : Counter := .zero
  /-- RECCNT; 64 bits and flag; 19 Table 19-12; reset 0 -/
  recCnt : Counter := .zero
  /-- staging sector: sector number and content when valid; 4 KiB; 19 R970 R971; reset none -/
  staging : Option (Nat × List EvSlot) := none
  /-- operating second of the last sector rewrite; 19 R970; reset none -/
  rewriteAt : Option (BitVec 40) := none
  /-- clear count of the control sector; 19 R969; reset 0 -/
  clears : Nat := 0
  /-- erase counts of the recorder sectors, sparse; 19 R969 Table 19-8 item 3; reset none listed (0 each) -/
  erases : List (Nat × Nat) := []
  /-- wear items whose 90 % notice has been reported, item and instance; 19 R964; reset none -/
  wearNoted : List (Nat × Nat) := []
  /-- arming in force where it differs from the committed arming; 19 R952; reset none -/
  arming : List (Nat × Nat) := []
  deriving DecidableEq, Repr

/-- Every EVENTS register, one word each: bits are set by reports and cleared by writing 1 (W1C). -/
structure Events where
  /-- SUP.SVCEVENTS; 4 bits W1C; 18 Table 18-13; reset 0 -/
  svc : Reg := 0
  /-- PWR.EVENTS; 10 bits W1C; 02 Table 2-8; reset 0 -/
  pwr : Reg := 0
  /-- CLK.EVENTS; 6 bits W1C; 03 Table 3-8; reset 0 -/
  clk : Reg := 0
  /-- SPN.EVENTS; 9 bits W1C; 05 Table 5-8; reset 0 -/
  spn : Reg := 0
  /-- SRVn reference events; 11 bits W1C each; 06 Table 6-8; reset 0 -/
  srvRef : Pair Reg := ⟨0, 0⟩
  /-- SRVn control events; 11 bits W1C each; 07 Table 7-12; reset 0 -/
  srvCtl : Pair Reg := ⟨0, 0⟩
  /-- HIFn.EVENTS; 9 bits W1C each; 08 Table 8-9; reset 0 -/
  hif : Pair Reg := ⟨0, 0⟩
  /-- CHn.EVENTS; 9 bits W1C each; 09 Table 9-13; reset 0 -/
  ch : Pair Reg := ⟨0, 0⟩
  /-- CFXn.EVENTS; 6 bits W1C each; 11 Table 11-15; reset 0 -/
  cfx : Pair Reg := ⟨0, 0⟩
  /-- SCH.EVENTS; 5 bits W1C; 13 Table 13-7; reset 0 -/
  sch : Reg := 0
  /-- ZMG.EVENTS; 13 bits W1C; 12 Table 12-11; reset 0 -/
  zmg : Reg := 0
  /-- BCM.EVENTS; 10 bits W1C; 14 Table 14-10; reset 0 -/
  bcm : Reg := 0
  /-- VLT.EVENTS; 10 bits W1C; 15 Table 15-9; reset 0 -/
  vlt : Reg := 0
  /-- FE.EVENTS; 8 bits W1C; 16 Table 16-14; reset 0 -/
  fe : Reg := 0
  /-- DSV.EVENTS; 10 bits W1C; 17 Table 17-9; reset 0 -/
  dsv : Reg := 0
  /-- EVR.EVENTS; 7 bits W1C; 19 Table 19-13; reset 0 -/
  evr : Reg := 0
  /-- CAL.EVENTS; 5 bits W1C; 10 Table 10-11; reset 0 -/
  cal : Reg := 0
  /-- PRT.EVENTSA, PRT.EVENTSB; 7 bits W1C each; 16 Table 16-15; reset 0 -/
  prt : Pair Reg := ⟨0, 0⟩
  deriving DecidableEq, Repr

/-- The management port's mode (spec/20 R999, R1000). -/
inductive MgtMode where
  | smbus
  | i3c (addr : BitVec 7)
  deriving DecidableEq, Repr

/-- The module's signal pins (spec/20_electrical_and_mechanical.md). -/
structure Pins where
  /-- PERST_A_N, PERST_B_N asserted; 1 bit each; 16 R844; reset asserted is not stated: deasserted (DESIGN CHOICE, log entry 12) -/
  perst : Pair Bool := ⟨false, false⟩
  /-- PWR_DIS asserted; 1 bit; 04 R245 20 R997; reset deasserted (DESIGN CHOICE, log entry 12) -/
  pwrDis : Bool := false
  /-- MGT_ALERT_N driven low; 1 bit; 20 R1001; reset released -/
  mgtAlert : Bool := false
  /-- an in-band interrupt has been raised in I3C mode; 1 bit; 20 R1002; reset 0 -/
  ibi : Bool := false
  /-- ACT_LED_N low; 1 bit; 20 R1004; reset high -/
  actLed : Bool := false
  /-- bulk indicator lit; 1 bit; 20 R1019; reset dark -/
  bulkInd : Bool := false
  /-- management port mode with its I3C dynamic address; 20 R999 R1000; reset SMBus -/
  mgt : MgtMode := .smbus
  /-- J1 preamp supplies on, per actuator; 1 bit each; 20 R1006; reset off -/
  preampOn : Pair Bool := ⟨false, false⟩
  deriving DecidableEq, Repr

/-- Life values kept in the module NOR (spec/02 R1030). -/
structure ModNor where
  /-- kept power-cycle count; 32 bits; 02 R1030; reset 0 -/
  pcycle : BitVec 32 := 0
  /-- kept operating time; 40 bits; 02 R1030; reset 0 -/
  opSec : BitVec 40 := 0
  /-- kept ENERGY; 64 bits and flag; 02 R1030; reset 0 -/
  energy : Counter := .zero
  /-- kept LOSSCNT; 64 bits and flag; 02 R1030; reset 0 -/
  lossCnt : Counter := .zero
  /-- kept DROPCNT; 64 bits and flag; 02 R1030; reset 0 -/
  dropCnt : Counter := .zero
  deriving DecidableEq, Repr

end Sys2Proof.Machine
end

