-- ==== Sys2Proof/Syntax.lean ====
section
/-! DEFINITION. The commands of the machine: one constructor for each row of spec/opcode_table.json, with the operands
that the rule of the row asks for. A command that stands for an event carries what was measured or found at the event. -/

namespace Sys2Proof

open Machine

/-- A command to the module, or an event that reaches it (spec/opcode_table.json). -/
inductive Instr where
  /-- POWER_ON_RESET (R177): First supply to the always-on domain resets every group and starts the power-up sequence. -/
  | powerOnReset (hda : Option Hda)
  /-- INPUT_KIND_CLASSIFY (R101): The module classifies the input as AC or DC within 100 ms of the input becoming present and reports it in INPUT_KIND. -/
  | inputKindClassify (dc : Bool) (vinPk freq : BitVec 16)
  /-- PFC_START (R102): The input reaches the start threshold and the PFC stage starts. -/
  | pfcStart (vinPk : BitVec 16)
  /-- INPUT_OUT_OF_RANGE (R103): The input leaves the operating range; the module keeps running and reports PWR 0x0102 once per excursion. -/
  | inputOutOfRange (vinPk freq : BitVec 16)
  /-- INPUT_OVERVOLTAGE (R104): The rectified input peak exceeds 400 V; the PFC stops switching and PWR 0x0103 is reported. -/
  | inputOvervoltage (vinPk : BitVec 16)
  /-- PRECHARGE_BYPASS (R108): VBULK comes within 20 V of the rectified peak and the inrush limiter bypasses the precharge resistance. -/
  | prechargeBypass (vbulk : BitVec 16)
  /-- LLC_START (R112): VBULK reaches 390 V, the LLC stage starts and power-loss detection is armed. -/
  | llcStart (vbulk vmot : BitVec 16)
  /-- INPUT_ABSENT_TIMEOUT (R110): The rectified input has stayed below 70 V for 12 ms and the input counts as absent. -/
  | inputAbsentTimeout (vinPk vbulk : BitVec 16)
  /-- VBULK_BELOW_330 (R111): The bulk comparator sees VBULK fall below 330 V. -/
  | vbulkBelow330 (vbulk : BitVec 16)
  /-- INPUT_DROPOUT (R116): An input interruption ends before 12 ms; DROPCNT counts it and PWR 0x0105 is reported. -/
  | inputDropout (dur : BitVec 16)
  /-- VBULK_BELOW_180 (R775): VBULK reaches 180 V, the LLC stops and any image without a programmed header stays invalid. -/
  | vbulkBelow180 (vbulk : BitVec 16)
  /-- POWER_LOSS_SEQUENCE_END (R773): The image header has been read back and both retracts are complete; the module resets or disables the LLC. -/
  | powerLossSequenceEnd
  /-- BULKCAP_START (R126): After VBULK has been regulated for 50 ms the PFC is paused and the bulk discharge charge is integrated. -/
  | bulkcapStart (vbulk : BitVec 16)
  /-- BULKCAP_COMPLETE (R131): VBULK reaches 370 V; the PFC resumes, capacitance and usable energy are computed and MEAS_VALID set. -/
  | bulkcapComplete (charge : BitVec 16)
  /-- BULKCAP_ABANDON (R129): A measurement is abandoned on power loss, a load change over 2 W, or exceeding 400 ms, and is retried. -/
  | bulkcapAbandon (why : AbandonReason)
  /-- BRAKE_CHOPPER_GATE (R132): VMOT rises to 27.0 V and the brake resistor is switched across it. -/
  | brakeChopperGate (vmot : BitVec 16) (us : BitVec 20)
  /-- BRAKE_CHOPPER_RELEASE (R132): VMOT falls to 26.0 V and the brake resistor is released. -/
  | brakeChopperRelease (vmot : BitVec 16) (us : BitVec 20)
  /-- CHOPPER_FAULT (R141): The gated chopper fails its VMOT or current test; PWR 0x0120 is reported and CHOP_FAULT latched. -/
  | chopperFault (vmot sense : BitVec 16) (us : BitVec 20)
  /-- CHOPPER_WITHHOLD (R139): The resistor thermal model reaches 30 J; the chopper is withheld and short-braking ordered. -/
  | chopperWithhold (vmot : BitVec 16) (us : BitVec 20)
  /-- CHOPPER_UNWITHHOLD (R139): The thermal model falls below 15 J and the chopper is available again. -/
  | chopperUnwithhold (vmot : BitVec 16) (us : BitVec 20)
  /-- VMOT_OVP_TRIP (R133): VMOT reaches 30.0 V; bridge legs float, the VMOT output switch opens and PWR 0x0121 is reported. -/
  | vmotOvpTrip (vmot : BitVec 16) (us : BitVec 20)
  /-- VMOT_OVP_RELEASE (R136): VMOT falls to 25.0 V; the output switch closes and the bridge returns to the spindle unit. -/
  | vmotOvpRelease (vmot : BitVec 16) (us : BitVec 20)
  /-- FAULT_CLR (R147): A write of 1 to PWR.CHOPCTL.FAULT_CLR in SERVICE re-arms the chopper after a fault. -/
  | faultClr
  /-- RAIL_FAULT (R152): A rail stays outside tolerance for more than 1 ms and PWR 0x0130 is reported. -/
  | railFault (num : Byte) (rail : Rail) (volt : BitVec 16)
  /-- RAIL_RECOVERY_RESET (R152): A faulted point-of-load rail returns to tolerance and the group it supplies is reset. -/
  | railRecoveryReset (rail : Rail)
  /-- LIFE_COUNTER_PERSIST (R1030): The life counters are written to the module NOR at least once per hour of operating time. -/
  | lifeCounterPersist
  /-- ROOT_PLL_LOSS_OF_LOCK (R160): The root PLL loses lock and enters holdover; CLK 0x0201 is reported and both channel clocks count as unlocked. -/
  | rootPllLossOfLock
  /-- ROOT_PLL_RELOCK (R160): The root PLL relocks after holdover and CLK 0x0205 is reported with the holdover duration. -/
  | rootPllRelock (us : BitVec 32)
  /-- CRYSTAL_STOP (R162): The crystal shows no edge for 1 µs; CLK_AON switches to the internal oscillator and CLK 0x0202 is reported. -/
  | crystalStop
  /-- CRYSTAL_RETURN (R163): The crystal returns and CLK_AON switches back at a clock edge. -/
  | crystalReturn
  /-- CH_PLL_LOSS_OF_LOCK (R161): CLK_CHn loses lock, raising write-unsafe on its actuator and reporting CLK 0x0203 or 0x0204. -/
  | chPllLossOfLock (a : Act)
  /-- CH_PLL_RELOCK (R163): CLK_CHn locks again and its write-unsafe is released. -/
  | chPllRelock (a : Act)
  /-- FREQ_KHZ_WRITE (R158): A write to CLK.CHnFREQ.FREQ_KHZ starts settling to a new frequency, replaces a pending one, or is ignored out of range. -/
  | freqKhzWrite (a : Act) (khz : BitVec 22)
  /-- FREQ_SETTLED (R157): The synthesizer has settled and switches to the new frequency at a clock edge. -/
  | freqSettled (a : Act)
  /-- CROSSING_TRANSFER (R171): One request-acknowledge transfer across a clock crossing delivers a bundle or an event-count delta. -/
  | crossingTransfer (num : BitVec 16) (events : Byte) (data : BitVec 64) (acked : Bool)
  /-- ISLAND_TORN (R195): An island's owner reset is asserted without its own; it latches TORN and reports CLK 0x0210. -/
  | islandTorn (num : BitVec 16)
  /-- GROUP_RESET_RELEASE (R192): A group and its islands leave reset together and restart their Gray counts at 0. -/
  | groupResetRelease (g : Group) (speed : BitVec 24)
  /-- UNCORRECTABLE_ERROR (R956): A read or scrub finds an uncorrectable error and the owning group is reset as Table 19-4 states. -/
  | uncorrectableError (site : UeSite)
  /-- IDENTITY_CHECK (R87): Stage 1 senses the identity strap, reads SFDP and checks the identity page. -/
  | identityCheck
  /-- FIRMWARE_SLOT_SELECT (R222): Stage 2 verifies the active firmware slot and falls back to the other slot or the recovery image. -/
  | firmwareSlotSelect
  /-- SETTINGS_BANK_SELECT (R59): Stage 3 reads the last-shutdown slots and bank headers and selects the settings bank. -/
  | settingsBankSelect
  /-- DRAM_TRAINING_COMPLETE (R757): Stage 4 finishes DRAM training and check-bit initialisation and applies the retirement list. -/
  | dramTrainingComplete
  /-- PAYLOAD_READ_COMPLETE (R80): The settings payload has been read into the DRAM table region. -/
  | payloadReadComplete
  /-- MICROCODE_LOAD (R225): Stage 8 moves each Cafax image into its store in checked blocks, re-reading bad blocks from the HDA NOR. -/
  | microcodeLoad (arrivals : List (Act × BitVec 16 × List (List Byte)))
  /-- VAULT_REPLAY (R800): Stage 9 checks kept images and replays the chosen image into the cache. -/
  | vaultReplay (dir : Bool) (n : BitVec 17)
  /-- ENGINE_BOOT (R216): The active front-end engine is powered once BULKCAP has ended and boots. -/
  | engineBoot
  /-- SPIN_UP_START (R216): Spin-up starts after stage 7 has passed and BULKCAP has completed or failed. -/
  | spinUpStart
  /-- CONTROLLER_READY (R227): The active engine accepts admin commands and MOD_READY is asserted. -/
  | controllerReady (t : BitVec 16)
  /-- MEDIA_READY (R228): An actuator's heads are loaded in FOLLOW with forced calibrations done, releasing held commands. -/
  | mediaReady (a : Act) (t : BitVec 16)
  /-- LAST_SHUTDOWN_RESOLVE (R93): Once the record is resolved, the record sector is erased and slot 0 programmed RUNNING before heads load. -/
  | lastShutdownResolve
  /-- MEDIA_HOLD_EXPIRY (R230): A held media command reaches MEDIA_HOLD and completes with Namespace Not Ready. -/
  | mediaHoldExpiry (now : BitVec 48)
  /-- ACTIVE_IDLE_TIMEOUT (R200): No media command has been outstanding for 10 ms and the module moves from ACTIVE to IDLE_FLY. -/
  | activeIdleTimeout
  /-- SET_FEATURES_POWER_MANAGEMENT (R210): NVMe Set Features Power Management selects a power state and its mode. -/
  | setFeaturesPowerManagement (c : NvCmd) (ps : BitVec 5)
  /-- APST_TRANSITION (R201): An autonomous power state transition enabled by the host takes effect. -/
  | apstTransition (ps : BitVec 3)
  /-- PWR_DIS_ASSERT (R245): PWR_DIS has been asserted for 1 ms and a clean shutdown to STANDBY starts. -/
  | pwrDisAssert
  /-- PWR_DIS_RELEASE (R253): PWR_DIS is released and the module powers up from the stage of LLC start. -/
  | pwrDisRelease
  /-- SHUTDOWN_DESTAGE_DONE (R247): Held commands and dirty lines are complete, and the shutdown saves RRO tables and unloads heads. -/
  | shutdownDestageDone
  /-- SHUT_LIMIT_EXPIRY (R250): Dirty lines remain at SHUT_LIMIT, so they are written as a vault image and slot 1 records LOST. -/
  | shutLimitExpiry
  /-- SHUTDOWN_COMPLETE (R249): Slot 1 is programmed, shutdown complete is reported, MOD_READY deasserts and the target mode follows. -/
  | shutdownComplete (ms : BitVec 32)
  /-- SHUTDOWN_NOTIFICATION (R246): A controller receives a shutdown notification and completes its own shutdown. -/
  | shutdownNotification (p : Act) (cntlid : BitVec 16)
  /-- CONTROLLER_ENABLE (R248): A controller is enabled after a notification shutdown; CTRL_READY sets and slot 0 is reopened. -/
  | controllerEnable (p : Act) (cntlid : BitVec 16) (cfg : HostCfg)
  /-- CONTROLLER_DISABLE (R845): CC.EN cleared ends the controller's commands without completion and clears CSTS.RDY. -/
  | controllerDisable (p : Act) (cntlid : BitVec 16)
  /-- CATCH_LISTEN_END (R270): The 10 ms of listening in CATCH ends, taking up the rotor, braking it or moving to ALIGN. -/
  | catchListenEnd (speed : BitVec 24)
  /-- ALIGN_END (R270): ALIGN_T has elapsed and the unit begins the open-loop ramp. -/
  | alignEnd
  /-- RAMP_HANDOVER (R270): Twelve valid zero-crossings at or above HANDOVER_RPM hand the rotor to closed-loop ACCEL. -/
  | rampHandover
  /-- START_ATTEMPT_FAIL (R271): Handover has not occurred 500 ms after RAMP_T; the unit stops, reports SPN 0x0310 and halts after three failures. -/
  | startAttemptFail
  /-- START_RETRY (R271): One second after a failed attempt the next attempt starts at CATCH. -/
  | startRetry
  /-- SPIN_UP_TIMEOUT (R273): The target speed is not reached within 15 s; the unit coasts, sets HALTED and reports SPN 0x0312. -/
  | spinUpTimeout
  /-- PWM_PERIOD (R258): Each 48 kHz PWM period updates the duty and the back-EMF observer. -/
  | pwmPeriod (iph : BitVec 16)
  /-- ZERO_CROSSING (R264): A zero-crossing of the floating phase corrects the observer angle and feeds the implausibility tests. -/
  | zeroCrossing (phase : MotorPhase) (period : BitVec 24) (pos : BitVec 16) (err : Int)
  /-- COMMUTATION (R264): The observer angle reaches the step boundary and the bridge commutates to the next step. -/
  | commutation (ms : BitVec 32)
  /-- FLY_OK_LOSS (R280): FLY_OK falls to 0 with heads loaded; both actuators retract and SPN 0x0321 is reported. -/
  | flyOkLoss (speed : BitVec 24)
  /-- ROTOR_LOSS (R294): An implausibility test fails; legs float, SPN 0x0330 is reported, write-unsafe raised and listening begins. -/
  | rotorLoss
  /-- PHASE_OVERCURRENT (R262): A phase current reaches 3.5 A; the bridge floats and the event is handled as a loss or a failed attempt. -/
  | phaseOvercurrent
  /-- RELOCK (R296): Twelve consistent zero-crossings re-lock the rotor, resuming drive or retracting heads by FLY_OK. -/
  | relock (us : BitVec 32)
  /-- LISTEN_WINDOW_EXPIRY (R296): No re-lock within 50 ms; heads retract, SPN 0x0332 is reported and the armed response decides. -/
  | listenWindowExpiry (speed : BitVec 24)
  /-- STANDSTILL (R291): 200 ms without a zero-crossing under short-braking or coast puts the unit in STOPPED. -/
  | standstill
  /-- ONCE_AROUND_MARK (R301): A reported once-around mark anchors the index and records the cycle count and angle. -/
  | onceAroundMark (a : Act) (diff : BitVec 16)
  /-- INDEX_UNANCHOR_TIMEOUT (R303): Both actuators have been parked for more than 1 s and INDEX_ANCHORED clears. -/
  | indexUnanchorTimeout
  /-- SPN_SET_DEMAND (R304): In SERVICE the request sets the spin demand, clears HALTED, or completes BUSY with heads loaded. -/
  | spnSetDemand (h : Hdr)
  /-- SPN_GET_STATE (R928): Returns the spindle status and measurement registers. -/
  | spnGetState (h : Hdr)
  /-- SPN_LOAD_CURVE (R305): In SERVICE under MAINT a checked speed curve is put in force. -/
  | spnLoadCurve (h : Hdr) (value : List Byte)
  /-- DEMOD_WINDOW (R315): Each 250 ns window measures the eight tones, combines the lane sets and updates REFPOS. -/
  | demodWindow (a : Act) (magA magB : List Nat) (angle : BitVec 16) (settled : Bool)
  /-- INDEX_FRAME (R319): A valid index frame sets INDEX_VALID and corrects a disagreeing period index. -/
  | indexFrame (a : Act) (set : LaneSet) (lane : BitVec 2) (symbols : BitVec 40) (amp : BitVec 16)
  /-- ACQ_LIMIT_EXPIRY (R321): Acquisition has not happened within ACQ_LIMIT and SRVn event 0x30 is reported. -/
  | acqLimitExpiry (a : Act)
  /-- MARK_MISSING (R323): Frame 0 has not been seen for 2 revolutions; event 0x43 is reported and the other actuator's marks anchor. -/
  | markMissing (a : Act)
  /-- ALIGNMENT_FIELD (R333): The channel's field measurement yields the alignment error e for the servo unit. -/
  | alignmentField (a : Act) (head : BitVec 4) (fld : BitVec 7) (found : Bool) (code : BitVec 12) (q0 q1 : Int)
  /-- CURRENT_LOOP_SAMPLE (R346): The VCM current is sampled and the current loop computes the driver command. -/
  | currentLoopSample (a : Act) (imeas : Int) (limited : Bool)
  /-- POSITION_CYCLE (R345): Each 1 µs cycle takes the position sample, computes PES and writes the current set-point. -/
  | positionCycle (a : Act) (phase : BitVec 8) (acc0 acc1 : Int) (angle : BitVec 16) (rroBad : BitVec 12)
  /-- BANK_SELECT (R364): A LOOPCTL bank selection takes effect at the next sample boundary with a preset. -/
  | bankSelect (a : Act) (l : Loop)
  /-- SEEK_TIMEOUT (R372): SETTLE is not reached within SEEK_TMO; seek failure is signalled and the nearest track becomes the target. -/
  | seekTimeout (a : Act)
  /-- SETTLE_TIMEOUT (R373): FOLLOW is not reached within SETTLE_TMO and event 0x52 is reported once. -/
  | settleTimeout (a : Act)
  /-- LOAD_ATTEMPT_FAIL (R377): A load attempt fails; the unit unloads and retries, reporting event 0x50 after the last. -/
  | loadAttemptFail (a : Act) (reason : BitVec 8)
  /-- UNLOAD_COMPLETE (R378): The back-EMF shows the heads at rest on the ramp and the unit enters OPEN. -/
  | unloadComplete (a : Act)
  /-- HOLD_END (R380): HOLD ends at request end, HOLD_TMAX or window exit with a preset transfer to FOLLOW. -/
  | holdEnd (a : Act) (why : BitVec 8)
  /-- RETRACT_COMPLETE (R367): RET_TIME has elapsed and the unit enters OPEN. -/
  | retractComplete (a : Act)
  /-- RELOAD_AFTER_RETRACT (R401): After a shock or speed retract the heads load again once FLY_OK and 100 ms without shock hold. -/
  | reloadAfterRetract (a : Act)
  /-- SHOCK_RET (R400): The shock sensor exceeds SHOCK_RET and a retract starts within 10 µs. -/
  | shockRet (a : Act) (peak : BitVec 16)
  /-- SHOCK_WI (R402): The shock sensor exceeds SHOCK_WI and writing is inhibited within 2 µs. -/
  | shockWi (a : Act) (peak : BitVec 16)
  /-- SHOCK_HOLD_EXPIRY (R402): SHOCK_HOLD after the reading falls ends the shock inhibit once ON_TRACK_W holds. -/
  | shockHoldExpiry (a : Act)
  /-- RROCTL_SAVE (R392): A write of SAVE to SRVn.RROCTL saves the actuator's tables, ignored outside FOLLOW. -/
  | rroctlSave (a : Act)
  /-- RROCTL_CLEAR (R388): A write of CLEAR to SRVn.RROCTL zeroes the selected head's table. -/
  | rroctlClear (a : Act)
  /-- TCLR (R32): A write of 1 to SRVn.TIMING.TCLR clears SP_MAX. -/
  | tclr (a : Act)
  /-- SRV_GET_STATE (R407): Returns the servo state, PES, currents, correction and reference status. -/
  | srvGetState (h : Hdr)
  /-- SRV_LOAD_BANK (R407): Writes the 64 words of one coefficient bank with the actuator in OPEN. -/
  | srvLoadBank (h : Hdr) (payload : List Byte)
  /-- SRV_SELECT_BANK (R407): Selects a coefficient bank under R364; the reply follows the switch. -/
  | srvSelectBank (h : Hdr)
  /-- SRV_OPEN_LOOP (R407): In SERVICE unloads the actuator; the reply follows entry to OPEN. -/
  | srvOpenLoop (h : Hdr)
  /-- SRV_CLOSE_LOOP (R407): In SERVICE loads the actuator to FOLLOW on the given head and track. -/
  | srvCloseLoop (h : Hdr)
  /-- SRV_RRO_CONTROL (R407): Freezes, learns, clears, saves or sets parameters of the repetitive controller. -/
  | srvRroControl (h : Hdr)
  /-- SRV_SET_CURRENT (R407): Enters HOLD with a given current, window and duration; replies with the end reason. -/
  | srvSetCurrent (h : Hdr)
  /-- HEAD_BUS_FRAME (R413): One frame is sent to the preamp and its ACK taken; accepted write words take effect together. -/
  | headBusFrame (a : Act) (f : Frame) (acks : List Ack)
  /-- TELEMETRY_POLL (R418): Every POLL_MS the unit reads preamp registers 0x03–0x06. -/
  | telemetryPoll (a : Act) (status : BitVec 8) (temp vmeas : BitVec 16) (imeas : BitVec 10) (abandoned : Bool) (acks : List Ack)
  /-- HBCTL_GO (R419): A GO written to HIFn.HBCTL in SERVICE sends one direct single-word frame. -/
  | hbctlGo (a : Act) (acks : List Ack)
  /-- HEATER_READY (R429): HTR_SETTLE after a heater change HEATER_READY sets. -/
  | heaterReady (a : Act)
  /-- WUS_N_ASSERT (R438): WUS_N falls; the unit reads and clears preamp STATUS and reports event 0x20. -/
  | wusNAssert (a : Act) (status : BitVec 8)
  /-- ASSIST_OT_END (R442): TEMP has stayed below OT_LIMIT − OT_HYST for 100 ms and assist is restored. -/
  | assistOtEnd (a : Act) (temp : BitVec 16)
  /-- ASTFAULT_CLEAR (R444): A write of 1 to an ASTFAULT bit clears the latch. -/
  | astfaultClear (a : Act) (mask : BitVec 12)
  /-- SENSOR_SAMPLE (R450): At 10 Hz the supervisor samples the HDA sensors. -/
  | sensorSample (v0 v1 vp vh pfc core : BitVec 16)
  /-- SYNC_DECISION (R483): The pennant and burgee windows complete and the channel frames the sector. -/
  | syncDecision (a : Act) (pn bg : List (Int × Nat))
  /-- SECTOR_RESULT (R487): The decoder delivers a sector's result in sector order. -/
  | sectorResult (a : Act) (g : SecSignal)
  /-- CAPTURE_TRIGGER (R507): A pending capture's trigger occurs and both sample buffers are copied. -/
  | captureTrigger (a : Act) (bitPos : Reg) (samples : List Byte)
  /-- CH_GET_METRICS (R506): Returns the channel counters and per-region metrics. -/
  | chGetMetrics (h : Hdr)
  /-- CH_CAPTURE (R507): Arms a capture of both readers' sample buffers at a trigger. -/
  | chCapture (h : Hdr)
  /-- CAL_TEMPERATURE_CHECK (R514): Once per second the mean temperature is compared with each calibration baseline. -/
  | calTemperatureCheck (hda0 hda1 die0 die1 : BitVec 16)
  /-- CAL_SLICE_START (R525): A slice starts after the media queue has been empty for IDLE_MS, or after a preemption gap. -/
  | calSliceStart (a : Act)
  /-- CAL_DEFER_EXPIRY (R526): A due kind has not started within DEFER_S; host traffic is preempted and CAL 0x1323 reported. -/
  | calDeferExpiry (a : Act)
  /-- CAL_GAP_EXPIRY (R526): GAP_MS of host service ends and the next preempting slice starts. -/
  | calGapExpiry (a : Act)
  /-- CAL_STEP (R531): A tap step's measurement completes and the run judges better, worse, reversal or stop. -/
  | calStep (a : Act) (us : Nat) (x : CalMeas) (temp : BitVec 16)
  /-- CAL_RUN (R549): Makes named calibration runs due and queues them. -/
  | calRun (h : Hdr)
  /-- CAL_STATUS (R549): Returns due, stale and run state and the calibration baselines. -/
  | calStatus (h : Hdr)
  /-- CAL_SET_TRIGGER (R549): Sets a kind's threshold until the next module reset. -/
  | calSetTrigger (h : Hdr)
  /-- OPERATION_DISPATCH (R558): A halted sequencer takes the mailbox operation and starts at its dispatch entry. -/
  | operationDispatch (a : Act) (ticks : BitVec 24)
  /-- NOP (R568): Occupies CL + 1 ticks with no action. -/
  | cfxNop (a : Act)
  /-- WAIT (R555): Stalls for CL + 1 + IMM22 ticks. -/
  | cfxWait (a : Act)
  /-- WAITEV (R1037): Waits for a flag level, an event occurrence or a tick position. -/
  | cfxWaitev (a : Act)
  /-- JMP (R568): Jumps to a target. -/
  | cfxJmp (a : Act)
  /-- JCC (R568): Jumps when the selected flag equals SENSE. -/
  | cfxJcc (a : Act)
  /-- CALL (R568): Pushes the return address and jumps. -/
  | cfxCall (a : Act)
  /-- RET (R568): Pops the return stack and jumps. -/
  | cfxRet (a : Act)
  /-- DECJNZ (R568): Decrements a count register and jumps when not zero. -/
  | cfxDecjnz (a : Act)
  /-- TRAP (R585): Ends the operation with a microcode trap code. -/
  | cfxTrap (a : Act)
  /-- HALT (R583): Ends the operation, lowering gates, recording OPSTAT and halting. -/
  | cfxHalt (a : Act)
  /-- IRQ (R568): Reports CFXn event 0x21 and sets STATUS.IRQ. -/
  | cfxIrq (a : Act)
  /-- LOADC (R559): Loads a count register from an immediate or an operation parameter. -/
  | cfxLoadc (a : Act)
  /-- ADDC (R568): Adds to or subtracts from a count register and sets Z and LT. -/
  | cfxAddc (a : Act)
  /-- CMPC (R568): Compares a count register and sets Z and LT. -/
  | cfxCmpc (a : Act)
  /-- SETF (R568): Sets software flags under a mask. -/
  | cfxSetf (a : Act)
  /-- GATE (R579): Opens or closes the read, write, sync, assist and boost gates. -/
  | cfxGate (a : Act)
  /-- HEAD (R425): Selects a head and region and stalls until the selection completes. -/
  | cfxHead (a : Act) (acks1 acks2 : List Ack)
  /-- REGION (R430): Selects a region for the selected head, setting the channel rate and LEADTICKS. -/
  | cfxRegion (a : Act) (acks : List Ack)
  /-- ONTRACK (R571): Requests a seek and waits for on-track or seek failure. -/
  | cfxOntrack (a : Act)
  /-- SYNC (R572): Sets the ladder step for following sectors. -/
  | cfxSync (a : Act)
  /-- XFER (R574): Passes the latest result's sector to or from the cache and updates FAILED. -/
  | cfxXfer (a : Act)
  /-- DECRES (R573): Takes the next sector result into a count register. -/
  | cfxDecres (a : Act)
  /-- FETCH (R575): Loads the next or first descriptor of a scan and starts its payload move. -/
  | cfxFetch (a : Act)
  /-- SKIPDEF (R568): Skips a defect descriptor with a FETCH NEXT and a jump. -/
  | cfxSkipdef (a : Act)
  /-- ALIGN (R580): Waits for the next field slot and sets AFOUND. -/
  | cfxAlign (a : Act)
  /-- PREHEAT (R581): Raises AG and waits for LEADTICKS and HEATER_READY. -/
  | cfxPreheat (a : Act)
  /-- MARK (R568): Records a code and TPOS in CFXn.MARK. -/
  | cfxMark (a : Act)
  /-- STAT (R582): Posts a status code and value to the scheduler. -/
  | cfxStat (a : Act)
  /-- STALL_END (R555): A stalling word's end condition holds and the next word starts. -/
  | stallEnd (a : Act) (ticks : BitVec 24) (found : Option (BitVec 7 × BitVec 24 × BitVec 24))
  /-- WAITEV_TIMEOUT (R569): C7 reaches zero before the event; TMO sets and the word jumps. -/
  | waitevTimeout (a : Act)
  /-- TPOS_ANCHOR (R562): A found field sets TPOS to its field base and sets ANCHORED. -/
  | tposAnchor (a : Act) (fieldNo : BitVec 7) (ticks : BitVec 24)
  /-- GATE_COUNT_EXPIRY (R578): COUNT ticks after a GATE the non-sector gates take the complement level. -/
  | gateCountExpiry (a : Act)
  /-- SECTOR_GATE_CLOSE (R577): A sector gate closes by itself at the end of the postamble. -/
  | sectorGateClose (a : Act) (ticks : BitVec 24)
  /-- ABORT_REQUEST (R586): ABORT sets; stalls end, no sector gate opens and control passes to STOP_RUN. -/
  | abortRequest (a : Act)
  /-- OP_TMO_EXPIRY (R589): An operation running OP_TMO ms raises trap 0x08. -/
  | opTmoExpiry (a : Act)
  /-- STORE_SCRUB (R592): The scrubber reads and corrects one control-store row. -/
  | storeScrub (a : Act) (site : ScrubSite) (find : EccFind) (lap : BitVec 16)
  /-- STOREDATA_WRITE (R599): A write to CFXn.STOREDATA in SERVICE stores a row, with test check bits when TEST is 1. -/
  | storedataWrite (a : Act) (d : BitVec 32)
  /-- CFX_LOAD (R603): Loads a checked microcode image into a halted sequencer. -/
  | cfxLoad (h : Hdr) (image : List Byte)
  /-- CFX_STATUS (R603): Returns sequencer state, remapped rows and version. -/
  | cfxStatus (h : Hdr)
  /-- QUEUE_ENTRY (R654): A sector run enters the media queue, or waits outside a full queue. -/
  | queueEntry (a : Act) (now : BitVec 48)
  /-- SPECULATION_START (R678): With no candidate entries the scheduler issues read-ahead, pre-seek or pre-read. -/
  | speculationStart (a : Act) (now : BitVec 48) (kind : BitVec 2)
  /-- OPERATION_COMPLETE (R669): The sequencer's completion is taken and FAILED descriptors passed on. -/
  | operationComplete (a : Act) (now : BitVec 48) (meas : BitVec 32)
  /-- AGE_CAP_DOUBLE (R661): An entry has waited twice AGE_CAP and SCH 0x0C11 is reported. -/
  | ageCapDouble (a : Act) (now : BitVec 48)
  /-- CLEANING_WINDOW (R672): Each 100 ms window decides whether cleaning is owed. -/
  | cleaningWindow (a : Act) (now : BitVec 48) (busy clean : BitVec 32)
  /-- CLEAN_STARVED (R674): FORCE or FULL has lasted 10 s with the share unmet and SCH 0x0C20 is reported. -/
  | cleanStarved (a : Act)
  /-- PS1_DUTY_UPDATE (R692): Every 100 ms the PS1 duty is adjusted from PWR.PIN. -/
  | ps1DutyUpdate (pin : BitVec 24)
  /-- PS1_CAP_FAIL (R693): The PS1 cap has not held for 1 s at 20 % duty and SCH 0x0C21 is reported. -/
  | ps1CapFail (pin : BitVec 24)
  /-- READ (R630): An NVMe Read is checked, looked up in the cache and completed with data, zeros or an error. -/
  | nvmeRead (c : NvCmd) (nsid : BitVec 32) (lba : BitVec 64) (n : BitVec 17) (prot : Prot)
  /-- WRITE (R624): An NVMe Write is checked against lock, PI and zone state and moves sectors into the cache. -/
  | nvmeWrite (c : NvCmd) (nsid : BitVec 32) (lba : BitVec 64) (prot : Prot) (data : List (Sector × BitVec 128))
  /-- ZONE_APPEND (R624): A Zone Append writes at the write pointer and returns its LBA. -/
  | nvmeZoneAppend (c : NvCmd) (nsid : BitVec 32) (lba : BitVec 64) (prot : Prot) (data : List (Sector × BitVec 128))
  /-- OPEN_ZONE (R621): Zone Management Send Open makes a zone explicitly open. -/
  | nvmeOpenZone (c : NvCmd) (nsid : BitVec 32) (lba : BitVec 64) (all : Bool)
  /-- CLOSE_ZONE (R631): Zone Management Send Close closes a zone. -/
  | nvmeCloseZone (c : NvCmd) (nsid : BitVec 32) (lba : BitVec 64) (all : Bool)
  /-- FINISH_ZONE (R629): Makes a zone Full and writes pending spare slots. -/
  | nvmeFinishZone (c : NvCmd) (nsid : BitVec 32) (lba : BitVec 64) (all : Bool)
  /-- RESET_ZONE (R628): Invalidates the zone's lines, returns its write pointer and makes it Empty. -/
  | nvmeResetZone (c : NvCmd) (nsid : BitVec 32) (lba : BitVec 64) (all : Bool)
  /-- ZONE_MANAGEMENT_RECEIVE (R619): Reports zone descriptors of a zoned namespace. -/
  | nvmeZoneManagementReceive (c : NvCmd) (nsid : BitVec 32) (lba : BitVec 64)
  /-- DATASET_MANAGEMENT (R740): Deallocate drops live locations and invalidates cached sectors of the range. -/
  | nvmeDatasetManagement (c : NvCmd) (nsid : BitVec 32) (ranges : List (BitVec 64 × BitVec 32))
  /-- WRITE_ZEROES (R861): Writes zeros to an LBA range, subject to lock state. -/
  | nvmeWriteZeroes (c : NvCmd) (nsid : BitVec 32) (lba : BitVec 64) (n : BitVec 17) (prot : Prot)
  /-- COMPARE (R1038): Compares host data with stored data. -/
  | nvmeCompare (c : NvCmd) (nsid : BitVec 32) (lba : BitVec 64) (prot : Prot) (data : List (Sector × BitVec 128))
  /-- VERIFY (R1038): Verifies an LBA range can be read. -/
  | nvmeVerify (c : NvCmd) (nsid : BitVec 32) (lba : BitVec 64) (n : BitVec 17) (prot : Prot)
  /-- FLUSH (R818): Completes when earlier completed writes have ended their media phase. -/
  | nvmeFlush (c : NvCmd) (nsid : BitVec 32)
  /-- FORMAT_NVM (R606): Formats a namespace, with crypto-erase for Secure Erase Setting 2. -/
  | nvmeFormatNvm (c : NvCmd) (nsid : BitVec 32) (lbaf : BitVec 6) (pit ses : BitVec 3) (keys : List (BitVec 512)) (ok : Bool)
  /-- SANITIZE (R865): Crypto Erase or Overwrite clears every affected namespace. -/
  | nvmeSanitize (c : NvCmd) (act : BitVec 3) (pattern : BitVec 32) (keys : List (BitVec 512)) (ok : Bool)
  /-- NAMESPACE_MANAGEMENT (R605): Creates or deletes a namespace and its bands. -/
  | nvmeNamespaceManagement (c : NvCmd) (create : Bool) (nsid : BitVec 32) (csi kind : Byte) (size : BitVec 64) (fmt : BitVec 4) (pit : BitVec 3)
  /-- NAMESPACE_ATTACHMENT (R610): Attaches or detaches a namespace to a port's controllers. -/
  | nvmeNamespaceAttachment (c : NvCmd) (nsid : BitVec 32) (attach : Bool) (ids : List (BitVec 16))
  /-- IDENTIFY (R605): Returns Identify Controller or Namespace data. -/
  | nvmeIdentify (c : NvCmd) (cns : Byte) (nsid : BitVec 32) (csi : Byte)
  /-- GET_LOG_PAGE (R980): Returns a log page such as the Persistent Event Log. -/
  | nvmeGetLogPage (c : NvCmd) (lid : Byte) (offset : BitVec 64) (numd : BitVec 32)
  /-- SET_FEATURES_TIMESTAMP (R981): Completes with Invalid Field in Command. -/
  | nvmeSetFeaturesTimestamp (c : NvCmd)
  /-- ABORT (R684): Looks up the target context and decides whether completion or the abort wins. -/
  | nvmeAbort (c : NvCmd) (sqid cid : BitVec 16)
  /-- SECURITY_SEND (R859): Carries an Opal method to the security subsystem. -/
  | nvmeSecuritySend (c : NvCmd) (proto : Byte) (msg : SecMsg)
  /-- SECURITY_RECEIVE (R859): Returns an Opal response. -/
  | nvmeSecurityReceive (c : NvCmd) (proto : Byte)
  /-- FIRMWARE_IMAGE_DOWNLOAD (R223): Transfers a piece of a firmware image. -/
  | nvmeFirmwareImageDownload (c : NvCmd) (offset : BitVec 32) (bytes : List Byte)
  /-- FIRMWARE_COMMIT (R871): Verifies an image and fills or activates a firmware slot. -/
  | nvmeFirmwareCommit (c : NvCmd) (slot action : BitVec 3)
  /-- DEVICE_SELF_TEST (R241): Runs a short or extended self-test. -/
  | nvmeDeviceSelfTest (c : NvCmd) (stc : BitVec 4)
  /-- KEEP_ALIVE (R847): Refreshes a controller's keep-alive timer. -/
  | nvmeKeepAlive (c : NvCmd)
  /-- CONNECT (R819): Establishes an NVMe/TCP queue or association within the limits. -/
  | nvmeConnect (c : NvCmd) (size : BitVec 16) (host : BitVec 128)
  /-- DESTAGE_RUN (R637): A dirty run is routed to its band, a direct rewrite or the porch log and written. -/
  | destageRun (a : Act) (now : BitVec 48)
  /-- DIRECT_REWRITE_TIMEOUT (R638): No run continues a direct rewrite for 2 s and it is closed. -/
  | directRewriteTimeout (a : Act) (nsid : BitVec 6)
  /-- CLEANING (R639): A logical band is cleaned into a free pool band, journaled and remapped. -/
  | cleaning (a : Act) (nsid : BitVec 6) (phase : BitVec 2)
  /-- CLEANING_JOURNAL_COMPLETE (R639): At power-up a cleaning journaled before a loss is completed. -/
  | cleaningJournalComplete (a : Act) (nsid : BitVec 6)
  /-- PORCH_SCAN (R642): After an unclean loss the porch since the last checkpoint is scanned and extents rebuilt. -/
  | porchScan (a : Act) (nsid : BitVec 6) (ms : BitVec 32)
  /-- TRACK_VERIFY (R644): A destaged track is verified once the next track is written or no further track follows. -/
  | trackVerify (a : Act) (now : BitVec 48)
  /-- RESERVED_COPY_REPAIR (R617): A failed reserved-area copy is replaced from the other copy, or both failing enter SAFE. -/
  | reservedCopyRepair (a : Act) (head : BitVec 4) (str : Byte) (both : Bool)
  /-- SECTOR_ENTER_CACHE (R731): A waiting write sector enters the cache once the dirty count is below the budget. -/
  | sectorEnterCache (now : BitVec 48)
  /-- DESTAGE_REQUEST (R732): The cache asks the zone manager to destage on threshold, DIRTY_AGE_S or an empty queue. -/
  | destageRequest (a : Act) (now : BitVec 48)
  /-- ATTIC_MOVE_COMPLETE (R729): A 32 KiB attic move completes and lookups see the line at its new place. -/
  | atticMoveComplete
  /-- CACHE_DRAIN_COMPLETE (R736): The dirty count reaches zero in DRAINING and the cache enters the target mode. -/
  | cacheDrainComplete
  /-- DRAM_SCRUB (R758): The scrubber reads and checks one protected word in an idle DRAM or array cycle. -/
  | dramScrub (arr : BitVec 4) (ad : BitVec 33) (rows : BitVec 8) (find : EccFind) (lap : Option (BitVec 48))
  /-- ECCTEST_WRITE (R760): A GO with RW 0 in SERVICE writes test data with given check bits. -/
  | ecctestWrite (reg : BitVec 32)
  /-- ECCTEST_READ (R761): A GO with RW 1 returns raw data and check bits without correction. -/
  | ecctestRead (reg : BitVec 32)
  /-- ARBITER_GRANT (R764): The DRAM arbiter grants one transaction by deadline, group credit and round-robin. -/
  | arbiterGrant (req : BitVec 11) (w0 w1 w2 : BitVec 32)
  /-- MEDIA_DEADLINE_MISS (R765): A media leaf is not granted within 2 µs and BCM 0x0E41 is reported. -/
  | mediaDeadlineMiss (leaf : BitVec 4) (ns : BitVec 32)
  /-- CACHE_SET_MODE (R736): Sets the cache mode, draining dirty sectors for write-through or bypass. -/
  | cacheSetMode (h : Hdr)
  /-- CACHE_STATUS (R767): Returns cache mode, counts and pinned sectors. -/
  | cacheStatus (h : Hdr)
  /-- CACHE_LOCK_RANGE (R744): Locks every line touching a range, optionally filling it. -/
  | cacheLockRange (h : Hdr)
  /-- CACHE_UNLOCK_RANGE (R747): Clears LOCK on every frame whose line touches the range. -/
  | cacheUnlockRange (h : Hdr)
  /-- CACHE_INVALIDATE_RANGE (R740): Invalidates the sectors of a range. -/
  | cacheInvalidateRange (h : Hdr)
  /-- DRAM_RETIRE_PAGE (R756): Remaps a visible DRAM page to the spare pool. -/
  | dramRetirePage (h : Hdr)
  /-- VAULT_HEADER_PROGRAM (R788): After the body is written the image header is programmed and read back. -/
  | vaultHeaderProgram (us : BitVec 32) (ms rate : BitVec 16) (ok : Bool)
  /-- PAGE_PROGRAM_FAIL (R786): A failed page program retires the block and continues the image elsewhere. -/
  | pageProgramFail (die : BitVec 1) (plane : BitVec 2) (block : BitVec 11)
  /-- VAULT_BLOCK_ERASE (R785): In idle time blocks of consumed or discarded images are erased. -/
  | vaultBlockErase (ok : Bool)
  /-- PROTECTION_LOST (R793): The vault stops protecting and VLT 0x0F50 or PWR 0x0111 is reported and the armed response taken. -/
  | protectionLost
  /-- PROTECTION_RETURN (R796): Protection has held for RETURN_S; FORCED_WT clears and the previous mode returns. -/
  | protectionReturn
  /-- VAULT_STATUS (R805): Returns vault state and each kept image header. -/
  | vaultStatus (h : Hdr)
  /-- EXPORT (R805): VAULT_DISPOSE EXPORT returns one chunk of a kept image. -/
  | vaultExport (h : Hdr)
  /-- DISCARD (R805): VAULT_DISPOSE DISCARD marks an image of another HDA DISCARDED. -/
  | vaultDiscard (h : Hdr)
  /-- ACCEPT_LOSS (R805): VAULT_DISPOSE ACCEPT_LOSS resolves an unresolved loss. -/
  | vaultAcceptLoss (h : Hdr)
  /-- IMPORT (R805): VAULT_DISPOSE IMPORT writes a chunk, and on LAST checks, replays and consumes the image. -/
  | vaultImport (h : Hdr) (chunk : List Byte)
  /-- VAULT_TEST (R807): Writes a test pattern, measures the vault rate and erases the blocks. -/
  | vaultTest (h : Hdr) (rate : BitVec 16) (fails : List (BitVec 1 × BitVec 2 × BitVec 11))
  /-- SUBMISSION_FETCH (R821): A port fetches a submission entry into a free context, or holds fetching. -/
  | submissionFetch (c : NvCmd)
  /-- CAPSULE_RECEIVE (R821): A port takes an NVMe/TCP command capsule into a free context. -/
  | capsuleReceive (c : NvCmd)
  /-- COMPLETION_POST (R823): A port posts a completion, sets POSTED and frees the context. -/
  | completionPost (c : NvCmd)
  /-- WATCHDOG_REFRESH (R828): The active engine refreshes its watchdog. -/
  | watchdogRefresh
  /-- WATCHDOG_EXPIRY (R828): The watchdog expires, FE 0x1020 is reported and the armed response taken. -/
  | watchdogExpiry
  /-- FENCE_CONFIRMED (R832): Pre-fence frames and completions have left and FENCED sets. -/
  | fenceConfirmed (overlap : BitVec 9)
  /-- TAKEOVER_COMPLETE (R834): The new engine has reloaded contexts; posting resumes and FE 0x1011 is reported. -/
  | takeoverComplete (gap : BitVec 16)
  /-- FE_STATUS (R832): Returns front-end engine state and takeover history. -/
  | feStatus (h : Hdr)
  /-- FE_TAKEOVER (R832): Requests a takeover by the standby engine. -/
  | feTakeover (h : Hdr)
  /-- PERST_ASSERT (R844): PERST_x_N asserted holds the port group in reset and ends its commands. -/
  | perstAssert (p : Act)
  /-- PERST_RELEASE (R846): PERST_x_N released starts link training within 20 ms. -/
  | perstRelease (p : Act)
  /-- LINK_UP (R812): A link comes up, possibly degraded, and PRT 0x1401 is reported. -/
  | linkUp (p : Act) (speed width : BitVec 4)
  /-- LINK_DOWN (R1043): A link goes down and PRT 0x1402 is reported with its cause. -/
  | linkDown (p : Act)
  /-- PHY_PLL_LOSS (R813): A port PHY PLL loses lock and the link goes down. -/
  | phyPllLoss (p : Act)
  /-- PHY_PLL_RELOCK (R813): The PHY PLL relocks and the link retrains. -/
  | phyPllRelock (p : Act)
  /-- KEEP_ALIVE_TIMEOUT (R848): An association's keep-alive expires and it ends. -/
  | keepAliveTimeout (p : Act) (cntlid : BitVec 16)
  /-- ACTIVATE (R859): Opal Activate enables the Locking SP. -/
  | opalActivate (c : NvCmd) (ok : Bool)
  /-- REVERT (R866): Revert or PSID Revert regenerates keys and resets the SPs. -/
  | opalRevert (c : NvCmd) (keys : List (BitVec 512)) (ok : Bool)
  /-- REVERTSP (R866): RevertSP resets an SP to its manufactured state. -/
  | opalRevertsp (c : NvCmd) (keys : List (BitVec 512)) (ok : Bool)
  /-- GENKEY (R864): GenKey crypto-erases a range with a new key. -/
  | opalGenkey (c : NvCmd) (range : BitVec 4) (keys : List (BitVec 512)) (ok : Bool)
  /-- ERASE (R864): Erase crypto-erases a range. -/
  | opalErase (c : NvCmd) (range : BitVec 4) (keys : List (BitVec 512)) (ok : Bool)
  /-- GET (R859): Opal Get reads table values. -/
  | opalGet (c : NvCmd) (what : OpalGet)
  /-- SET (R860): Opal Set changes table values, such as range lock state. -/
  | opalSet (c : NvCmd) (what : OpalSet) (ok : Bool)
  /-- AUTHENTICATE (R862): Authenticates to an authority, counting tries against TryLimit. -/
  | opalAuthenticate (c : NvCmd) (auth : BitVec 5) (proof : List Byte)
  /-- RANDOM (R859): Returns random bytes. -/
  | opalRandom (c : NvCmd) (count : BitVec 16)
  /-- HELLO (R875): Every HELLO_MS a HELLO frame is sent to each peer. -/
  | zgpHello
  /-- PEER_TIMEOUT (R875): No authenticated frame for PEER_TIMEOUT_MS makes a peer DOWN. -/
  | zgpPeerTimeout (peer : BitVec 16)
  /-- ZGP_FRAME_RECEIVE (R881): An arriving frame is authenticated and delivered, held or discarded by sequence. -/
  | zgpFrameReceive (auth : Bool) (domain : BitVec 64) (epoch : BitVec 32) (src dst : BitVec 16) (seq ack : BitVec 32) (msg : ZMsg)
  /-- RETRANSMIT (R880): An unacknowledged logged frame is sent again every RETX_US. -/
  | zgpRetransmit (dst : BitVec 16) (seq : BitVec 32)
  /-- ACK (R880): An acknowledgement removes frames from the send log. -/
  | zgpAck (src : BitVec 16) (ack : BitVec 32) (ok : Bool)
  /-- PARITY_UPDATE (R890): A parity member folds a delta into its parity and acknowledges. -/
  | zgpParityUpdate
  /-- GROUP_DEF (R887): A member accepts or refuses a group definition. -/
  | zgpGroupDef (ok : Bool)
  /-- STATE (R897): A STATE frame merges placement entry states across members. -/
  | zgpState
  /-- RECON_READ (R900): A member returns rows for reconstruction. -/
  | zgpReconRead
  /-- RECON_DATA (R900): Returned rows feed a rebuild. -/
  | zgpReconData (ok : Bool)
  /-- ZGP_DOMAIN_JOIN (R874): Joins or leaves a ZGP domain. -/
  | zgpDomainJoin (h : Hdr) (payload : List Byte) (ok : Bool)
  /-- ZGP_GROUP_CREATE (R887): Creates a peer group across members. -/
  | zgpGroupCreate (h : Hdr) (payload : List Byte) (ok : Bool)
  /-- ZGP_GROUP_STATUS (R898): Returns a group's state and entry counts. -/
  | zgpGroupStatus (h : Hdr)
  /-- ZGP_REBUILD (R900): Rebuilds stale or reassigned extents or an LBA range. -/
  | zgpRebuild (h : Hdr) (ok : Bool)
  /-- SERVICE_REQUEST_SUBMIT (R914): Admin command 0xC5 carries a service request and returns its acceptance. -/
  | serviceRequestSubmit (c : NvCmd) (numd : BitVec 32) (bytes : List Byte)
  /-- SERVICE_REPLY_RETRIEVE (R912): Admin command 0xC6 retrieves a ready reply by TAG. -/
  | serviceReplyRetrieve (c : NvCmd) (numd tag : BitVec 32)
  /-- MCTP_REQUEST (R917): A vendor MCTP message carries a service request on the management port. -/
  | mctpRequest (vid : BitVec 16) (code : Byte) (request : Bool) (bytes : List Byte)
  /-- UART_FRAME (R918): A J6 UART frame carries a service request in SERVICE. -/
  | uartFrame (bytes : List Byte)
  /-- REPLY_DISCARD (R915): A reply unretrieved for 60 s is discarded and SUP 0x0042 reported. -/
  | replyDiscard (cntlid : BitVec 16) (tag : BitVec 32)
  /-- SESSION_IDLE_CLOSE (R923): A session without a request for 600 s closes. -/
  | sessionIdleClose (ref : BitVec 32)
  /-- AUTH_LOCKOUT_END (R924): The 60 s authentication lockout ends. -/
  | authLockoutEnd (who : Transport)
  /-- IDENTIFY_MODULE (R928): Returns the module identity and variant. -/
  | identifyModule (h : Hdr)
  /-- GET_MODE (R928): Returns mode, boot, shutdown and SAFE cause registers. -/
  | getMode (h : Hdr)
  /-- SET_MODE (R202): Requests a target major mode. -/
  | setMode (h : Hdr)
  /-- RESET_GROUP (R182): Resets a named group or the module. -/
  | resetGroup (h : Hdr)
  /-- GET_HEALTH (R979): Returns health registers and the event summary. -/
  | getHealth (h : Hdr)
  /-- AUTH_CHALLENGE (R920): Returns a 16-byte challenge for a session. -/
  | authChallenge (h : Hdr)
  /-- AUTH_OPEN (R920): Opens a MAINT or FACTORY session on a correct proof. -/
  | authOpen (h : Hdr) (proof : List Byte)
  /-- AUTH_CLOSE (R923): Closes a session. -/
  | authClose (h : Hdr)
  /-- READ_RECORD (R928): Returns a settings record from the in-force, staged or bank source. -/
  | readRecord (h : Hdr)
  /-- STAGE_RECORD (R938): Stages, deletes or discards settings records. -/
  | stageRecord (h : Hdr) (payload : List Byte)
  /-- COMMIT (R941): Builds and checks the settings image and writes it to the bank not in use. -/
  | settingsCommit (h : Hdr)
  /-- COMMIT_COMPLETE (R65): The bank erase, program and read-back end, succeeding or reporting SUP 0x0017. -/
  | commitComplete (ok : Bool)
  /-- ADAPTIVE_COMMIT (R68): At most once per hour the adaptive tables are committed. -/
  | adaptiveCommit
  /-- STATUS (R928): Returns settings bank and staging status. -/
  | settingsStatus (h : Hdr)
  /-- EVR_READ (R977): Returns held event records from a sequence number. -/
  | evrRead (h : Hdr)
  /-- EVR_STATUS (R978): Returns recorder state and counts. -/
  | evrStatus (h : Hdr)
  /-- EVR_CHALLENGE (R982): Returns a challenge for EVR_CLEAR. -/
  | evrChallenge (h : Hdr)
  /-- EVR_CLEAR (R984): Erases the event store on a correct proof. -/
  | evrClear (h : Hdr) (proof : List Byte)
  /-- EVR_SET_POLICY (R975): Sets the full-log policy. -/
  | evrSetPolicy (h : Hdr)
  /-- ARM_READ (R955): Returns arming entries. -/
  | armRead (h : Hdr)
  /-- ARM_WRITE (R952): Changes the arming in force until the next module reset. -/
  | armWrite (h : Hdr)
  /-- SPARE_STATUS (R962): Returns spare and wear accounting. -/
  | spareStatus (h : Hdr)
  /-- SPARE_COMMIT (R961): Brings a named spare into service by request. -/
  | spareCommit (h : Hdr)
  /-- REG_READ (R932): Reads registers in rising address order. -/
  | regRead (h : Hdr)
  /-- REG_WRITE (R933): Writes a register under its access types, for registers without a row of their own. -/
  | regWrite (h : Hdr) (acks : List Ack)
  /-- COUNTER_LOW_READ (R20): Reading a 64-bit counter's low register latches its high register. -/
  | counterLowRead (addr : BitVec 24)
  /-- DIAG_MEMTEST (R935): Tests a DRAM region stretch by stretch. -/
  | diagMemtest (h : Hdr) (errors first : BitVec 64)
  /-- DIAG_ECC_INJECT (R936): Flips chosen bits of a stored word through the check-bit test mode. -/
  | diagEccInject (h : Hdr)
  /-- DIAG_CROSS_STATUS (R928): Returns the state of each clock crossing. -/
  | diagCrossStatus (h : Hdr)
  /-- EVENT_REPORT (R965): A reported event creates a record with the next sequence number. -/
  | eventReport (code : BitVec 16) (act head : Byte) (zone : BitVec 24) (params : List Byte)
  /-- EVENT_NOR_PROGRAM (R970): A new record is programmed into an erased slot within 100 ms. -/
  | eventNorProgram (ok : Bool)
  /-- EVENT_SECTOR_REWRITE (R970): At most every 10 s repeats and replacements are written through the staging sector. -/
  | eventSectorRewrite (sector : BitVec 7) (out : NorOutcome)
  /-- I3C_DYNAMIC_ADDRESS (R1000): I3C dynamic address assignment switches the management port to I3C. -/
  | i3cDynamicAddress (addr : BitVec 7)
  /-- RSTDAA (R1000): RSTDAA returns the management port to SMBus. -/
  | rstdaa
  /-- WUS_N_RELEASE (R435): The preamp releases WUS_N and, if no other source remains, the write inhibit on the actuator ends. -/
  | wusNRelease (a : Act)
  /-- ACT_LED_HOLD_EXPIRY (R1004): ACT_LED_N goes high once 50 ms have passed since the last media operation ended. -/
  | actLedHoldExpiry
  /-- VBULK_60V_CROSSING (R1019): VBULK crosses 60 V, lighting or darkening the bulk indicator that marks safe handling after discharge. -/
  | vbulk60vCrossing (vbulk : BitVec 16)
  /-- UART_BYTE_GAP_TIMEOUT (R918): A gap of more than 10 ms between UART bytes ends the frame, which is discarded and counted in UARTERRCNT. -/
  | uartByteGapTimeout
  /-- OPERATING_TIME_TICK (R22): Each second with the always-on domain powered, the 40-bit operating time advances, saturating at its maximum. -/
  | operatingTimeTick (x : SecondMeas)
  /-- IDENTITY_PAGE_PROGRAM (R85): In SERVICE under FACTORY authority, the wholly erased HDA identity page is programmed. -/
  | identityPageProgram (who : Transport) (ref : Reg) (page : IdPage)
  /-- SET_FEATURES_APST (R201): NVMe Set Features for Autonomous Power State Transition enables or disables APST and sets SUP.MODE.APST_EN. -/
  | setFeaturesApst (c : NvCmd) (enable : Bool)
  /-- ASYNCHRONOUS_EVENT_REQUEST (R913): The host submits an Asynchronous Event Request that the controller holds until it posts a notice. -/
  | asynchronousEventRequest (c : NvCmd)
  /-- CREATE_IO_QUEUE (R817): The host creates an I/O submission or completion queue on a PCIe controller within the limits of Table 16-3. -/
  | createIoQueue (c : NvCmd) (cq : Bool) (qid size cqid : BitVec 16) (prio : Prio)
  /-- DELETE_IO_QUEUE (R817): The host deletes an I/O submission or completion queue on a PCIe controller. -/
  | deleteIoQueue (c : NvCmd) (cq : Bool) (qid : BitVec 16)
  /-- RESERVATION_REGISTER (R816): The host registers or unregisters a reservation key on a namespace. -/
  | reservationRegister (c : NvCmd) (nsid : BitVec 32) (act : BitVec 3) (ignore : Bool) (cptpl : BitVec 2) (cur new : BitVec 64)
  /-- RESERVATION_ACQUIRE (R816): The host acquires or preempts a reservation on a namespace, persisting through power loss. -/
  | reservationAcquire (c : NvCmd) (nsid : BitVec 32) (act rtype : BitVec 8) (cur pre : BitVec 64)
  /-- RESERVATION_RELEASE (R816): The host releases or clears a reservation on a namespace. -/
  | reservationRelease (c : NvCmd) (nsid : BitVec 32) (act rtype : BitVec 8) (cur : BitVec 64)
  /-- COMPLETION_QUEUE_HEAD_DOORBELL (R826): The host writes a completion queue head doorbell, freeing entries so that a completion waiting on a full queue can be posted. -/
  | completionQueueHeadDoorbell (p : Act) (cntlid qid taken : BitVec 16)
  deriving DecidableEq, Repr

end Sys2Proof
end

