-- ==== Sys2Proof/Decode.lean ====
section
/-! DEFINITION. Decoding of command words. The rows of spec/opcode_table.json give no bits: a command reaches the block as
an event or a transfer, not as a word, so no word spells a command (log entry 9). -/

namespace Sys2Proof

/-- The command that a word of the table spells: none, since no row of the table gives bits. -/
def decodeTableWord (_nbits _w : Nat) : Option Instr := none

end Sys2Proof
end

