-- ==== Sys2Proof/Config.lean ====
section
/-! DEFINITION. What the spec leaves open: values no rule fixes, as constants without a body, and the cryptographic
functions that the spec names and does not define. Each is named in the assumption log. -/

namespace Sys2Proof.Config

/-- The n-th free value of a run: a result that the spec leaves unstated (log entry 7). -/
opaque freeValue : Nat → BitVec 64

/-- HMAC-SHA-256 of R920 and R983 on a key and a message; its first byte stands lowest (log entry 8). -/
opaque hmacSha256 : List Byte → List Byte → BitVec 256

/-- SHA-256 (R921); its first byte stands lowest (log entry 8). -/
opaque sha256 : List Byte → BitVec 256

/-- Fraction bits of the 48-bit compensator states of R354 and R355, which the spec does not state (log entry 13). -/
opaque accFrac : Nat

/-- The position estimator of R347: the next position from the present position and velocity and the word of a valid window;
the spec states no law (log entry 13). -/
opaque estPos : Int → Int → Option (BitVec 32) → Int

/-- The velocity estimate of R347, in units per µs; the spec states no law (log entry 13). -/
opaque estVel : Int → Int → Option (BitVec 32) → Int

/-- The gain control of R312: the next gain from the present one and the mean of the two sets' pair sums in 0.1 % of the AGC reference; the spec states
a time constant of 64 windows and no law (log entry 16). -/
opaque agcStep : Nat → Nat → Nat

/-- The set-point in 0.1 mA by which a load or an unload follows a back-EMF velocity in mV, from it and the measured current (R376, R378); the spec
states no law (log entry 13). -/
opaque bemfLoop : Int → Int → Int

/-- The PI speed controller of R276: the integrator and the duty from the integrator, the target in rpm and the measured step period in CLK_SRV
cycles; the spec states no gains (log entry 14). -/
opaque speedPi : Int → Nat → Nat → Int × Nat

/-- The back-EMF observer of R264: the angle after a PWM period and after a correction; the spec states no law (log entry 14). -/
opaque observerStep : BitVec 16 → BitVec 24 → BitVec 16

/-- The observer angle after the correction toward a measured zero-crossing (R264) (log entry 14). -/
opaque observerFix : BitVec 16 → Int → BitVec 16

/-- The check bits of a control-store row (R551); the spec names the code, SECDED, and not its matrix (log entry 31). -/
opaque check7 : BitVec 32 → BitVec 7

/-- What SECDED makes of a control-store row whose check bits were given by a test write: the data and whether a bit was corrected,
or none when the error is uncorrectable (R551, R590, R591) (log entry 31). -/
opaque secded39 : BitVec 32 → BitVec 7 → Option (BitVec 32 × Bool)

/-- The check bits of a 64-bit DRAM word (R703) and of an 88-bit tag row (R709) (log entry 31). -/
opaque check8 : BitVec 88 → BitVec 8

/-- What SECDED makes of a DRAM word or tag row whose check bits were given by a test write (R703) (log entry 31). -/
opaque secded : BitVec 88 → BitVec 8 → Option (BitVec 88 × Bool)

/-- The SNR estimate in 0.01 dB from the mean squared error and the sectors it was summed over (R506); the spec states no law
(log entry 32). -/
opaque snrOf : Nat → Nat → BitVec 16

/-- The residual skew of R538 in fs from the image level in 0.1 dBc and FREQ_KHZ: 2 × 10^(L ÷ 20) ÷ (2π·f), whose rounding the spec
does not state (log entry 38). -/
opaque skewFs : Int → Nat → Int

/-- GAIN_TRIM of a slice from the rms of slice 0 and its own (R537); the spec states no formula (log entry 38). -/
opaque gainTrim : Nat → Nat → BitVec 8

/-- OFS_TRIM of a slice from the mean of slice 0 and its own (R537); the spec states no formula (log entry 38). -/
opaque ofsTrim : Int → Int → BitVec 8

/-- XTS-AES-256 encryption of one sector under a key and a tweak (R854) (log entry 8). -/
opaque xtsEnc : BitVec 512 → BitVec 128 → BitVec 32768 → BitVec 32768

/-- XTS-AES-256 decryption of one sector under a key and a tweak (R854) (log entry 8). -/
opaque xtsDec : BitVec 512 → BitVec 128 → BitVec 32768 → BitVec 32768

/-- The temperature, signed in 0.1 °C, of a thermistor input in 0.1 mV (R1008): its law has a logarithm (log entry 104). -/
opaque ntcTemp : BitVec 16 → BitVec 16

/-- AES-256-GCM of a ZGP frame (R877): ciphertext and tag from the domain key, the nonce, the additional data and the plaintext (log entry 8). -/
opaque gcmSeal : List Byte → List Byte → List Byte → List Byte → List Byte

/-- T_READ and T_WRITE_EXTRA of R663 beyond the last distance of record 0x0C02, from that entry's times, its distance and the distance
asked for: the spec states only an interpolation (log entry 48). -/
opaque seekBeyond : Nat → Nat → Nat → Nat → Nat × Nat

/-- The payload bytes of a ZGP message, whose layout the spec does not state (log entry 70). -/
opaque zgpPayload : Machine.ZMsg → List Byte

/-- The metadata bytes of a vault image for the zone manager's tables, the groups, columns and extents of parity updates under way (R896), and the
structures left out (Table 15-2); the spec states their kinds and no layout (log entry 52). -/
opaque vaultMeta : Option Machine.ZmgMaps → List (BitVec 32 × Nat × Nat) → BitVec 8 → List Byte

/-- The tables that metadata bytes of an imported image stand for, the parity updates, and the structures left out (Table 15-2) (log entry 52). -/
opaque vaultMetaOf : List Byte → Option (Option Machine.ZmgMaps × List (BitVec 32 × Nat × Nat) × BitVec 8)

/-- The range keys of an HDA that holds no record 0x1180, by its serial and the range: the module generates them and the spec does not say
when (R855; log entry 59). -/
opaque firstKey : List Byte → Nat → BitVec 512

/-- The value of record 0x1180 for keys, which RFC 3394 wraps; the spec gives no layout (R856; log entry 59). -/
opaque wrapKeys : List (BitVec 512) → List Byte

/-- The value of record 0x1181 for the SPs; the spec gives no layout (R904; log entry 59). -/
opaque wrapSps : Machine.Opal → List Byte

/-- The keys that a value of record 0x1180 not written by this module stands for, none when it fails its check (R858; log entry 59). -/
opaque unwrapKeys : List Byte → Option (List (BitVec 512))

/-- The SPs that a value of record 0x1181 not written by this module stands for, none when it fails its check (R858; log entry 59). -/
opaque unwrapSps : List Byte → Option Machine.Opal

/-- The 40 bytes of KEY for a domain key, and back (Table 17-11; log entry 59). -/
opaque wrapDomain : List Byte → List Byte

/-- The domain key of 40 bytes of KEY that the module did not write (Table 17-11; log entry 59). -/
opaque unwrapDomain : List Byte → List Byte

/-- The TCG packet of a method's status and result, whose form TCG Storage Core gives (R859; log entry 60). -/
opaque opalPacket : Nat → List Byte → List Byte

/-- The PCI vendor identity of the Identify Controller VID field, which MCTP messages carry (R917); the spec gives no number (log entry 63). -/
opaque vid : BitVec 16

/-- What the spec leaves open of an Identify data structure, by CNS, NSID and command set (log entry 73). -/
opaque identBase : Nat → Nat → Nat → List Byte

/-- A log page whose content the spec leaves to the NVMe standards, by log page identifier (log entry 73). -/
opaque logPage : Nat → List Byte

/-- The header of the Persistent Event Log, for the number of its entries (R980; log entry 73). -/
opaque eventLogHeader : Nat → List Byte

/-- A firmware image, by its bytes: what its header states and whether its signature verifies (R870; log entry 74). -/
opaque parseFw : List Byte → Machine.FwSlot

end Sys2Proof.Config
end

