-- ==== Sys2Proof/Machine/EventTable.lean ====
section
/-! DEFINITION. The event codes of the machine with their severities and their sticky bits: the event tables of every chapter
(spec/19 R985, Table 19-11, and the EVENTS register tables). -/

namespace Sys2Proof.Machine

/-- Event codes, severities and sticky bits, part 1 (R985). -/
def eventTable1 : List EventInfo := [
  ⟨0x0010, .critical, none⟩,
  ⟨0x0011, .critical, none⟩,
  ⟨0x0012, .critical, none⟩,
  ⟨0x0013, .error, none⟩,
  ⟨0x0014, .error, none⟩,
  ⟨0x0015, .notice, none⟩,
  ⟨0x0016, .critical, none⟩,
  ⟨0x0017, .error, none⟩,
  ⟨0x0018, .info, none⟩,
  ⟨0x0020, .info, none⟩,
  ⟨0x0021, .critical, none⟩,
  ⟨0x0022, .error, none⟩,
  ⟨0x0023, .critical, none⟩,
  ⟨0x0024, .critical, none⟩,
  ⟨0x0025, .error, none⟩,
  ⟨0x0026, .info, none⟩,
  ⟨0x0027, .notice, none⟩,
  ⟨0x0028, .info, none⟩,
  ⟨0x0030, .notice, none⟩,
  ⟨0x0031, .error, none⟩,
  ⟨0x0032, .notice, none⟩,
  ⟨0x0033, .error, none⟩,
  ⟨0x0040, .notice, some (.svc, 0)⟩,
  ⟨0x0041, .error, some (.svc, 1)⟩,
  ⟨0x0042, .notice, some (.svc, 2)⟩,
  ⟨0x0044, .info, some (.svc, 3)⟩,
  ⟨0x0050, .critical, none⟩,
  ⟨0x0102, .notice, some (.pwr, 0)⟩,
  ⟨0x0103, .error, some (.pwr, 1)⟩,
  ⟨0x0105, .info, some (.pwr, 2)⟩,
  ⟨0x0110, .critical, some (.pwr, 3)⟩,
  ⟨0x0111, .error, some (.pwr, 4)⟩,
  ⟨0x0112, .error, some (.pwr, 5)⟩,
  ⟨0x0120, .error, some (.pwr, 6)⟩,
  ⟨0x0121, .critical, some (.pwr, 7)⟩,
  ⟨0x0122, .notice, some (.pwr, 8)⟩,
  ⟨0x0130, .error, some (.pwr, 9)⟩,
  ⟨0x0201, .critical, some (.clk, 0)⟩,
  ⟨0x0202, .critical, some (.clk, 1)⟩,
  ⟨0x0203, .error, some (.clk, 2)⟩]

/-- Event codes, severities and sticky bits, part 2 (R985). -/
def eventTable2 : List EventInfo := [
  ⟨0x0204, .error, some (.clk, 3)⟩,
  ⟨0x0205, .notice, some (.clk, 4)⟩,
  ⟨0x0210, .critical, some (.clk, 5)⟩,
  ⟨0x0301, .info, some (.spn, 0)⟩,
  ⟨0x0310, .notice, some (.spn, 1)⟩,
  ⟨0x0311, .critical, some (.spn, 1)⟩,
  ⟨0x0312, .error, some (.spn, 2)⟩,
  ⟨0x0321, .error, some (.spn, 3)⟩,
  ⟨0x0330, .error, some (.spn, 4)⟩,
  ⟨0x0331, .notice, some (.spn, 5)⟩,
  ⟨0x0332, .error, some (.spn, 6)⟩,
  ⟨0x0340, .notice, some (.spn, 7)⟩,
  ⟨0x0350, .notice, some (.spn, 8)⟩,
  ⟨0x0360, .critical, none⟩,
  ⟨0x0430, .error, some ((.srvRef .a0), 0)⟩,
  ⟨0x0431, .notice, some ((.srvRef .a0), 1)⟩,
  ⟨0x0432, .error, some ((.srvRef .a0), 1)⟩,
  ⟨0x0433, .error, some ((.srvRef .a0), 2)⟩,
  ⟨0x0434, .error, some ((.srvRef .a0), 3)⟩,
  ⟨0x0435, .notice, some ((.srvRef .a0), 4)⟩,
  ⟨0x0436, .error, some ((.srvRef .a0), 5)⟩,
  ⟨0x0437, .notice, some ((.srvRef .a0), 6)⟩,
  ⟨0x0440, .error, some ((.srvRef .a0), 7)⟩,
  ⟨0x0441, .error, some ((.srvRef .a0), 8)⟩,
  ⟨0x0442, .error, some ((.srvRef .a0), 9)⟩,
  ⟨0x0443, .error, some ((.srvRef .a0), 10)⟩,
  ⟨0x0450, .error, some ((.srvCtl .a0), 0)⟩,
  ⟨0x0451, .error, some ((.srvCtl .a0), 1)⟩,
  ⟨0x0452, .notice, some ((.srvCtl .a0), 2)⟩,
  ⟨0x0453, .error, some ((.srvCtl .a0), 3)⟩,
  ⟨0x0454, .notice, some ((.srvCtl .a0), 4)⟩,
  ⟨0x0456, .error, some ((.srvCtl .a0), 5)⟩,
  ⟨0x0457, .notice, some ((.srvCtl .a0), 6)⟩,
  ⟨0x0458, .error, some ((.srvCtl .a0), 7)⟩,
  ⟨0x0459, .error, some ((.srvCtl .a0), 8)⟩,
  ⟨0x045A, .notice, some ((.srvCtl .a0), 9)⟩,
  ⟨0x045B, .notice, some ((.srvCtl .a0), 10)⟩,
  ⟨0x045C, .critical, none⟩,
  ⟨0x0530, .error, some ((.srvRef .a1), 0)⟩,
  ⟨0x0531, .notice, some ((.srvRef .a1), 1)⟩]

/-- Event codes, severities and sticky bits, part 3 (R985). -/
def eventTable3 : List EventInfo := [
  ⟨0x0532, .error, some ((.srvRef .a1), 1)⟩,
  ⟨0x0533, .error, some ((.srvRef .a1), 2)⟩,
  ⟨0x0534, .error, some ((.srvRef .a1), 3)⟩,
  ⟨0x0535, .notice, some ((.srvRef .a1), 4)⟩,
  ⟨0x0536, .error, some ((.srvRef .a1), 5)⟩,
  ⟨0x0537, .notice, some ((.srvRef .a1), 6)⟩,
  ⟨0x0540, .error, some ((.srvRef .a1), 7)⟩,
  ⟨0x0541, .error, some ((.srvRef .a1), 8)⟩,
  ⟨0x0542, .error, some ((.srvRef .a1), 9)⟩,
  ⟨0x0543, .error, some ((.srvRef .a1), 10)⟩,
  ⟨0x0550, .error, some ((.srvCtl .a1), 0)⟩,
  ⟨0x0551, .error, some ((.srvCtl .a1), 1)⟩,
  ⟨0x0552, .notice, some ((.srvCtl .a1), 2)⟩,
  ⟨0x0553, .error, some ((.srvCtl .a1), 3)⟩,
  ⟨0x0554, .notice, some ((.srvCtl .a1), 4)⟩,
  ⟨0x0556, .error, some ((.srvCtl .a1), 5)⟩,
  ⟨0x0557, .notice, some ((.srvCtl .a1), 6)⟩,
  ⟨0x0558, .error, some ((.srvCtl .a1), 7)⟩,
  ⟨0x0559, .error, some ((.srvCtl .a1), 8)⟩,
  ⟨0x055A, .notice, some ((.srvCtl .a1), 9)⟩,
  ⟨0x055B, .notice, some ((.srvCtl .a1), 10)⟩,
  ⟨0x055C, .critical, none⟩,
  ⟨0x0610, .critical, some ((.hif .a0), 0)⟩,
  ⟨0x0611, .error, some ((.hif .a0), 1)⟩,
  ⟨0x0620, .error, some ((.hif .a0), 2)⟩,
  ⟨0x0622, .error, some ((.hif .a0), 3)⟩,
  ⟨0x0623, .notice, some ((.hif .a0), 4)⟩,
  ⟨0x0630, .critical, some ((.hif .a0), 5)⟩,
  ⟨0x0631, .notice, some ((.hif .a0), 6)⟩,
  ⟨0x0632, .critical, some ((.hif .a0), 7)⟩,
  ⟨0x0640, .notice, some ((.hif .a0), 8)⟩,
  ⟨0x0641, .error, some ((.hif .a0), 8)⟩,
  ⟨0x0710, .critical, some ((.hif .a1), 0)⟩,
  ⟨0x0711, .error, some ((.hif .a1), 1)⟩,
  ⟨0x0720, .error, some ((.hif .a1), 2)⟩,
  ⟨0x0722, .error, some ((.hif .a1), 3)⟩,
  ⟨0x0723, .notice, some ((.hif .a1), 4)⟩,
  ⟨0x0730, .critical, some ((.hif .a1), 5)⟩,
  ⟨0x0731, .notice, some ((.hif .a1), 6)⟩,
  ⟨0x0732, .critical, some ((.hif .a1), 7)⟩]

/-- Event codes, severities and sticky bits, part 4 (R985). -/
def eventTable4 : List EventInfo := [
  ⟨0x0740, .notice, some ((.hif .a1), 8)⟩,
  ⟨0x0741, .error, some ((.hif .a1), 8)⟩,
  ⟨0x0810, .critical, some ((.ch .a0), 0)⟩,
  ⟨0x0820, .error, some ((.ch .a0), 2)⟩,
  ⟨0x0821, .notice, some ((.ch .a0), 3)⟩,
  ⟨0x0822, .error, some ((.ch .a0), 4)⟩,
  ⟨0x0823, .error, some ((.ch .a0), 5)⟩,
  ⟨0x0824, .error, some ((.ch .a0), 6)⟩,
  ⟨0x0830, .notice, some ((.ch .a0), 7)⟩,
  ⟨0x0831, .error, some ((.ch .a0), 8)⟩,
  ⟨0x0910, .critical, some ((.ch .a1), 0)⟩,
  ⟨0x0920, .error, some ((.ch .a1), 2)⟩,
  ⟨0x0921, .notice, some ((.ch .a1), 3)⟩,
  ⟨0x0922, .error, some ((.ch .a1), 4)⟩,
  ⟨0x0923, .error, some ((.ch .a1), 5)⟩,
  ⟨0x0924, .error, some ((.ch .a1), 6)⟩,
  ⟨0x0930, .notice, some ((.ch .a1), 7)⟩,
  ⟨0x0931, .error, some ((.ch .a1), 8)⟩,
  ⟨0x0A10, .critical, some ((.cfx .a0), 0)⟩,
  ⟨0x0A11, .notice, some ((.cfx .a0), 1)⟩,
  ⟨0x0A13, .error, some ((.cfx .a0), 1)⟩,
  ⟨0x0A20, .error, some ((.cfx .a0), 2)⟩,
  ⟨0x0A21, .info, some ((.cfx .a0), 3)⟩,
  ⟨0x0A30, .info, some ((.cfx .a0), 4)⟩,
  ⟨0x0A31, .error, some ((.cfx .a0), 5)⟩,
  ⟨0x0B10, .critical, some ((.cfx .a1), 0)⟩,
  ⟨0x0B11, .notice, some ((.cfx .a1), 1)⟩,
  ⟨0x0B13, .error, some ((.cfx .a1), 1)⟩,
  ⟨0x0B20, .error, some ((.cfx .a1), 2)⟩,
  ⟨0x0B21, .info, some ((.cfx .a1), 3)⟩,
  ⟨0x0B30, .info, some ((.cfx .a1), 4)⟩,
  ⟨0x0B31, .error, some ((.cfx .a1), 5)⟩,
  ⟨0x0C10, .notice, some (.sch, 0)⟩,
  ⟨0x0C11, .error, some (.sch, 1)⟩,
  ⟨0x0C12, .notice, some (.sch, 2)⟩,
  ⟨0x0C20, .error, some (.sch, 3)⟩,
  ⟨0x0C21, .notice, some (.sch, 4)⟩,
  ⟨0x0D10, .notice, some (.zmg, 0)⟩,
  ⟨0x0D11, .critical, some (.zmg, 1)⟩,
  ⟨0x0D20, .notice, some (.zmg, 2)⟩]

/-- Event codes, severities and sticky bits, part 5 (R985). -/
def eventTable5 : List EventInfo := [
  ⟨0x0D21, .notice, some (.zmg, 3)⟩,
  ⟨0x0D22, .critical, some (.zmg, 4)⟩,
  ⟨0x0D23, .error, some (.zmg, 5)⟩,
  ⟨0x0D24, .error, some (.zmg, 6)⟩,
  ⟨0x0D30, .error, some (.zmg, 7)⟩,
  ⟨0x0D31, .error, some (.zmg, 8)⟩,
  ⟨0x0D40, .notice, some (.zmg, 9)⟩,
  ⟨0x0D41, .error, some (.zmg, 10)⟩,
  ⟨0x0D42, .notice, some (.zmg, 11)⟩,
  ⟨0x0D43, .error, some (.zmg, 12)⟩,
  ⟨0x0E10, .info, some (.bcm, 0)⟩,
  ⟨0x0E11, .critical, some (.bcm, 1)⟩,
  ⟨0x0E12, .critical, some (.bcm, 2)⟩,
  ⟨0x0E20, .notice, some (.bcm, 3)⟩,
  ⟨0x0E21, .notice, some (.bcm, 3)⟩,
  ⟨0x0E22, .error, some (.bcm, 4)⟩,
  ⟨0x0E23, .notice, some (.bcm, 5)⟩,
  ⟨0x0E24, .error, some (.bcm, 6)⟩,
  ⟨0x0E31, .info, some (.bcm, 7)⟩,
  ⟨0x0E40, .notice, some (.bcm, 8)⟩,
  ⟨0x0E41, .error, some (.bcm, 9)⟩,
  ⟨0x0F10, .notice, some (.vlt, 0)⟩,
  ⟨0x0F11, .notice, some (.vlt, 0)⟩,
  ⟨0x0F20, .notice, some (.vlt, 1)⟩,
  ⟨0x0F21, .error, some (.vlt, 1)⟩,
  ⟨0x0F30, .info, some (.vlt, 2)⟩,
  ⟨0x0F40, .error, some (.vlt, 3)⟩,
  ⟨0x0F41, .error, some (.vlt, 4)⟩,
  ⟨0x0F42, .critical, some (.vlt, 5)⟩,
  ⟨0x0F43, .notice, some (.vlt, 6)⟩,
  ⟨0x0F50, .error, some (.vlt, 7)⟩,
  ⟨0x0F51, .notice, some (.vlt, 8)⟩,
  ⟨0x0F60, .error, some (.vlt, 9)⟩,
  ⟨0x1010, .critical, some (.fe, 0)⟩,
  ⟨0x1011, .notice, some (.fe, 1)⟩,
  ⟨0x1012, .notice, some (.fe, 2)⟩,
  ⟨0x1020, .error, some (.fe, 3)⟩,
  ⟨0x1021, .error, some (.fe, 4)⟩,
  ⟨0x1030, .notice, some (.fe, 5)⟩,
  ⟨0x1031, .error, some (.fe, 6)⟩]

/-- Event codes, severities and sticky bits, part 6 (R985). -/
def eventTable6 : List EventInfo := [
  ⟨0x1040, .critical, some (.fe, 7)⟩,
  ⟨0x1110, .error, some (.dsv, 0)⟩,
  ⟨0x1111, .error, some (.dsv, 0)⟩,
  ⟨0x1120, .notice, some (.dsv, 1)⟩,
  ⟨0x1121, .notice, some (.dsv, 2)⟩,
  ⟨0x1122, .notice, some (.dsv, 3)⟩,
  ⟨0x1130, .critical, some (.dsv, 4)⟩,
  ⟨0x1140, .error, some (.dsv, 5)⟩,
  ⟨0x1141, .notice, some (.dsv, 5)⟩,
  ⟨0x1142, .error, some (.dsv, 6)⟩,
  ⟨0x1143, .critical, some (.dsv, 6)⟩,
  ⟨0x1144, .notice, some (.dsv, 7)⟩,
  ⟨0x1145, .error, some (.dsv, 7)⟩,
  ⟨0x1146, .error, some (.dsv, 8)⟩,
  ⟨0x1148, .critical, some (.dsv, 9)⟩,
  ⟨0x1201, .notice, some (.evr, 0)⟩,
  ⟨0x1202, .notice, some (.evr, 1)⟩,
  ⟨0x1210, .error, some (.evr, 2)⟩,
  ⟨0x1211, .notice, some (.evr, 3)⟩,
  ⟨0x1220, .notice, some (.evr, 4)⟩,
  ⟨0x1230, .notice, some (.evr, 5)⟩,
  ⟨0x1240, .notice, some (.evr, 6)⟩,
  ⟨0x1310, .info, some (.cal, 0)⟩,
  ⟨0x1311, .info, none⟩,
  ⟨0x1320, .error, some (.cal, 1)⟩,
  ⟨0x1321, .notice, some (.cal, 2)⟩,
  ⟨0x1322, .error, some (.cal, 3)⟩,
  ⟨0x1323, .info, some (.cal, 4)⟩,
  ⟨0x1401, .info, some (.prt, 0)⟩,
  ⟨0x1402, .notice, some (.prt, 1)⟩,
  ⟨0x1403, .error, some (.prt, 2)⟩,
  ⟨0x1410, .notice, some (.prt, 3)⟩,
  ⟨0x1411, .error, some (.prt, 4)⟩,
  ⟨0x1420, .notice, some (.prt, 5)⟩,
  ⟨0x1421, .notice, some (.prt, 6)⟩,
  ⟨0x1430, .critical, none⟩]

/-- Every event code of the manual (R985). -/
def eventTable : List EventInfo := eventTable1 ++ eventTable2 ++ eventTable3 ++ eventTable4 ++ eventTable5 ++ eventTable6

/-- What the manual says of an event code (R985); no other code is reported. -/
def eventInfo (code : Nat) : Option EventInfo := eventTable.find? (fun e => e.code == code)

end Sys2Proof.Machine
end

