-- ==== Sys2Proof/Machine/StateCal.lean ====
section
/-! DEFINITION. State of calibration (spec/10_calibration.md). -/

namespace Sys2Proof.Machine

/-- A calibration run: one kind on one head and region, or one channel (R520). -/
structure CalJob where
  /-- kind, 0 to 4; 10 Table 10-1 -/
  kind : Nat
  /-- DH, or the channel for ADC_SKEW; 10 R520 -/
  dh : Nat
  /-- head number, 0 for ADC_SKEW; 10 R520 -/
  head : Nat
  /-- region, 0 for ADC_SKEW; 10 R520 -/
  region : Nat
  /-- a forced run; 10 R518 -/
  forced : Bool
  deriving DecidableEq, Repr

/-- One entry of the CAL_RUN queue of an actuator (Table 10-5). -/
structure CalReq where
  /-- the request -/
  req : Hdr
  /-- kind, 0 to 4 -/
  kind : Nat
  /-- IMMEDIATE -/
  immediate : Bool
  /-- runs it still waits for: DH or channel, and region -/
  left : List (Nat × Nat)
  deriving DecidableEq, Repr

/-- Regions of one kind and head that are due (R515, R521). -/
structure CalDue where
  /-- regions that have not completed a run -/
  left : List Nat := []
  /-- every region became due: the baseline follows when all have run -/
  full : Bool := false
  deriving DecidableEq, Repr

/-- A run in progress (R520, R531). -/
structure CalRun where
  /-- what is calibrated; 10 R520 -/
  job : CalJob
  /-- a slice is open; 10 R524 -/
  inSlice : Bool := true
  /-- the value at the starting code has been measured; 10 R531 -/
  started : Bool := false
  /-- index of the tap, 0 first; 10 R536 R537 -/
  tap : Nat := 0
  /-- starting code of the tap; 10 R531 -/
  x0 : Int := 0
  /-- code being measured; 10 R531 -/
  x : Int := 0
  /-- best code so far; 10 R531 -/
  best : Int := 0
  /-- its measurement, smaller is better; 10 R531 -/
  bestM : Int := 0
  /-- the signed value measured there; 10 Table 10-4 -/
  bestV : Int := 0
  /-- previous measurement; 10 R531 -/
  prev : Int := 0
  /-- direction, 1 or −1; 10 R531 -/
  dir : Int := 1
  /-- steps of this tap; 10 R531 -/
  n : Nat := 0
  /-- consecutive worsening steps; 10 R531 -/
  worse : Nat := 0
  /-- the tap has reversed, or may not; 10 R531 R534 -/
  reversed : Bool := false
  /-- value at the start of the run; 10 Table 10-4 -/
  firstV : Int := 0
  /-- largest residual over the taps done; 10 Table 10-4 -/
  worst : Int := 0
  /-- its tap, 1 first; 10 Table 10-4 -/
  worstTap : Nat := 0
  /-- a step has been repeated after a write inhibit; 10 R539 -/
  repeated : Bool := false
  /-- ACTn.STEPS; 8 bits; 10 Table 10-11 -/
  steps : BitVec 8 := 0
  /-- ACTn.SLICES; 8 bits; 10 Table 10-11 -/
  slices : BitVec 8 := 1
  /-- time of the present slice, µs; 10 R524 -/
  sliceUs : Nat := 0
  /-- slice time of the run, µs; 10 R529 -/
  totalUs : Nat := 0
  /-- records it adjusts as they stood in force before it: type, key, value if any; 10 R543 -/
  saved : List (Nat × List Byte × Option (List Byte)) := []
  deriving DecidableEq, Repr

/-- Calibration of one actuator. -/
structure CalAct where
  /-- entries of CAL_RUN, at most 16; 10 Table 10-5; reset none -/
  queue : List CalReq := []
  /-- run in progress; 10 R520; reset none -/
  run : Option CalRun := none
  /-- STATUS.PREEMPTn; 1 bit; 10 R526; reset 0 -/
  preempt : Bool := false
  /-- the GAP_MS of host service runs; 1 bit; 10 R526; reset 0 -/
  gap : Bool := false
  deriving DecidableEq, Repr

/-- The baseline and the last result of one kind and head or channel (Table 10-9, R521, R543, R546). -/
structure CalBase where
  /-- TEMP, signed, 0.1 °C, none before the first baseline; 16 bits -/
  temp : Option (BitVec 16) := none
  /-- FIGURE; 16 bits -/
  figure : BitVec 16 := 0
  /-- RESID; 16 bits -/
  resid : BitVec 16 := 0
  /-- FLAGS.FAILED -/
  failed : Bool := false
  /-- FLAGS.DIR: falling -/
  falling : Bool := false
  /-- OPSEC; 40 bits -/
  opsec : BitVec 40 := 0
  deriving DecidableEq, Repr

/-- Block CAL (spec/10_calibration.md). -/
structure Cal where
  /-- CTRL.PAUSE; 1 bit; 10 Table 10-11; reset 0 -/
  pause : Bool := false
  /-- what is due, sparse by 64 × kind + DH; DUE0 to DUE4 show it; 10 R515 R521; reset none -/
  due : List (Nat × CalDue) := []
  /-- DIETEMP, signed, 0.1 °C; 16 bits each; 10 Table 10-11; reset 0 -/
  dieTemp : Pair (BitVec 16) := ⟨0, 0⟩
  /-- mean of the last second's HDA temperature readings, signed, 0.1 °C; 16 bits each; 10 R514; reset none -/
  hdaMean : Pair (Option (BitVec 16)) := ⟨none, none⟩
  /-- RESSEL.KIND; 3 bits; 10 Table 10-11; reset 0 -/
  resKind : BitVec 3 := 0
  /-- RESSEL.DH; 5 bits; 10 Table 10-11; reset 0 -/
  resDh : BitVec 5 := 0
  /-- thresholds set by CAL_SET_TRIGGER, by kind; 10 Table 10-5; reset none -/
  trigger : List (Nat × Nat) := []
  /-- baselines and results of record 0x1381, sparse by 64 × kind + DH; 10 R514 R546; reset none -/
  base : List (Nat × CalBase) := []
  /-- kinds and heads whose runs are forced under R83, by 64 × kind + DH; 10 R518; reset none -/
  forced : List Nat := []
  /-- DIR of the last run, 64 × (64 × kind + DH) + region, those falling; 10 R531; reset none -/
  falling : List Nat := []
  /-- status of each CAL_RUN request in progress so far; 10 Table 10-5; reset none -/
  reqs : List (Hdr × Nat) := []
  /-- per actuator: queue, run, preemption -/
  act : Pair CalAct := .both {}
  /-- RUNCNT; 64 bits and flag; 10 Table 10-10; reset 0 -/
  runCnt : Counter := .zero
  /-- FAILCNT; 64 bits and flag; 10 Table 10-10; reset 0 -/
  failCnt : Counter := .zero
  deriving DecidableEq, Repr

end Sys2Proof.Machine
end

