-- ==== Sys2Proof/Machine/StateHead.lean ====
section
/-! DEFINITION. State of the head interface units and of the preamps on the arms (spec/08_heads_and_assist.md). -/

namespace Sys2Proof.Machine

/-- Lifetime counters of one data head (Table 8-5, R447). -/
structure Life where
  /-- AST_TIME, µs; 64 bits and flag; 08 Table 8-5 -/
  astTime : Counter := .zero
  /-- AST_CHARGE, µC; 64 bits and flag; 08 Table 8-5 -/
  astCharge : Counter := .zero
  /-- WR_TIME, µs; 64 bits and flag; 08 Table 8-5 -/
  wrTime : Counter := .zero
  /-- HTR_ENERGY, mJ; 64 bits and flag; 08 Table 8-5 -/
  htrEnergy : Counter := .zero
  /-- event 0x40 reported; 08 R449 -/
  warned : Bool := false
  /-- event 0x41 reported; 08 R449 -/
  reached : Bool := false
  deriving DecidableEq, Repr

/-- The preamp of one actuator (Table 8-3, R420, R421). -/
structure Preamp where
  /-- ID: PROFILE, KIND, revision; 16 bits; 08 Table 8-3; reset: profile 1, laser, revision 0 (DESIGN CHOICE, log entry 12) -/
  id : BitVec 16 := 0x0110
  /-- SEL; 4 bits; 08 Table 8-3; reset 0xF -/
  sel : BitVec 4 := 0xF
  /-- CTRL: HBOOST, HEAT_EN, ASSIST_EN, WRITE_EN in bits 3 to 0; 16 bits; 08 Table 8-3; reset 0 -/
  ctrl : BitVec 16 := 0
  /-- STATUS; 8 bits W1C; 08 Table 8-3; reset 0 -/
  status : BitVec 8 := 0
  /-- TEMP, signed, 0.25 °C; 16 bits; 08 Table 8-3 R1033; reset not stated: 0 (DESIGN CHOICE, log entry 12) -/
  temp : BitVec 16 := 0
  /-- AST_MEAS; 10 bits; 08 Table 8-3; reset 0 -/
  astMeas : BitVec 16 := 0
  /-- AST_VMEAS; 16 bits; 08 Table 8-3; reset 0 -/
  astVmeas : BitVec 16 := 0
  /-- ILIM; 10 bits; 08 Table 8-3; reset 0 -/
  ilim : BitVec 16 := 0
  /-- OT_LIMIT; 8 bits; 08 Table 8-3; reset 0 -/
  otLimit : BitVec 16 := 0
  /-- the seven registers 0x10 to 0x16 of pages 0 to 11, sparse by 16 × page + register − 0x10; 16 bits each; 08 Table 8-3; reset 0 -/
  pages : List (Nat × BitVec 16) := []
  deriving DecidableEq, Repr

/-- What the writer's gate shows between request and drive (R431, R436). -/
inductive GateReq where
  | closed
  /-- requested and driven -/
  | driven
  /-- requested, held low until the sequencer closes and opens it again -/
  | withheld
  deriving DecidableEq, Repr

/-- Block HIFn (spec/08_heads_and_assist.md). -/
structure Hif where
  /-- STATUS.WGATE; 1 bit; 08 Table 8-8; reset 0 -/
  wgate : Bool := false
  /-- STATUS.AGATE; 1 bit; 08 Table 8-8; reset 0 -/
  agate : Bool := false
  /-- STATUS.PROFILE_OK; 1 bit; 08 Table 8-8 R423; reset 0 -/
  profileOk : Bool := false
  /-- STATUS.HBOOST; 1 bit; 08 Table 8-8; reset 0 -/
  hboost : Bool := false
  /-- STATUS.WUS_IN; 1 bit; 08 Table 8-8 R432; reset 0 -/
  wusIn : Bool := false
  /-- STATUS.INHIBIT; 1 bit; 08 Table 8-8 R435; reset 0 -/
  inhibit : Bool := false
  /-- STATUS.REGION; 6 bits; 08 Table 8-8; reset 0 -/
  region : BitVec 6 := 0
  /-- STATUS.SEL_HEAD; 4 bits; 08 Table 8-8; reset 0xF -/
  selHead : BitVec 4 := 0xF
  /-- STATUS.HEATER_READY; 1 bit; 08 Table 8-8 R429; reset 0 -/
  heaterReady : Bool := false
  /-- STATUS.OT_CUT; 1 bit; 08 Table 8-8 R441; reset 0 -/
  otCut : Bool := false
  /-- write gate as the sequencer asks for it; 08 R431 R436; reset closed -/
  gateReq : GateReq := .closed
  /-- assist gate as the sequencer asks for it; 08 R441; reset 0 -/
  agReq : Bool := false
  /-- ticks for which AGATE has been high; 08 R431; reset 0 -/
  agTicks : Nat := 0
  /-- ticks for which WGATE has been high; 08 R447; reset 0 -/
  wgTicks : Nat := 0
  /-- ticks not yet counted with AGATE high and ASSIST_EN at 1, before WGATE first fell; 08 R421 R447; reset 0 -/
  astTicks : Nat := 0
  /-- ticks not yet counted with AGATE high and ASSIST_EN at 1, after WGATE first fell; 08 R421 R447; reset 0 -/
  gapTicks : Nat := 0
  /-- WGATE has fallen since AGATE rose; 1 bit; 08 R421; reset 0 -/
  wgFell : Bool := false
  /-- heater energy not yet counted, 1/1,023 mJ; 08 R422 R447; reset 0 -/
  htrRem : Nat := 0
  /-- event 0x23 reported in the present track operation; 08 R431; reset 0 -/
  shortReported : Bool := false
  /-- PREHEAT_SHORT signalled to the sequencer and not yet taken; 08 R431; reset 0 -/
  preheatShort : Bool := false
  /-- write-unsafe of R416 by page, in order of failure; 08 R416; reset none -/
  wusPages : List Nat := []
  /-- write-unsafe from loss of lock of CLK_CHn; 03 R161; reset 0 -/
  wusClk : Bool := false
  /-- failure flag for the HEAD or REGION instruction that a frame served; 08 R416; reset 0 -/
  selFailed : Bool := false
  /-- PATEMP.PA_STATUS; 8 bits; 08 Table 8-10; reset 0 -/
  paStatus : BitVec 8 := 0
  /-- PATEMP.TEMP; 16 bits; 08 Table 8-10; reset 0 -/
  paTemp : BitVec 16 := 0
  /-- ASTMEAS.VMEAS; 16 bits; 08 Table 8-10; reset 0 -/
  vmeas : BitVec 16 := 0
  /-- ASTMEAS.IMEAS; 10 bits; 08 Table 8-10; reset 0 -/
  imeas : BitVec 10 := 0
  /-- LEAD.LEADTICKS; 16 bits; 08 Table 8-10 R430; reset 0 -/
  leadTicks : BitVec 16 := 0
  /-- ASTFAULT.OC_HEAD, bit h for head h; 12 bits; 08 Table 8-10 R443; reset 0 -/
  astFault : BitVec 12 := 0
  /-- HBCTL.RW; 1 bit; 08 Table 8-10; reset 0 -/
  hbRw : Bool := false
  /-- HBCTL.PAGE; 4 bits; 08 Table 8-10; reset 0 -/
  hbPage : BitVec 4 := 0
  /-- HBCTL.ADDR; 7 bits; 08 Table 8-10; reset 0 -/
  hbAddr : BitVec 7 := 0
  /-- HBCTL.DONE; 1 bit; 08 Table 8-10; reset 0 -/
  hbDone : Bool := false
  /-- HBCTL.ACK; 2 bits; 08 Table 8-10; reset 0b00 -/
  hbAck : BitVec 2 := 0
  /-- HB_DAT during the last frame, START to the idle bit; 27 or 28 bits and 16 per word; 08 R413; reset none sent -/
  line : List Bool := []
  /-- HBDATA.DATA; 16 bits; 08 Table 8-10; reset 0 -/
  hbData : BitVec 16 := 0
  /-- LIFESEL.COUNTER; 2 bits; 08 Table 8-10; reset 0 -/
  lifeCnt : BitVec 2 := 0
  /-- LIFESEL.HEAD; 4 bits; 08 Table 8-10; reset 1 -/
  lifeHead : BitVec 4 := 1
  /-- INHCNT; 64 bits and flag; 08 R437; reset 0 -/
  inhCnt : Counter := .zero
  /-- HBERRCNT; 64 bits and flag; 08 Table 8-7; reset 0 -/
  hbErr : Counter := .zero
  /-- lifetime counters of heads 1 to 11, which persist on the HDA; 64 bits and flag each; 08 R447 R448; reset 0 (DESIGN CHOICE, log entry 2) -/
  life : List Life := List.replicate 11 {}
  deriving DecidableEq, Repr

end Sys2Proof.Machine
end

