-- ==== Sys2Proof/Machine/StateMedia.lean ====
section
/-! DEFINITION. State of the read/write channels (spec/09) and of the disk sequencers (spec/11). -/

namespace Sys2Proof.Machine

/-- One sector whose gate has opened and whose result the sequencer has not yet taken (R487 to R493). -/
structure Sec where
  /-- index of its descriptor; 11 R574 -/
  desc : Nat
  /-- a write sector; 11 R576 -/
  write : Bool
  /-- sector of a verify read; 09 R498 -/
  verify : Bool
  /-- track, slot, head and region; 12 Table 12-6 -/
  track : BitVec 24
  slot : BitVec 16
  head : Nat
  region : Nat
  /-- split index; 09 R474 -/
  s : BitVec 16
  /-- ladder step in force at its gate; 09 R494 11 R572 -/
  step : Nat
  /-- store slot, none when all four were occupied; 09 R490 -/
  store : Option Nat
  /-- framing, once decided, with the signed slip; 09 R483 -/
  sync : Option (SyncKind × Int)
  /-- payload of a write sector; 11 R575 -/
  payload : Option Payload
  /-- TAG supplied by the sequencer; 09 R487 -/
  tag : BitVec 64
  /-- its result word, once delivered; 09 R492 -/
  result : Option (BitVec 32)
  /-- data read, once decoded; 09 R487 -/
  data : Option Payload
  deriving DecidableEq, Repr

/-- Metrics of one head and region (R506). -/
structure Met where
  /-- sectors decoded; 64 bits -/
  secs : Counter := .zero
  /-- sum of iterations; 64 bits -/
  iters : Counter := .zero
  /-- sum of the sectors' mean squared errors -/
  mse : Nat := 0
  deriving DecidableEq, Repr

/-- Block CHn (spec/09_read_write_channel.md). -/
structure Chan where
  /-- region table RAM by 64 × head + region, each the value of record 0xn02, sparse; 160 B; 09 R466 R467; reset none -/
  ram : List (Nat × List Byte) := []
  /-- slice trims of readers 0 and 1, the value of record 0xn03; 20 B each; 09 R467 R510; reset none -/
  trims : Pair (List Byte) := ⟨[], []⟩
  /-- entry in the active stages; 160 B; 09 R468; reset none -/
  active : List Byte := []
  /-- STATUS.HEAD; 4 bits; 09 Table 9-13; reset 0 -/
  head : BitVec 4 := 0
  /-- STATUS.REGION; 6 bits; 09 Table 9-13; reset 0 -/
  region : BitVec 6 := 0
  /-- STATUS.REGION_PEND, with the head and region; 1 bit; 09 R469; reset 0 -/
  pend : Option (Nat × Nat) := none
  /-- STATUS.READ; 1 bit; 09 Table 9-13; reset 0 -/
  read : Bool := false
  /-- STATUS.WRITE; 1 bit; 09 Table 9-13; reset 0 -/
  write : Bool := false
  /-- STATUS.ACQ; 1 bit; 09 Table 9-13 R461; reset 0 -/
  acq : Bool := false
  /-- STATUS.TRACKING; 1 bit; 09 Table 9-13 R461; reset 0 -/
  tracking : Bool := false
  /-- STATUS.SPLIT; 1 bit; 09 Table 9-13; reset 0 -/
  split : Bool := false
  /-- ticks since the gate of the sector in progress opened; 09 R501 R502 Table 9-2; reset 0 -/
  age : Nat := 0
  /-- ticks after that opening at which the field slot of the sector's split begins and ends, none without a split; 09 R474 R502; reset none -/
  gap : Option (Nat × Nat) := none
  /-- shifts of a transition, 1/64 bit, by its neighbours, from the taps in force; 6 bits each; 09 R503; reset none loaded -/
  shifts : List Int := []
  /-- STATUS.TR_LOST; 1 bit; 09 R464; reset 0 -/
  trLost : Bool := false
  /-- STATUS.REPLAY; 1 bit; 09 R484; reset 0 -/
  replay : Bool := false
  /-- SYNCCFG.BG_TOL; 3 bits; 09 Table 9-15; reset 3 -/
  bgTol : BitVec 3 := 3
  /-- SYNCCFG.PN_TOL; 3 bits; 09 Table 9-15; reset 3 -/
  pnTol : BitVec 3 := 3
  /-- DECCFG.LDPC_ITER_EXT; 8 bits; 09 Table 9-15; reset 40 -/
  iterExt : BitVec 8 := 40
  /-- DECCFG.DET_ITER_EXT; 4 bits; 09 Table 9-15; reset 6 -/
  detExt : BitVec 4 := 6
  /-- DECCFG.DET_ITER; 4 bits; 09 Table 9-15; reset 2 -/
  det : BitVec 4 := 2
  /-- DECCFG.LDPC_ITER; 8 bits; 09 Table 9-15; reset 12 -/
  iter : BitVec 8 := 12
  /-- DECCFG.MU; 4 bits; 09 Table 9-15; reset 10 -/
  mu : BitVec 4 := 10
  /-- DECCFG.ADAPT: EQ, TGT, NP, WRITEBACK in bits 0 to 3; 4 bits; 09 Table 9-15; reset 0xF -/
  adapt : BitVec 4 := 0xF
  /-- RETRY.STEP; 4 bits; 09 Table 9-15; reset 0 -/
  step : BitVec 4 := 0
  /-- LASTSEC; 32 bits; 09 Table 9-15 R492; reset 0 -/
  lastSec : Reg := 0
  /-- TIMING.FOFS; 16 bits; 09 Table 9-15; reset 0 -/
  fofs : BitVec 16 := 0
  /-- TIMING.PHERR; 16 bits; 09 Table 9-15; reset 0 -/
  phErr : BitVec 16 := 0
  /-- GAIN, reader 1 high; 32 bits; 09 Table 9-15; reset 0 -/
  gains : BitVec 32 := 0
  /-- TARGET.G1; 16 bits; 09 Table 9-15; reset 0 -/
  g1 : BitVec 16 := 0
  /-- TARGET.G2; 16 bits; 09 Table 9-15; reset 0 -/
  g2 : BitVec 16 := 0
  /-- EQTAP, reader 0 taps 0 to 15, then reader 1; 32 × 16 bits; 09 Table 9-12; reset 0 -/
  eqTaps : List (BitVec 16) := List.replicate 32 0
  /-- noise predictors in force, 16 patterns of 4 B; 64 B; 09 Table 9-11; reset 0 -/
  np : List Byte := List.replicate 64 0
  /-- a capture is armed (STATUS.CAPTURE_PEND), with the request that asked for it; 09 R507; reset none -/
  capture : Option Hdr := none
  /-- CAPCTL.TRIG; 2 bits; 09 Table 9-15; reset 0b00 -/
  capTrig : BitVec 2 := 0
  /-- CAPCTL.DONE; 1 bit; 09 Table 9-15; reset 0 -/
  capDone : Bool := false
  /-- CAPCTL.TICK; 16 bits; 09 Table 9-15; reset 0 -/
  capTick : BitVec 16 := 0
  /-- sample buffers of both readers, 4,096 samples each; 09 Table 9-1 R507; reset none captured -/
  samples : List Byte := []
  /-- METSEL.REGION; 6 bits; 09 Table 9-15; reset 0 -/
  metRegion : BitVec 6 := 0
  /-- METSEL.HEAD; 4 bits; 09 Table 9-15; reset 1 -/
  metHead : BitVec 4 := 1
  /-- metrics by 64 × head + region, sparse; 09 R506; reset none -/
  mets : List (Nat × Met) := []
  /-- metrics of heads under calibration as they were before it, by 64 × head + region; 09 R508; reset none -/
  held : List (Nat × Met) := []
  /-- sectors whose results are outstanding, oldest first; 09 R491; reset none -/
  secs : List Sec := []
  /-- event 0x30 reported in the present track operation; 09 R459; reset 0 -/
  clampReported : Bool := false
  /-- SECCNT; 64 bits and flag; 09 Table 9-12; reset 0 -/
  secCnt : Counter := .zero
  /-- BURGEECNT; 64 bits and flag; 09 Table 9-12; reset 0 -/
  burgeeCnt : Counter := .zero
  /-- SLIPCNT; 64 bits and flag; 09 Table 9-12; reset 0 -/
  slipCnt : Counter := .zero
  /-- MISSCNT; 64 bits and flag; 09 Table 9-12; reset 0 -/
  missCnt : Counter := .zero
  /-- FAILCNT; 64 bits and flag; 09 Table 9-12; reset 0 -/
  failCnt : Counter := .zero
  /-- UNRECCNT; 64 bits and flag; 09 Table 9-12; reset 0 -/
  unrecCnt : Counter := .zero
  /-- CORRBITS; 64 bits and flag; 09 Table 9-12; reset 0 -/
  corrBits : Counter := .zero
  /-- RAMCORR; 64 bits and flag; 09 R470; reset 0 -/
  ramCorr : Counter := .zero
  deriving DecidableEq, Repr

/-- CFXn.STATUS.STATE (Table 11-15). -/
inductive CfxRun where
  | halted | running | stopping | loading
  deriving DecidableEq, Repr

/-- The code of STATE. -/
def CfxRun.code : CfxRun → Nat
  | .halted => 0 | .running => 1 | .stopping => 2 | .loading => 3

/-- Why a word stalls (R555, Table 11-7). -/
inductive Stall where
  /-- WAIT: ticks that the word occupies in all -/
  | wait (ticks : Nat)
  /-- WAITEV: SENSE, SEL and TARGET -/
  | event (sense : Bool) (sel : Nat) (target : BitVec 12)
  /-- HEAD or REGION -/
  | select
  /-- ONTRACK: W -/
  | onTrack (w : Bool)
  /-- DECRES: destination -/
  | result (reg : Nat)
  /-- ALIGN: RECORD -/
  | field (record : Bool)
  /-- PREHEAT -/
  | preheat
  deriving DecidableEq, Repr

/-- One row of the control store: its data, and its check bits when a test write gave them (R551, R599). -/
structure Row where
  data : BitVec 32
  chk : Option (BitVec 7)
  deriving DecidableEq, Repr

/-- A remap register (Table 11-15). -/
structure Remap where
  valid : Bool
  row : BitVec 12
  deriving DecidableEq, Repr

/-- The fill word of R597. -/
def fillWord : BitVec 32 := 0x20000001

/-- Block CFXn (spec/11_disk_sequencer.md). -/
structure Cfx where
  /-- PC; 12 bits; 11 Table 11-1; reset 0 -/
  pc : BitVec 12 := 0
  /-- C0 to C7; 24 bits each; 11 Table 11-1; reset 0 -/
  c : List (BitVec 24) := List.replicate 8 0
  /-- FLAGS, bit per SEL 0 to 23; 24 bits; 11 Table 11-5; reset 0 -/
  flags : BitVec 24 := 0
  /-- return stack, top first, at most four; 12 bits each; 11 Table 11-1; reset empty -/
  stack : List (BitVec 12) := []
  /-- dispatch table, 16 entries, none when unused; 12 bits each; 11 Table 11-1; reset none -/
  dispatch : List (Option (BitVec 12)) := List.replicate 16 none
  /-- TPOS; 24 bits; 11 Table 11-1; reset 0 -/
  tpos : BitVec 24 := 0
  /-- STATUS.ANCHORED; 1 bit; 11 R562 R563; reset 0 -/
  anchored : Bool := false
  /-- TPOS.FIELD; 7 bits; 11 Table 11-15; reset 0 -/
  field : BitVec 7 := 0
  /-- current descriptor; index or none; 11 Table 11-1; reset none -/
  cur : Option Nat := none
  /-- scan in force takes only FAILED descriptors; 1 bit; 11 R575; reset 0 -/
  scanFailed : Bool := false
  /-- index at which FETCH NEXT continues; 11 R575; reset 0 -/
  scanAt : Nat := 0
  /-- descriptor of the latest DECRES result and its word, until XFER acts on it; 11 R574; reset none -/
  latest : Option (Nat × BitVec 32 × Option Payload) := none
  /-- STATUS.STATE; 3 bits; 11 Table 11-15; reset 0 HALTED -/
  run : CfxRun := .halted
  /-- operation in progress; 11 Table 11-2; reset none -/
  op : Option TrackOp := none
  /-- mailbox, one deep; 11 R558; reset empty -/
  mailbox : Option TrackOp := none
  /-- STATUS.OP, which holds the last dispatch index; 4 bits; 11 Table 11-15; reset 0 -/
  opIdx : BitVec 4 := 0
  /-- STATUS.IRQ; 1 bit W1C; 11 Table 11-15; reset 0 -/
  irq : Bool := false
  /-- GATES: HB, SG, AG, WG, RG in bits 4 to 0; 5 bits; 11 Table 11-15; reset 0 -/
  gates : BitVec 5 := 0
  /-- COUNT timers of HB, AG and RG, ticks, none when not running; 12 bits each; 11 R578; reset none -/
  timers : List (Option Nat) := [none, none, none]
  /-- the word in force stalls; 11 R555; reset none -/
  stall : Option Stall := none
  /-- ticks that the stalling word has occupied; 11 R555; reset 0 -/
  stallTicks : Nat := 0
  /-- STOP_RUN runs; 1 bit; 11 R586 R587; reset 0 -/
  stopRun : Bool := false
  /-- a trap has occurred and the write gate is still open: halt with TRAPPED when it closes; 11 R585; reset none -/
  trapWait : Bool := false
  /-- payload of the current descriptor in the channel; 11 R575; reset none -/
  payload : Option Payload := none
  /-- CTRL.HOLD; 1 bit; 11 Table 11-15; reset 0 -/
  hold : Bool := false
  /-- OPSTAT.CODE; 8 bits; 11 Table 11-15; reset 0 -/
  statCode : BitVec 8 := 0
  /-- value posted by the last STAT; 24 bits; 11 R582; reset 0 -/
  statVal : BitVec 24 := 0
  /-- OPSTAT.KIND; 4 bits; 11 Table 11-15; reset 0 -/
  endKind : BitVec 4 := 0
  /-- OPSTAT.OP; 4 bits; 11 Table 11-15; reset 0 -/
  endOp : BitVec 4 := 0
  /-- OPSTAT.FAILED; 11 bits; 11 Table 11-15; reset 0 -/
  endFailed : BitVec 11 := 0
  /-- completion that the scheduler has not yet taken: operation and kind; 13 R669; reset none -/
  ended : Option (TrackOp × Nat) := none
  /-- TRAPINFO.CODE; 8 bits; 11 Table 11-15; reset 0 -/
  trapCode : BitVec 8 := 0
  /-- TRAPINFO.ADDR; 12 bits; 11 Table 11-15; reset 0 -/
  trapAddr : BitVec 12 := 0
  /-- SCRUB.LAP_US; 16 bits; 11 Table 11-15 R592; reset 0 -/
  lapUs : BitVec 16 := 0
  /-- rows corrected at their last scrub visit; 11 R593; reset none -/
  scrubCe : List Nat := []
  /-- STOREADDR.TEST; 1 bit; 11 Table 11-15; reset 0 -/
  test : Bool := false
  /-- STOREADDR.ROW; 13 bits; 11 Table 11-15; reset 0 -/
  rowSel : BitVec 13 := 0
  /-- STORECHK.CHECK to write; 7 bits; 11 Table 11-15; reset 0 -/
  chk : BitVec 7 := 0
  /-- MARK.CODE; 8 bits; 11 Table 11-15; reset 0 -/
  markCode : BitVec 8 := 0
  /-- MARK.TPOS; 24 bits; 11 Table 11-15; reset 0 -/
  markTpos : BitVec 24 := 0
  /-- what a row not listed in `store` holds: the fill word of R597 once an image is loaded; 32 bits and 7 check bits; 11 R597; reset: data and
  check bits 0, as STOREDATA and STORECHK reset in Table 11-15 (DEDUCED, log entry 30) -/
  blank : Row := ⟨0, some 0⟩
  /-- control store and spare rows 4,096 to 4,127, sparse; 32 bits and 7 check bits each; 11 R551; reset: no row listed -/
  store : List (Nat × Row) := []
  /-- REMAP0 to REMAP31; 11 Table 11-15; reset none valid -/
  remaps : List Remap := List.replicate 32 ⟨false, 0⟩
  /-- spare rows used, failed ones included; 32 bits mask; 11 R593; reset 0 -/
  sparesUsed : BitVec 32 := 0
  /-- VERSION of the image in force; 16 bits; 11 Table 11-11; reset 0 -/
  version : BitVec 16 := 0
  /-- OP_TMO, ms; 16 bits; 11 Table 11-11; reset 0 -/
  opTmo : BitVec 16 := 0
  /-- image loaded by CFX_LOAD, in force until the next module reset or STANDBY; 11 R603; reset none -/
  loadedImage : Option (List Byte) := none
  /-- a CFX_LOAD that waits for the sequencer to halt, with its payload; 11 R603; reset none -/
  loadReq : Option (Hdr × List Byte) := none
  /-- blocks mended in the last load; 11 R598; reset 0 -/
  mended : Nat := 0
  /-- ALIGN_MAP accumulation: per accepted measurement, field and error; 11 R580 10 R540; reset none -/
  fieldAcc : List (Nat × Int) := []
  /-- the selection in force has been made through HEAD or REGION: head and region; 11 R563; reset none -/
  sel : Option (Nat × Nat) := none
  /-- OPCNT; 64 bits and flag; 11 Table 11-14; reset 0 -/
  opCnt : Counter := .zero
  /-- TRAPCNT; 64 bits and flag; 11 Table 11-14; reset 0 -/
  trapCnt : Counter := .zero
  /-- CORRCNT; 64 bits and flag; 11 Table 11-14; reset 0 -/
  corrCnt : Counter := .zero
  deriving DecidableEq, Repr

end Sys2Proof.Machine
end

