-- ==== Sys2Proof/Machine/StatePower.lean ====
section
/-! DEFINITION. State of the power unit (spec/02) and of the clock and reset unit (spec/03). -/

namespace Sys2Proof.Machine

/-- Block PWR (spec/02_power_unit.md). -/
structure Pwr where
  /-- STATUS.INPUT_KIND; 2 bits; 02 Table 2-7 R101; reset none (0b00) -/
  kind : InputKind := .none
  /-- STATUS.INPUT_OK; 1 bit; 02 Table 2-7 R110; reset 0 -/
  inputOk : Bool := false
  /-- STATUS.INRUSH_BYPASS; 1 bit; 02 Table 2-7 R108 R109; reset 0 -/
  bypass : Bool := false
  /-- STATUS.PFC_ON; 1 bit; 02 Table 2-7 R102 R104; reset 0 -/
  pfcOn : Bool := false
  /-- PFC stopped by R104 over-voltage; 1 bit; 02 R104 R1046; reset 0 -/
  pfcHeldOv : Bool := false
  /-- STATUS.BULK_OK; 1 bit; 02 Table 2-7; reset 0 -/
  bulkOk : Bool := false
  /-- STATUS.LOSS; 1 bit; 02 Table 2-7 R111 R114; reset 0 -/
  loss : Bool := false
  /-- STATUS.LLC_ON; 1 bit; 02 Table 2-7 R112; reset 0 -/
  llcOn : Bool := false
  /-- STATUS.VMOT_OUT_EN; 1 bit; 02 Table 2-7 R133 R136; reset 0 -/
  vmotOutEn : Bool := false
  /-- STATUS.CHOP_FAULT; 1 bit; 02 Table 2-7 R142 R147; reset 0 -/
  chopFault : Bool := false
  /-- STATUS.OVP_ACTIVE; 1 bit; 02 Table 2-7 R133; reset 0 -/
  ovpActive : Bool := false
  /-- STATUS.HOLDUP_OK; 1 bit; 02 Table 2-7 R121; reset 0 -/
  holdupOk : Bool := false
  /-- STATUS.MEAS_VALID; 1 bit; 02 Table 2-7 R130 R131; reset 0 -/
  measValid : Bool := false
  /-- power-loss detection armed; 1 bit; 02 R112; reset 0 -/
  detArmed : Bool := false
  /-- cause byte of R117; 8 bits; 02 R117; reset 0 -/
  lossCause : BitVec 8 := 0
  /-- input outside the operating range, reported for this excursion; 1 bit; 02 R103; reset 0 -/
  excursion : Bool := false
  /-- VIN.FREQ; 16 bits; 02 Table 2-9; reset 0 -/
  freq : BitVec 16 := 0
  /-- VIN.VIN_PK, 0.1 V; 16 bits; 02 Table 2-9; reset 0 -/
  vinPk : BitVec 16 := 0
  /-- VBULK, 0.1 V; 16 bits; 02 Table 2-9; reset 0 -/
  vbulk : BitVec 16 := 0
  /-- VMOT.VMOT, 10 mV; 16 bits; 02 Table 2-9; reset 0 -/
  vmot : BitVec 16 := 0
  /-- VMOT.IMOT, mA; 16 bits; 02 Table 2-9; reset 0 -/
  imot : BitVec 16 := 0
  /-- BULKCAP.CAP, 0.1 µF; 16 bits; 02 Table 2-9 R126; reset 0 -/
  cap : BitVec 16 := 0
  /-- charge that the latest valid measurement integrated, µC; 16 bits; 02 R120 R126; reset 0 -/
  charge : BitVec 16 := 0
  /-- BULKCAP.E_USE, mJ; 16 bits; 02 Table 2-9 R126; reset 0 -/
  eUse : BitVec 16 := 0
  /-- HOLDUP.E_REQ, mJ; 16 bits; 02 Table 2-9 R119; reset 0 -/
  eReq : BitVec 16 := 0
  /-- HOLDUP.E_NEED, mJ; 16 bits; 02 Table 2-9; reset 0 -/
  eNeed : BitVec 16 := 0
  /-- PIN, mW; 24 bits; 02 Table 2-9; reset 0 -/
  pin : BitVec 24 := 0
  /-- bulk measurement running; 1 bit; 02 R126; reset 0 -/
  measuring : Bool := false
  /-- attempts abandoned in the present measurement, 0 to 3; 2 bits; 02 R130; reset 0 -/
  measTries : BitVec 2 := 0
  /-- BULKCAP of this power-up completed or failed; 1 bit; 02 R125 04 R216; reset 0 -/
  measDone : Bool := false
  /-- the present measurement was asked for by CAL_RUN; 1 bit; 02 R124 R131; reset 0 -/
  measByRun : Bool := false
  /-- energy in the thermal model of the brake resistor, µJ, which CHOPCTL.CHOP_E shows in 0.1 J; 02 Table 2-10 R138; reset 0 -/
  chopEnergy : Nat := 0
  /-- CHOPCTL.WITHHELD; 1 bit; 02 Table 2-10 R139; reset 0 -/
  withheld : Bool := false
  /-- CHOPCTL.CHOP_EN; 1 bit; 02 Table 2-10 R151; reset 1 -/
  chopEn : Bool := true
  /-- brake resistor switched across VMOT; 1 bit; 02 R132; reset 0 -/
  chopGated : Bool := false
  /-- groups whose rail is out of tolerance and that are to be reset on its return; 9 bits; 02 R152; reset 0 -/
  railPending : BitVec 9 := 0
  /-- a VAUX fault: the power-up sequence starts again on its return; 1 bit; 02 R152; reset 0 -/
  railRestart : Bool := false
  /-- a VAON fault: the power-up sequence starts again on its return; 1 bit; 02 R152; reset 0 -/
  aonRestart : Bool := false
  /-- 22 kΩ discharge connected across VBULK; 1 bit; 20 R1016; reset 0 -/
  discharge : Bool := false
  /-- ENERGY, mJ, kept over life; 64 bits and flag; 02 R1030; reset 0 (DESIGN CHOICE of a new module, log entry 3) -/
  energy : Counter := .zero
  /-- LOSSCNT, kept over life; 64 bits and flag; 02 R1030; reset 0 (DESIGN CHOICE of a new module, log entry 3) -/
  lossCnt : Counter := .zero
  /-- DROPCNT, kept over life; 64 bits and flag; 02 R1030 R116; reset 0 (DESIGN CHOICE of a new module, log entry 3) -/
  dropCnt : Counter := .zero
  deriving DecidableEq, Repr

/-- A clock of Table 3-1, or that of a port's PHY (R165). -/
inductive Clock where
  | core | fab | srv | ch (a : Act) | aon | phy (p : Act)
  deriving DecidableEq, Repr

/-- One clock crossing (spec/03 R165 to R195). -/
structure Crossing where
  /-- crossing number; 16 bits; 03 R165 18 Table 18-6; DIAG_CROSS_STATUS -/
  num : BitVec 16
  /-- owning reset group; 03 R188 -/
  owner : Group
  /-- reset group at the other end; 03 R188 R189 -/
  far : Group
  /-- clock of the source; 03 R165 R170 -/
  src : Clock
  /-- clock of the destination; 03 R165 R170 -/
  dst : Clock
  /-- source count, 8 bits, wraps; 03 R171 R175 -/
  count : BitVec 8 := 0
  /-- last count taken by the destination, 8 bits; 03 R171 -/
  last : BitVec 8 := 0
  /-- events that the last transfer delivered, 8 bits; 03 R171 -/
  delta : BitVec 8 := 0
  /-- transfer in flight: request launched, acknowledge not yet seen; 03 R169 -/
  busy : Bool := false
  /-- bundle held stable from request to acknowledge; 64 bits; 03 R167; DESIGN CHOICE of the width, log entry 11 -/
  bundle : BitVec 64 := 0
  /-- bundle as the destination sampled it last; 64 bits; 03 R167 -/
  taken : BitVec 64 := 0
  /-- TORN island; 03 R195 -/
  torn : Bool := false
  deriving DecidableEq, Repr

/-- A crossing from one group and clock to another: it belongs to whichever group comes first (R188). -/
def Crossing.between (num : Nat) (g : Group) (src : Clock) (h : Group) (dst : Clock) : Crossing :=
  if h.rank < g.rank then { num := BitVec.ofNat 16 num, owner := h, far := g, src := src, dst := dst }
  else { num := BitVec.ofNat 16 num, owner := g, far := h, src := src, dst := dst }

/-- Block CLK (spec/03_clocks_resets_crossings.md). -/
structure Clk where
  /-- STATUS.XTAL_OK; 1 bit; 03 Table 3-7 R162; reset 0 -/
  xtalOk : Bool := false
  /-- STATUS.AON_SRC; 1 bit; 03 Table 3-7 R162 R163; reset 0 -/
  aonSrc : Bool := false
  /-- STATUS.ROOT_LOCK; 1 bit; 03 Table 3-7 R155 R160; reset 0 -/
  rootLock : Bool := false
  /-- STATUS.HOLDOVER; 1 bit; 03 Table 3-7 R160; reset 0 -/
  holdover : Bool := false
  /-- STATUS.CH0_LOCK, CH1_LOCK; 1 bit each; 03 Table 3-7 R161; reset 0 -/
  chLock : Pair Bool := ⟨false, false⟩
  /-- CH0FREQ, CH1FREQ FREQ_KHZ; 22 bits each; 03 Table 3-9 R156; reset 0xF_4240 -/
  freqKhz : Pair (BitVec 22) := ⟨0xF4240#22, 0xF4240#22⟩
  /-- pending frequency while SETTLING; 22 bits each or none; 03 R157 R158; reset none -/
  freqPend : Pair (Option (BitVec 22)) := ⟨none, none⟩
  /-- RSTSTAT.RESET_SEEN; 9 bits; 03 Table 3-10; reset 0x1FF -/
  resetSeen : BitVec 9 := 0x1FF#9
  /-- RSTSTAT.IN_RESET; 9 bits; 03 Table 3-10; reset 0 -/
  inReset : BitVec 9 := 0
  /-- a reset of a group that waits for its retract (bits 7 and 8 of Table 3-4); 9 bits; 03 R181; reset 0 -/
  resetWait : BitVec 9 := 0
  /-- ISLAND.TORN; 9 bits; 03 Table 3-11 R195 R196; reset 0 -/
  torn : BitVec 9 := 0
  /-- XDROP; 64 bits and flag; 03 R193; reset 0 -/
  xdrop : Counter := .zero
  /-- LOLCNT; 64 bits and flag; 03 Table 3-6; reset 0 -/
  lolCnt : Counter := .zero
  /-- TORN of the island in the feed-forward path out of each actuator; 1 bit each; 03 R194 R195; reset 0 -/
  ffTorn : Pair Bool := ⟨false, false⟩
  /-- the crossings of the machine; 03 R165 R170 R188 R189; reset: the fifteen listed, counts 0 (which crossings there are and their numbers are DESIGN CHOICE, log entry 11) -/
  crossings : List Crossing := [
    .between 0 (.fe .a0) .core .fab .fab, .between 1 (.fe .a1) .core .fab .fab,
    .between 2 .fab .fab .aon .aon, .between 3 (.act .a0) (.ch .a0) .fab .fab, .between 4 (.act .a1) (.ch .a1) .fab .fab,
    .between 5 (.act .a0) (.ch .a0) (.act .a0) .srv, .between 6 (.act .a1) (.ch .a1) (.act .a1) .srv,
    .between 7 (.fe .a0) .core .aon .aon, .between 8 (.fe .a1) .core .aon .aon,
    .between 9 .spn .srv .fab .fab, .between 10 .spn .srv .aon .aon,
    .between 11 (.act .a0) .srv .fab .fab, .between 12 (.act .a1) .srv .fab .fab,
    .between 13 (.port .a0) (.phy .a0) .fab .fab, .between 14 (.port .a1) (.phy .a1) .fab .fab]
  deriving DecidableEq, Repr

end Sys2Proof.Machine
end

