-- ==== Sys2Proof/Machine/StateSpindle.lean ====
section
/-! DEFINITION. State of the spindle unit (spec/05_spindle.md). -/

namespace Sys2Proof.Machine

/-- The states of Table 5-1 (R267). -/
inductive SpnState where
  | stopped | catching | align | ramp | accel | run | lost | brake | coast
  deriving DecidableEq, Repr

/-- The code of SPN.STATUS.STATE. -/
def SpnState.code : SpnState → Nat
  | .stopped => 0 | .catching => 1 | .align => 2 | .ramp => 3 | .accel => 4 | .run => 5
  | .lost => 6 | .brake => 7 | .coast => 8

/-- What the bridge does (Table 5-1, R259, R289). -/
inductive Bridge where
  | off | floating | vector | step | regen | shorted
  deriving DecidableEq, Repr

/-- One breakpoint of a speed curve (R283, Table 5-4). -/
structure Breakpoint where
  demand : Nat
  ramp : Bool
  rpm : Nat
  deriving DecidableEq, Repr

/-- A speed curve: TURN_OFF and breakpoints in rising order of demand (R283). -/
structure Curve where
  turnOff : Nat
  bps : List Breakpoint
  deriving DecidableEq, Repr

/-- The default curve of Table 5-2 (R287). -/
def Curve.default : Curve := ⟨24, [⟨40, false, 3600⟩, ⟨128, false, 5400⟩, ⟨192, false, 7200⟩]⟩

/-- Current that the bridge drives into each phase, mA, negative out of it (R259, R260). -/
structure PhaseI where
  a : Int := 0
  b : Int := 0
  c : Int := 0
  deriving DecidableEq, Repr

/-- Block SPN (spec/05_spindle.md). -/
structure Spn where
  /-- STATUS.STATE; 4 bits; 05 Table 5-7 R267; reset 0 STOPPED -/
  st : SpnState := .stopped
  /-- the bridge; 05 R259 Table 5-1; reset all legs off -/
  bridge : Bridge := .off
  /-- STATUS.HALTED; 1 bit; 05 Table 5-7 R272 R274; reset 0 -/
  halted : Bool := false
  /-- STATUS.INDEX_ANCHORED; 1 bit; 05 Table 5-7 R301 R303; reset 0 -/
  anchored : Bool := false
  /-- STATUS.FLY_OK; 1 bit; 05 Table 5-7 R279; reset 0 -/
  flyOk : Bool := false
  /-- STATUS.AT_SPEED; 1 bit; 05 Table 5-7 R278; reset 0 -/
  atSpeed : Bool := false
  /-- STATUS.WUS, internal write-unsafe; 1 bit; 05 Table 5-7 R294; reset 0 -/
  wus : Bool := false
  /-- STATUS.SHORT_ONLY; 1 bit; 05 Table 5-7 R290; reset 0 -/
  shortOnly : Bool := false
  /-- STATUS.LISTEN; 1 bit; 05 Table 5-7 R295; reset 0 -/
  listen : Bool := false
  /-- write-unsafe held until the module reset under R300; 1 bit; 05 R300; reset 0 -/
  wusHeld : Bool := false
  /-- TARGET.DEMAND; 8 bits; 05 Table 5-9; reset 0 -/
  demand : BitVec 8 := 0
  /-- TARGET.TARGET_RPM; 16 bits; 05 Table 5-9; reset 0 -/
  targetRpm : BitVec 16 := 0
  /-- a target held until the heads are parked; 16 bits or none; 05 R281; reset none -/
  heldTarget : Option (BitVec 16) := none
  /-- SPEED, 0.01 rpm; 24 bits; 05 Table 5-9; reset 0 -/
  speed : BitVec 24 := 0
  /-- PERIOD.EPERIOD, CLK_SRV cycles; 24 bits; 05 Table 5-9; reset 0 -/
  ePeriod : BitVec 24 := 0
  /-- DRIVE.IPH, mA; 16 bits; 05 Table 5-9; reset 0 -/
  iph : BitVec 16 := 0
  /-- DRIVE.DUTY, 0.01 %; 16 bits; 05 Table 5-9; reset 0 -/
  duty : BitVec 16 := 0
  /-- ANGLE.ELEC_ANGLE; 16 bits; 05 Table 5-9; reset 0 -/
  elec : BitVec 16 := 0
  /-- CTRL.BRAKE_OVR; 2 bits; 05 Table 5-9; reset 0b00 -/
  brakeOvr : BitVec 2 := 0
  /-- CTRL.SOFTEN; 5 bits; 05 Table 5-9; reset 15 -/
  soften : BitVec 5 := 15
  /-- commutation step, 0 to 5; 05 R257 R259; reset 0 -/
  comStep : Nat := 0
  /-- electrical cycle count modulo 6; 05 R301; reset 0 -/
  cycle : Nat := 0
  /-- cycle count and electrical angle at the anchoring mark; 05 R301; reset 0 -/
  markCycle : Nat := 0
  /-- electrical angle at the anchoring mark; 16 bits; 05 R301; reset 0 -/
  markElec : BitVec 16 := 0
  /-- previous step period, CLK_SRV cycles, none before the first; 05 R265; reset none -/
  lastStep : Option Nat := none
  /-- the last zero-crossing intervals, newest first, at most 36, CLK_SRV cycles; 05 Table 5-9 SPEED EPERIOD; reset none -/
  steps : List Nat := []
  /-- consecutive accepted zero-crossings toward handover or re-lock; 05 R270 R295; reset 0 -/
  zcRun : Nat := 0
  /-- consecutive steps with observer disagreement above 20°; 05 R265; reset 0 -/
  disRun : Nat := 0
  /-- consecutive revolutions within ±0.1 %; 05 R278; reset 0 -/
  revRun : Nat := 0
  /-- a start or target change whose AT_SPEED is still to be reported; 1 bit; 05 R278; reset 0 -/
  owesReport : Bool := false
  /-- speed integrator of the PI controller, duty units; 05 R276 R296; reset 0 -/
  integ : Int := 0
  /-- duty that the PI controller gave at the last commutation step, 0.01 %; 05 R258 R276; reset 0 -/
  piDuty : Nat := 0
  /-- current driven into the phases in the last PWM period; 05 R259 R260; reset 0 -/
  iPhase : PhaseI := {}
  /-- a zero-crossing has been found within the window of the present step; 1 bit; 05 R263 R265; reset 0 -/
  zcSeen : Bool := false
  /-- PWM periods since the open-loop ramp began; 05 R270; reset 0 -/
  rampN : Nat := 0
  /-- steps taken since the open-loop ramp began; 05 R270; reset 0 -/
  rampSteps : Nat := 0
  /-- step period carried into the listening window, none without one; 05 R295; reset none -/
  carried : Option Nat := none
  /-- short-braking of a rotor that CATCH found below HANDOVER_RPM; 1 bit; 05 R271; reset 0 -/
  slow : Bool := false
  /-- a target that changed while the rotor was lost; 1 bit; 05 R267; reset 0 -/
  unfollowed : Bool := false
  /-- attempt number of the present start, 0 to 3; 05 R271 R272; reset 0 -/
  attempt : Nat := 0
  /-- waiting one second before the next attempt; 1 bit; 05 R271; reset 0 -/
  retryWait : Bool := false
  /-- a start runs and its 15 s limit counts; 1 bit; 05 R273; reset 0 -/
  starting : Bool := false
  /-- SPN 0x0350 reported in this power cycle; 1 bit; 05 R302; reset 0 -/
  splitReported : Bool := false
  /-- last SPN_SET_DEMAND in SERVICE; 8 bits or none; 04 R212 Table 4-5; reset none -/
  serviceDemand : Option (BitVec 8) := none
  /-- a curve loaded by SPN_LOAD_CURVE, in force until a module reset or STANDBY; 05 R305; reset none -/
  loadedCurve : Option Curve := none
  /-- REVCNT; 64 bits and flag; 05 Table 5-6; reset 0 -/
  revCnt : Counter := .zero
  /-- LOSSCNT; 64 bits and flag; 05 Table 5-6 R294; reset 0 -/
  lossCnt : Counter := .zero
  /-- STARTCNT; 64 bits and flag; 05 Table 5-6; reset 0 -/
  startCnt : Counter := .zero
  deriving DecidableEq, Repr

end Sys2Proof.Machine
end

