-- ==== Sys2Proof/Machine/StateSched.lean ====
section
/-! DEFINITION. State of the media scheduler (spec/13), of the zone manager's work (spec/12), and of the buffer cache and DRAM (spec/14). -/

namespace Sys2Proof.Machine

/-- Whose work an entry is (R655, Table 13-2). -/
inductive Origin where
  | host | destage | verify | clean | readAhead | preRead | preSeek
  deriving DecidableEq, Repr

/-- Speculative work (Table 13-2). -/
def Origin.isSpec : Origin → Bool
  | .readAhead | .preRead | .preSeek => true
  | _ => false

/-- One entry of a media queue (R654, R655). -/
structure Entry where
  /-- sequence number; R655 -/
  seq : Nat
  /-- OP of Table 11-4 -/
  op : Nat
  /-- head, track and region; R655 -/
  head : Nat
  track : Nat
  region : Nat
  /-- its slots, as descriptors; R654 -/
  descs : List Desc
  /-- class of Table 13-1 -/
  cls : Nat
  /-- CLK_FAB time from which its age runs, µs; R655 -/
  since : Nat
  /-- host commands it serves; R655 -/
  hosts : List NvCmd
  /-- origin; R655 -/
  origin : Origin
  /-- returned once after a HALTED completion; R1036 -/
  returned : Bool
  /-- 2 × AGE_CAP reported; R661 -/
  aged : Bool
  deriving DecidableEq, Repr

/-- One sequential stream (R675 to R677). -/
structure Stream where
  nsid : Nat
  write : Bool
  /-- LBA of its first request -/
  start : Nat
  /-- LBA after its last request -/
  next : Nat
  /-- requests that have continued it -/
  count : Nat
  /-- order of its last continuation -/
  order : Nat
  /-- actuator of its latest request -/
  act : Act
  deriving DecidableEq, Repr

/-- Scheduling of one actuator. -/
structure SchAct where
  /-- the media queue, by sequence number; at most 1,024; 13 R654; reset empty -/
  queue : List Entry := []
  /-- runs that wait outside it, in order; 13 R656; reset none -/
  incoming : List Entry := []
  /-- entries of the operation in the mailbox; 13 R667; reset none -/
  box : List Entry := []
  /-- entries of the operation in flight; 13 R669; reset none -/
  flight : List Entry := []
  /-- the queue is held until the actuator is media-ready again; 13 R671; reset 0 -/
  held : Bool := false
  /-- STATUS.PROMOTED; 1 bit; 13 R658; reset 0 -/
  promoted : Bool := false
  /-- STATUS.CLEAN_OWED; 1 bit; 13 R672; reset 0 -/
  cleanOwed : Bool := false
  /-- SPECn.CLEAN_PCT, 0.01 %; 16 bits; 13 Table 13-7; reset 0 -/
  cleanPct : BitVec 16 := 0
  /-- windows of 100 ms in a row with the share unmet in FORCE or FULL; 13 R674; reset 0 -/
  unmet : Nat := 0
  /-- media-busy share of the last 100 ms, percent; 13 R692; reset 0 -/
  busyPct : Nat := 0
  /-- PREDn.PRED, 10 µs; 16 bits; 13 R666; reset 0 -/
  pred : BitVec 16 := 0
  /-- PREDn.MEAS, 10 µs; 16 bits; 13 R666; reset 0 -/
  meas : BitVec 16 := 0
  /-- predicted access of the operation in the mailbox, µs; 13 R666; reset 0 -/
  boxPred : Nat := 0
  /-- predicted access of the operation in flight, µs; 13 R666; reset 0 -/
  flyPred : Nat := 0
  /-- the actuator last became idle, µs; 13 Table 13-2; reset 0 -/
  idleAt : Nat := 0
  /-- occasions on which an entry waited outside a full queue; 64 bits; 13 R656; reset 0 -/
  fullCnt : Counter := .zero
  /-- second of the last SCH 0x0C10; 13 R656; reset none -/
  fullAt : Option Nat := none
  /-- entries held by a speculative limit or PS1: start of the other actuator's last seek, µs; 13 R692; reset 0 -/
  seekAt : Nat := 0
  deriving DecidableEq, Repr

/-- Block SCH (spec/13_media_scheduler.md). -/
structure Sch where
  /-- CLK_FAB time, µs, as commands tell it; the model's own field; 16 Table 16-5 ARRIVAL; reset 0 -/
  now : Nat := 0
  /-- next sequence number; 13 R655; reset 0 -/
  nextSeq : Nat := 0
  /-- per actuator -/
  act : Pair SchAct := .both {}
  /-- streams, at most 16 an actuator; 13 R675; reset none -/
  streams : List Stream := []
  /-- order of the next stream continuation; 13 R676; reset 0 -/
  streamOrder : Nat := 0
  /-- CTRL.NO_READAHEAD, NO_PREREAD, NO_PRESEEK in bits 0 to 2; 3 bits; 13 R700; reset 0 -/
  ctrl : BitVec 3 := 0
  /-- PS1 duty, percent; 13 R692 R693; reset 100 -/
  duty : Nat := 100
  /-- DISPCNT; 64 bits and flag; 13 Table 13-6; reset 0 -/
  dispCnt : Counter := .zero
  /-- AGECAPCNT; 64 bits and flag; 13 Table 13-6; reset 0 -/
  ageCapCnt : Counter := .zero
  /-- SPECSTOPCNT; 64 bits and flag; 13 Table 13-6; reset 0 -/
  specStopCnt : Counter := .zero
  /-- RAHITCNT; 64 bits and flag; 13 Table 13-6; reset 0 -/
  raHitCnt : Counter := .zero
  /-- MISSREVCNT; 64 bits and flag; 13 R666; reset 0 -/
  missRevCnt : Counter := .zero
  /-- ABORTCNT; 64 bits and flag; 13 R685; reset 0 -/
  abortCnt : Counter := .zero
  deriving DecidableEq, Repr

/-- A track with destaged sectors that wait for verify (R644). -/
structure VerTrack where
  act : Act
  head : Nat
  track : Nat
  region : Nat
  pbn : Nat
  /-- verify may run now -/
  due : Bool
  /-- its slots, as descriptors -/
  descs : List Desc
  deriving DecidableEq, Repr

/-- Block ZMG (spec/12_zones_and_translation.md). -/
structure Zmg where
  /-- the tables in force; 12 Table 12-3; reset none -/
  maps : ZmgMaps := {}
  /-- STATUS.MAPS_OK; 1 bit; 12 Table 12-11; reset 0 -/
  mapsOk : Bool := false
  /-- STATUS.REBUILT; 1 bit; 12 Table 12-11; reset 0 -/
  rebuilt : Bool := false
  /-- STATUS.CLEANING; 1 bit each; 12 Table 12-11; reset 0 -/
  cleaning : Pair Bool := ⟨false, false⟩
  /-- FORCE and FULL as last reported, per actuator; 1 bit each; 12 Table 12-5; reset 0 -/
  force : Pair Bool := ⟨false, false⟩
  full : Pair Bool := ⟨false, false⟩
  /-- CLEAN of Table 12-5 in force, per actuator; 12 R641; reset 0 -/
  clean : Pair Bool := ⟨false, false⟩
  /-- destage requests of the cache, in order: actuator and the line's frame key; 14 R716 R732; reset none -/
  requests : List (Act × Nat) := []
  /-- tracks that wait for verify; 12 R644; reset none -/
  verify : List VerTrack := []
  /-- commands that wait for a zone, oldest first: zone key and command; 12 R623; reset none -/
  zoneQ : List (Nat × NvCmd) := []
  /-- commands taken for a zone and not yet ended: zone key and command; 12 R623; reset none -/
  zoneBusy : List (Nat × NvCmd) := []
  /-- order of the next zone write; 12 R621; reset 0 -/
  order : Nat := 0
  /-- heads whose cellar has been reported below CELLAR_WARN, actuator and head; 12 R649; reset none -/
  cellarLow : List (Nat × Nat) := []
  /-- 0x0D43 reported since the list was last not full; 12 R650; reset 0 -/
  pendFull : Pair Bool := ⟨false, false⟩
  /-- sectors pinned under R647 or R652: namespace and LBA; ZMG.STATUS.PINNED; reset none -/
  pins : List (Nat × Nat) := []
  /-- REALLOCCNT; 64 bits and flag; 12 Table 12-10; reset 0 -/
  reallocCnt : Counter := .zero
  /-- SUBSTCNT; 64 bits and flag; 12 Table 12-10; reset 0 -/
  substCnt : Counter := .zero
  /-- CLEANCNT; 64 bits and flag; 12 Table 12-10; reset 0 -/
  cleanCnt : Counter := .zero
  /-- PORCHWR; 64 bits and flag; 12 Table 12-10; reset 0 -/
  porchWr : Counter := .zero
  /-- UNRECCNT; 64 bits and flag; 12 Table 12-10; reset 0 -/
  unrecCnt : Counter := .zero
  deriving DecidableEq, Repr

/-- A sector as the cache holds it: ciphertext and protection information (R852, R868). -/
structure CSec where
  data : Sector
  pi : BitVec 128
  /-- CLK_FAB time at which it became dirty, µs -/
  since : Nat
  deriving DecidableEq, Repr

/-- One line in a frame, or in the attic (Table 14-3). -/
structure Line where
  /-- NS; 5 bits -/
  ns : Nat := 0
  /-- LINE; 32 bits -/
  line : Nat := 0
  /-- VALID; 8 bits -/
  valid : BitVec 8 := 0
  /-- DIRTY; 8 bits -/
  dirty : BitVec 8 := 0
  /-- REDIRTY; 8 bits -/
  redirty : BitVec 8 := 0
  /-- POISON; 8 bits -/
  poison : BitVec 8 := 0
  /-- LOCK -/
  lock : Bool := false
  /-- SPEC -/
  spec : Bool := false
  /-- PIN -/
  pin : Bool := false
  /-- FILL -/
  fill : Bool := false
  /-- DSTG -/
  dstg : Bool := false
  /-- RETIRED -/
  retired : Bool := false
  /-- sectors whose destage has not ended; R733 R644 -/
  flight : BitVec 8 := 0
  /-- invalidated while locked: reserved and empty; R742 -/
  ghost : Bool := false
  /-- ineligible, to be retired when clean; R752 -/
  retiring : Bool := false
  /-- transient line of BYPASS; Table 14-4 -/
  transient : Bool := false
  /-- data of the eight sectors -/
  secs : List (Option CSec) := []
  deriving DecidableEq, Repr

/-- One miss register (R718 to R725). -/
structure Miss where
  act : Act
  /-- namespace index and line number -/
  ns : Nat
  line : Nat
  /-- reserved frame, none while no victim is found; R716 -/
  frame : Option Nat
  /-- sectors it fills -/
  fills : BitVec 8
  /-- sectors without a result -/
  left : BitVec 8
  /-- serves a speculative fill; R720 -/
  spec : Bool
  /-- secondary misses merged; R719 -/
  merged : Nat
  /-- commands that wait for it -/
  waiters : List NvCmd
  /-- invalidated: not to be installed; R725 -/
  dropped : Bool
  deriving DecidableEq, Repr

/-- One pending move of a line between its set and the attic (R717, R727, R729). -/
inductive AtticMove where
  /-- a line that has left its frame enters the attic -/
  | evict (l : Line)
  /-- a line of the attic returns to its set -/
  | recall (ns line : Nat)
  deriving DecidableEq, Repr

/-- The modes of Table 14-4. -/
inductive CacheMode where
  | writeBack | writeThrough | bypass
  deriving DecidableEq, Repr

/-- The code of Table 14-4. -/
def CacheMode.code : CacheMode → Nat
  | .writeBack => 0 | .writeThrough => 1 | .bypass => 2

/-- The mode of a code. -/
def CacheMode.ofCode : Nat → Option CacheMode
  | 0 => some .writeBack | 1 => some .writeThrough | 2 => some .bypass | _ => none

/-- A CACHE_LOCK_RANGE in progress (R744, R745). -/
structure LockJob where
  h : Hdr
  /-- frames locked -/
  count : Nat
  /-- FILL -/
  fill : Bool
  /-- lines that wait for a victim, by namespace index and line -/
  wait : List (Nat × Nat)
  /-- lines whose fill has not ended -/
  fills : List (Nat × Nat)
  deriving DecidableEq, Repr

/-- Block BCM (spec/14_buffer_cache_and_memory.md). -/
structure Bcm where
  /-- frames by 16 × set + way, sparse, empty frames absent; 32 KiB and 88-bit tag each; 14 R707 R709; reset empty -/
  frames : List (Nat × Line) := []
  /-- pseudo-LRU rows by set, sparse; 15 bits each; 14 R709 R712; reset 0 (not stated: DESIGN CHOICE, log entry 41) -/
  plru : List (Nat × BitVec 15) := []
  /-- the attic, oldest first, at most 1,024; 14 R726; reset empty -/
  attic : List Line := []
  /-- attic moves in progress, oldest first; 14 R729; reset none -/
  moves : List AtticMove := []
  /-- miss registers in use, at most 128 an actuator; 14 R718; reset none -/
  misses : List Miss := []
  /-- commands that wait for a miss register or for a register's end, in order; 14 R719 R721; reset none -/
  missWait : List NvCmd := []
  /-- writing commands whose sectors wait for the budget, in the order accepted; 14 R731; reset none -/
  writeWait : List NvCmd := []
  /-- MODE.MODE; 14 Table 14-4 R735; reset WRITE_BACK -/
  mode : CacheMode := .writeBack
  /-- MODE.TARGET; 14 R736; reset 0 -/
  target : CacheMode := .writeBack
  /-- STATUS.DRAINING; 1 bit; 14 R736; reset 0 -/
  draining : Bool := false
  /-- STATUS.BLOCKED; 1 bit; 14 R737; reset 0 -/
  blocked : Bool := false
  /-- STATUS.FORCED_WT; 1 bit; 14 R739; reset 0 -/
  forcedWt : Bool := false
  /-- mode before a forced write-through or SERVICE; 15 R796 14 R739; reset none -/
  before : Option CacheMode := none
  /-- cause of the drain that runs, for 0x0E31; 14 R1044; reset 0 -/
  drainCause : Nat := 0
  /-- CACHE_SET_MODE that waits for its drain; 14 R736; reset none -/
  modeReq : Option Hdr := none
  /-- CACHE_LOCK_RANGE that waits for its frames and fills; 14 R745; reset none -/
  lockReq : Option LockJob := none
  /-- STATUS.RETIRE_APPLIED; 1 bit; 14 R757 R1039; reset 0 -/
  retireApplied : Bool := false
  /-- STATUS.CHECKS_INIT; 1 bit; 14 R1039; reset 0 -/
  checksInit : Bool := false
  /-- STATUS.TRAINED; 1 bit; 14 R1039; reset 0 -/
  trained : Bool := false
  /-- SCRUBSEL.ARRAY; 4 bits; 14 Table 14-10; reset 0 -/
  scrubSel : BitVec 4 := 0
  /-- SCRUBLAP per array, µs; 32 bits each; 14 R758; reset 0 -/
  laps : List Reg := List.replicate 7 0
  /-- ERRADDR: array and address, none before an error; 14 Table 14-10; reset none -/
  errAddr : Option (BitVec 4 × BitVec 33) := none
  /-- DRAM pages with BCM 0x0E10 reported in this power cycle; 14 R751; reset none -/
  cePages : List Nat := []
  /-- DRAM words corrected at their last scrub visit, by word number; 14 R752; reset none -/
  scrubCe : List Nat := []
  /-- pages with a corrected error in the present DRAM lap; 14 R752; reset none -/
  lapPages : List Nat := []
  /-- pages with one in the lap before; 14 R752; reset none -/
  lastPages : List Nat := []
  /-- context rows corrected at their last scrub visit; 16 R841; reset none -/
  rowCe : List Nat := []
  /-- retirement list in the module NOR: frames, kept over life; 14 R752 R757; reset none (DESIGN CHOICE of a new module, log entry 3) -/
  retFrames : List Nat := []
  /-- retirement list in the module NOR: pages remapped, with their spare page, kept over life; 14 R756; reset none (DESIGN CHOICE of a new module, log entry 3) -/
  retPages : List (Nat × Nat) := []
  /-- words of the DRAM outside the cache's lines that a test wrote, by word number: data; 64 bits each; 14 R760; reset 0 (DESIGN CHOICE: check bits are initialised, the content is not stated, log entry 41) -/
  words : List (Nat × BitVec 64) := []
  /-- words and tag rows whose check bits a test gave: by word number, data and check; 72 bits each; 14 R760; reset none -/
  testWords : List (Nat × BitVec 64 × BitVec 8) := []
  /-- tag rows whose check bits a test gave, by row; 96 bits each; 14 R760; reset none -/
  testTags : List (Nat × BitVec 88 × BitVec 8) := []
  /-- ECCTEST.TEST; 1 bit RWS; 14 R760; reset 0 -/
  test : Bool := false
  /-- ECCTEST.TARGET; 1 bit RWS; 14 Table 14-10; reset 0 -/
  testTag : Bool := false
  /-- ECCTEST.RW; 1 bit RWS; 14 Table 14-10; reset 0 -/
  testRw : Bool := false
  /-- ECCTEST.DONE; 1 bit; 14 Table 14-10; reset 0 -/
  testDone : Bool := false
  /-- ECCTEST.CHECK; 8 bits RWS; 14 Table 14-10; reset 0 -/
  testCheck : BitVec 8 := 0
  /-- TESTADDR; 33 bits; 14 Table 14-10; reset 0 -/
  testAddr : BitVec 33 := 0
  /-- TESTDATA and TESTDATA_EX; 88 bits; 14 Table 14-10; reset 0 -/
  testData : BitVec 88 := 0
  /-- GRANTSEL.LEAF; 4 bits; 14 Table 14-10; reset 0 -/
  grantSel : BitVec 4 := 0
  /-- group weights; 14 R764; reset 0 -/
  weights : List Nat := [0, 0, 0, 0]
  /-- group credits; 14 R764; reset 0 -/
  credits : List Int := [0, 0, 0, 0]
  /-- grants since the weights were last taken; 14 R764; reset 0 -/
  grantNo : Nat := 0
  /-- leaf last granted in each group; 14 R763; reset: the last leaf of each, so that the first comes next (DESIGN CHOICE, log entry 41) -/
  lastLeaf : List Nat := [2, 4, 6, 10]
  /-- grants per leaf; 64 bits and flag each; 14 R766; reset 0 -/
  grants : List Counter := List.replicate 11 Counter.zero
  /-- HITCNT; 64 bits and flag; 14 Table 14-9; reset 0 -/
  hitCnt : Counter := .zero
  /-- MISSCNT; 64 bits and flag; 14 Table 14-9; reset 0 -/
  missCnt : Counter := .zero
  /-- MERGECNT; 64 bits and flag; 14 Table 14-9; reset 0 -/
  mergeCnt : Counter := .zero
  /-- ATTICHITCNT; 64 bits and flag; 14 Table 14-9; reset 0 -/
  atticHitCnt : Counter := .zero
  /-- DRAMCORR; 64 bits and flag; 14 Table 14-9; reset 0 -/
  dramCorr : Counter := .zero
  /-- ARRCORR; 64 bits and flag; 14 Table 14-9; reset 0 -/
  arrCorr : Counter := .zero
  /-- DEADLINECNT; 64 bits and flag; 14 Table 14-9; reset 0 -/
  deadlineCnt : Counter := .zero
  /-- MISSWAITCNT; 64 bits and flag; 14 Table 14-9; reset 0 -/
  missWaitCnt : Counter := .zero
  deriving DecidableEq, Repr

end Sys2Proof.Machine
end

