-- ==== Sys2Proof/Machine/StateFe.lean ====
section
/-! DEFINITION. State of the front end and of the host ports (spec/16_host_ports_and_front_end.md). -/

namespace Sys2Proof.Machine

/-- PHASE of Table 16-5. -/
inductive Phase where
  | fetched | decoded | media | data | done
  deriving DecidableEq, Repr

/-- The code of PHASE; 0 is FREE. -/
def Phase.code : Phase → Nat
  | .fetched => 1 | .decoded => 2 | .media => 3 | .data => 4 | .done => 5

/-- One command context (Table 16-5). -/
structure Ctx where
  /-- PORT, CNTLID, SQID, CID -/
  id : NvCmd
  /-- FLAGS.ADMIN -/
  admin : Bool
  /-- ARRIVAL, µs, wrapping; 32 bits -/
  arrival : BitVec 32
  /-- class of its submission queue; Table 13-1 -/
  cls : Nat
  /-- PHASE -/
  phase : Phase := .fetched
  /-- FLAGS.ABORTING -/
  aborting : Bool := false
  /-- FLAGS.COMMITTED -/
  committed : Bool := false
  /-- PROGRESS, sectors -/
  progress : Nat := 0
  /-- SQE: the command, once decoded -/
  cmd : Option IoCmd := none
  /-- LBAs of a read that have not arrived, or of a write-through that are not on the media -/
  left : List Nat := []
  /-- sectors that a read has, or that a write has not yet moved into the cache, by LBA -/
  secs : List (Nat × CSec) := []
  /-- RESULT: status, once DONE -/
  status : Option NvSt := none
  /-- RESULT: Dwords 0 and 1 -/
  dw : BitVec 64 := 0
  /-- sectors for the host, with protection information -/
  out : List (Sector × BitVec 128) := []
  /-- log, identify and report data for the host -/
  bytes : List Byte := []
  /-- TAG of the service request that a 0xC5 command carried and had accepted; 18 Table 18-3 -/
  svcTag : Option Reg := none
  /-- media ready is awaited since, µs; 04 R229 -/
  heldAt : Option Nat := none
  deriving DecidableEq, Repr

/-- One I/O queue of a PCIe controller (R817, Table 16-3). -/
structure IoQueue where
  /-- completion queue -/
  cq : Bool
  qid : BitVec 16
  /-- entries -/
  size : Nat
  /-- completion queue of a submission queue -/
  cqid : BitVec 16
  prio : Prio
  /-- entries of a completion queue that the host has not taken; R826 -/
  used : Nat
  deriving DecidableEq, Repr

/-- One controller: the PCIe controller of a port, or a dynamic one of an association (R815). -/
structure Ctrlr where
  port : Act
  cntlid : BitVec 16
  /-- an NVMe/TCP association; R815 -/
  tcp : Bool := false
  /-- CC.EN -/
  en : Bool := false
  /-- CSTS.RDY -/
  rdy : Bool := false
  /-- CSTS.SHST complete; 04 R246 -/
  shutDone : Bool := false
  /-- shutdown notification in progress; 04 R246 -/
  shutting : Bool := false
  /-- I/O queues -/
  queues : List IoQueue := []
  /-- outstanding Asynchronous Event Requests; 18 R913 -/
  aers : List NvCmd := []
  /-- notices that wait for an Asynchronous Event Request, as completion Dwords 0 and 1; 18 R913 12 R632 -/
  notices : List (BitVec 64) := []
  /-- the host wants vendor-specific notices; 18 R913 -/
  vendorAen : Bool := false
  /-- the host wants Zone Descriptor Changed notices; 12 R632 -/
  zoneAen : Bool := false
  /-- keep-alive timer runs since, µs; R848 -/
  kaAt : Nat := 0
  /-- connections of an association; Table 16-3 -/
  conns : Nat := 0
  /-- host identifier; R816 -/
  host : BitVec 128 := 0
  /-- namespaces with Deallocated or Unwritten Logical Block Error enabled; 12 R630 -/
  dulbe : List Nat := []
  deriving DecidableEq, Repr

/-- Reservation state of a namespace (Table 16-2), kept through power loss. -/
structure Resv where
  /-- registrants: host identifier and key -/
  regs : List (BitVec 128 × BitVec 64) := []
  /-- holder's host identifier and the reservation type, 1 to 6 -/
  held : Option (BitVec 128 × Nat) := none
  /-- Persist Through Power Loss -/
  ptpl : Bool := false
  /-- generation -/
  gen : BitVec 32 := 0
  deriving DecidableEq, Repr

/-- One takeover or restart in progress (R831, R832). -/
structure Takeover where
  /-- TRIGGER of Table 16-14 -/
  trigger : Nat
  /-- engine that is replaced or restarts -/
  old : Act
  /-- engine that posts afterwards -/
  new : Act
  /-- completions that the old engine had queued before the fence; R837 -/
  queued : List NvCmd
  /-- the new engine's group was reset meanwhile; R839 -/
  again : Bool
  /-- request that asked for it; R840 -/
  req : Option Hdr
  deriving DecidableEq, Repr

/-- Block FE (spec/16_host_ports_and_front_end.md). -/
structure Fe where
  /-- context store: I/O, admin and service contexts in use; 16 R820 R822; reset none -/
  ctxs : List Ctx := []
  /-- spare context rows in use, by the row remapped, kept in the module NOR; 16 R841; reset none (DESIGN CHOICE of a new module, log entry 3) -/
  rowRemap : List Nat := []
  /-- STATUS.FAULTY; 1 bit each; 16 R838; reset 0 -/
  faulty : Pair Bool := ⟨false, false⟩
  /-- STATUS.POWERED; 1 bit each; 16 Table 16-14; reset 0 -/
  powered : Pair Bool := ⟨false, false⟩
  /-- STATUS.ACTIVE; 1 bit; 16 R827; reset 0 FE0 -/
  active : Act := .a0
  /-- the active engine posts; 16 R836; reset 0 -/
  posting : Bool := false
  /-- STATUS.TAKEOVER; 16 R832; reset none -/
  tko : Option Takeover := none
  /-- STATUS.FENCED; 1 bit; 16 Table 16-6; reset 0 -/
  fenced : Bool := false
  /-- LASTTKO.TRIGGER; 3 bits; 16 Table 16-14; reset 0 -/
  lastTrigger : BitVec 3 := 0
  /-- LASTTKO.OVERLAP, 0.1 µs; 9 bits; 16 Table 16-14; reset 0 -/
  overlap : BitVec 9 := 0
  /-- LASTTKO.GAP_US; 16 bits; 16 Table 16-14; reset 0 -/
  gapUs : BitVec 16 := 0
  /-- WDT.WDT_MS; 16 bits RWS; 16 Table 16-14; reset 100 -/
  wdtMs : BitVec 16 := 100
  /-- the watchdog has been refreshed since its last expiry; 16 R828; reset 0 -/
  wdtFed : Bool := false
  /-- controllers that exist; 16 R815; reset none -/
  ctrls : List Ctrlr := []
  /-- reservations by NSID; 16 Table 16-2; reset none -/
  resv : List (Nat × Resv) := []
  /-- the last completion posted on each port; 16 R823; reset none -/
  posted : Pair (Option Ctx) := ⟨none, none⟩
  /-- TKOCNT; 64 bits and flag; 16 Table 16-13; reset 0 -/
  tkoCnt : Counter := .zero
  /-- CTXFULLCNT; 64 bits and flag; 16 Table 16-13; reset 0 -/
  ctxFull : Counter := .zero
  /-- CTXCORR; 64 bits and flag; 16 Table 16-13; reset 0 -/
  ctxCorr : Counter := .zero
  deriving DecidableEq, Repr

/-- One port unit (spec/16_host_ports_and_front_end.md). -/
structure Port where
  /-- STATUS.PLL_LOCK; 1 bit; 16 Table 16-15; reset 0 -/
  pll : Bool := false
  /-- STATUS.LINK_UP; 1 bit; 16 Table 16-15; reset 0 -/
  up : Bool := false
  /-- STATUS.DEGRADED; 1 bit; 16 R812; reset 0 -/
  degraded : Bool := false
  /-- STATUS.PERS, true for Ethernet; 2 bits; 16 R809; reset PCIe -/
  eth : Bool := false
  /-- STATUS.FETCH_HELD; 1 bit; 16 R821; reset 0 -/
  held : Bool := false
  /-- doorbells and capsules that arrived in a takeover, in order; 16 R833; reset none -/
  heldCmds : List NvCmd := []
  /-- completion queue head doorbells that arrived in a takeover: CNTLID, queue, entries taken; 16 R833; reset none -/
  heldHeads : List (BitVec 16 × BitVec 16 × BitVec 16) := []
  /-- LINK.MTU; 16 bits; 16 Table 16-15; reset 0 -/
  mtu : BitVec 16 := 0
  /-- LINK.FEC; 1 bit; 16 Table 16-15; reset 0 -/
  fec : Bool := false
  /-- LINK.SPEED; 4 bits; 16 Table 16-15; reset 0 -/
  speed : BitVec 4 := 0
  /-- LINK.WIDTH; 4 bits; 16 Table 16-15; reset 0 -/
  width : BitVec 4 := 0
  /-- CTL.LINK_DIS; 1 bit RWS; 16 Table 16-15; reset 0 -/
  linkDis : Bool := false
  /-- PRT 0x1403 reported for the record in force; 16 R811; reset 0 -/
  refused : Bool := false
  /-- POSTCNT; 64 bits and flag; 16 Table 16-13; reset 0 -/
  postCnt : Counter := .zero
  /-- LINKDNCNT; 64 bits and flag; 16 Table 16-13; reset 0 -/
  linkDn : Counter := .zero
  /-- ERRCNT; 64 bits and flag; 16 Table 16-13; reset 0 -/
  errCnt : Counter := .zero
  /-- FECCORR; 64 bits and flag; 16 Table 16-13; reset 0 -/
  fecCorr : Counter := .zero
  deriving DecidableEq, Repr

end Sys2Proof.Machine
end

