-- ==== Sys2Proof/Machine/StateDsv.lean ====
section
/-! DEFINITION. State of data services: encryption, Opal locking, protection information, firmware signing and the Zhetar group protocol
(spec/17_data_services_and_peer_groups.md). -/

namespace Sys2Proof.Machine

/-- An open Opal session: the controller, the SP, the authorities proven in it (R859, R862). -/
structure OpalSess where
  cntlid : BitVec 16
  /-- the Locking SP, else the Admin SP -/
  locking : Bool
  auths : List Nat
  deriving DecidableEq, Repr

/-- One peer group (R882 to R886, Table 17-11). -/
structure Group_ where
  /-- group index at this module, 0 to 7 -/
  index : Nat
  /-- group identifier -/
  gid : BitVec 32
  /-- data columns -/
  k : Nat
  /-- parity columns -/
  m : Nat
  /-- column size, GiB extents -/
  c : Nat
  /-- module number and NSID of each column -/
  cols : List (Nat × Nat)
  /-- placement entries that differ from the default -/
  excepts : List Override
  /-- DEGRADED and FAILED as last reported -/
  told : Nat
  deriving DecidableEq, Repr

/-- One entry of the address table with the state of the peer (R874 to R881). -/
structure Peer where
  num : Nat
  /-- address, IPv4 as mapped IPv6 -/
  addr : BitVec 128
  /-- UP: an authenticated frame has arrived and no timeout has followed; 17 R875 -/
  up : Bool := false
  /-- DOWN; 17 R875 -/
  down : Bool := false
  /-- EPOCH of its frames; 17 R881 -/
  epoch : BitVec 32 := 0
  /-- D, highest SEQ delivered in order; 17 R881 -/
  d : Option (BitVec 32) := none
  /-- frames held beyond D; 17 Table 17-3 -/
  held : List (BitVec 32 × ZMsg) := []
  /-- next SEQ to send to it -/
  next : BitVec 32 := 0
  deriving DecidableEq, Repr

/-- One frame of the send log (R879, R880). -/
structure Logged where
  dst : Nat
  seq : BitVec 32
  msg : ZMsg
  /-- transmissions after the first -/
  again : Nat
  /-- write that waits for its acknowledgement; 17 R891 -/
  cmd : Option NvCmd
  /-- the frame, complete and encrypted, of which every transmission is a copy; 17 R877 R879 Table 17-2 -/
  bytes : List Byte
  deriving DecidableEq, Repr

/-- A group creation in progress (R887). -/
structure Creation where
  req : Hdr
  grp : Group_
  fresh : Bool
  /-- members that have not answered -/
  left : List Nat
  deriving DecidableEq, Repr

/-- A rebuild in progress (R900 to R902). -/
structure Rebuild where
  /-- the request; none for a row that a host command at its holder needs (R894, R901) -/
  req : Option Hdr
  gid : BitVec 32
  /-- rows to restore: column and row, in order -/
  rows : List (Nat × Nat)
  /-- LBA range alone, without a change of entries -/
  lbas : Option (Nat × Nat)
  /-- columns asked for the row in hand -/
  asked : List Nat := []
  /-- sectors gathered for the row in hand: column, LBA, sector -/
  got : List (Nat × Nat × BitVec 32768 × BitVec 128) := []
  /-- sectors of the row in hand that stand at its holder -/
  put : Nat := 0
  /-- extents restored -/
  done : Nat := 0
  deriving DecidableEq, Repr

/-- Block DSV (spec/17_data_services_and_peer_groups.md). -/
structure Dsv where
  /-- the SPs and range keys in force; 17 R856 R859; reset: manufactured state -/
  opal : Opal := {}
  /-- C_PIN tries since power-up, by authority, sparse; 17 R862; reset 0 -/
  tries : List (Nat × Nat) := []
  /-- open session; 17 R859; reset none -/
  sess : Option OpalSess := none
  /-- response that Security Receive returns, by controller; 17 R859; reset none -/
  resp : List (BitVec 16 × List Byte) := []
  /-- STATUS.KEYS_OK; 1 bit; 17 Table 17-9; reset 0 -/
  keysOk : Bool := false
  /-- record 0x1180 or 0x1181 failed its check: every I/O completes with Access Denied; 17 R858; reset 0 -/
  keysBad : Bool := false
  /-- ranges being erased, each with the command that erases it: STATUS.ERASING; 17 R864; reset none -/
  erasing : List (NvCmd × Nat) := []
  /-- LockOnReset applies when the keys are next loaded; 17 Table 17-1; reset 1 -/
  lockNow : Bool := true
  /-- SVN of the image running; 8 bits; 17 Table 17-9; reset 0 -/
  svn : BitVec 8 := 0
  /-- KEY_SLOT; 2 bits; 17 Table 17-9; reset 0 -/
  keySlot : BitVec 2 := 0
  /-- ZGPSTAT.JOINED; 17 R874; reset 0 -/
  joined : Bool := false
  /-- ZGPSTAT.MODULE; 9 bits; 17 R874; reset 0 -/
  module : Nat := 0
  /-- domain identifier; 64 bits; 17 R874; reset 0 -/
  domain : BitVec 64 := 0
  /-- domain key; 32 bytes; 17 R874; reset none -/
  domKey : List Byte := []
  /-- address table; at most 512; 17 R874; reset none -/
  peers : List Peer := []
  /-- send log; 17 R879; reset none -/
  log : List Logged := []
  /-- delivered messages that wait for their processing, with the sender and the SEQ; 17 Table 17-3; reset none -/
  inbox : List (Nat × BitVec 32 × ZMsg) := []
  /-- groups; at most 8; 17 R882; reset none -/
  groups : List Group_ := []
  /-- group creation in progress; 17 R887; reset none -/
  creation : Option Creation := none
  /-- rebuilds in progress; 17 R900; reset none -/
  rebuilds : List Rebuild := []
  /-- rows restored beyond the watermark of their extent: group, column, row; 17 R901; reset none -/
  rowsDone : List (BitVec 32 × Nat × Nat) := []
  /-- writes of protected columns that wait, in order; 17 R892 R893; reset none -/
  waiting : List NvCmd := []
  /-- operating second of the last DSV 0x1146; 17 R876; reset none -/
  dupAt : Option (BitVec 40) := none
  /-- GROUPSEL.INDEX; 3 bits; 17 Table 17-9; reset 0 -/
  groupSel : BitVec 3 := 0
  /-- PIERRCNT; 64 bits and flag; 17 R869; reset 0 -/
  piErr : Counter := .zero
  /-- ZGPTXCNT; 64 bits and flag; 17 Table 17-8; reset 0 -/
  zgpTx : Counter := .zero
  /-- ZGPDUPCNT; 64 bits and flag; 17 Table 17-8; reset 0 -/
  zgpDup : Counter := .zero
  /-- ZGPAUTHCNT; 64 bits and flag; 17 R877; reset 0 -/
  zgpAuth : Counter := .zero
  deriving DecidableEq, Repr

end Sys2Proof.Machine
end

