-- ==== Sys2Proof/Machine/StateVlt.lean ====
section
/-! DEFINITION. State of the vault (spec/15_power_loss_and_vault.md). -/

namespace Sys2Proof.Machine

/-- One directory entry with its sector (Table 15-2). -/
structure VEntry where
  nsid : Nat
  lba : Nat
  pi : BitVec 128
  poison : Bool
  data : Sector
  deriving DecidableEq, Repr

/-- One image in the vault (Tables 15-2 and 15-3). -/
structure VImage where
  /-- SEQ; 32 bits -/
  seq : BitVec 32
  /-- INDEX; 1 bit -/
  index : Bool
  /-- CAUSE; 3 bits used -/
  cause : BitVec 8
  /-- VARIANT -/
  variant : Variant
  /-- poisoned structures omitted, bit i for row i of Table 12-3; FLAGS[0] says that there are some -/
  omitted : BitVec 8
  /-- HDA_SERIAL; 24 bytes -/
  hdaSerial : List Byte
  /-- GEOM_SIG; 64 bits -/
  geomSig : BitVec 64
  /-- MODULE; 16 bytes -/
  module : List Byte
  /-- PCYCLE -/
  pcycle : BitVec 32
  /-- OPSEC -/
  opsec : BitVec 40
  /-- DURATION, µs -/
  duration : BitVec 32
  /-- directory and sectors -/
  entries : List VEntry
  /-- metadata: the zone manager's tables when some structure changed since its last save -/
  maps : Option ZmgMaps
  /-- metadata: group, column and extent of each parity update in the send log; 17 R896 -/
  parity : List (BitVec 32 × Nat × Nat)
  /-- the header is programmed and the image is valid; R788 -/
  valid : Bool
  /-- the consumed page is programmed, CONSUMED or DISCARDED; R801 R804 -/
  consumed : Bool
  /-- its blocks, by 2,048 × die + block -/
  blocks : List Nat
  deriving DecidableEq, Repr

/-- An image write in progress (R769, R778, R780). -/
structure VWrite where
  img : VImage
  /-- a module reset follows; R778 -/
  thenReset : Bool
  deriving DecidableEq, Repr

/-- Block VLT (spec/15_power_loss_and_vault.md). -/
structure Vlt where
  /-- images whose blocks are not yet all erased, kept in the NAND; 15 R791; reset none (DESIGN CHOICE of a new module, log entry 3) -/
  images : List VImage := []
  /-- retired blocks, by 2,048 × die + block, kept in the directory; 15 R783 R786; reset none (DESIGN CHOICE of a new module, log entry 3) -/
  bad : List Nat := []
  /-- blocks that wait for their erase; 15 R785; reset none (DESIGN CHOICE of a new module, log entry 3) -/
  spent : List Nat := []
  /-- erase counts by block, sparse, kept in the directory; 15 R783; reset none listed (0 each) (DESIGN CHOICE of a new module, log entry 3) -/
  erases : List (Nat × Nat) := []
  /-- newest SEQ and INDEX ever written, kept in the directory's image index; 15 Table 15-3; reset 0 and 1 (DESIGN CHOICE of a new module, log entry 3) -/
  lastSeq : BitVec 32 := 0
  lastIndex : Bool := true
  /-- parity extents that a replay has yet to make STALE; 17 R896; reset none -/
  staleDue : List (BitVec 32 × Nat × Nat) := []
  /-- STATUS.RATE_OK; 1 bit; 15 R807; reset 1 -/
  rateOk : Bool := true
  /-- STATUS.DIR_OK; 1 bit; 15 R792; reset 0 -/
  dirOk : Bool := false
  /-- STATUS.UNRESOLVED; 1 bit; 15 R803; reset 0 -/
  unresolved : Bool := false
  /-- STATUS.REPLAYING: the image being replayed and the directory entries applied; 15 R776 R801; reset none -/
  replaying : Option (BitVec 32 × Nat) := none
  /-- STATUS.WRITING: the image being written; 15 R788; reset none -/
  writing : Option VWrite := none
  /-- a power-loss sequence that writes no image, or whose header has been read back, waits for the retracts; 15 R773 R776; reset 0 -/
  seqDone : Bool := false
  /-- STATUS.REPLAYED; 1 bit; 15 Table 15-9; reset 0 -/
  replayed : Bool := false
  /-- causes of R792 that have been reported: blocks, rate, foreign image, directory, hold-up; 5 bits; 15 R793; reset 0 -/
  lost : BitVec 5 := 0
  /-- seconds for which protection has held without interruption; 15 R796; reset 0 -/
  okSecs : Nat := 0
  /-- seconds without protection; 15 Table 15-10 0x0F51; reset 0 -/
  unprotSecs : Nat := 0
  /-- chunks of an IMPORT received so far; 15 R805; reset none -/
  imp : Option (List (List Byte)) := none
  /-- blocks that hold the chunks of an IMPORT, by 2,048 × die + block; 15 R805 R806; reset none -/
  impBlocks : List Nat := []
  /-- LASTRUN.DURATION, ms; 16 bits; 15 Table 15-9; reset 0 -/
  lastMs : BitVec 16 := 0
  /-- LASTRUN.MIB; 16 bits; 15 Table 15-9; reset 0 -/
  lastMib : BitVec 16 := 0
  /-- RATE.TEST_RATE, MB/s; 16 bits; 15 Table 15-9; reset 0 -/
  testRate : BitVec 16 := 0
  /-- RATE.WRITE_RATE, MB/s; 16 bits; 15 Table 15-9; reset 0 -/
  writeRate : BitVec 16 := 0
  /-- WRITECNT; 64 bits and flag; 15 Table 15-8; reset 0 -/
  writeCnt : Counter := .zero
  /-- REPLAYCNT; 64 bits and flag; 15 Table 15-8; reset 0 -/
  replayCnt : Counter := .zero
  /-- PFAILCNT; 64 bits and flag; 15 Table 15-8; reset 0 -/
  pfailCnt : Counter := .zero
  /-- ERASECNT; 64 bits and flag; 15 Table 15-8; reset 0 -/
  eraseCnt : Counter := .zero
  deriving DecidableEq, Repr

end Sys2Proof.Machine
end

