-- ==== Sys2Proof/Machine/State.lean ====
section
/-! DEFINITION. The state of the machine: every unit's registers, memories and queues, the queue of waiting commands, and
the reasons a step can stop. -/

namespace Sys2Proof.Machine

/-- The machine itself, apart from the queue: one part for each unit of the module, and the HDA it is paired with. -/
@[ext] structure Mach where
  /-- identity from manufacture; spec/00 R4, spec/18 Table 18-7 -/
  id : Ident := {}
  /-- the HDA NOR and strap; spec/01 -/
  hda : Hda := {}
  /-- block PWR; spec/02 -/
  pwr : Pwr := {}
  /-- block CLK; spec/03 -/
  clk : Clk := {}
  /-- block SUP, modes and bring-up; spec/04 -/
  sup : Sup := {}
  /-- block SUP, service requests; spec/18 -/
  svc : Svc := {}
  /-- block EVR; spec/19 -/
  evr : Evr := {}
  /-- every EVENTS register -/
  events : Events := {}
  /-- block SPN; spec/05 -/
  spn : Spn := {}
  /-- blocks SRV0 and SRV1, position sensing; spec/06 -/
  srvRef : Pair SrvRef := .both {}
  /-- blocks SRV0 and SRV1, control; spec/07 -/
  srv : Pair SrvCtl := .both {}
  /-- blocks HIF0 and HIF1; spec/08 -/
  hif : Pair Hif := .both {}
  /-- the preamps on the two arms; spec/08 Table 8-3 -/
  pre : Pair Preamp := .both {}
  /-- blocks CH0 and CH1; spec/09 -/
  ch : Pair Chan := .both {}
  /-- blocks CFX0 and CFX1; spec/11 -/
  cfx : Pair Cfx := .both {}
  /-- block CAL; spec/10 -/
  cal : Cal := {}
  /-- block SCH; spec/13 -/
  sch : Sch := {}
  /-- block ZMG; spec/12 -/
  zmg : Zmg := {}
  /-- block BCM; spec/14 -/
  bcm : Bcm := {}
  /-- block VLT; spec/15 -/
  vlt : Vlt := {}
  /-- block FE; spec/16 -/
  fe : Fe := {}
  /-- block PRT, ports A and B; spec/16 -/
  prt : Pair Port := .both {}
  /-- block DSV; spec/17 -/
  dsv : Dsv := {}
  /-- signal pins; spec/20 -/
  pins : Pins := {}
  /-- life values kept in the module NOR; spec/02 R1030 -/
  nor : ModNor := {}
  /-- how many free values have been drawn; the model's own field; reset 0 (DESIGN CHOICE, log entry 7) -/
  drawn : Nat := 0
  deriving DecidableEq, Repr

/-- The state: the machine, and the commands that wait, first in, first out. -/
structure State where
  /-- the machine -/
  m : Mach := {}
  /-- the commands that wait, the front first; the model's own field; reset empty -/
  pending : List Instr := []
  deriving DecidableEq, Repr

/-- Reasons a step stops with a fault. -/
inductive Fault where
  /-- raised by no meaning: the spec names no condition that stops the module; safe -/
  | stopped
  deriving DecidableEq, Repr

/-- Reasons a step is refused. -/
inductive Refusal where
  /-- raised by an arm of exec whose command has no meaning yet; safe -/
  | notModelled (mnemonic : String)
  deriving DecidableEq, Repr

/-- The machine right after reset: every field at the value its declaration names. -/
def State.reset : State := {}

/-- The outcome of a command. -/
abbrev Out := Host.Outcome State Fault Refusal

/-- A command that always completes, with a given effect on the machine; the queue stays. -/
def State.run (s : State) (f : Mach → Mach) : Out := .next { s with m := f s.m }

end Sys2Proof.Machine
end

