-- ==== Sys2Proof/Machine/Ops.lean ====
section
/-! DEFINITION. Shared operations: settings records in force, event reports (spec/19 R965 to R974), the arming table
(R949 to R954), free values, and changes of one actuator's part. -/

namespace Sys2Proof.Machine

/-- Apply a change only under a condition. -/
def ifDo (b : Bool) (f : Mach → Mach) (m : Mach) : Mach := if b then f m else m

/-- Change the control part of one servo unit. -/
def Mach.onSrv (m : Mach) (a : Act) (f : SrvCtl → SrvCtl) : Mach := { m with srv := m.srv.upd a f }
/-- Change the position-sensing part of one servo unit. -/
def Mach.onRef (m : Mach) (a : Act) (f : SrvRef → SrvRef) : Mach := { m with srvRef := m.srvRef.upd a f }
/-- Change one head interface. -/
def Mach.onHif (m : Mach) (a : Act) (f : Hif → Hif) : Mach := { m with hif := m.hif.upd a f }
/-- Change one preamp. -/
def Mach.onPre (m : Mach) (a : Act) (f : Preamp → Preamp) : Mach := { m with pre := m.pre.upd a f }

/-- Change one channel. -/
def Mach.onCh (m : Mach) (a : Act) (f : Chan → Chan) : Mach := { m with ch := m.ch.upd a f }
/-- Change one sequencer. -/
def Mach.onCfx (m : Mach) (a : Act) (f : Cfx → Cfx) : Mach := { m with cfx := m.cfx.upd a f }

/-- Draw a free value: a value the spec leaves open (log entry 7). -/
def freshVal (m : Mach) : BitVec 64 := Config.freeValue m.drawn
/-- Count a free value as drawn. -/
def drew (m : Mach) : Mach := { m with drawn := m.drawn + 1 }

/-! ### CRC-32C -/

/-- One bit of CRC-32C, reflected polynomial 0x82F6_3B78. -/
def crc32cBit (c : Nat) : Nat := if c % 2 = 1 then (c / 2) ^^^ 0x82F63B78 else c / 2

/-- One byte of CRC-32C. -/
def crc32cByte (c : Nat) (b : Byte) : Nat :=
  crc32cBit (crc32cBit (crc32cBit (crc32cBit (crc32cBit (crc32cBit (crc32cBit (crc32cBit (c ^^^ b.toNat))))))))

/-- CRC-32C (R57, R84, R88, R788), which the spec names and does not define: Castagnoli's polynomial, reflected, initial value and final XOR
all ones (PRESUMED, log entry 8). -/
def crc32c (bs : List Byte) : BitVec 32 := BitVec.ofNat 32 (bs.foldl crc32cByte 0xFFFFFFFF ^^^ 0xFFFFFFFF)

/-! ### The HDA NOR -/

/-- A module with the strap connected and a NOR that conforms accesses the HDA NOR (R49, R53). -/
def norUsable (m : Mach) : Bool := m.hda.strapOk && m.hda.norOk

/-- The identity page as the module reads it: nothing where it does not access the NOR (R49, R53). -/
def hdaPage (m : Mach) : Option IdPage := if norUsable m then m.hda.page else none

/-- The last-shutdown record of this cycle is opened in slot 0, and the loss it may have held is resolved: only then do heads load (R93, R98). -/
def recordOpen (m : Mach) : Bool := m.sup.opened && !m.sup.foreign

/-- The last stage up to which every stage has completed, 0 to 12: the stages complete in order, and one that ends while an earlier one still
runs shows when that has ended too (R215, log entry 64). -/
def stagesInOrder (w : BitVec 12) : Nat := ((List.range 12).takeWhile (fun i => w.getLsbD i)).length

/-! ### Settings records in force -/

/-- The value of the single record of a type among records (R77). -/
def recIn (rs : List SRec) (ty : Nat) : Option (List Byte) := (rs.find? (fun r => r.ty == ty)).map (·.val)

/-- The first of the two types of a block that exists per actuator, standing for both: the record tables give one layout for `n` 4 and 5, 6
and 7, 8 and 9, 10 and 11. -/
def normTy (ty : Nat) : Nat := if 4 ≤ ty / 256 ∧ ty / 256 ≤ 11 ∧ ty / 256 % 2 = 1 then ty - 256 else ty

/-- The single record types (R77), each by its first block. -/
def singleTys : List Nat := [0x0001, 0x0002, 0x0003, 0x0101, 0x0301, 0x0302, 0x0401, 0x0406, 0x0484, 0x0601, 0x0801, 0x0A01, 0x0A81, 0x0C01,
  0x0D01, 0x0D82, 0x0E01, 0x0F01, 0x1001, 0x1101, 0x1102, 0x1180, 0x1181, 0x1201, 0x1281, 0x1301, 0x1401]

/-- The keyed record types (R78), each by its first block. -/
def keyedTys : List Nat := [0x0402, 0x0403, 0x0404, 0x0405, 0x0407, 0x0408, 0x0409, 0x0483, 0x0602, 0x0603, 0x0681, 0x0682, 0x0802, 0x0803,
  0x0882, 0x0883, 0x0C02, 0x0D02, 0x0D03, 0x0D81, 0x1182, 0x1302, 0x1381, 0x1402]

/-- A type is single. -/
def isSingle (ty : Nat) : Bool := singleTys.contains (normTy ty)
/-- The module knows a type (R79). -/
def knownTy (ty : Nat) : Bool := isSingle ty || keyedTys.contains (normTy ty)
/-- Record numbers 0x80 to 0xFF are adaptive (R76). -/
def isAdaptive (ty : Nat) : Bool := decide (128 ≤ ty % 256)

/-- The key that stands for none. -/
def noKey : List Byte := [0xFF, 0xFF, 0xFF, 0xFF]

/-- The key of a record: none for a single type, else the first 4 bytes, missing ones taken as 0xFF (R78, R79). -/
def srecKey (r : SRec) : List Byte := if isSingle r.ty then noKey else (r.val ++ noKey).take 4

/-- Two records stand for the same type and key, all 4 bytes of the key compared (R77, R78, R79). -/
def sameRec (r x : SRec) : Bool := r.ty == x.ty && srecKey r == srecKey x

/-- The type belongs to a block that exists per actuator, whose high byte names the actuator (Table 1-1). -/
def perAct (ty : Nat) : Bool := decide (4 ≤ ty / 256) && decide (ty / 256 ≤ 11)

/-- A key with its ACT byte replaced: in a type of a block that exists per actuator a key may name that actuator or none (Table 1-6,
log entry 35). -/
def withAct (ty act : Nat) (key : List Byte) : List Byte := if perAct ty then BitVec.ofNat 8 act :: key.drop 1 else key

/-- The value of the record of a type and key among records (R78): the one whose key names the actuator before one that names none
(log entry 35). -/
def recKeyIn (rs : List SRec) (ty : Nat) (key : List Byte) : Option (List Byte) :=
  let at_ := fun (k : List Byte) => (rs.find? (fun r => r.ty == ty && r.val.take 4 == k)).map (·.val)
  (at_ (withAct ty (ty / 256 % 2) key)).or (at_ (withAct ty 0xFF key))

/-- The value of the single record of a type in force. -/
def recVal (m : Mach) (ty : Nat) : Option (List Byte) := recIn m.sup.records ty

/-- The four-byte key of Table 1-6. -/
def recKey (act head region inst : Nat) : List Byte :=
  [BitVec.ofNat 8 act, BitVec.ofNat 8 head, BitVec.ofNat 8 region, BitVec.ofNat 8 inst]

/-- The value of the record of a type and key in force. -/
def recKeyed (m : Mach) (ty : Nat) (key : List Byte) : Option (List Byte) := recKeyIn m.sup.records ty key

/-- A little-endian field of `n` bytes at an offset of a value (R27). -/
def fieldAt (v : List Byte) (off n : Nat) : Nat := leNat ((v.drop off).take n)

/-- A two's complement field of `n` bytes at an offset of a value. -/
def fieldAtS (v : List Byte) (off n : Nat) : Int :=
  let x := fieldAt v off n
  if x < 2 ^ (8 * n - 1) then (x : Int) else (x : Int) - (2 ^ (8 * n) : Nat)

/-- A field of a single record in force, or its default when the record is absent. -/
def setting (m : Mach) (ty off n dflt : Nat) : Nat :=
  match recVal m ty with
  | some v => fieldAt v off n
  | none => dflt

/-- A signed field of a single record in force, or its default when the record is absent. -/
def settingS (m : Mach) (ty off n : Nat) (dflt : Int) : Int :=
  match recVal m ty with
  | some v => fieldAtS v off n
  | none => dflt

/-! ### Event reports -/

/-- Where an event stands: actuator, head and zone bytes of its record (Table 19-9). -/
structure Place where
  act : Byte
  head : Byte
  zone : BitVec 24
  deriving DecidableEq, Repr

/-- An event that names no actuator, head or zone. -/
def nowhere : Place := ⟨0xFF, 0xFF, 0xFFFFFF⟩
/-- An event of one actuator. -/
def onAct (a : Act) : Place := ⟨BitVec.ofNat 8 a.idx, 0xFF, 0xFFFFFF⟩
/-- An event of one head. -/
def onHead (a : Act) (h : Nat) : Place := ⟨BitVec.ofNat 8 a.idx, BitVec.ofNat 8 h, 0xFFFFFF⟩
/-- An event of one zone. -/
def onZone (z : Nat) : Place := ⟨0xFF, 0xFF, BitVec.ofNat 24 z⟩

/-- The most records the event store holds (R969). -/
def storeSlots : Nat := 16384

/-- The events that carry more than 8 bytes of parameters (R1041). -/
def longParams (code : Nat) : Bool := [0x0044, 0x0F11, 0x0F40, 0x0F41, 0x1230, 0x1240].contains code

/-- The bytes of PARAM: the parameters, then zeros (R1040). -/
def paramBytes (ps : List Byte) : List Byte := (ps ++ List.replicate 8 0).take 8

/-- Bytes 3 to 7 of a record: place, or the parameters' continuation (R1041). -/
def placeOf (code : Nat) (w : Place) (ps : List Byte) : Place :=
  if longParams code then
    let t := (ps.drop 8 ++ List.replicate 5 0).take 5
    ⟨t.getD 0 0, t.getD 1 0, BitVec.ofNat 24 (leNat (t.drop 2))⟩
  else w

/-- A held record matches a new event in CODE, ACT, HEAD and ZONE, and its REPEAT is below 65,535 (R967). -/
def EvRec.sameAs (r : EvRec) (code : Nat) (w : Place) : Bool :=
  r.code == BitVec.ofNat 16 code && r.act == w.act && r.head == w.head && r.zone == w.zone && decide (r.rep.toNat < 65535)

/-- Raise the REPEAT of the first matching record among the first `n` of a list, newest first (R967). -/
def bumpRepeat (code : Nat) (w : Place) (opsec : BitVec 40) (pcycle : BitVec 32) (ps : List Byte) :
    Nat → List EvSlot → Option (List EvSlot)
  | 0, _ => none
  | _ + 1, [] => none
  | n + 1, e :: es =>
    if e.cur.sameAs code w then
      some ({ e with cur := { e.cur with rep := e.cur.rep + 1, opsec := opsec, pcycle := pcycle, param := ps } } :: es)
    else (bumpRepeat code w opsec pcycle ps n es).map (e :: ·)

/-- The lowest severity among held records whose severity is not above `sv` (R973 steps 1 and 2). -/
def lowestSev (sv : Nat) (es : List EvSlot) : Option Nat :=
  (es.map (fun e => e.cur.sev.code)).filter (· ≤ sv) |>.min?

/-- The record to be replaced: the oldest SEQ of that severity (R973 step 3); the list is newest first. -/
def victim (sv : Nat) (es : List EvSlot) : Option EvSlot :=
  match lowestSev sv es with
  | none => none
  | some l => (es.filter (fun e => e.cur.sev.code == l)).getLast?

/-- Count a dropped record of a severity (R973, R974). -/
def Evr.drop (e : Evr) : Sev → Evr
  | .info => { e with drop0 := e.drop0.inc }
  | .notice => { e with drop1 := e.drop1.inc }
  | .error => { e with drop2 := e.drop2.inc }
  | .critical => { e with drop3 := e.drop3.inc }

/-- A new record with the next sequence number (R965, R966). -/
def Evr.newRec (e : Evr) (code : Nat) (sev : Sev) (w : Place) (opsec : BitVec 40) (pcycle : BitVec 32) (ps : List Byte) : EvRec :=
  ⟨BitVec.ofNat 16 code, sev, w.act, w.head, w.zone, opsec, 1, pcycle, e.newest + 1, ps⟩

/-- The recorder takes a reported event: a repeat, a new record, a replacement or a drop (R966, R967, R973, R974). -/
def Evr.record (e : Evr) (code : Nat) (sev : Sev) (w : Place) (opsec : BitVec 40) (pcycle : BitVec 32) (ps : List Byte) : Evr :=
  match bumpRepeat code w opsec pcycle ps 4 e.held with
  | some h => { e with held := h }
  | none =>
    let r := e.newRec code sev w opsec pcycle ps
    if e.held.length < storeSlots then
      { e with held := ⟨r, e.held.length, none⟩ :: e.held, newest := r.seq, recCnt := e.recCnt.inc }
    else if e.ixd3 then e.drop sev
    else match victim sev.code e.held with
      | none => e.drop sev
      | some v =>
        { e with held := ⟨r, v.slot, v.nor⟩ :: e.held.filter (fun x => x.slot != v.slot), newest := r.seq, recCnt := e.recCnt.inc }

/-- Set a sticky event bit. The two ports share their codes: the first parameter byte names the port (Table 16-16). -/
def Events.set (ev : Events) (b : EvBlock) (n : Nat) (port : Act) : Events :=
  let k : Reg := BitVec.ofNat 32 (2 ^ n)
  match b with
  | .svc => { ev with svc := ev.svc ||| k }
  | .pwr => { ev with pwr := ev.pwr ||| k }
  | .clk => { ev with clk := ev.clk ||| k }
  | .spn => { ev with spn := ev.spn ||| k }
  | .srvRef a => { ev with srvRef := ev.srvRef.upd a (· ||| k) }
  | .srvCtl a => { ev with srvCtl := ev.srvCtl.upd a (· ||| k) }
  | .hif a => { ev with hif := ev.hif.upd a (· ||| k) }
  | .ch a => { ev with ch := ev.ch.upd a (· ||| k) }
  | .cfx a => { ev with cfx := ev.cfx.upd a (· ||| k) }
  | .sch => { ev with sch := ev.sch ||| k }
  | .zmg => { ev with zmg := ev.zmg ||| k }
  | .bcm => { ev with bcm := ev.bcm ||| k }
  | .vlt => { ev with vlt := ev.vlt ||| k }
  | .fe => { ev with fe := ev.fe ||| k }
  | .dsv => { ev with dsv := ev.dsv ||| k }
  | .evr => { ev with evr := ev.evr ||| k }
  | .cal => { ev with cal := ev.cal ||| k }
  | .prt => { ev with prt := ev.prt.upd port (· ||| k) }

/-- An ERROR or CRITICAL event raises the alert: MGT_ALERT_N in SMBus mode, an in-band interrupt in I3C mode (R1001, R1002). -/
def Pins.alert (p : Pins) (sev : Sev) : Pins :=
  if 2 ≤ sev.code then
    match p.mgt with
    | .smbus => { p with mgtAlert := true }
    | .i3c _ => { p with ibi := true }
  else p

/-- Report an event (R945, R965 to R967, R973, R974, R1001, R1040, R1041). A code outside the manual's tables is not
reported (R985). -/
def report (code : Nat) (w : Place) (ps : List Byte) (m : Mach) : Mach :=
  match eventInfo code with
  | none => m
  | some i =>
    { m with
      evr := m.evr.record code i.sev (placeOf code w ps) m.sup.opSec m.sup.pcycle (paramBytes ps)
      events := match i.sticky with
        | none => m.events
        | some (b, n) => m.events.set b n (Act.ofNum (leNat (ps.take 1)))
      pins := m.pins.alert i.sev }

/-- The code of an actuator's own event: the blocks of the second actuator follow those of the first (R31). -/
def actCode (base : Nat) (a : Act) : Nat := base + 0x100 * a.idx

/-! ### The arming table -/

/-- The conditions of Table 19-2 with their factory arming and the responses they permit beside REPORT_ONLY (R949). -/
def armable : List (Nat × Nat × Nat) := [
  (0x0111, 8, 8), (0x0330, 7, 7), (0x0431, 5, 5), (0x0531, 5, 5), (0x0824, 2, 2), (0x0924, 2, 2),
  (0x0A11, 3, 3), (0x0B11, 3, 3), (0x0E20, 1, 1), (0x0F50, 8, 8), (0x1010, 0, 9), (0x1020, 0, 9),
  (0x1030, 4, 4), (0x1310, 6, 6)]

/-- The factory arming of a condition (R949): REPORT_ONLY for every condition not named. -/
def factoryArm (code : Nat) : Nat := (assoc (0, 0) armable code).1

/-- The response a condition permits beside REPORT_ONLY, 0 for none. -/
def permittedArm (code : Nat) : Nat := (assoc (0, 0) armable code).2

/-- A condition permits a response (R949). -/
def armPermits (code resp : Nat) : Bool := resp == 0 || (permittedArm code != 0 && resp == permittedArm code)

/-- The entries of record 0x1201, each a condition code and its response (Table 19-3). -/
def armEntries (v : List Byte) : List (Nat × Nat) :=
  (List.range (fieldAt v 0 2)).map (fun i => (fieldAt v (4 + 4 * i) 2, fieldAt v (6 + 4 * i) 1))

/-- The committed arming of a condition: record 0x1201 in force, or the factory arming (R950, R951). -/
def committedArm (m : Mach) (code : Nat) : Nat :=
  if m.sup.armFailed then factoryArm code
  else match recVal m 0x1201 with
    | none => factoryArm code
    | some v => assoc (factoryArm code) (armEntries v) code

/-- The response in force for a condition (R952, R953). -/
def armed (m : Mach) (code : Nat) : Nat := assoc (committedArm m code) m.evr.arming code

/-! ### States of the module -/

/-- The record types of block SRVn and HIFn carry the block index as their high byte. -/
def srvTy (a : Act) (n : Nat) : Nat := (4 + a.idx) * 256 + n
/-- A record type of HIFn. -/
def hifTy (a : Act) (n : Nat) : Nat := (6 + a.idx) * 256 + n

/-- A record type of CHn. -/
def chTy (a : Act) (n : Nat) : Nat := (8 + a.idx) * 256 + n
/-- A record type of CFXn. -/
def cfxTy (a : Act) (n : Nat) : Nat := (10 + a.idx) * 256 + n

/-- The number DH of a data head (Table 1-2): 0 to 10 on actuator 0, 11 to 21 on actuator 1. -/
def dhOf (a : Act) (h : Nat) : Nat := 11 * a.idx + (h - 1)

/-- A calibration run is in progress on a head of the actuator (R527, R530). -/
def calHeld (m : Mach) (a : Act) (h : Nat) : Bool :=
  match (m.cal.act.get a).run with
  | some r => r.job.kind != 3 && r.job.head == h
  | none => false

/-- A calibration run is in progress on an actuator. -/
def calHolds (m : Mach) (a : Act) : Bool := (m.cal.act.get a).run.isSome

/-- Heads of an actuator are off the ramp. -/
def loaded (m : Mach) (a : Act) : Bool := (m.srv.get a).loaded

/-- The heads of both actuators are parked. -/
def parked (m : Mach) : Bool := !loaded m .a0 && !loaded m .a1

/-- A mode that runs with heads loaded (Table 4-1). -/
def fliesHeads : Mode → Bool
  | .idleFly | .active => true
  | _ => false

/-- The modes whose power domains run: everything but OFF and STANDBY (Table 4-1). -/
def modeRuns : Mode → Bool
  | .off | .standby => false
  | _ => true

end Sys2Proof.Machine
end

