-- ==== Sys2Proof/Machine/OpsNor.lean ====
section
/-! DEFINITION. The HDA NOR (spec/01 R54 to R58, R71 to R75, R84, R88): its regions, the bytes of a settings bank, of the identity page and of a
last-shutdown slot, and the byte that stands at an address. -/

namespace Sys2Proof.Machine

/-! ### Settings banks (Table 1-5) -/

/-- MAGIC of a bank: "IXHD". -/
def bankMagic : BitVec 32 := BitVec.ofNat 32 (leNat [0x49, 0x58, 0x48, 0x44])

/-- The largest payload: 16 MiB less the header sector. -/
def maxPayload : Nat := 16773120

/-- Header bytes 0x00 to 0x1B. -/
def Bank.head (b : Bank) : List Byte :=
  leBytes 4 b.magic.toNat ++ leBytes 2 b.format.toNat ++ leBytes 2 b.hdrLen.toNat ++ leBytes 4 b.seq.toNat ++ leBytes 4 b.payloadLen.toNat
    ++ leBytes 8 b.geomSig.toNat ++ leBytes 4 b.resv.toNat

/-- The payload, which ends at PAYLOAD_LEN (R74); bytes not programmed are erased. -/
def Bank.body (b : Bank) : List Byte :=
  b.payload.take b.payloadLen.toNat ++ List.replicate (b.payloadLen.toNat - b.payload.length) 0xFF

/-- A bank is valid when its MAGIC matches and its CRC checks (R58); a PAYLOAD_LEN that runs past the bank leaves no payload to check. -/
def Bank.valid (b : Bank) : Bool :=
  b.magic == bankMagic && decide (b.payloadLen.toNat ≤ maxPayload) && b.crc == crc32c (b.head ++ b.body)

/-- A bank's FORMAT major is supported (Table 1-5). -/
def Bank.supported (b : Bank) : Bool := b.format.toNat / 256 == 2

/-! ### Records in a payload (R71 to R75) -/

/-- An offending record: type and key (R81). -/
abbrev Offender := Nat × List Byte

/-- Type, length and value of a record. -/
def recBytes (r : SRec) : List Byte := leBytes 2 r.ty ++ leBytes 2 r.val.length ++ r.val

/-- Zeros up to the next 4-byte boundary (R72, R73). -/
def padded (bs : List Byte) : List Byte := bs ++ List.replicate ((4 - bs.length % 4) % 4) 0

/-- The payload of records in order: padding stands between them, none after the last (R73, R74). -/
def recsBytes : List SRec → List Byte
  | [] => []
  | [r] => recBytes r
  | r :: rs => padded (recBytes r) ++ recsBytes rs

/-- The records of a payload, and the one whose length runs past its end (R71 to R75). Fewer than 4 bytes hold no record (log entry 102). -/
def parseRecs : Nat → List Byte → List SRec × Option Offender
  | 0, _ => ([], none)
  | f + 1, bs =>
    if bs.length < 4 then ([], none)
    else
      let ty := fieldAt bs 0 2
      let len := fieldAt bs 2 2
      let v := bs.drop 4
      if v.length < len then ([], some (ty, srecKey ⟨ty, v⟩))
      else
        let t := parseRecs f (v.drop ((len + 3) / 4 * 4))
        (⟨ty, v.take len⟩ :: t.1, t.2)

/-- The records of a bank that lie within its payload. -/
def Bank.recs (b : Bank) : List SRec := (parseRecs (b.payloadLen.toNat / 4 + 1) b.body).1

/-- The record of a bank whose length runs past PAYLOAD_LEN (R75). -/
def Bank.overrun (b : Bank) : Option Offender := (parseRecs (b.payloadLen.toNat / 4 + 1) b.body).2

/-- A bank with its CRC. The minor byte of FORMAT is 0: Table 1-5 takes any minor and names none to write (DESIGN CHOICE, log entry 102). -/
def sealedBank (seq : BitVec 32) (sig : BitVec 64) (rs : List SRec) : Bank :=
  let p := recsBytes rs
  let b : Bank := ⟨bankMagic, 0x0200, 0x0020, seq, BitVec.ofNat 32 p.length, sig, 0, 0, p⟩
  { b with crc := crc32c (b.head ++ b.body) }

/-! ### Identity page (Table 1-8) -/

/-- MAGIC of the identity page: "IXID". -/
def pageMagic : BitVec 32 := BitVec.ofNat 32 (leNat [0x49, 0x58, 0x49, 0x44])

/-- A list cut or filled to a length with a byte. -/
def sized (n : Nat) (fill : Byte) (bs : List Byte) : List Byte := bs.take n ++ List.replicate (n - bs.length) fill

/-- Bytes 0x000 to 0xFFB of the identity page. -/
def IdPage.head (p : IdPage) : List Byte :=
  leBytes 4 p.magic.toNat ++ leBytes 2 p.layout.toNat ++ leBytes 2 p.resv.toNat ++ sized 24 0x20 p.serial ++ leBytes 8 p.geomSig.toNat
    ++ [p.heads.p0, p.heads.p1, p.platters, p.assist] ++ leBytes 2 p.rpmFull.toNat ++ leBytes 2 p.capTb.toNat ++ sized 24 0 p.headmap
    ++ sized 4020 0xFF p.tail

/-- MAGIC and CRC of the identity page are good (R87). -/
def IdPage.intact (p : IdPage) : Bool := p.magic == pageMagic && p.crc == crc32c p.head

/-! ### Last-shutdown slots (Table 1-9) -/

/-- The code of STATE. -/
def SlotState.code : SlotState → Nat
  | .running => 1 | .clean => 2 | .lost => 3

/-- The 48 bytes of a valid slot. -/
def Slot.bytes (x : Slot) : List Byte :=
  let h := [0x49#8, 0x58#8, 0x4C#8, 0x53#8] ++ leBytes 4 x.seq.toNat ++ leBytes 1 x.state.code ++ leBytes 3 0 ++ sized 16 0 x.module
    ++ leBytes 4 x.pcycle.toNat ++ leBytes 8 x.opsec.toNat ++ leBytes 4 x.vseq.toNat
  h ++ leBytes 4 (crc32c h).toNat

/-! ### The layout (Table 1-4) -/

/-- The regions of Table 1-4: address of each, and its end. -/
inductive NorRegion where
  | bankA | bankB | page | slot0 | slot1 | reserved
  deriving DecidableEq, Repr

/-- The first address of a region. -/
def NorRegion.base : NorRegion → Nat
  | .bankA => 0x000_0000 | .bankB => 0x100_0000 | .page => 0x200_0000 | .slot0 => 0x200_1000 | .slot1 => 0x200_1800 | .reserved => 0x200_2000

/-- The region that an address lies in. -/
def regionAt (addr : Nat) : NorRegion :=
  if addr < NorRegion.bankB.base then .bankA
  else if addr < NorRegion.page.base then .bankB
  else if addr < NorRegion.slot0.base then .page
  else if addr < NorRegion.slot1.base then .slot0
  else if addr < NorRegion.reserved.base then .slot1
  else .reserved

/-- A byte of a bank: the header, the erased rest of its sector, the payload. -/
def bankByte (b : Option Bank) (off : Nat) : Byte := match b with
  | none => 0xFF
  | some x => if off < 0x1000 then (x.head ++ leBytes 4 x.crc.toNat).getD off 0xFF else x.payload.getD (off - 0x1000) 0xFF

/-- The byte at an address of the HDA NOR; none past its end (Table 1-4). -/
def Hda.byteAt (h : Hda) (addr : Nat) : Option Byte :=
  let off := addr - (regionAt addr).base
  if h.norSize ≤ addr then none
  else some (match regionAt addr with
    | .bankA => bankByte h.bankA off
    | .bankB => bankByte h.bankB off
    | .page => ((h.page.map (fun p => p.head ++ leBytes 4 p.crc.toNat)).getD []).getD off 0xFF
    | .slot0 => ((h.slot0.map Slot.bytes).getD []).getD off 0xFF
    | .slot1 => ((h.slot1.map Slot.bytes).getD []).getD off 0xFF
    | .reserved => assoc 0xFF h.rest addr)

/-- A bank as the module reads it: nothing where it does not access the NOR (R49, R53). -/
def bankAt (m : Mach) (k : Act) : Option Bank :=
  if norUsable m then (match k with
    | .a0 => m.hda.bankA
    | .a1 => m.hda.bankB)
  else none

/-- A valid bank as the module reads it (R58). -/
def validBank (m : Mach) (k : Act) : Option Bank := (bankAt m k).filter (·.valid)

/-- The newer of two places by R18, the lower place on equal numbers and at a distance of 2^31 (R19, R59). -/
def newerPlace (a b : BitVec 32) : Act := if newer b a && !decide ((b - a).toNat = 2 ^ 31) then .a1 else .a0

/-- The bank of R59: the newer valid one. -/
def chooseBank (m : Mach) : Option (Act × Bank) :=
  match validBank m .a0, validBank m .a1 with
  | none, none => none
  | some a, none => some (.a0, a)
  | none, some b => some (.a1, b)
  | some a, some b => if newerPlace a.seq b.seq = .a1 then some (.a1, b) else some (.a0, a)

/-- Put a bank. -/
def putBank (a : Act) (b : Option Bank) (m : Mach) : Mach := match a with
  | .a0 => { m with hda.bankA := b }
  | .a1 => { m with hda.bankB := b }

end Sys2Proof.Machine
end

