-- ==== Sys2Proof/Machine/OpsService.lean ====
section
/-! DEFINITION. The carrying, checking and answering of service requests (spec/18 R905 to R927). -/

namespace Sys2Proof.Machine

/-! Status codes of Table 18-5. -/
/-- OK. -/
def stOk : Nat := 0x0000
/-- OK_STALE. -/
def stStale : Nat := 0x0001
/-- BAD_OPCODE. -/
def stBadOpcode : Nat := 0x0101
/-- BAD_PARAM. -/
def stBadParam : Nat := 0x0102
/-- BAD_LENGTH. -/
def stBadLength : Nat := 0x0103
/-- BAD_VERSION. -/
def stBadVersion : Nat := 0x0104
/-- DUP_TAG. -/
def stDupTag : Nat := 0x0105
/-- NOT_AUTHORISED. -/
def stNotAuth : Nat := 0x0201
/-- WRONG_MODE. -/
def stWrongMode : Nat := 0x0301
/-- LOOP_CLOSED. -/
def stLoopClosed : Nat := 0x0302
/-- BUSY. -/
def stBusy : Nat := 0x0303
/-- DRAIN_BLOCKED. -/
def stDrainBlocked : Nat := 0x0304
/-- HW_FAULT. -/
def stHwFault : Nat := 0x0401
/-- NOT_PRESENT. -/
def stNotPresent : Nat := 0x0402
/-- ABORTED. -/
def stAborted : Nat := 0x0500

/-- Authority levels in rising order of rights (R919). -/
def lvHost : Nat := 0
/-- MAINT. -/
def lvMaint : Nat := 1
/-- FACTORY. -/
def lvFactory : Nat := 2

/-- A session names the carrier of a request. -/
def Session.serves (x : Session) (h : Hdr) : Bool := x.ref == h.auth && x.who == h.who

/-- The authority a request runs with: HOST for AUTHREF 0, otherwise that of the open session of the same transport instance,
if there is one (R919). -/
def authOf (m : Mach) (h : Hdr) : Option Nat :=
  if h.auth = 0 then some lvHost
  else (m.svc.sessions.find? (·.serves h)).map (·.level)

/-- A request has at least an authority (Table 18-4 step 8). -/
def hasAuth (m : Mach) (h : Hdr) (need : Nat) : Bool :=
  match authOf m h with
  | some l => decide (need ≤ l)
  | none => false

/-- The outstanding request of a carrier and TAG (R908). -/
def OutReq.names (o : OutReq) (who : Transport) (tag : Reg) : Bool := o.who == who && o.tag == tag

/-- A TAG is outstanding on its transport instance (R908). -/
def tagHeld (m : Mach) (who : Transport) (tag : Reg) : Bool := m.svc.out.any (·.names who tag)

/-- A reply carries no result unless its status is OK or OK_STALE (R907). -/
def Reply.sane (r : Reply) : Reply := if r.status ≤ 1 then r else { r with data := [] }

/-- A notice for controllers that satisfy a condition (R913, spec/12 R632): it completes the controller's oldest Asynchronous Event Request, or
waits for the next. -/
def postNotice (p : Ctrlr → Bool) (dw : Nat) (m : Mach) : Mach :=
  let hit := (m.fe.ctrls.filter p).filterMap (fun k => k.aers.head?)
  { m with
    fe.ctrls := m.fe.ctrls.map (fun k => if !p k then k else match k.aers with
      | [] => { k with notices := k.notices ++ [BitVec.ofNat 64 dw] }
      | _ :: r => { k with aers := r })
    fe.ctxs := m.fe.ctxs.map (fun x => if hit.contains x.id && x.status.isNone then { x with phase := .done, status := some .success, dw := BitVec.ofNat 64 dw } else x) }

/-- The vendor-specific notice of a ready reply (R913): event type 7, information 0x01, log page 0x00. -/
def replyNotice (h : Hdr) (m : Mach) : Mach := match h.who with
  | .nvme id => if h.notify then postNotice (fun k => k.cntlid == id && k.vendorAen) 0x0107 m else m
  | _ => m

/-- Put a reply to an outstanding request: on NVMe it waits for retrieval (R912, R915); on MCTP and UART it is sent at once
and the request ends (R917, R918). -/
def replyRaw (h : Hdr) (r : Reply) (m : Mach) : Mach :=
  match h.who with
  | .nvme _ =>
    replyNotice h { m with svc.out := m.svc.out.map (fun o =>
        if o.names h.who h.tag then { o with reply := some r.sane, readyAt := m.sup.opSec } else o) }
  | _ =>
    { m with
      svc.out := m.svc.out.filter (fun o => !o.names h.who h.tag)
      svc.sent := some (h.who, h.tag, r.sane) }

/-- Answer a request with a status, DETAIL and result bytes. -/
def reply (h : Hdr) (status : Nat) (detail : Nat) (data : List Byte) (m : Mach) : Mach :=
  replyRaw h ⟨status, BitVec.ofNat 32 detail, data⟩ m

/-- Reserved contexts held by service requests at most (R911). -/
def maxHeld : Nat := 48

/-- Contexts in use by admin commands and service requests (Table 16-4). -/
def rsvUsed (m : Mach) : Nat := (m.fe.ctxs.filter (·.admin)).length + m.svc.out.length

/-- No reserved context is left for a further service request (R820, R911). -/
def rsvFull (m : Mach) : Bool := decide (maxHeld ≤ m.svc.out.length) || decide (64 ≤ rsvUsed m)

/-- Register values as the 4-byte values of a result (R928). -/
def regBytes (rs : List Reg) : List Byte := (rs.map (fun r => leBytes 4 r.toNat)).flatten

/-- Accept a request after steps 1 to 5 of Table 18-4: it holds a reserved context and becomes outstanding (R911, R914), and it
counts as use of its session (R923). -/
def accept (h : Hdr) (op : Nat) (extra : Bool) (m : Mach) : Mach :=
  { m with
    svc.out := m.svc.out ++ [⟨h.who, h.tag, BitVec.ofNat 16 op, h.notify, none, m.sup.opSec, extra⟩]
    svc.sessions := m.svc.sessions.map (fun x => if x.serves h then { x with lastUse := m.sup.opSec } else x)
    svc.accept := 0 }

/-- The outstanding entry that a request's own acceptance left waiting for its execution: same carrier, TAG and opcode, no
reply yet. -/
def waiting (m : Mach) (h : Hdr) (op : Nat) : Bool :=
  m.svc.out.any (fun o => o.names h.who h.tag && o.opcode == BitVec.ofNat 16 op && o.reply.isNone)

/-- A request that is refused at steps 1 to 5 is not accepted: only its acceptance status stands (R914); on the management port and the UART it is
answered at once (R917). -/
def refuse (h : Hdr) (status : Nat) (m : Mach) : Mach :=
  let m := { m with svc.accept := status }
  match h.who with
  | .nvme _ => m
  | _ => { m with svc.sent := some (h.who, h.tag, ⟨status, 0, []⟩) }

/-- The outstanding request of a carrier carried a payload that its opcode does not take. -/
def hasExtra (m : Mach) (h : Hdr) : Bool := m.svc.out.any (fun o => o.names h.who h.tag && o.extra)

/-- The statuses of step 9. -/
def ofState (st : Nat) : Bool := st == stWrongMode || st == stLoopClosed

/-- The UART serves frames only in SERVICE (R918, R239). -/
def carried (m : Mach) (h : Hdr) : Bool := h.who != .uart || m.sup.mode == .service

/-- The checks of a request's mode, state and parameters, in order: the first condition that holds names the status
(Table 18-4 steps 7 to 11). -/
def firstFail : List (Bool × Nat) → Option Nat
  | [] => none
  | (b, st) :: r => if b then some st else firstFail r

/-- Step 7 of Table 18-4: IXD-5260-S0 has no peer-group family (R6). -/
def familyAbsent (op : Nat) (m : Mach) : Bool := m.id.variant == .s0 && op / 256 == 0x0B

/-- One service request, from its acceptance to the end of its execution (R926, R927): when the command that carried it has
already accepted it, its execution alone. `absent` is step 7, `need` the authority of its row, `checks` its conditions of steps 9 to 11 in
order, `body` its effect and reply. A request that fails a check changes nothing and is answered with that status. -/
def serviceFor (absent : Mach → Bool) (op : Nat) (h : Hdr) (need : Nat) (checks : Mach → List (Bool × Nat)) (body : Mach → Mach) (m : Mach) : Mach :=
  if !carried m h then m
  else if waiting m h op then go m
  else if tagHeld m h.who h.tag then refuse h stDupTag m
  else if rsvFull m then refuse h stBusy m
  else go (accept h op false m)
where
  /-- steps 7 to 11 -/
  go (m : Mach) : Mach :=
    if absent m then reply h stNotPresent 0 [] m
    else if !hasAuth m h need then reply h stNotAuth 0 [] m
    else match firstFail (checks m) with
      | some st => reply h (if hasExtra m h && !ofState st then stBadLength else st) 0 [] m
      | none => if hasExtra m h then reply h stBadLength 0 [] m else body m

/-- A service request whose opcode alone decides step 7. -/
def service (op : Nat) (h : Hdr) (need : Nat) (checks : Mach → List (Bool × Nat)) (body : Mach → Mach) (m : Mach) : Mach :=
  serviceFor (familyAbsent op) op h need checks body m

/-- Reserved inline parameters must be 0 (R928). -/
def reserved (rs : List Reg) : Bool × Nat := (rs.any (· != 0), stBadParam)

/-- Sessions that close when the mode leaves SERVICE: every FACTORY session (R922). -/
def closeFactory (m : Mach) : Mach := { m with svc.sessions := m.svc.sessions.filter (fun x => x.level != lvFactory) }

/-- Discard every outstanding request, session, challenge and Opal exchange of transport instances that satisfy a condition (R910, R916, R923). -/
def dropTransport (p : Transport → Bool) (m : Mach) : Mach :=
  { m with
    svc.out := m.svc.out.filter (fun o => !p o.who)
    svc.sessions := m.svc.sessions.filter (fun x => !p x.who)
    svc.challenges := m.svc.challenges.filter (fun c => !p c.who)
    dsv.sess := m.dsv.sess.filter (fun x => !p (.nvme x.cntlid)), dsv.resp := m.dsv.resp.filter (fun x => !p (.nvme x.1)) }

/-- SVCSTAT.STAGED: the staging area holds a record. -/
def stagedAny (m : Mach) : Bool := m.svc.staged.any (fun x => !x.2.1)

/-- Stage a record on the module's own account (R937, R542): a later staging of the same type and key replaces an earlier one. -/
def stageOwn (r : SRec) (m : Mach) : Mach :=
  { m with svc.staged := m.svc.staged.filter (fun x => !sameRec x.1 r) ++ [(r, false, true)] }

end Sys2Proof.Machine
end

