-- ==== Sys2Proof/Machine/OpsGroup.lean ====
section
/-! DEFINITION. Peer groups at one member (spec/17 R882 to R898): placement entries and their override ranges, and the state of a group. -/

namespace Sys2Proof.Machine

/-- The group of an identifier. -/
def groupOf (m : Mach) (gid : BitVec 32) : Option Group_ := m.dsv.groups.find? (fun g => g.gid == gid)

/-- An override range names an extent of a column (Table 17-11). -/
def Override.covers (o : Override) (col e : Nat) : Bool := o.col == col && decide (o.first ≤ e) && decide (e < o.first + o.count)

/-- The placement entry of a column's extent: the default is UP at the column's member (R886). -/
def Group_.entry (g : Group_) (col e : Nat) : Override :=
  match g.excepts.find? (·.covers col e) with
  | some o => o
  | none => let c := g.cols.getD col (0, 0); ⟨col, .up, c.1, e, 1, c.2, e, 0⟩

/-- The state of a column's extent (Table 17-4). -/
def Group_.stAt (g : Group_) (col e : Nat) : ColState := (g.entry col e).st

/-- The number of columns. -/
def Group_.n (g : Group_) : Nat := g.k + g.m

/-- Columns whose extent is DOWN or STALE. -/
def Group_.badAt (g : Group_) (e : Nat) : Nat :=
  ((List.range g.n).filter (fun c => g.stAt c e == .down || g.stAt c e == .stale)).length

/-- Some entry is DOWN, STALE or REBUILDING (R898). -/
def Group_.degraded (g : Group_) : Bool := g.excepts.any (fun o => o.st != .up && o.count != 0)

/-- More than `m` columns of some row are DOWN or STALE (R898): the ranges of most columns begin somewhere. -/
def Group_.failed (g : Group_) : Bool := g.excepts.any (fun o => decide (o.first < g.c) && decide (g.m < g.badAt o.first))

/-- 1 NORMAL, 2 DEGRADED, 3 FAILED (Table 17-9). -/
def Group_.state (g : Group_) : Nat := if g.failed then 3 else if g.degraded then 2 else 1

/-- Columns with an entry in one of some states. -/
def Group_.colsIn (g : Group_) (p : ColState → Bool) : Nat :=
  ((List.range g.n).filter (fun c => g.excepts.any (fun o => o.col == c && p o.st && o.count != 0))).length

/-- Extents of a column in a state. -/
def Group_.extents (g : Group_) (col : Nat) (st : ColState) : Nat :=
  let listed := (g.excepts.filter (fun o => o.col == col)).map (fun o => (o.st, o.count))
  let own := ((listed.filter (fun x => x.1 == st)).map (·.2)).sum
  if st == .up then own + (g.c - (listed.map (·.2)).sum) else own

/-- The group that a message is about. -/
def ZMsg.gid : ZMsg → Option (BitVec 32)
  | .groupDef g _ _ _ _ _ => some g
  | .groupAns g _ => some g
  | .state g _ _ => some g
  | .parity g _ _ _ => some g
  | .reconRead g _ _ => some g
  | .reconData g _ _ _ => some g
  | _ => none

/-- Sectors of Δ in the send log (R893), each counted once whatever the number of parity columns it goes to (log entry 69). -/
def deltaLog (m : Mach) (p : BitVec 32 → Bool) : Nat :=
  ((nubList (m.dsv.log.filterMap (fun l => match l.msg with
    | .parity g col lba d => if p g then some (g, col, lba, d.length) else none
    | _ => none))).map (fun x => x.2.2.2)).sum

/-- The send log in use for the group selected, in KiB (R893, Table 17-9): 4 KiB for each sector of Δ. -/
def logKib (m : Mach) : Nat :=
  match m.dsv.groups.find? (fun g => g.index == m.dsv.groupSel.toNat) with
  | none => 0
  | some g => 4 * deltaLog m (· == g.gid)

/-- DSV.LOCKSTAT. -/
def dsvLockReg (m : Mach) : Reg :=
  let rs := m.dsv.opal.ranges.take 16
  let word := fun (f : LRange → Bool) => (((List.range rs.length).filter (fun i => f (rs.getD i {}))).map (fun i => 2 ^ i)).sum
  packReg [⟨16, 16, word (fun r => r.on && r.wle && r.wl)⟩, ⟨0, 16, word (fun r => r.on && r.rle && r.rl)⟩]

/-- DSV.BOOT. -/
def dsvBootReg (m : Mach) : Reg := packReg [⟨24, 8, m.id.minSvn.toNat⟩, ⟨16, 8, m.dsv.svn.toNat⟩, ⟨12, 4, m.id.revoked.toNat⟩,
  ⟨10, 2, m.dsv.keySlot.toNat⟩, ⟨0, 7, 64 - m.id.svnRaises⟩]

/-- DSV.ZGPSTAT. -/
def dsvZgpReg (m : Mach) : Reg := packReg [⟨31, 1, m.dsv.joined.toNat⟩, ⟨16, 9, m.dsv.module⟩,
  ⟨4, 9, (m.dsv.peers.filter (·.up)).length⟩, ⟨0, 4, m.dsv.groups.length⟩]

/-- DSV.GROUPSTAT of the group selected. -/
def dsvGroupReg (m : Mach) : Reg :=
  match m.dsv.groups.find? (fun g => g.index == m.dsv.groupSel.toNat) with
  | none => 0
  | some g => packReg [⟨30, 2, g.state⟩, ⟨24, 6, g.k⟩, ⟨20, 4, g.m⟩, ⟨13, 7, g.colsIn (· == .down)⟩,
      ⟨6, 7, g.colsIn (fun s => s == .stale || s == .rebuilding)⟩]

end Sys2Proof.Machine
end

