-- ==== Sys2Proof/Machine/OpsSector.lean ====
section
/-! DEFINITION. What a sector is on the media (spec/09 R471 to R473, R500, Table 9-5; spec/12 R643): its payload with the CRC, scrambled; the
surface that holds it; the sector whose gate is open. -/

namespace Sys2Proof.Machine

/-! ### The scrambler -/

/-- Terms n to n + 28k − 1 of the scrambler's sequence added to the n that stand: each is the sum of the terms 28 and 31 before it. -/
def scrGrow : Nat → Nat → BitVec 33280 → BitVec 33280
  | 0, _, x => x
  | k + 1, n, x => scrGrow k (n + 28) (x ||| ((((x >>> (n - 31)) ^^^ (x >>> (n - 28))) &&& 0xFFFFFFF#33280) <<< n))

/-- The sequence of the scrambler x^31 + x^28 + 1 for a TAG (R473): its first 31 terms are the low 31 bits of TAG, bit 0 forced to 1. That the
seed's bits come in rising order, and that term n meets bit n of the payload, byte 0's least significant bit first, is the model's choice
(DESIGN CHOICE, log entry 102). -/
def scrSeq (tag : BitVec 64) : BitVec 33280 := scrGrow 1188 31 ((tag.truncate 31 ||| 1#31).zeroExtend 33280)

/-! ### The payload -/

/-- Bytes 0 to 4,155 of a payload (Table 9-5), least significant byte first in each field (R27): DATA, TAG, WSEQ, FLAGS, two reserved bytes, META
with its eight reserved bytes (Table 12-6). -/
def payloadHead (p : Payload) : BitVec 33248 :=
  (0#64 ++ p.info.zrc ++ p.info.pbn ++ p.info.pi ++ p.info.lba ++ p.info.nsid ++ 0#16 ++ p.info.flags ++ p.info.wseq ++ p.info.tag ++ p.data).cast (by omega)

/-- The CRC-32C of bytes 0 to 4,155. -/
def headCrc (x : BitVec 33248) : BitVec 32 := crc32c ((List.range 4156).map (fun i => x.extractLsb' (8 * i) 8))

/-- The 4,160 bytes of a payload (Table 9-5). -/
def payloadBits (p : Payload) : BitVec 33280 := (headCrc (payloadHead p) ++ payloadHead p).cast (by omega)

/-- The payload that 4,160 bytes stand for, none when their CRC fails (R487). -/
def payloadFrom (x : BitVec 33280) : Option Payload :=
  if x.extractLsb' 33248 32 = headCrc (x.extractLsb' 0 33248) then
    some ⟨x.extractLsb' 0 32768, {
      tag := x.extractLsb' 32768 64, wseq := x.extractLsb' 32832 32, flags := x.extractLsb' 32864 16
      nsid := x.extractLsb' 32896 32, lba := x.extractLsb' 32928 64, pi := x.extractLsb' 32992 128
      pbn := x.extractLsb' 33120 32, zrc := x.extractLsb' 33152 32 }⟩
  else none

/-- The information bits of the codeword that a payload is written as (R472, R473, R500); its parity bits follow from them. -/
def scramble (p : Payload) : BitVec 33280 := payloadBits p ^^^ scrSeq p.info.tag

/-- What the information bits of a codeword decode to under a TAG (R473, R487). -/
def unscramble (tag : BitVec 64) (x : BitVec 33280) : Option Payload := payloadFrom (x ^^^ scrSeq tag)

/-! ### The surface -/

/-- The TAG of a place on a surface (Table 12-6). -/
def tagOf (head track slot : Nat) : BitVec 64 := BitVec.ofNat 64 (track + 2 ^ 24 * slot + 2 ^ 40 * head)

/-- The key of a slot of the media surface. -/
def surfKey (a : Act) (head track slot : Nat) : Nat := ((a.idx * 16 + head) * 2 ^ 24 + track) * 2 ^ 16 + slot

/-- The TAG of the slot that a key names. -/
def keyTag (key : Nat) : BitVec 64 := tagOf (key / 2 ^ 40 % 16) (key / 2 ^ 16 % 2 ^ 24) (key % 2 ^ 16)

/-- The payload that a slot's codeword holds, under the TAG of the slot. -/
def slotData (m : Mach) (a : Act) (head track slot : Nat) : Option Payload :=
  (assoc none m.hda.surface (surfKey a head track slot)).bind (unscramble (tagOf head track slot))

/-- A payload is written to a slot. -/
def slotPut (a : Act) (head track slot : Nat) (p : Payload) (m : Mach) : Mach :=
  { m with hda.surface := assocSet none m.hda.surface (surfKey a head track slot) (some (scramble p)) }

/-- The content of a slot is no longer valid (R504). -/
def slotSpoil (a : Act) (head track slot : Nat) (m : Mach) : Mach :=
  { m with hda.surface := assocSet none m.hda.surface (surfKey a head track slot) none }

/-! ### Result words -/

/-- A sector result word (Table 9-15 LASTSEC). -/
def secWord (step dec sync : Nat) (slip : Int) (iters flips : Nat) : Reg :=
  packReg [⟨28, 4, step⟩, ⟨25, 3, dec⟩, ⟨22, 3, sync⟩, ⟨17, 5, (slip % 32).toNat⟩, ⟨10, 7, satTo 127 iters⟩, ⟨0, 10, satTo 1023 flips⟩]

/-- DEC codes (Table 9-15). -/
def decOk : Nat := 0
/-- FAIL. -/
def decFail : Nat := 1
/-- TAG_MISMATCH. -/
def decTag : Nat := 2
/-- OVERRUN. -/
def decOverrun : Nat := 3
/-- ABORTED. -/
def decAborted : Nat := 4
/-- INHIBITED. -/
def decInhibited : Nat := 5
/-- WRITTEN. -/
def decWritten : Nat := 6

/-- DEC of a result word. -/
def secDec (w : Reg) : Nat := field w 25 3

/-- Give a result to the last sector, which is the one whose gate is open (R493, R577). -/
def Chan.endLast (c : Chan) (w : Reg) (pl : Option Payload) : Chan :=
  match c.secs.reverse with
  | x :: xs => if x.result.isSome then c else
      { c with secs := (({ x with result := some w, data := pl, store := none } : Sec) :: xs).reverse, lastSec := w }
  | [] => c

/-- The equalizer taps as the step in force uses them (Table 9-8): one reader alone at steps 6 and 7. -/
def Chan.tapsNow (c : Chan) : List (BitVec 16) :=
  c.eqTaps.zipIdx.map (fun p => if (c.step = 6 && decide (16 ≤ p.2)) || (c.step = 7 && decide (p.2 < 16)) then 0 else p.1)

/-- The writer is cut off: the sector that it was writing ends at once with the result INHIBITED, and what stands on the media for it is not
valid (R504). -/
def spoilWrite (a : Act) (m : Mach) : Mach :=
  if (m.hif.get a).gateReq != .driven then m
  else match (m.ch.get a).secs.getLast? with
  | some x =>
    if !x.write || x.result.isSome then m
    else slotSpoil a x.head x.track.toNat x.slot.toNat (m.onCh a (fun c => c.endLast (secWord c.step.toNat decInhibited 0 0 0 0) none))
  | none => m

end Sys2Proof.Machine
end

