-- ==== Sys2Proof/Machine/OpsHead.lean ====
section
/-! DEFINITION. Shared operations of the head interface: the head bus (spec/08 R410 to R424), write inhibit (R432 to R437)
and the gates (R428, R431, R436, R440, R443). -/

namespace Sys2Proof.Machine

/-- A group is in reset. -/
def inReset (m : Mach) (g : Group) : Bool := m.clk.inReset.getLsbD g.bitNo

/-- A head is present as a data head in the identity page (Table 1-8 HEADMAP). -/
def dataHead (m : Mach) (a : Act) (h : Nat) : Bool :=
  match hdaPage m with
  | some p => decide (1 ≤ h) && decide (h ≤ 11) && p.headmap.getD (12 * a.idx + h) 0 == 2
  | none => false

/-- The data heads of an actuator, in rising order. -/
def dataHeads (m : Mach) (a : Act) : List Nat := (List.range 12).filter (dataHead m a)

/-- The internal write-unsafe of an actuator (R432): R161, R294, R350, R360, R403, R416 and Table 6-5. -/
def writeUnsafe (m : Mach) (a : Act) : Bool :=
  (m.hif.get a).wusClk || m.spn.wus || (m.srv.get a).wusOvr || (m.srv.get a).wusDrv || (m.srv.get a).wusOff
    || !(m.hif.get a).wusPages.isEmpty || (m.srvRef.get a).wusPos

/-- Assist is cut off for the selected head (R441, R443). -/
def assistCut (m : Mach) (a : Act) : Bool :=
  (m.hif.get a).otCut || (m.hif.get a).astFault.getLsbD (m.hif.get a).selHead.toNat

/-- Some source of write inhibit is true (R432). -/
def inhibitSource (m : Mach) (a : Act) : Bool :=
  (m.hif.get a).wusIn || writeUnsafe m a || (m.srv.get a).shockWi || assistCut m a

/-- A gate that was driven stays low until the sequencer closes and opens it again (R436). -/
def GateReq.cut : GateReq → GateReq
  | .driven => .withheld
  | g => g

/-- Write inhibit follows its sources: at its onset the sector in progress ends (R504), WGATE and AGATE fall
and INHCNT counts (R433, R435, R437). -/
def refreshInhibit (a : Act) (m : Mach) : Mach :=
  if inhibitSource m a then
    if (m.hif.get a).inhibit then m
    else (spoilWrite a m).onHif a (fun h => { h with inhibit := true, wgate := false, agate := false, agTicks := 0, gateReq := h.gateReq.cut, inhCnt := h.inhCnt.inc })
  else if (m.hif.get a).inhibit then m.onHif a (fun h => { h with inhibit := false })
  else m

/-- Write inhibit of both actuators. -/
def refreshInhibits (m : Mach) : Mach := refreshInhibit .a1 (refreshInhibit .a0 m)

/-- The preamp's own test of a frame (R414, Table 8-3): registers of the profile, pages of heads that are present. -/
def frameKnown (m : Mach) (a : Act) (f : Frame) : Bool :=
  let last := f.addr + f.count
  if f.page = 15 then decide (last ≤ 9)
  else if f.page = 0 then decide (f.addr = 0x10) && decide (f.count = 1)
  else dataHead m a f.page && decide (0x10 ≤ f.addr) && decide (last ≤ 0x17)

/-- Write one register of the global page (Table 8-3); SEL refuses 0 and absent heads before the frame is accepted. -/
def Preamp.putGlobal (p : Preamp) (addr : Nat) (w : BitVec 16) : Preamp :=
  if addr = 1 then { p with sel := w.truncate 4 }
  else if addr = 2 then
    if w.getLsbD 15 then { id := p.id, temp := p.temp } else { p with ctrl := w &&& 0x000F#16 }
  else if addr = 3 then { p with status := p.status &&& ~~~(w.truncate 8) }
  else if addr = 7 then { p with ilim := w &&& 0x03FF#16 }
  else if addr = 8 then { p with otLimit := w &&& 0x00FF#16 }
  else p

/-- The words of an accepted write frame take effect together (R415). -/
def Preamp.putAll (p : Preamp) (page : Nat) : Nat → List (BitVec 16) → Preamp
  | _, [] => p
  | addr, w :: ws =>
    let q := if page = 15 then p.putGlobal addr w
      else { p with pages := assocSet 0#16 p.pages (16 * page + (addr - 0x10)) w }
    q.putAll page (addr + 1) ws

/-- Read one register of the preamp (Table 8-3). -/
def Preamp.getReg (p : Preamp) (page addr : Nat) : BitVec 16 :=
  if page = 15 then
    match addr with
    | 0 => p.id
    | 1 => p.sel.zeroExtend 16
    | 2 => p.ctrl
    | 3 => p.status.zeroExtend 16
    | 4 => p.temp
    | 5 => p.astMeas
    | 6 => p.astVmeas
    | 7 => p.ilim
    | 8 => p.otLimit
    | _ => 0
  else assoc 0#16 p.pages (16 * page + (addr - 0x10))

/-- A write to SEL of 0 or of an absent head is rejected (Table 8-3). -/
def selRejected (m : Mach) (a : Act) (f : Frame) : Bool :=
  f.write && decide (f.page = 15) && decide (f.addr ≤ 1) && decide (1 < f.addr + f.words.length) &&
    (let v := (f.words.getD (1 - f.addr) 0).toNat % 16
     decide (v ≠ 15) && !dataHead m a v)

/-- What becomes of one sending: the bus answer as it is, but a preamp without its supplies does not answer, and a frame outside the profile is
rejected (R414). -/
def ackOf (m : Mach) (a : Act) (f : Frame) (k : Ack) : Ack :=
  if !m.pins.preampOn.get a then .silent
  else match k with
  | .accepted => if frameKnown m a f && !selRejected m a f then .accepted else .rejected
  | k => k

/-- The answers of up to three sendings, up to the first acceptance (R416). -/
def frameTries (m : Mach) (a : Act) (f : Frame) (acks : List Ack) : List Ack :=
  let x := ackOf m a f (acks.getD 0 .accepted)
  let y := ackOf m a f (acks.getD 1 .accepted)
  let z := ackOf m a f (acks.getD 2 .accepted)
  if x = .accepted then [x] else if y = .accepted then [x, y] else [x, y, z]

/-- The bits of a number, most significant first. -/
def msbBits (w n : Nat) : List Bool := (List.range w).map (fun i => n.testBit (w - 1 - i))

/-- CRC-8 of the head bus, polynomial x^8 + x^2 + x + 1 (R413). -/
def crc8 : List Bool → BitVec 8 → BitVec 8
  | [], c => c
  | b :: bs, c => crc8 bs ((c <<< 1) ^^^ (if xor b c.msb then 0x07#8 else 0#8))

/-- The bits on HB_DAT of one frame, START to the idle bit (Table 8-2): `words` is what the sender of DATA sends, none when the preamp sends nothing
and the pull-up of Table 8-1 holds the line high. The turnaround bit is not driven. -/
def frameBits (f : Frame) (words : Option (List (BitVec 16))) (k : Ack) : List Bool :=
  let ctl := (!f.write) :: msbBits 4 f.page ++ msbBits 7 f.addr ++ msbBits 3 (f.count - 1)
  let body := match words with
    | some ws =>
      let bits := ws.flatMap (fun w => msbBits 16 w.toNat)
      bits ++ msbBits 8 (crc8 (ctl ++ bits) 0).toNat
    | none => List.replicate (16 * f.count + 8) true
  false :: ctl ++ (if f.write then [] else [true]) ++ body ++ msbBits 2 k.code ++ [true]

/-- The words that an accepted read frame brings (R413). -/
def readWords (m : Mach) (a : Act) (f : Frame) : List (BitVec 16) := (List.range f.count).map (fun i => (m.pre.get a).getReg f.page (f.addr + i))

/-- The bits of the last sending of a frame (R413). -/
def frameLine (m : Mach) (a : Act) (f : Frame) (last : Ack) : List Bool :=
  frameBits f (if f.write then some f.words else if last = .accepted then some (readWords m a f) else none) last

/-- Send a frame with its resends (R416): `acks` are the bus answers, a missing one being an acceptance. After the third failure
event 0x11 is reported and the page's write-unsafe raised; an accepted frame lowers the write-unsafe of its page. -/
def sendFrame (a : Act) (f : Frame) (acks : List Ack) (forSelect : Bool) (m : Mach) : Mach :=
  let tries := frameTries m a f acks
  let last := tries.getLast?.getD .silent
  let fails := (tries.filter (· ≠ .accepted)).length
  let m := m.onHif a (fun h => { h with hbErr := h.hbErr.add fails, line := frameLine m a f last })
  if last = .accepted then
    let m := ifDo f.write (fun m => m.onPre a (fun p => p.putAll f.page f.addr f.words)) m
    let m := m.onHif a (fun h => { h with wusPages := h.wusPages.filter (· != f.page) })
    refreshInhibit a m
  else
    let m := report (actCode 0x0611 a) (onAct a) (leBytes 1 f.page ++ leBytes 1 f.addr ++ leBytes 1 last.code) m
    let m := m.onHif a (fun h => { h with wusPages := if h.wusPages.contains f.page then h.wusPages else h.wusPages ++ [f.page], selFailed := h.selFailed || forSelect })
    refreshInhibit a m

/-- A single-word write to the global page. -/
def globalWrite (addr : Nat) (w : BitVec 16) : Frame := ⟨true, 15, addr, [w], 1⟩

/-- Both gates fall; a sector cut off is not resumed (R436, R440). -/
def dropGates (a : Act) (m : Mach) : Mach :=
  (spoilWrite a m).onHif a (fun h => { h with wgate := false, agate := false, agTicks := 0, gateReq := h.gateReq.cut })

/-- When a retract starts the unit drops the gates and writes CTRL with HEAT_EN at 0 (R440). -/
def retractGates (a : Act) (m : Mach) : Mach :=
  let m := dropGates a m
  sendFrame a (globalWrite 2 ((m.pre.get a).ctrl &&& ~~~(0x0004#16))) [] false m

/-- Raise AGATE unless an inhibit or an assist cut-off holds it low (R433, R441, R443). -/
def openAssist (a : Act) (m : Mach) : Mach :=
  let ok := !(m.hif.get a).inhibit && !assistCut m a
  m.onHif a (fun h => { h with agReq := true, agate := ok, agTicks := if ok && h.agate then h.agTicks else 0, wgFell := h.wgFell && ok && h.agate })

/-- Lower AGATE at the sequencer's wish. -/
def closeAssist (a : Act) (m : Mach) : Mach := m.onHif a (fun h => { h with agReq := false, agate := false, agTicks := 0, astTicks := 0, gapTicks := 0, wgFell := false })

/-- Open the write gate: refused with event 0x22 without a data head in SEL (R428), held low with PREHEAT_SHORT before the
lead (R431), held low while an inhibit or over-current bar stands (R436, R443). -/
def openWrite (a : Act) (m : Mach) : Mach :=
  let h := m.hif.get a
  if !dataHead m a (m.pre.get a).sel.toNat then
    report (actCode 0x0622 a) (onAct a) (leBytes 1 (m.pre.get a).sel.toNat) (m.onHif a (fun h => { h with gateReq := .withheld }))
  else if h.inhibit || assistCut m a then m.onHif a (fun h => { h with gateReq := .withheld })
  else if h.agTicks < h.leadTicks.toNat then
    let m := m.onHif a (fun h => { h with gateReq := .withheld, preheatShort := true })
    if h.shortReported then m
    else report (actCode 0x0623 a) (onHead a h.selHead.toNat) (leBytes 2 h.agTicks ++ leBytes 2 h.leadTicks.toNat)
      (m.onHif a (fun h => { h with shortReported := true }))
  else if h.gateReq = .withheld then m
  else m.onHif a (fun h => { h with gateReq := .driven, wgate := true })

/-- Close the write gate. -/
def closeWrite (a : Act) (m : Mach) : Mach := m.onHif a (fun h => { h with gateReq := .closed, wgate := false, wgFell := h.wgFell || h.wgate })

/-- The heater level in force changes: HEATER_READY clears (R429). -/
def heaterChanged (a : Act) (m : Mach) : Mach := m.onHif a (fun h => { h with heaterReady := false })

/-- HBOOST follows the sequencer (Table 8-3 CTRL, R429). -/
def setBoost (a : Act) (on : Bool) (m : Mach) : Mach :=
  if (m.hif.get a).hboost = on then m
  else
    let c := (m.pre.get a).ctrl
    let m := sendFrame a (globalWrite 2 (if on then c ||| 0x0008#16 else c &&& ~~~(0x0008#16))) [] false m
    heaterChanged a (m.onHif a (fun h => { h with hboost := on }))

/-- The register values of a head and region in force: the adaptive record replaces the integrator's (R425, R456). -/
def headRegs (m : Mach) (a : Act) (h r : Nat) : List Byte :=
  let key := recKey a.idx h r 0xFF
  match recKeyed m (hifTy a 0x82) key with
  | some v => v.drop 4
  | none => match recKeyed m (hifTy a 0x02) key with
    | some v => v.drop 4
    | none => []

/-- The seven words of the page frame (R425). -/
def pageWords (m : Mach) (a : Act) (h r : Nat) : List (BitVec 16) :=
  (List.range 7).map (fun i => BitVec.ofNat 16 (fieldAt (headRegs m a h r) (2 * i) 2))

/-- LEADTICKS := ceil(LEAD_NS × FREQ_KHZ ÷ 8,000,000) (R430). -/
def leadTicksOf (m : Mach) (a : Act) (h r : Nat) (freqKhz : Nat) : Nat :=
  (fieldAt (headRegs m a h r) 14 2 * freqKhz + 7999999) / 8000000

/-- Select a head and region, or a region alone (R416, R425, R428, R429): the page frame, then the SEL frame; when both are accepted the
selection is in force, the heater level has changed, LEADTICKS follows the new rate and the inhibit follows the new head (R443). -/
def selectRegion (a : Act) (h r : Nat) (withSel : Bool) (acks1 acks2 : List Ack) (freqKhz : Nat) (m : Mach) : Mach :=
  let m := m.onHif a (fun x => { x with selFailed := false })
  let m := sendFrame a ⟨true, h, 0x10, pageWords m a h r, 7⟩ acks1 true m
  let m := if withSel && !(m.hif.get a).selFailed then sendFrame a (globalWrite 1 (BitVec.ofNat 16 h)) acks2 true m else m
  if (m.hif.get a).selFailed then m
  else refreshInhibit a (heaterChanged a (m.onHif a (fun x => { x with
    selHead := if withSel then BitVec.ofNat 4 h else x.selHead, region := BitVec.ofNat 6 r
    leadTicks := BitVec.ofNat 16 (satTo 65535 (leadTicksOf m a h r freqKhz)) })))

/-! ### Settings of record 0xn01 (Table 8-6) -/

/-- OT_LIMIT, °C. -/
def otLimit (m : Mach) (a : Act) : Nat := setting m (hifTy a 0x01) 0 1 115
/-- OT_HYST, °C. -/
def otHyst (m : Mach) (a : Act) : Nat := setting m (hifTy a 0x01) 1 1 10
/-- The identity page declares a laser. -/
def isLaser (m : Mach) : Bool := match hdaPage m with
  | some p => p.assist == 1
  | none => true
/-- ILIM, 0.1 mA. -/
def assistIlim (m : Mach) (a : Act) : Nat := setting m (hifTy a 0x01) 2 2 (if isLaser m then 440 else 110)
/-- LIFE_WARN, percent. -/
def lifeWarn (m : Mach) (a : Act) : Nat := setting m (hifTy a 0x01) 7 1 90
/-- ASSIST_LIFE of a head, C. -/
def assistLife (m : Mach) (a : Act) (h : Nat) : Nat :=
  match recKeyed m (hifTy a 0x03) (recKey a.idx h 0xFF 0xFF) with
  | some v => fieldAt v 4 4
  | none => 0

/-! ### Preamp supplies -/

/-- The supplies of a preamp go on or off (R1005, R1006); at power-up it takes the reset values of Table 8-3 (R421). -/
def preampSupply (on : Bool) (a : Act) (m : Mach) : Mach :=
  { m with
    pins.preampOn := m.pins.preampOn.upd a (fun _ => on)
    pre := if on && !m.pins.preampOn.get a then m.pre.upd a (fun p => { id := p.id, temp := p.temp }) else m.pre }

/-- In the power-loss sequence the supplies stay on until the retract completes (R1006). -/
def lossSupply (a : Act) (m : Mach) : Mach := if m.pwr.loss then preampSupply false a m else m

/-! ### Assist cut-off and lifetime -/

/-- The over-temperature cut-off (R441): AGATE low, ASSIST_EN at 0, OT_CUT, event 0x30. -/
def assistCutoff (a : Act) (temp : BitVec 16) (m : Mach) : Mach :=
  if (m.hif.get a).otCut then m
  else
    let m := m.onHif a (fun h => { h with otCut := true, agate := false })
    let m := refreshInhibit a m
    let m := sendFrame a (globalWrite 2 ((m.pre.get a).ctrl &&& ~~~(0x0002#16))) [] false m
    report (actCode 0x0630 a) (onHead a (m.hif.get a).selHead.toNat) (leBytes 2 temp.toNat) m

/-- Microseconds of a number of sequencer ticks, 8 channel bits each (R447). -/
def ticksUs (m : Mach) (a : Act) (n : Nat) : Nat := 8000 * n / (m.clk.freqKhz.get a).toNat

/-- Count lifetime on the selected head (R447) and warn once at LIFE_WARN percent and at 100 % of ASSIST_LIFE (R449). -/
def addLife (a : Act) (astUs charge wrUs : Nat) (m : Mach) : Mach :=
  let hd := (m.hif.get a).selHead.toNat
  if !dataHead m a hd then m
  else
    let m := m.onHif a (fun x => { x with life := updAt x.life (hd - 1) (fun l => { l with
      astTime := l.astTime.add astUs, astCharge := l.astCharge.add charge, wrTime := l.wrTime.add wrUs }) })
    let l := (m.hif.get a).life.getD (hd - 1) {}
    let cap := 1000000 * assistLife m a hd
    let q := l.astCharge.val.toNat
    let m := if cap != 0 && !l.warned && decide (lifeWarn m a * cap ≤ 100 * q) then
        report (actCode 0x0640 a) (onHead a hd) (leBytes 1 hd ++ leBytes 1 (lifeWarn m a))
          (m.onHif a (fun x => { x with life := updAt x.life (hd - 1) (fun l => { l with warned := true }) }))
      else m
    if cap != 0 && !l.reached && decide (cap ≤ q) then
      report (actCode 0x0641 a) (onHead a hd) (leBytes 1 hd)
        (m.onHif a (fun x => { x with life := updAt x.life (hd - 1) (fun l => { l with reached := true }) }))
    else m

/-- The full-scale assist current in mA (R422). -/
def assistFull (m : Mach) : Nat := if isLaser m then 40 else 10

/-- The assist charge in µC of ticks at AST_W and of ticks at AST_GAP (R421, R422, R447; log entry 28). -/
def assistCharge (m : Mach) (a : Act) (w g : Nat) : Nat :=
  let hd := (m.hif.get a).selHead.toNat
  let code := fun r => (assoc 0#16 (m.pre.get a).pages (16 * hd + r)).toNat
  (code 3 * w + code 4 * g) * assistFull m * 8000 / (1023000 * (m.clk.freqKhz.get a).toNat)

/-- A second of heater energy on the selected data head, at the level in force (R421, R422, R447; log entry 28). -/
def addHeat (a : Act) (m : Mach) : Mach :=
  let h := m.hif.get a
  let c := (m.pre.get a).ctrl
  let hd := h.selHead.toNat
  if !c.getLsbD 2 || !dataHead m a hd then m
  else
    let code := (assoc 0#16 (m.pre.get a).pages (16 * hd + (if h.wgate then 1 else if c.getLsbD 3 then 2 else 0))).toNat
    let q := h.htrRem + 150 * code
    m.onHif a (fun x => { x with htrRem := q % 1023, life := updAt x.life (hd - 1) (fun l => { l with htrEnergy := l.htrEnergy.add (q / 1023) }) })

end Sys2Proof.Machine
end

