-- ==== Sys2Proof/Machine/OpsCal.lean ====
section
/-! DEFINITION. Shared operations of calibration (spec/10) that every unit needs: the values that a run adjusts, and the end of a run
without a result (R544). -/

namespace Sys2Proof.Machine

/-- The actuator of a DH; for ADC_SKEW the channel's (Table 10-1). -/
def calAct (kind dh : Nat) : Act := if kind = 3 then Act.ofNum dh else if dh < 11 then .a0 else .a1

/-- The head number of a DH. -/
def headOfDh (dh : Nat) : Nat := dh % 11 + 1

/-- The key of the tables of Cal. -/
def calKey (kind dh : Nat) : Nat := 64 * kind + dh

/-- Put the value of a keyed record in force, or take it out (R71, R78). -/
def putRecord (ty : Nat) (key : List Byte) (v : Option (List Byte)) (m : Mach) : Mach :=
  let rest := m.sup.records.filter (fun r => !(r.ty == ty && r.val.take 4 == key))
  { m with sup.records := match v with
      | some x => rest ++ [⟨ty, x⟩]
      | none => rest }

/-- The value that stands for a region of a channel: the adaptive record, else the integrator's (R467). -/
def regionEntry (m : Mach) (a : Act) (h r : Nat) : List Byte :=
  match recKeyed m (chTy a 0x82) (recKey a.idx h r 0xFF) with
  | some v => v
  | none => (recKeyed m (chTy a 0x02) (recKey a.idx h r 0xFF)).getD []

/-- The units take up values that a run has changed (R467, R535, R542): the page of the selected head, the region table, the trims. -/
def calApply (a : Act) (j : CalJob) (m : Mach) : Mach :=
  if j.kind = 0 || j.kind = 1 then
    if (m.hif.get a).selHead.toNat = j.head && (m.hif.get a).region.toNat = j.region then
      heaterChanged a (sendFrame a ⟨true, j.head, 0x10, pageWords m a j.head j.region, 7⟩ [] false m)
    else m
  else if j.kind = 2 then
    m.onCh a (fun c => { c with ram := assocSet [] c.ram (64 * j.head + j.region) (regionEntry m a j.head j.region) })
  else if j.kind = 3 then
    let t := fun reader => match recKeyed m (chTy a 0x83) (recKey a.idx 0xFF 0xFF reader) with
      | some v => v
      | none => (recKeyed m (chTy a 0x03) (recKey a.idx 0xFF 0xFF reader)).getD []
    m.onCh a (fun c => { c with trims := ⟨t 0, t 1⟩ })
  else m

/-- Restore the values that stood before a run (R543, R544). -/
def calRestore (a : Act) (r : CalRun) (m : Mach) : Mach :=
  calApply a r.job (r.saved.foldl (fun m s => putRecord s.1 s.2.1 s.2.2 m) m)

/-- Change calibration of one actuator. -/
def Mach.onCal (m : Mach) (a : Act) (f : CalAct → CalAct) : Mach := { m with cal.act := m.cal.act.upd a f }

/-- FIGURE and RESID of a kind and head as the DETAIL of CAL_RUN (Table 10-5). -/
def calDetail (m : Mach) (j : CalJob) : Nat :=
  let b := assoc {} m.cal.base (calKey j.kind j.dh)
  b.figure.toNat + 65536 * b.resid.toNat

/-- A run has ended for the CAL_RUN entries that name it: an entry whose last run it was leaves the queue, and the request is answered
after its last run, with the first status that is not OK (Table 10-5). -/
def calReqDone (a : Act) (j : CalJob) (status : Nat) (m : Mach) : Mach :=
  let names := fun (e : CalReq) => e.kind == j.kind && e.left.contains (j.dh, j.region)
  let hit := ((m.cal.act.get a).queue.filter names).map (·.req)
  let m := m.onCal a (fun c => { c with
    queue := (c.queue.map (fun e => if names e then { e with left := e.left.filter (· != (j.dh, j.region)) } else e)).filter (fun e => !e.left.isEmpty) })
  let m := { m with cal.reqs := m.cal.reqs.map (fun (q : Hdr × Nat) => if hit.contains q.1 && q.2 == stOk then (q.1, status) else q) }
  let live := ((m.cal.act.get .a0).queue ++ (m.cal.act.get .a1).queue).map (fun (e : CalReq) => e.req)
  let excepts := m.cal.reqs.filter (fun (q : Hdr × Nat) => hit.contains q.1 && !live.contains q.1)
  excepts.foldl (fun m (q : Hdr × Nat) => reply q.1 q.2 (calDetail m j) [] m)
    { m with cal.reqs := m.cal.reqs.filter (fun (q : Hdr × Nat) => !(hit.contains q.1 && !live.contains q.1)) }

/-- The head leaves calibration: its metrics are shown live again (R508, R530). -/
def calRelease (a : Act) (m : Mach) : Mach :=
  (m.onCal a (fun c => { c with run := none })).onCh a (fun c => { c with held := [] })

/-- A run in progress is abandoned (R544): values restored, CAL 0x1321, the request's status 0x0500; the kind stays due. -/
def calAbandon (a : Act) (cause : Nat) (m : Mach) : Mach :=
  match (m.cal.act.get a).run with
  | none => m
  | some r =>
    let m := calRelease a (calRestore a r m)
    let m := report 0x1321 (onAct a) (leBytes 1 r.job.kind ++ leBytes 1 r.job.region ++ leBytes 1 cause) { m with cal.failCnt := m.cal.failCnt.inc }
    calReqDone a r.job stAborted (m.onCal a (fun c => { c with gap := false }))

/-- Every run in progress is abandoned. -/
def calAbandonAll (cause : Nat) (m : Mach) : Mach := calAbandon .a1 cause (calAbandon .a0 cause m)

/-- No forced run is due on an actuator (R228, R231). -/
def forcedCalsDone (m : Mach) (a : Act) : Bool :=
  !m.cal.forced.any (fun k => decide (calAct (k / 64) (k % 64) = a) && !(assoc {} m.cal.due k).left.isEmpty)

/-- A BULKCAP run of CAL_RUN has ended (R131, Table 10-5): its requests are answered. -/
def calBulkDone (ok : Bool) (m : Mach) : Mach :=
  let st := if ok then stOk else stHwFault
  let excepts := m.cal.reqs.filter (fun (q : Hdr × Nat) => q.1.p0 == 5)
  excepts.foldl (fun m (q : Hdr × Nat) => reply q.1 st 0 [] m) { m with cal.reqs := m.cal.reqs.filter (fun (q : Hdr × Nat) => q.1.p0 != 5) }

end Sys2Proof.Machine
end

