-- ==== Sys2Proof/Machine/OpsSpindle.lean ====
section
/-! DEFINITION. Shared operations of the spindle unit (spec/05): the speed curve, target changes, braking, coasting, loss of
the rotor. -/

namespace Sys2Proof.Machine

/-- A curve from the value of record 0x0301 (Table 5-4). -/
def curveOfBytes (v : List Byte) : Curve :=
  ⟨fieldAt v 1 1, (List.range (fieldAt v 0 1)).map (fun i => ⟨fieldAt v (4 + 4 * i) 1, fieldAt v (5 + 4 * i) 1 == 1, fieldAt v (6 + 4 * i) 2⟩)⟩

/-- The curve in force: a loaded one, else record 0x0301, else the default (R287, R305). -/
def curveNow (m : Mach) : Curve :=
  match m.spn.loadedCurve with
  | some c => c
  | none => match recVal m 0x0301 with
    | some v => curveOfBytes v
    | none => Curve.default

/-- Largest index whose demand is not above `d`, counting from `i`. -/
def Curve.lastBelow (d : Nat) : List Breakpoint → Nat → Nat → Nat
  | [], _, best => best
  | b :: bs, i, best => if b.demand ≤ d then Curve.lastBelow d bs (i + 1) i else best

/-- The target speed that a curve gives a demand (R284, R286). -/
def Curve.target (c : Curve) (turning : Bool) (d : Nat) : Nat :=
  match c.bps with
  | [] => 0
  | b0 :: _ =>
    if d = 0 then 0
    else if !turning && decide (d < b0.demand) then 0
    else if turning && decide (d < c.turnOff) then 0
    else if d < b0.demand then b0.rpm
    else
      let i := Curve.lastBelow d c.bps 0 0
      let b := c.bps.getD i b0
      match c.bps[i + 1]? with
      | some n =>
        if b.ramp then
          ((b.rpm : Int) + (((n.rpm : Int) - b.rpm) * ((d : Int) - b.demand)).tdiv ((n.demand : Int) - b.demand)).toNat
        else b.rpm
      | none => b.rpm

/-- The fields of record 0x0302 (Table 5-5). -/
def spnSoften (m : Mach) : Nat := setting m 0x0302 0 1 15
/-- BRAKE_KIND. -/
def spnBrakeKind (m : Mach) : Nat := setting m 0x0302 1 1 0
/-- ALIGN_I, mA. -/
def spnAlignI (m : Mach) : Nat := setting m 0x0302 2 2 600
/-- HANDOVER_RPM. -/
def spnHandover (m : Mach) : Nat := setting m 0x0302 8 2 300
/-- RUN_ILIM, mA. -/
def spnRunIlim (m : Mach) : Nat := setting m 0x0302 10 2 1000
/-- BRAKE_I, mA. -/
def spnBrakeI (m : Mach) : Nat := setting m 0x0302 12 2 1200
/-- REGEN_MIN, rpm. -/
def spnRegenMin (m : Mach) : Nat := setting m 0x0302 14 2 1000

/-- RAMP_T, ms. -/
def spnRampT (m : Mach) : Nat := setting m 0x0302 6 2 1500

/-- Limit of the phase current in force, mA (R106, R261, R289): 1.6 A in spin-up, where ALIGN and RAMP drive at ALIGN_I, which is at most that;
BRAKE_I in braking, RUN_ILIM otherwise. -/
def spnIlim (m : Mach) : Nat :=
  match m.spn.st with
  | .accel => 1600
  | .align | .ramp => spnAlignI m
  | .brake => spnBrakeI m
  | _ => spnRunIlim m

/-- The phase driven high and the one driven low in each of the six steps (R259); which they are in a step is this model's choice (DESIGN CHOICE, log
entry 102). -/
def sixStep (k : Nat) : MotorPhase × MotorPhase := match k % 6 with
  | 0 => (.a, .b) | 1 => (.a, .c) | 2 => (.b, .c) | 3 => (.b, .a) | 4 => (.c, .a) | _ => (.c, .b)

/-- The phase that floats in a step (R259). -/
def floatPhase (k : Nat) : MotorPhase := match k % 6 with
  | 0 | 3 => .c | 1 | 4 => .b | _ => .a

/-- The part a phase takes in a step: 1 driven high, −1 driven low, 0 floating. -/
def stepPart (k : Nat) (x : MotorPhase) : Int := if (sixStep k).1 = x then 1 else if (sixStep k).2 = x then -1 else 0

/-- The current of a phase at a position in a step, in 1/65,536 of its 60° (R260): within SOFTEN ÷ 2 of a nominal commutation angle it passes linearly
from the outgoing to the incoming phase, so that the step's pattern is mixed with that of its neighbour. -/
def phaseCurrent (k pos soften iph : Nat) (x : MotorPhase) : Int :=
  let w := 65536 * soften
  let p := 120 * pos
  let prev := w - p
  let next := p + w - 65536 * 120
  if soften = 0 then stepPart k x * iph
  else (stepPart (k + 5) x * prev + stepPart k x * ((2 * w : Nat) - (prev : Int) - next) + stepPart (k + 1) x * next) * iph / (2 * w : Nat)

/-- The three phase currents of a step. -/
def phaseCurrents (k pos soften iph : Nat) : PhaseI :=
  ⟨phaseCurrent k pos soften iph .a, phaseCurrent k pos soften iph .b, phaseCurrent k pos soften iph .c⟩

/-- A position within a step lies in the window for the zero-crossing (R263): 10° to 50°, clipped to the floating interval less 2° at each end. -/
def inWindow (soften pos : Nat) : Bool :=
  decide (65536 * Nat.max 20 (soften + 4) ≤ 120 * pos) && decide (120 * pos ≤ 65536 * Nat.min 100 (116 - soften))

/-- The step that the observer angle lies in, and the position in it (R257, R264). -/
def angleStep (elec : BitVec 16) : Nat := elec.toNat * 6 / 65536
/-- The position in the step, 1/65,536 of it. -/
def anglePos (elec : BitVec 16) : Nat := elec.toNat * 6 % 65536

/-- The open-loop angle of RAMP in 1/65,536 of a step, `n` PWM periods of 1/48 ms after its start (R270): the integral of a rate that rises linearly
from 30 rpm to HANDOVER_RPM over RAMP_T and then stays. -/
def rampPos (handover rampT n : Nat) : Nat :=
  let k := Nat.min n (48 * rampT)
  393216 * (96 * rampT * (30 * n + (handover - 30) * (n - k)) + (handover - 30) * k ^ 2) / (46080000 * rampT)

/-- The step boundary is reached (R264, R270): in RAMP by the open-loop angle, otherwise by the observer angle. -/
def atBoundary (m : Mach) : Bool :=
  if m.spn.st == .ramp then decide (m.spn.rampSteps < rampPos (spnHandover m) (spnRampT m) m.spn.rampN / 65536)
  else angleStep m.spn.elec == (m.spn.comStep + 1) % 6

/-- VMOT stands in tolerance: 24.0 V ± 3 % (Table 2-1), in 10 mV units. -/
def vmotOk (m : Mach) : Bool := decide (2328 ≤ m.pwr.vmot.toNat) && decide (m.pwr.vmot.toNat ≤ 2472)

/-- The bridge of a state (Table 5-1). -/
def bridgeOf : SpnState → Bridge
  | .stopped => .off
  | .catching | .lost | .coast => .floating
  | .align => .vector
  | .ramp | .accel | .run => .step
  | .brake => .regen

/-- Enter a spindle state with its bridge; a VMOT over-voltage trip keeps every leg floating (R133, R136). -/
def spnGo (st : SpnState) (b : Bridge) (m : Mach) : Mach :=
  { m with
    spn.st := st
    spn.bridge := if m.pwr.ovpActive && st != .stopped then .floating else b
    spn.zcRun := 0, spn.disRun := 0, spn.slow := false }

/-- Take up a turning rotor: commutation goes on from the observer angle. The step in which it begins, whose window has not been watched whole, is not
judged for a missing zero-crossing (DESIGN CHOICE, log entry 102). -/
def takeUp (st : SpnState) (b : Bridge) (m : Mach) : Mach :=
  let m := spnGo st b m
  { m with spn.comStep := angleStep m.spn.elec, spn.zcSeen := true, spn.unfollowed := false }

/-- Release the spindle's write-unsafe, unless R300 holds it until the module reset. -/
def spnWusRelease (m : Mach) : Mach :=
  if m.spn.wus && !m.spn.wusHeld then refreshInhibits { m with spn.wus := false } else m

/-- The rotor drops out of measurement: the index loses its anchor (R303). -/
def unanchor (m : Mach) : Mach := { m with spn.anchored := false }

/-- The states in which braking and target changes act on a driven rotor. -/
def SpnState.driven : SpnState → Bool
  | .accel | .run => true
  | _ => false

/-- Why regeneration is replaced by short-braking (R290): 1 chopper fault, 2 withheld, 3 override. -/
def shortReason (m : Mach) : Option Nat :=
  if m.pwr.chopFault then some 1 else if m.pwr.withheld then some 2 else if m.spn.brakeOvr = 1 then some 3 else none

/-- Start a regenerative braking, or the short-braking that replaces it: reported under R290, silent below REGEN_MIN (R289) and
with the chopper disabled for test (Table 2-10 CHOP_EN). -/
def brakeRegen (m : Mach) : Mach :=
  match shortReason m with
  | some r => report 0x0340 nowhere (leBytes 1 r) { spnGo .brake .shorted m with spn.shortOnly := true }
  | none =>
    if !m.pwr.chopEn || decide (m.spn.speed.toNat < 100 * spnRegenMin m) then spnGo .brake .shorted m
    else { spnGo .brake .regen m with spn.shortOnly := false }

/-- Bring the rotor down in the manner of BRAKE_KIND and BRAKE_OVR (R289, Table 5-9): only with both actuators' heads parked (R288), and through COAST
while an over-voltage trip keeps the bridge floating (R133). -/
def spnBrake (m : Mach) : Mach :=
  if !parked m then m
  else if m.spn.brakeOvr = 2 || m.pwr.ovpActive then spnGo .coast .floating m
  else match spnBrakeKind m with
    | 0 => brakeRegen m
    | 1 => spnGo .brake .shorted m
    | _ => if m.spn.brakeOvr = 1 then spnGo .brake .shorted m else spnGo .coast .floating m

/-- An ongoing regenerative braking becomes short-braking for a reason of R290 (R143). -/
def replaceBrake (r : Nat) (m : Mach) : Mach :=
  if m.spn.st == .brake && m.spn.bridge == .regen then
    report 0x0340 nowhere (leBytes 1 r) { m with spn.bridge := .shorted, spn.shortOnly := true }
  else m

/-- Enter CATCH (R270): a new start begins with its first attempt and owes its report (R273, R278); within a start the attempt goes on. -/
def spnStart (m : Mach) : Mach :=
  let m := spnGo .catching .floating m
  if m.spn.starting then m
  else { m with spn.attempt := 1, spn.starting := true, spn.retryWait := false, spn.owesReport := true, spn.startCnt := m.spn.startCnt.inc }

/-- Speed in hundredths of an rpm is at or above a speed in rpm. -/
def atLeastRpm (m : Mach) (rpm : Nat) : Bool := decide (100 * rpm ≤ m.spn.speed.toNat)

/-- From STOPPED and COAST the unit starts toward its target when nothing keeps it (Table 5-1, R268, R271, R272). -/
def spnResume (m : Mach) : Mach :=
  let t := m.spn.targetRpm.toNat
  if inReset m .spn || m.spn.halted || t = 0 then m
  else match m.spn.st with
  | .stopped => if m.spn.retryWait then m else spnStart m
  | .coast => if vmotOk m && !m.pwr.loss && decide (m.spn.speed.toNat ≤ 100 * t) then spnStart m else m
  | _ => m

/-- The spindle answers a new target in its present state (Table 5-1, R268, R293). Table 5-1 names no exit of CATCH, ALIGN and RAMP on a target of 0,
and none of ACCEL on a lower target: the unit coasts from the first three and brakes from ACCEL. A rotor short-braked below HANDOVER_RPM is
brought to rest (R271), a lost one is followed after re-lock (DESIGN CHOICE, log entry 102). -/
def spnFollowTarget (m : Mach) : Mach :=
  let t := m.spn.targetRpm.toNat
  if inReset m .spn then m
  else match m.spn.st with
  | .catching | .align | .ramp => if t = 0 then { spnGo .coast .floating m with spn.starting := false } else m
  | .accel => if decide (t = 0) || decide (100 * t < m.spn.speed.toNat) then spnBrake { m with spn.starting := false } else m
  | .run => if 100 * t < m.spn.speed.toNat then spnBrake m else if atLeastRpm m t then m else spnGo .accel .step m
  | .lost => { m with spn.unfollowed := true }
  | .brake =>
    if t = 0 then { m with spn.slow := false, spn.starting := false }
    else if m.spn.slow then m
    else if atLeastRpm m t then spnGo .run .step m else spnGo .accel .step m
  | .stopped | .coast => spnResume m

/-- The bridge returns to the spindle unit after a VMOT over-voltage trip (R136, R269): what was driven is driven on, and a rotor left to coast is
taken up as R268 has it. -/
def spnReleased (m : Mach) : Mach := match m.spn.st with
  | .brake => spnBrake m
  | .stopped | .coast => spnResume m
  | st => { m with spn.bridge := bridgeOf st }

/-- FLY_OK: at least 95 % of the target and at least 5,000 rpm (R279). -/
def flyOkAt (target speed : Nat) : Bool := decide (95 * target ≤ speed) && decide (500000 ≤ speed)

/-- A new target comes into force: AT_SPEED clears and is owed a report (R278), FLY_OK is judged anew (R279). -/
def spnApplyTarget (t : Nat) (m : Mach) : Mach :=
  spnFollowTarget { m with
    spn.targetRpm := BitVec.ofNat 16 t, spn.heldTarget := none
    spn.atSpeed := false, spn.revRun := 0, spn.owesReport := decide (t ≠ 0), spn.flyOk := flyOkAt t m.spn.speed.toNat }

/-- Set the target; while any heads are loaded a changed target is held (R281). -/
def spnSetTarget (t : Nat) (m : Mach) : Mach :=
  if t = m.spn.targetRpm.toNat then { m with spn.heldTarget := none }
  else if parked m then spnApplyTarget t m
  else { m with spn.heldTarget := some (BitVec.ofNat 16 t) }

/-- Evaluate the curve for the demand in force (R286); "turning" is any state but STOPPED. -/
def spnEvaluate (m : Mach) : Mach :=
  spnSetTarget ((curveNow m).target (m.spn.st != .stopped) m.spn.demand.toNat) m

/-- The spin demand in force changes (R212, R286). -/
def setDemand (d : Nat) (m : Mach) : Mach :=
  spnEvaluate { m with sup.demand := BitVec.ofNat 8 d, spn.demand := BitVec.ofNat 8 d }

/-- The heads of both actuators have been parked: a held target takes effect (R281). -/
def spnParked (m : Mach) : Mach :=
  match m.spn.heldTarget with
  | some t => if parked m then spnApplyTarget t.toNat m else m
  | none => m

/-- Drive no leg: COAST from any state that turns (R268). -/
def spnCoast (m : Mach) : Mach :=
  if m.spn.st == .stopped then m
  else { spnGo .coast .floating m with spn.listen := false, spn.starting := false, spn.wusHeld := m.spn.wusHeld || (m.spn.listen && m.pwr.loss) }

/-- Standstill: STOPPED, the index unanchored, the write-unsafe released, and the curve evaluated again (R286, R291, R294, R303). -/
def spnStop (m : Mach) : Mach :=
  let m := spnGo .stopped .off m
  let m := { m with spn.speed := 0, spn.ePeriod := 0, spn.iph := 0, spn.duty := 0, spn.flyOk := false, spn.atSpeed := false, spn.lastStep := none, spn.listen := false, spn.steps := [], spn.iPhase := {} }
  spnResume (spnEvaluate (spnWusRelease (unanchor m)))

/-- The three steps of R294: legs float, SPN 0x0330 with its cause, write-unsafe on both actuators; LOSSCNT counts, the index
loses its anchor (R303). -/
def spnLossSteps (cause : Nat) (m : Mach) : Mach :=
  let m := report 0x0330 nowhere (leBytes 1 cause ++ leBytes 3 m.spn.speed.toNat) m
  refreshInhibits (unanchor { m with spn.wus := true, spn.lossCnt := m.spn.lossCnt.inc, spn.bridge := .floating })

/-- Loss of the rotor (R294, R299): in ACCEL and RUN the listening window opens; in BRAKE the unit coasts. -/
def loseRotor (cause : Nat) (m : Mach) : Mach :=
  match m.spn.st with
  | .accel | .run =>
    { spnLossSteps cause { m with spn.st := .lost } with spn.listen := true, spn.zcRun := 0, spn.disRun := 0, spn.carried := m.spn.lastStep, spn.unfollowed := false }
  | .brake => spnResume { spnLossSteps cause { m with spn.st := .coast } with spn.disRun := 0, spn.slow := false }
  | _ => m

/-- MECH_ANGLE (R301, R303, Table 5-9): electrical cycles since the anchoring mark, 0 while unanchored. -/
def mechAngle (p : Spn) : Nat :=
  if p.anchored then ((p.cycle + 6 - p.markCycle) % 6 * 65536 + p.elec.toNat + 6 * 65536 - p.markElec.toNat) % (6 * 65536) / 6 else 0

end Sys2Proof.Machine
end

