-- ==== Sys2Proof/Machine/OpsServo.lean ====
section
/-! DEFINITION. Shared operations of the servo units: tracks and offsets (spec/06 R324 to R329), compensators and banks
(spec/07 R354 to R366), state changes, load, unload, HOLD and retract (R367 to R401). -/

namespace Sys2Proof.Machine

/-! ### Settings of record 0xn06 and 0xn01 -/

/-- A field of record 0xn06 (Table 7-9). -/
def ctlSet (m : Mach) (a : Act) (off n dflt : Nat) : Nat := setting m (srvTy a 0x06) off n dflt
/-- A field of record 0xn01 (Table 6-11). -/
def posSet (m : Mach) (a : Act) (off n dflt : Nat) : Nat := setting m (srvTy a 0x01) off n dflt
/-- SETTLE_WIN. -/
def settleWin (m : Mach) (a : Act) : Nat := ctlSet m a 0 2 512
/-- SETTLE_LIMIT. -/
def settleLimit (m : Mach) (a : Act) : Nat := ctlSet m a 2 2 154
/-- SETTLE_N. -/
def settleN (m : Mach) (a : Act) : Nat := ctlSet m a 4 1 16
/-- WRITE_N. -/
def writeN (m : Mach) (a : Act) : Nat := ctlSet m a 5 1 8
/-- READ_LIMIT. -/
def readLimit (m : Mach) (a : Act) : Nat := ctlSet m a 6 2 256
/-- WRITE_LIMIT. -/
def writeLimit (m : Mach) (a : Act) : Nat := ctlSet m a 8 2 154
/-- I_SEEK_MAX. -/
def iSeekMax (m : Mach) (a : Act) : Nat := ctlSet m a 12 2 15000
/-- LIN_MAX. -/
def linMax (m : Mach) (a : Act) : Nat := ctlSet m a 14 2 5000
/-- KV. -/
def kvGain (m : Mach) (a : Act) : Nat := ctlSet m a 16 2 10000
/-- MA_STROKE. -/
def maStroke (m : Mach) (a : Act) : Nat := ctlSet m a 18 2 20
/-- MA_VMAX. -/
def maVmax (m : Mach) (a : Act) : Nat := ctlSet m a 20 2 24000
/-- HOLD_TMAX. -/
def holdTmax (m : Mach) (a : Act) : Nat := ctlSet m a 22 2 100
/-- LOAD_RETRY. -/
def loadRetry (m : Mach) (a : Act) : Nat := ctlSet m a 24 1 2
/-- SHOCK_WI, g. -/
def shockWiLim (m : Mach) (a : Act) : Nat := ctlSet m a 27 1 10
/-- RET_V, 0.1 V. -/
def retVolt (m : Mach) (a : Act) : Nat := ctlSet m a 25 1 8
/-- LOAD_BEMF, mV. -/
def loadBemf (m : Mach) (a : Act) : Nat := ctlSet m a 38 2 150
/-- SHOCK_RET, g. -/
def shockRetLim (m : Mach) (a : Act) : Nat := ctlSet m a 28 2 150

/-! ### Tracks and offsets -/

/-- The value of record 0xn02 of a head and region (Table 6-10). -/
def trackRec (m : Mach) (a : Act) (h r : Nat) : Option (List Byte) := recKeyed m (srvTy a 0x02) (recKey a.idx h r 0xFF)

/-- The frequency regions recorded for a head, in rising order (R9). -/
def regionsOf (m : Mach) (a : Act) (h : Nat) : List Nat := (List.range 64).filter (fun r => (trackRec m a h r).isSome)

/-- The region of a head that holds a track (R324). -/
def regionOfTrack (m : Mach) (a : Act) (h t : Nat) : Option Nat :=
  (regionsOf m a h).find? (fun r => match trackRec m a h r with
    | some v => decide (fieldAt v 4 4 ≤ t) && decide (t < fieldAt v 4 4 + fieldAt v 8 4)
    | none => false)

/-- The pitch segments of a track record: START and PITCH (Table 6-10). -/
def segsOf (v : List Byte) : List (Nat × Nat) :=
  (List.range (fieldAt v 16 2)).map (fun i => (fieldAt v (20 + 8 * i) 4, fieldAt v (24 + 8 * i) 4))

/-- The sum of pitches of the tracks below `k`, in 1/256 unit (R324). -/
def pitchSum (tracks k : Nat) : List (Nat × Nat) → Nat
  | [] => 0
  | [(st, p)] => (min k tracks - st) * p
  | (st, p) :: (st2, p2) :: r => (min k st2 - st) * p + pitchSum tracks k ((st2, p2) :: r)

/-- The position of a track by its region's record (R324). -/
def posIn (v : List Byte) (t : Nat) : Nat := fieldAt v 12 4 + pitchSum (fieldAt v 8 4) (t - fieldAt v 4 4) (segsOf v) / 256

/-- pos(t) of a head (R324). -/
def trackPos (m : Mach) (a : Act) (h t : Nat) : Option Nat :=
  match regionOfTrack m a h t with
  | none => none
  | some r => (trackRec m a h r).map (fun v => posIn v t)

/-- The segment pitch at a track, in 1/256 unit (R333). -/
def pitchAt (m : Mach) (a : Act) (h t : Nat) : Nat :=
  match regionOfTrack m a h t with
  | none => 0
  | some r => match trackRec m a h r with
    | none => 0
    | some v => (((segsOf v).filter (fun s => decide (s.1 ≤ t - fieldAt v 4 4))).getLast?.getD (0, 0)).2

/-- One offset entry of a head, region and field: the adaptive map when present, else the seed (R327). -/
def offsetEntry (m : Mach) (a : Act) (h r k : Nat) : Int :=
  let key := recKey a.idx h r 0xFF
  match recKeyed m (srvTy a 0x83) key with
  | some v => fieldAtS v (4 + 4 * (k % 128)) 4
  | none => match recKeyed m (srvTy a 0x03) key with
    | some v => fieldAtS v (4 + 4 * (k % 128)) 4
    | none => 0

/-- Linear interpolation with truncation of the step toward zero. -/
def lerp (x y : Int) (num den : Nat) : Int := if den = 0 then x else x + ((y - x) * num).tdiv den

/-- FIELD_PHASE of a head, 1/65,536 revolution (R331, R343). -/
def fieldPhase (m : Mach) (a : Act) (h : Nat) : Nat := match recKeyed m (srvTy a 0x05) (recKey a.idx h 0xFF 0xFF) with
  | some v => fieldAt v 4 2
  | none => 0

/-- The offset O at a track and an angle, in 1/65,536 revolution after the once-around mark: linear in angle between the head's alignment fields, the
first of which begins FIELD_PHASE after the mark, then in radius (R328, R331). -/
def offsetAt (m : Mach) (a : Act) (h t angle : Nat) : Int :=
  match regionOfTrack m a h t with
  | none => 0
  | some r =>
    let x := (angle + 65536 - fieldPhase m a h) % 65536
    let k := x / 512
    let at_ := fun q => lerp (offsetEntry m a h q k) (offsetEntry m a h q (k + 1)) (x % 512) 512
    match trackRec m a h r, trackRec m a h (r + 1) with
    | some v, some w => lerp (at_ r) (at_ (r + 1)) (t - fieldAt v 4 4) (fieldAt w 4 4 - fieldAt v 4 4)
    | _, _ => at_ r

/-- The data track whose position lies nearest an estimate (R372, R380): the first of the head's tracks at the least distance,
searched region by region through its pitch. -/
def nearestTrack (m : Mach) (a : Act) (h : Nat) (x : Int) : Nat :=
  let cands := (regionsOf m a h).map (fun r => match trackRec m a h r with
    | none => (0, 0)
    | some v =>
      let first := fieldAt v 4 4
      let n := fieldAt v 8 4
      let p := ((segsOf v).headD (0, 256)).2
      let g := ((x - fieldAt v 12 4) * 256).toNat / (if p = 0 then 1 else p)
      let near := (List.range 3).map (fun i => first + (min (g + i) n) - 1)
      let best := near.foldl (fun b t => if decide (first ≤ t) && decide (t < first + n) && decide (((posIn v t : Int) - x).natAbs < ((posIn v b : Int) - x).natAbs) then t else b) first
      (best, ((posIn v best : Int) - x).natAbs))
  match cands with
  | [] => 0
  | c :: cs => (cs.foldl (fun b d => if d.2 < b.2 then d else b) c).1

/-! ### Compensators -/

/-- A coefficient word as signed Q2.30 (R355). -/
def q30 (w : Reg) : Int := w.toInt

/-- One product brought to the 48-bit accumulator grid, and a sum saturated at the 48-bit limits (R355); the number of
fraction bits is open (log entry 13). -/
def prod (c x : Int) : Int := (c * x).tdiv (2 ^ 30 : Int)
/-- Saturate at the 48-bit limits (R355). -/
def sat48 (x : Int) : Int := clampInt (-(2 ^ 47 : Int)) (2 ^ 47 - 1) x

/-- A word of the bank or feed-forward area by register offset (Table 7-10). -/
def SrvCtl.word (c : SrvCtl) (off : Nat) : Reg := assoc 0#32 c.words off

/-- The base offset of a bank (Table 7-10). -/
def bankBase (l k : Nat) : Nat := 0x1000 + 0x400 * l + 0x100 * k

/-- VALID of a bank's CTRL word (Table 7-8). -/
def SrvCtl.bankValid (c : SrvCtl) (l k : Nat) : Bool := (c.word (bankBase l k)).getLsbD 31

/-- OUT_SHIFT of a CTRL word: signed, −8 to +7 (R357). -/
def outShift (w : Reg) : Int := (w.truncate 4 : BitVec 4).toInt

/-- A biquad in transposed direct form II (R354): output and next states. -/
def biquad (b0 b1 b2 a1 a2 : Int) (u s1 s2 : Int) : Int × Int × Int :=
  let y := sat48 (prod b0 u + s1)
  (y, sat48 (prod b1 u - prod a1 y + s2), sat48 (prod b2 u - prod a2 y))

/-- Run the six notches in order (R356). -/
def notches (c : SrvCtl) (base : Nat) : Nat → Nat → Int → List Int → List Int → Int × List Int × List Int
  | 0, _, u, _, _ => (u, [], [])
  | n + 1, k, u, xs, ys =>
    let q := fun i => q30 (c.word (base + 0x24 + 0x14 * k + 4 * i))
    let r := biquad (q 0) (q 1) (q 2) (q 3) (q 4) u (xs.headD 0) (ys.headD 0)
    let t := notches c base n (k + 1) r.1 xs.tail ys.tail
    (t.1, r.2.1 :: t.2.1, r.2.2 :: t.2.2)

/-- The biquad of a bank or feed-forward set: words 4 to 8 of Table 7-8. -/
def runBiquad (c : SrvCtl) (base : Nat) (u : Int) (s : Comp) : Comp :=
  let q := fun i => q30 (c.word (base + 0x10 + 4 * i))
  let r := biquad (q 0) (q 1) (q 2) (q 3) (q 4) u s.s1 s.s2
  { s with yLast := r.1, s1 := r.2.1, s2 := r.2.2 }

/-- The position compensator: F, then B, then the notches (R354, R356). -/
def runPosition (c : SrvCtl) (base : Nat) (u : Int) (s : Comp) : Comp :=
  let q := fun i => q30 (c.word (base + 4 * i))
  let y1 := sat48 (prod (q 1) u + s.w)
  let w := sat48 (prod (q 2) u - prod (q 3) y1)
  let b := runBiquad c base y1 s
  let n := notches c base 6 0 b.yLast s.n1 s.n2
  { b with w := w, yLast := n.1, n1 := n.2.1, n2 := n.2.2 }

/-- Scale into the accumulator and back: fraction bits (log entry 13). -/
def toAcc (x : Int) : Int := x * (2 ^ Config.accFrac : Nat)

/-- A loop's output: the last section's output by 2^OUT_SHIFT, truncated toward zero and saturated (R357). -/
def loopOut (ctrl : Reg) (y lim : Int) : Int :=
  let sh := outShift ctrl
  let v := if 0 ≤ sh then (y * (2 ^ sh.toNat : Nat)).tdiv (2 ^ Config.accFrac : Nat)
           else y.tdiv ((2 ^ (-sh).toNat : Nat) * (2 ^ Config.accFrac : Nat))
  clampInt (-lim) lim v

/-- What a loop's output of `x` is before OUT_SHIFT. -/
def accOf (ctrl : Reg) (x : Int) : Int :=
  let sh := outShift ctrl
  if 0 ≤ sh then (toAcc x).tdiv (2 ^ sh.toNat : Nat) else toAcc x * (2 ^ (-sh).toNat : Nat)

/-- The preset of R364: sections before the last start at 0, the last section's state makes the first output equal the last.
For the position compensator the last section before the notches is the biquad; the notch states stay (R365). -/
def presetComp (c : SrvCtl) (l : Loop) (base : Nat) (x yLast : Int) (s : Comp) : Comp :=
  let q := fun i => q30 (c.word (base + 4 * i))
  let u := match l with
    | .position => prod (q 1) x
    | _ => x
  { s with w := match l with | .position => 0 | _ => s.w
           s1 := sat48 (yLast - prod (q 4) u), s2 := sat48 (prod (q 6) u - prod (q 8) yLast), yLast := yLast }

/-- The states with which a loop's compensator enters its next sample: after a switch of banks, or an entry of R365, the preset for the input of that
sample and the loop's last output (R364, R365). -/
def SrvCtl.primed (c : SrvCtl) (l : Loop) (base : Nat) (x : Int) (s : Comp) : Comp :=
  if c.presetDue.getD l.idx false then presetComp c l base x s.yLast s else s

/-- A loop's preset is due at its next sample, or no longer. -/
def SrvCtl.due (c : SrvCtl) (l : Loop) (b : Bool) : SrvCtl := { c with presetDue := updAt c.presetDue l.idx (fun _ => b) }

/-! ### Head, seek and state changes -/

/-- The bank selected for a loop. -/
def SrvCtl.bankOf (c : SrvCtl) (l : Loop) : Nat := (c.banksel.getD l.idx 0).toNat

/-- Entering a state other than SETTLE and FOLLOW silences the microactuator (R393) and, outside SEEK too, the feed-forward
filters (R397); on-track falls. -/
def SrvCtl.enter (c : SrvCtl) (st : SrvState) : SrvCtl :=
  let tracking := st == .settle || st == .follow
  let ff := tracking || st == .seek
  { c with
    st := st
    vma := if tracking then c.vma else 0
    maActive := tracking && c.maActive
    maRun := if tracking then c.maRun else 0
    cXff := if ff then c.cXff else {}
    cRvff := if ff then c.cRvff else {}
    xffActive := ff && c.xffActive, rvffActive := ff && c.rvffActive
    bemfRef := 0
    onTrackR := st == .follow && c.onTrackR, onTrackW := st == .follow && c.onTrackW
    rroLearn := st == .follow && c.rroLearn
    settleRun := 0, writeRun := if st == .follow then c.writeRun else 0
    fieldOk := st == .follow && c.fieldOk
    holdI := if st == .hold then c.holdI else 0
    pwm := match st with | .seek => true | .hold => false | _ => c.pwm
    settleLate := if st == .settle then false else c.settleLate
    pesMax := if st == .settle then 0 else c.pesMax }

/-- Start a seek to a head and track in SEEK (R320, R335, R369, R370). -/
def startSeek (a : Act) (head track : Nat) (phase : SeekPhase) (m : Mach) : Mach :=
  let m := m.onSrv a (fun c =>
    { c.enter .seek with phase := phase, tgtHead := BitVec.ofNat 4 head, tgtTrack := BitVec.ofNat 21 track, trajNow := c.trajSet, seekFailed := false, seekCnt := c.seekCnt.inc })
  m.onRef a (fun r => { r with indexValid := false, alignTrust := false })

/-- The reference target of the selected head less the run-out table: pos(t) − O − c (R329, R351). -/
def targetOf (m : Mach) (a : Act) (head track angle : Nat) : Int :=
  ((trackPos m a head track).getD 0 : Int) - offsetAt m a head track angle - (m.srv.get a).alignC

/-- The position loop takes over a set-point that stood without its feed-forward terms (R365). -/
def SrvCtl.takeOver (c : SrvCtl) (i : Int) : SrvCtl :=
  { c with cPos.yLast := accOf (c.word (bankBase 1 (c.bankOf .position))) i }.due .position true

/-- Enter SETTLE with the preset of R365: y_last the last seek set-point less its feed-forward terms. -/
def enterSettle (a : Act) (m : Mach) : Mach := m.onSrv a (fun c => { (c.enter .settle).takeOver c.ispBase with phase := .track })

/-- The stored correction of the outgoing head is kept and that of the incoming head restored; the microactuator steps to 0 V
(R374, R385). -/
def SrvCtl.switchHead (c : SrvCtl) (h : Nat) : SrvCtl :=
  { c with
    storedC := assocSet 0 c.storedC c.head.toNat c.alignC, alignC := assoc 0 (assocSet 0 c.storedC c.head.toNat c.alignC) h
    head := BitVec.ofNat 4 h, vma := 0, maActive := false, maRun := 0, cMa := {}, switched := true, fieldOk := false }

/-- Take a new target (R326, R371, R374, R375, R381, Table 7-3): a track outside every region is refused with event 0x36; in HOLD the
request waits; within SETTLE_WIN of the present sample the unit settles from FOLLOW and after a head switch, otherwise it seeks. -/
def seekTo (a : Act) (h t : Nat) (m : Mach) : Mach :=
  let c := m.srv.get a
  if regionOfTrack m a h t = none then
    report (actCode 0x0436 a) (onHead a h) (leBytes 3 t) (m.onSrv a (fun c => { c with seekFailed := true }))
  else match c.st with
    | .opened | .retract => m
    | .hold => m.onSrv a (fun c => { c with seekWait := some (BitVec.ofNat 4 h, BitVec.ofNat 21 t) })
    | .seek =>
      if c.phase == .unload then m
      else
        let m := if c.head.toNat = h then m else m.onRef a (fun r => { r with alignTrust := false })
        m.onSrv a (fun c =>
          let c := if c.head.toNat = h then c else c.switchHead h
          { c with tgtHead := BitVec.ofNat 4 h, tgtTrack := BitVec.ofNat 21 t })
    | .settle | .follow =>
      let stay := c.st == .follow || c.head.toNat != h
      let m := if c.head.toNat = h then m else
        (m.onSrv a (fun c => c.switchHead h)).onRef a (fun r => { r with alignTrust := false })
      let x : Int := (m.srvRef.get a).pos.toNat
      let near := decide ((targetOf m a h t c.angle.toNat - x).natAbs ≤ settleWin m a)
      if near && stay then m.onSrv a (fun c => { c.enter .settle with tgtHead := BitVec.ofNat 4 h, tgtTrack := BitVec.ofNat 21 t, seekFailed := false })
      else startSeek a h t .track m

/-- The heads of the actuator reach the ramp: OPEN, and position sensing lost (R339, R378, Table 7-3). -/
def enterOpen (a : Act) (m : Mach) : Mach :=
  let m := m.onSrv a (fun c => { c.enter .opened with loaded := false, phase := .track, retActive := false, isp := 0, ispBase := 0, drive := 0, pwm := false })
  let m := m.onRef a (fun r => { r with acquired := false, indexValid := false, alignTrust := false, pos := 0, dataPos := 0, setInUse := 0, aOk := false, bOk := false, markOk := false, word1 := none, word2 := none })
  let rs := (m.srv.get a).openReqs
  let m := m.onSrv a (fun c => { c with openReqs := [] })
  spnParked (rs.foldl (fun m h => reply h stOk 0 [] m) m)

/-- End a HOLD: the request is answered with its reason (R380, R407). -/
def answerHold (a : Act) (status reason : Nat) (m : Mach) : Mach :=
  let r := (m.srv.get a).holdReq
  let m := m.onSrv a (fun c => { c with holdReq := none, holdI := 0 })
  match r with
  | some q => match q.req with
    | some h => reply h status reason [] m
    | none => m
  | none => m

/-- A load asked for by SRV_CLOSE_LOOP ends with a status (R407). -/
def answerClose (a : Act) (status : Nat) (m : Mach) : Mach :=
  match (m.srv.get a).closeReq with
  | some (h, _, _) => reply h status 0 [] (m.onSrv a (fun c => { c with closeReq := none }))
  | none => m

/-- The source of a retract: the spindle back-EMF below 10.0 V on VMOT (R398), in 10 mV units. -/
def retractFromEmf (m : Mach) : Bool := decide (m.pwr.vmot.toNat < 1000)

/-- Retract an actuator whose heads are off the ramp (R400): the state in force ends, driver and microactuator go off, the gates
fall (R440), event 0x56. Parked heads stay parked (log entry 15). -/
def retract (a : Act) (cause : Nat) (m : Mach) : Mach :=
  if !loaded m a || (m.srv.get a).st == .retract then m
  else
    let src := retractFromEmf m
    let m := calAbandon a 2 m
    let m := answerHold a stAborted cause m
    let m := answerClose a stHwFault m
    let m := m.onSrv a (fun c =>
      { c.enter .retract with
        phase := .track, retActive := true, retV := BitVec.ofNat 8 (retVolt m a), retSrc := src, retCause := BitVec.ofNat 8 cause, retractCnt := c.retractCnt.inc
        isp := 0, ispBase := 0, drive := 0, pwm := false, loadAgain := false, seekWait := none, seekReq := false
        reload := cause == 2 || cause == 3 })
    let m := { m with sup.actReady := m.sup.actReady.upd a (fun _ => false) }
    report (actCode 0x0456 a) (onHead a (m.srv.get a).head.toNat) (leBytes 1 cause ++ leBytes 1 src.toNat) (retractGates a m)

/-- Retract both actuators. -/
def retractBoth (cause : Nat) (m : Mach) : Mach := retract .a1 cause (retract .a0 cause m)

/-- Begin an unload from a loaded state: outward to the outermost track, then up the ramp (R378). An unload under way goes on. -/
def unload (a : Act) (m : Mach) : Mach :=
  if !loaded m a || (m.srv.get a).st == .retract || ((m.srv.get a).st == .seek && (m.srv.get a).phase == .unload) then m
  else
    let m := answerHold a stAborted 0 (calAbandon a 5 m)
    let m := { m with sup.actReady := m.sup.actReady.upd a (fun _ => false) }
    startSeek a (m.srv.get a).head.toNat 0 .unload (m.onSrv a (fun c => { c with reload := false }))

/-- Unload both actuators. -/
def unloadBoth (m : Mach) : Mach := unload .a1 (unload .a0 m)

/-- The lowest-numbered data head of an actuator (R376). -/
def lowestHead (m : Mach) (a : Act) : Nat := (dataHeads m a).headD 1

/-- Heads of an actuator have reached FOLLOW since they were loaded, and are not on their way out (R228). -/
def flying (m : Mach) (a : Act) : Bool := loaded m a && (m.srv.get a).phase == .track && (m.srv.get a).st != .retract

/-- Begin a load (R376): from OPEN with AT_SPEED and FLY_OK (R213, R279, Table 7-3), never before slot 0 of the record is programmed (R93, R98). The
target's head is selected, and the heads leave the ramp at LOAD_BEMF. -/
def loadTo (a : Act) (head track : Nat) (m : Mach) : Mach :=
  if (m.srv.get a).st == .opened && m.spn.atSpeed && m.spn.flyOk && !m.pwr.loss && recordOpen m then
    let m := startSeek a head track .load (m.onSrv a (fun c =>
      { (if c.head.toNat = head then c else c.switchHead head) with
        loaded := true, loadTry := if c.loadAgain then c.loadTry else 1, loadAgain := false, loadFailed := false, reload := false }))
    m.onSrv a (fun c => { c with bemfRef := loadBemf m a })
  else m

/-- Load to track 0 of the lowest-numbered data head (R376), where no failed load and no retract of R401 keeps the heads on the ramp. -/
def load (a : Act) (m : Mach) : Mach :=
  if (m.srv.get a).loadFailed || (m.srv.get a).reload then m else loadTo a (lowestHead m a) 0 m

end Sys2Proof.Machine
end

