-- ==== Sys2Proof/Machine/OpsMedia.lean ====
section
/-! DEFINITION. Shared operations of the read/write channel (spec/09): the tables in force, the sector in progress, and the result of
a sector; and of the disk sequencer (spec/11): ticks, flags, gates, the end of an operation, traps and loading. -/

namespace Sys2Proof.Machine

/-! ### Channel settings and tables -/

/-- A field of record 0xn01 of the channel (Table 9-10). -/
def chSet (m : Mach) (a : Act) (off n dflt : Nat) : Nat := setting m (chTy a 0x01) off n dflt
/-- PRE_BITS. -/
def preBits (m : Mach) (a : Act) : Nat := chSet m a 0 2 1024
/-- LADDER_MASK. -/
def ladderMask (m : Mach) (a : Act) : Nat := chSet m a 10 1 0xFF
/-- RETRY_LIMIT. -/
def retryLimit (m : Mach) (a : Act) : Nat := chSet m a 11 1 8
/-- VERIFY_ITER. -/
def verifyIter (m : Mach) (a : Act) : Nat := chSet m a 12 1 8

/-- The key of a head and region in the region table RAM (R466). -/
def rtKey (h r : Nat) : Nat := 64 * h + r

/-- The region entries of record 0xn02, each replaced by its adaptive counterpart (R467); a record that names the actuator goes before one
that names none (log entry 35). -/
def fillRam (m : Mach) (a : Act) : List (Nat × List Byte) :=
  let of := fun (ty : Nat) (own : Bool) => m.sup.records.filter (fun r => r.ty == ty && (fieldAt r.val 0 1 == a.idx) == own)
  let ents := fun ty => (of ty false ++ of ty true).map (fun r => (rtKey (fieldAt r.val 1 1) (fieldAt r.val 2 1), r.val))
  let base := (ents (chTy a 0x02)).foldl (fun t e => assocSet [] t e.1 e.2) []
  (ents (chTy a 0x82)).foldl (fun t e => assocSet [] t e.1 e.2) base

/-- Slice trims of a reader: record 0xn83, else 0xn03 (R467). -/
def trimOf (m : Mach) (a : Act) (reader : Nat) : List Byte :=
  let key := recKey a.idx 0xFF 0xFF reader
  match recKeyed m (chTy a 0x83) key with
  | some v => v
  | none => (recKeyed m (chTy a 0x03) key).getD []

/-- RWS fields of SYNCCFG and DECCFG, from record 0xn01 (R511). -/
def loadChCfg (a : Act) (m : Mach) : Mach :=
  m.onCh a (fun c => { c with
    pnTol := BitVec.ofNat 3 (chSet m a 4 1 3), bgTol := BitVec.ofNat 3 (chSet m a 5 1 3)
    iter := BitVec.ofNat 8 (chSet m a 6 1 12), det := BitVec.ofNat 4 (chSet m a 7 1 2)
    iterExt := BitVec.ofNat 8 (chSet m a 8 1 40), detExt := BitVec.ofNat 4 (chSet m a 9 1 6)
    adapt := BitVec.ofNat 4 (chSet m a 13 1 0x0F), mu := BitVec.ofNat 4 (chSet m a 14 1 10) })

/-- The channel fills its region RAM, trims and registers (R467, R511). -/
def loadChannel (a : Act) (m : Mach) : Mach :=
  let m := loadChCfg a m
  m.onCh a (fun c => { c with ram := fillRam m a, trims := ⟨trimOf m a 0, trimOf m a 1⟩ })

/-- R1_EN of the region in force (Table 9-11 FLAGS). -/
def Chan.r1En (c : Chan) : Bool := fieldAt c.active 13 1 % 2 == 1

/-- The shift of a transition in 1/64 bit (R503): `x1`, `x2`, `x3` say that a transition lies 1, 2 or 3 bits earlier, `xN` that one lies 1 bit later. -/
def precompShift (p1 p2 p3 pN : Int) (x1 x2 x3 xN : Bool) : Int :=
  clampInt (-24) 24 (p1 * x1.toNat + p2 * x2.toNat + p3 * x3.toNat + pN * xN.toNat)

/-- The shifts that an entry's taps give for the sixteen neighbourhoods of a transition (R503, Table 9-11): entry x1 + 2·x2 + 4·x3 + 8·xN. -/
def precompTable (v : List Byte) : List Int :=
  (List.range 16).map (fun i => precompShift (fieldAtS v 28 1) (fieldAtS v 29 1) (fieldAtS v 30 1) (fieldAtS v 31 1)
    (i.testBit 0) (i.testBit 1) (i.testBit 2) (i.testBit 3))

/-- The active stages take an entry (R468): equalizer, target, gains, noise predictors and
precompensation start from the table. -/
def Chan.load (c : Chan) (h r : Nat) : Chan :=
  let v := assoc [] c.ram (rtKey h r)
  { c with
    active := v, head := BitVec.ofNat 4 h, region := BitVec.ofNat 6 r, pend := none
    gains := BitVec.ofNat 32 (fieldAt v 16 4), g1 := BitVec.ofNat 16 (fieldAt v 24 2), g2 := BitVec.ofNat 16 (fieldAt v 26 2)
    eqTaps := (List.range 32).map (fun i => if 16 ≤ i && fieldAt v 13 1 % 2 == 0 then 0 else BitVec.ofNat 16 (fieldAt v (32 + 2 * i) 2))
    np := (v.drop 96).take 64, shifts := precompTable v }

/-- The ticks after its gate's opening at which the field slot of a split begins and ends (R474, R475): `lead` ticks, the preamble, the pennant, S data
bits, the burgee when it lies before, and the fragment postamble stand before it. -/
def splitSlot (lead pre fieldTicks s : Nat) : Option (Nat × Nat) :=
  if s = 0 then none
  else
    let t := lead + (pre + 32 + s + (if 2048 ≤ s then 32 else 0) + 16) / 8
    some (t, t + fieldTicks)

/-- A tick lies in a field slot. -/
def inSlot (t : Nat) : Option (Nat × Nat) → Bool
  | some (x, y) => decide (x ≤ t) && decide (t < y)
  | none => false

/-- A tick lies within a split: the fragment postamble of 2 ticks, the field slot, and the resume preamble of 8 ticks (R474). -/
def inSplit (t : Nat) : Option (Nat × Nat) → Bool
  | some (x, y) => decide (x ≤ t + 2) && decide (t < y + 8)
  | none => false

/-- Ticks pass for the channel: the age of the sector, the split, and on a read the end of acquisition after 512 bits (Table 9-2, R474). -/
def Chan.pass (c : Chan) (n : Nat) : Chan :=
  let age := c.age + n
  { c with
    age := age, split := inSplit age c.gap && (c.read || c.write)
    acq := c.acq && decide (8 * age < 512), tracking := c.tracking || (c.acq && decide (512 ≤ 8 * age)) }

/-- Ticks pass for the gates (R421, R431, R447, R502): the path closes WGATE for the field slot of a split and opens it again after it; `age` is that of
the sector before them. -/
def Hif.pass (h : Hif) (assist : Bool) (age n : Nat) (gap : Option (Nat × Nat)) : Hif :=
  let split := match gap with
    | some g => if h.gateReq == .driven then some g else none
    | none => none
  let low := match split with
    | some (x, y) => min (age + n) y - max age x
    | none => 0
  let high := match split with
    | some _ => n - low
    | none => if h.wgate then n else 0
  let fell := h.wgFell || (match split with
    | some (x, _) => decide (x ≤ age + n)
    | none => false)
  let early := if h.wgFell then 0 else match split with
    | some (x, _) => min n (x - age)
    | none => n
  { h with
    agTicks := if h.agate then h.agTicks + n else h.agTicks
    wgTicks := h.wgTicks + high
    astTicks := if h.agate && assist then h.astTicks + early else h.astTicks
    gapTicks := if h.agate && assist then h.gapTicks + (n - early) else h.gapTicks
    wgate := match split with
      | some _ => !inSlot (age + n) split
      | none => h.wgate
    wgFell := fell }

/-- A region load waits while a gate is open (R469). -/
def Chan.request (c : Chan) (h r : Nat) : Chan :=
  if c.read || c.write then { c with pend := some (h, r) } else c.load h r

/-- A load that waited is taken once both gates are closed (R469). -/
def Chan.takePend (c : Chan) : Chan :=
  match c.pend with
  | some (h, r) => if c.read || c.write then c else c.load h r
  | none => c

/-- PN_WIN and BG_WIN in force (Table 9-6). -/
def syncWindows (step : Nat) : Nat × Nat := if step == 4 || step == 5 then (32, 8) else (16, 4)

/-- A mismatch tolerance in force (Table 9-6). -/
def syncTol (step base : Nat) : Nat := if step == 5 then min 6 (base + 2) else base

/-- The event parameter that locates a sector: track and slot (log entry 33). -/
def secLoc (track slot : Nat) : List Byte := leBytes 4 (track % 2 ^ 21 + 2 ^ 21 * (slot % 2 ^ 11))

/-- The store slots that sectors hold. -/
def Chan.slotsUsed (c : Chan) : List Nat := c.secs.filterMap (fun x => if x.result.isNone && !x.write then x.store else none)

/-- The lowest free store slot (R490). -/
def Chan.freeSlot (c : Chan) : Option Nat := (List.range 4).find? (fun k => !c.slotsUsed.contains k)

/-- The channel's gates close: acquisition, tracking, split and replay end, a waiting region load is taken (R469). -/
def Chan.gatesClosed (c : Chan) : Chan :=
  ({ c with read := false, write := false, acq := false, tracking := false, split := false, replay := false } : Chan).takePend

/-- The head of an event of CHn and CFXn: the head in use (Tables 9-16 and 11-16). -/
def atHead (m : Mach) (a : Act) : Place := onHead a (m.hif.get a).selHead.toNat

/-! ### Flags of the sequencer (Table 11-5) -/

/-- A flag. -/
def Cfx.flag (c : Cfx) (sel : Nat) : Bool := c.flags.getLsbD sel

/-- Set or clear a flag. -/
def Cfx.put (c : Cfx) (sel : Nat) (v : Bool) : Cfx :=
  { c with flags := if v then c.flags ||| BitVec.ofNat 24 (2 ^ sel) else c.flags &&& ~~~(BitVec.ofNat 24 (2 ^ sel)) }

/-- Z. -/
def fZ : Nat := 0
/-- LT. -/
def fLT : Nat := 1
/-- TMO. -/
def fTMO : Nat := 2
/-- SFAIL. -/
def fSFAIL : Nat := 3
/-- HFAIL. -/
def fHFAIL : Nat := 4
/-- DEF. -/
def fDEF : Nat := 5
/-- LAST. -/
def fLAST : Nat := 6
/-- DOK. -/
def fDOK : Nat := 7
/-- NORES. -/
def fNORES : Nat := 8
/-- PSHORT. -/
def fPSHORT : Nat := 9
/-- INH. -/
def fINH : Nat := 10
/-- SKIP. -/
def fSKIP : Nat := 11
/-- ABORT. -/
def fABORT : Nat := 12
/-- AFOUND. -/
def fAFOUND : Nat := 13
/-- PRDY. -/
def fPRDY : Nat := 14
/-- PLOSS. -/
def fPLOSS : Nat := 15
/-- LATE. -/
def fLATE : Nat := 16

/-- A count register. -/
def Cfx.reg (c : Cfx) (i : Nat) : BitVec 24 := c.c.getD i 0
/-- Write a count register. -/
def Cfx.setReg (c : Cfx) (i : Nat) (v : BitVec 24) : Cfx := { c with c := updAt c.c i (fun _ => v) }

/-- Gate bits of STATUS.GATES. -/
def gRG : Nat := 0
/-- WG. -/
def gWG : Nat := 1
/-- AG. -/
def gAG : Nat := 2
/-- SG. -/
def gSG : Nat := 3
/-- HB. -/
def gHB : Nat := 4

/-- A gate is open. -/
def Cfx.gate (c : Cfx) (i : Nat) : Bool := c.gates.getLsbD i
/-- Open or close a gate bit. -/
def Cfx.setGate (c : Cfx) (i : Nat) (v : Bool) : Cfx :=
  { c with gates := if v then c.gates ||| BitVec.ofNat 5 (2 ^ i) else c.gates &&& ~~~(BitVec.ofNat 5 (2 ^ i)) }

/-- A sector gate is open: RG with SG, or WG (R576). -/
def Cfx.sectorOpen (c : Cfx) : Bool := c.gate gWG || (c.gate gRG && c.gate gSG)

/-! ### Ticks -/

/-- RPM_FULL of the identity page. -/
def rpmFull (m : Mach) : Nat := match hdaPage m with
  | some p => p.rpmFull.toNat
  | none => 7200

/-- TPR (R561). -/
def tprOf (m : Mach) (khz : Nat) : Nat := khz * 60000 / (rpmFull m * 8)
/-- TPR of the region in force. -/
def tpr (m : Mach) (a : Act) : Nat := tprOf m (m.clk.freqKhz.get a).toNat

/-- FIELDBASE(k) (R561). -/
def fieldBase (m : Mach) (a : Act) (k : Nat) : Nat := k * tpr m a / 128

/-- Ticks pass: TPOS advances modulo TPR (R562), COUNT timers run (R578), the sector in progress goes on (R502) and the gates that are high count
(R431, R447). -/
def elapse (a : Act) (n : Nat) (m : Mach) : Mach :=
  let t := tpr m a
  let c := m.ch.get a
  let gap := if (m.cfx.get a).gate gWG then c.gap else none
  let m := m.onHif a (fun h => h.pass ((m.pre.get a).ctrl.getLsbD 1) c.age n gap)
  let m := m.onCh a (fun c => c.pass n)
  m.onCfx a (fun c => { c with
    tpos := BitVec.ofNat 24 (if t = 0 then 0 else (c.tpos.toNat + n) % t), timers := c.timers.map (fun x => x.map (· - n)) })

/-- Ticks pass within the word that executes. -/
def timePasses (a : Act) (n : Nat) (m : Mach) : Mach :=
  (elapse a n m).onCfx a (fun c => { c with stallTicks := if c.stall.isSome then c.stallTicks + n else c.stallTicks })

/-! ### Gates -/

/-- Lower AG and count its time and charge (R447). -/
def lowerAssist (a : Act) (m : Mach) : Mach :=
  let h := m.hif.get a
  let us := ticksUs m a (h.astTicks + h.gapTicks)
  let m := if us = 0 then m else addLife a us (assistCharge m a h.astTicks h.gapTicks) 0 m
  closeAssist a (m.onCfx a (·.setGate gAG false))

/-- Lower WG and count its time (R447). -/
def lowerWrite (a : Act) (m : Mach) : Mach :=
  let us := ticksUs m a (m.hif.get a).wgTicks
  let m := if us = 0 then m else addLife a 0 0 us m
  let m := closeWrite a (m.onHif a (fun h => { h with wgTicks := 0 }))
  m.onCh a (·.gatesClosed) |>.onCfx a (·.setGate gWG false)

/-- The end of a write sector (R431, R472, R473, R500, R504, R505, R577, R579): on the media under the TAG that the sequencer supplied, and WRITTEN,
while the gate was driven throughout, otherwise INHIBITED, with PSHORT after a short preheat. -/
def endWrite (a : Act) (m : Mach) : Mach :=
  let h := m.hif.get a
  let good := h.gateReq == .driven
  let m := match (m.ch.get a).secs.getLast?, good with
    | some x, true => match x.payload with
      | some p => slotPut a x.head x.track.toNat x.slot.toNat { p with info := { p.info with tag := x.tag } } m
      | none => m
    | _, _ => m
  let m := m.onCh a (fun x => x.endLast (secWord x.step.toNat (if good then decWritten else decInhibited) 0 0 0 0) none)
  let m := if h.preheatShort then (m.onCfx a (·.put fPSHORT true)).onHif a (fun h => { h with preheatShort := false }) else m
  lowerWrite a m

/-- A write sector that an inhibit cuts off in the power-loss sequence stops there, and the retract begins (R439, Table 7-4). -/
def lossCut (a : Act) (m : Mach) : Mach :=
  if m.pwr.loss && (m.cfx.get a).gate gWG && (m.cfx.get a).flag fPLOSS && (m.hif.get a).inhibit && (m.hif.get a).gateReq != .driven then
    let m := endWrite a m
    retract a 1 (ifDo ((m.cfx.get a).gate gAG) (lowerAssist a) m)
  else m

/-- A command that can raise a write inhibit. -/
def State.runCut (s : State) (f : Mach → Mach) : Out := s.run (fun m => lossCut .a1 (lossCut .a0 (f m)))

/-- Lower RG and SG (R585); a read sector in progress has the result ABORTED (R493). -/
def lowerRead (a : Act) (m : Mach) : Mach :=
  let c := m.cfx.get a
  let cut := c.gate gRG && c.gate gSG
  let m := ifDo cut (fun m => m.onCh a (fun x => x.endLast (secWord x.step.toNat decAborted 0 0 0 0) none)) m
  let m := ifDo (c.gate gRG) (fun m => m.onCh a (·.gatesClosed)) m
  m.onCfx a (fun c => (c.setGate gRG false).setGate gSG false)

/-- Lower HB (R572, R583). -/
def lowerBoost (a : Act) (m : Mach) : Mach :=
  if (m.cfx.get a).gate gHB then setBoost a false (m.onCfx a (·.setGate gHB false)) else m

/-! ### Loading an image -/

/-- Even parity of a word. -/
def parity32 (w : Nat) : Nat := ((List.range 32).map (fun i => w / 2 ^ i % 2)).sum % 2

/-- The eight data words of a transit block. -/
def blockWords (b : List Byte) : List Nat := (List.range 8).map (fun i => fieldAt b (4 + 4 * i) 4)

/-- The check of one transit block (R598): its words and whether a bit was mended, or none when it is rejected. -/
def checkBlock (b : List Byte) : Option (List Nat × Bool) :=
  let ws := blockWords b
  let rowpar := fieldAt b 3 1
  let rows := (List.range 8).filter (fun i => parity32 (ws.getD i 0) != rowpar / 2 ^ i % 2)
  let x := (ws.foldl Nat.xor 0) ^^^ fieldAt b 36 4
  let cols := (List.range 32).filter (fun j => x / 2 ^ j % 2 == 1)
  match rows, cols with
  | [], [] => some (ws, false)
  | [i], [j] => some (updAt ws i (fun w => w ^^^ 2 ^ j), true)
  | [_], [] => some (ws, false)
  | [], [_] => some (ws, false)
  | _, _ => none

/-- The blocks of an image (Table 11-11). -/
def imageBlocks (v : List Byte) : List (List Byte) :=
  (List.range ((fieldAt v 0 2 + 7) / 8)).map (fun i => (v.drop (40 + 40 * i)).take 40)

/-- The dispatch table of an image. -/
def imageDispatch (v : List Byte) : List (Option (BitVec 12)) :=
  (List.range 16).map (fun i => let x := fieldAt v (8 + 2 * i) 2; if x = 0xFFFF then none else some (BitVec.ofNat 12 x))

/-- The first block of an image that is rejected. -/
def badBlock (v : List Byte) : Option Nat := (imageBlocks v).findIdx? (fun b => (checkBlock b).isNone)

/-- What arrives of a block at its n-th transit: bytes that the command tells of, else the block as the image holds it. -/
def arrivedBlock (arr : List (Act × BitVec 16 × List (List Byte))) (a : Act) (k n : Nat) (b : List Byte) : List Byte :=
  ((arr.find? (fun x => decide (x.1 = a) && decide (x.2.1.toNat = k))).bind (fun x => x.2.2[n]?)).getD b

/-- A block taken in transit (R225): the first of a read and three further ones whose check accepts it, with its words, whether a bit was mended,
and how often it was read again. -/
def takeBlock (arr : List (Act × BitVec 16 × List (List Byte))) (a : Act) (k : Nat) (b : List Byte) : Option (List Nat × Bool × Nat) :=
  (List.range 4).findSome? (fun n => (checkBlock (arrivedBlock arr a k n b)).map (fun x => (x.1, x.2, n)))

/-- Blocks of an image as they are taken. -/
def takeBlocks (arr : List (Act × BitVec 16 × List (List Byte))) (a : Act) (v : List Byte) : List (Option (List Nat × Bool × Nat)) :=
  (imageBlocks v).zipIdx.map (fun p => takeBlock arr a p.2 p.1)

/-- Blocks in which a bit was mended. -/
def mendedIn (bs : List (Option (List Nat × Bool × Nat))) : Nat := (bs.filter (fun b => (b.map (·.2.1)).getD false)).length

/-- Blocks that were read again. -/
def againIn (bs : List (Option (List Nat × Bool × Nat))) : Nat :=
  (bs.filter (fun b => match b with
    | some x => decide (0 < x.2.2)
    | none => true)).length

/-- Blocks mended in an image that is complete as it stands. -/
def blocksMended (v : List Byte) : Nat := mendedIn (takeBlocks [] .a0 v)

/-- The words of blocks, those of a block that was not taken being free values. -/
def wordsIn (m : Mach) (bs : List (Option (List Nat × Bool × Nat))) : List Nat :=
  (bs.zipIdx.map (fun p => match p.1 with
    | some x => x.1
    | none => (List.range 8).map (fun i => (Config.freeValue (m.drawn + 8 * p.2 + i)).toNat % 2 ^ 32))).flatten

/-- Row numbers of record 0xnA81 (R602). -/
def remapRows (m : Mach) (a : Act) : List Nat := match recVal m (cfxTy a 0x81) with
  | some v => (List.range (fieldAt v 0 2)).map (fun i => fieldAt v (4 + 2 * i) 2)
  | none => []

/-- A row of an image, the fill word beyond it (R597). -/
def rowFrom (ws : List Nat) (i : Nat) : Row := ⟨match ws[i]? with
  | some w => BitVec.ofNat 32 w
  | none => fillWord, none⟩

/-- A row as the store holds it. -/
def Cfx.row (c : Cfx) (i : Nat) : Row := assoc c.blank c.store i

/-- Set a row of the store. -/
def Cfx.setRow (c : Cfx) (i : Nat) (r : Row) : Cfx := { c with store := assocSet c.blank c.store i r }

/-- Load an image into the store, with the words taken from its blocks and the blocks mended, and apply the remaps of the record (R595, R597). -/
def Cfx.loadImage (c : Cfx) (v : List Byte) (words : List Nat) (mended : Nat) (remaps : List Nat) : Cfx :=
  let ws := words.take (fieldAt v 0 2)
  let base := (ws.zipIdx).foldl (fun t p => assocSet ⟨fillWord, none⟩ t p.2 ⟨BitVec.ofNat 32 p.1, none⟩) ([] : List (Nat × Row))
  let store := (remaps.zipIdx).foldl (fun t p => assocSet ⟨fillWord, none⟩ t (4096 + p.2) (rowFrom ws p.1)) base
  { c with
    blank := ⟨fillWord, none⟩, store := store, dispatch := imageDispatch v, version := BitVec.ofNat 16 (fieldAt v 2 2), opTmo := BitVec.ofNat 16 (fieldAt v 4 2)
    remaps := (List.range 32).map (fun k => match remaps[k]? with
      | some r => ⟨true, BitVec.ofNat 12 r⟩
      | none => ⟨false, 0⟩)
    sparesUsed := BitVec.ofNat 32 (2 ^ remaps.length - 1), mended := mended, scrubCe := [] }

/-- The image in force: the one CFX_LOAD gave, else the record (R552, R603). -/
def imageInForce (m : Mach) (a : Act) : Option (List Byte) := match (m.cfx.get a).loadedImage with
  | some v => some v
  | none => recVal m (cfxTy a 0x01)

/-- Load the image in force (R225, R226, R552, R598): event 0x30 when blocks were mended or read again; a block that stays rejected reports SUP
0x0024, and SAFE is due. -/
def loadStore (a : Act) (arr : List (Act × BitVec 16 × List (List Byte))) (m : Mach) : Mach :=
  match imageInForce m a with
  | none => m
  | some v =>
    let bs := takeBlocks arr a v
    let m := m.onCfx a (fun c => c.loadImage v (wordsIn m bs) (mendedIn bs) (remapRows m a))
    let m := if mendedIn bs = 0 && againIn bs = 0 then m
      else report (actCode 0x0A30 a) (atHead m a) (leBytes 2 (mendedIn bs) ++ leBytes 2 (againIn bs)) m
    match bs.findIdx? (fun b => b.isNone) with
    | none => m
    | some k => report 0x0024 (onAct a) (leBytes 1 a.idx ++ leBytes 2 k) { m with sup.ucodeFail := true, drawn := m.drawn + 8 * bs.length }

/-- CFX_LOAD on a halted sequencer (R603): a rejected block fails the request with event 0x31; otherwise the image is loaded, HOLD
clears and the detail gives the blocks mended. -/
def finishLoad (a : Act) (m : Mach) : Mach :=
  match (m.cfx.get a).loadReq with
  | none => m
  | some (h, v) =>
    let m := m.onCfx a (fun c => { c with loadReq := none, hold := false })
    match badBlock v with
    | some b => reply h stHwFault 0 [] (report (actCode 0x0A31 a) (atHead m a) (leBytes 2 b) m)
    | none =>
      let m := m.onCfx a (fun c => { c with loadedImage := some v })
      let m := loadStore a [] { m with sup.serviceDirty := true }
      reply h stOk (blocksMended v) [] m

/-- An image loaded by CFX_LOAD is lost with the power of G_ACTn (R219). -/
def dropImage (a : Act) (m : Mach) : Mach := m.onCfx a (fun c => { c with loadedImage := none })

/-! ### The end of an operation -/

/-- A little-endian field of a region entry replaced. -/
def putBytes (v : List Byte) (off : Nat) (bs : List Byte) : List Byte := v.take off ++ bs ++ v.drop (off + bs.length)

/-- The active entry with the adapted equalizer, target, gains and noise predictors (R460). -/
def Chan.adapted (c : Chan) : List Byte :=
  let v := putBytes c.active 16 (leBytes 4 c.gains.toNat)
  let v := putBytes v 24 (leBytes 2 c.g1.toNat ++ leBytes 2 c.g2.toNat)
  let v := putBytes v 32 ((c.eqTaps.map (fun t => leBytes 2 t.toNat)).flatten)
  putBytes v 96 c.np

/-- Write the adapted coefficients back at the end of a track operation (R460), never for a head under calibration. -/
def writeBack (a : Act) (m : Mach) : Mach :=
  let c := m.ch.get a
  if calHeld m a c.head.toNat || !c.adapt.getLsbD 3 || c.active.isEmpty then m
  else
    let v := c.adapted
    if assoc [] c.ram (rtKey c.head.toNat c.region.toNat) == v then m
    else stageOwn ⟨chTy a 0x82, recKey a.idx c.head.toNat c.region.toNat 0xFF ++ v.drop 4⟩ (m.onCh a (fun c => { c with ram := assocSet [] c.ram (rtKey c.head.toNat c.region.toNat) v, active := v }))

/-- Each FAILED descriptor of a READ_RUN that has ended is an unrecovered sector (R495, R584); speculative work reports none (R678). -/
def reportUnrecovered (a : Act) (o : TrackOp) (m : Mach) : Mach :=
  if o.op ≠ 0 || o.spec then m
  else (o.descs.filter (·.failed)).foldl (fun m d =>
    report (actCode 0x0820 a) (atHead m a) (secLoc (o.param 0).toNat d.slot.toNat ++ leBytes 4 (m.ch.get a).lastSec.toNat)
      (m.onCh a (fun c => { c with unrecCnt := c.unrecCnt.inc }))) m

/-- Check 10 on one image (Table 1-7, R560, R602, Table 11-11): the length, the ranges, the entries. -/
def imageOk (v : List Byte) : Bool :=
  let w := fieldAt v 0 2
  let ents := (List.range 16).map (fun i => fieldAt v (8 + 2 * i) 2)
  decide (1 ≤ w) && decide (w ≤ 4096) && decide (10 ≤ fieldAt v 4 2) && decide (fieldAt v 4 2 ≤ 10000) && fieldAt v 6 2 == 0
    && v.length == 40 + 40 * ((w + 7) / 8)
    && ents.all (fun e => e == 0xFFFF || decide (e < w))
    && ([0, 1, 2, 3, 4, 5, 6, 7, 15].all (fun i => ents.getD i 0xFFFF != 0xFFFF))

/-- An operation ends (R582): OPSTAT, the count, the write-back; the scheduler finds the completion in `ended`. -/
def endOp (a : Act) (kind : Nat) (m : Mach) : Mach :=
  let o := (m.cfx.get a).op.getD ⟨0, [], [], false⟩
  let m := writeBack a (reportUnrecovered a o m)
  let m := m.onCh a (fun c => { c with clampReported := false })
  let m := m.onHif a (fun h => { h with shortReported := false })
  finishLoad a <| m.onCfx a (fun c => { c with
    run := .halted, op := none, stall := none, stopRun := false, trapWait := false, cur := none, latest := none, payload := none
    endKind := BitVec.ofNat 4 kind, endOp := BitVec.ofNat 4 o.op, endFailed := BitVec.ofNat 11 (o.descs.filter (·.failed)).length
    statCode := c.statCode, ended := if o.op = 14 then c.ended else some (o, kind), opCnt := c.opCnt.inc })

/-- A trap (R585): RG, SG and HB fall at once; AG and WG close with the sector in progress; then TRAPPED. -/
def cfxTrap (a : Act) (code : Nat) (m : Mach) : Mach :=
  let at_ := (m.cfx.get a).pc
  let op := (m.cfx.get a).opIdx
  let m := lowerBoost a (lowerRead a m)
  let m := m.onCfx a (fun c => { c with trapCode := BitVec.ofNat 8 code, trapAddr := at_, trapCnt := c.trapCnt.inc, stall := none })
  let m := report (actCode 0x0A20 a) (atHead m a) (leBytes 1 code ++ leBytes 2 at_.toNat ++ leBytes 1 op.toNat) m
  if (m.cfx.get a).gate gWG then m.onCfx a (fun c => { c with trapWait := true })
  else endOp a 1 (ifDo ((m.cfx.get a).gate gAG) (lowerAssist a) m)

/-- Power is lost (R588): PLOSS sets, RG closes at once, the sequencer halts with POWER_LOSS; an open WG closes at the end of its
sector. -/
def cfxPloss (a : Act) (m : Mach) : Mach :=
  let c := m.cfx.get a
  let m := lowerRead a (m.onCfx a (·.put fPLOSS true))
  if c.op.isNone then m.onCfx a (fun c => { c with mailbox := none })
  else endOp a 3 (m.onCfx a (fun c => { c with mailbox := none }))

/-- The scheduler's stop request (R586): ABORT sets and the state becomes STOPPING; STOP_RUN itself is not stopped again (R587). -/
def cfxAbort (a : Act) (m : Mach) : Mach :=
  let c := m.cfx.get a
  if c.run != .running || c.stopRun || c.op.isNone then m
  else m.onCfx a (fun c => { c.put fABORT true with run := .stopping })

/-- The sequencer is halted (R558). -/
def cfxHalted (m : Mach) (a : Act) : Bool := (m.cfx.get a).run == .halted

/-- Entry 14, when in use, runs (R557). -/
def resetInit (a : Act) (m : Mach) : Mach :=
  match ((m.cfx.get a).dispatch.getD 14 none) with
  | none => m
  | some e => m.onCfx a (fun c => { c with run := .running, pc := e, opIdx := 14, op := some ⟨14, [], [], false⟩ })

/-- After the release from a reset of G_ACTn the store is reloaded and RESET_INIT runs (R557). -/
def cfxResetInit (a : Act) (m : Mach) : Mach := resetInit a (loadStore a [] (loadChannel a m))

/-- Channel and sequencer after a reset of G_ACTn: registers at their reset values, counters kept; a pending capture completes with
HW_FAULT (R507), the operation in flight ends without a completion (R671). -/
def resetMedia (a : Act) (m : Mach) : Mach :=
  let c := m.ch.get a
  let m := match c.capture with
    | some h => reply h stHwFault 0 [] m
    | none => m
  let m := m.onCh a (fun c =>
    { ram := c.ram, trims := c.trims, mets := c.mets, held := c.held, secCnt := c.secCnt, burgeeCnt := c.burgeeCnt, slipCnt := c.slipCnt, missCnt := c.missCnt
      failCnt := c.failCnt, unrecCnt := c.unrecCnt, corrBits := c.corrBits, ramCorr := c.ramCorr })
  m.onCfx a (fun c => { opCnt := c.opCnt, trapCnt := c.trapCnt, corrCnt := c.corrCnt, loadedImage := c.loadedImage, flags := if m.pwr.loss then c.flags &&& BitVec.ofNat 24 (2 ^ fPLOSS) else 0 })

/-- A seek ends: a failure shows as SFAIL (Table 11-5, R372). -/
def seekSettled (a : Act) (m : Mach) : Mach :=
  if (m.srv.get a).seekFailed then m.onCfx a (·.put fSFAIL true) else m

end Sys2Proof.Machine
end

