-- ==== Sys2Proof/Machine/OpsCalRun.lean ====
section
/-! DEFINITION. Shared operations of calibration runs (spec/10 R514 to R546): what is due, the choice of the next run, the taps, the
results. -/

namespace Sys2Proof.Machine

/-! ### Settings of record 0x1301 (Table 10-8) -/

/-- A field of record 0x1301. -/
def calSet (m : Mach) (off n dflt : Nat) : Nat := setting m 0x1301 off n dflt

/-- The threshold of a kind in 0.1 °C: that of CAL_SET_TRIGGER, else the record's (R517, Table 10-5). -/
def calThreshold (m : Mach) (k : Nat) : Nat :=
  assoc (calSet m (2 * k) 2 (assoc 0 [(0, 40), (1, 60), (2, 100), (3, 100), (4, 80)] k)) m.cal.trigger k

/-- DEFER_S, s. -/
def deferS (m : Mach) : Nat := calSet m 10 1 30
/-- SLICE_MS. -/
def sliceMs (m : Mach) : Nat := calSet m 11 1 40
/-- MAX_TAPS. -/
def maxTaps (m : Mach) : Nat := calSet m 15 1 24
/-- CLR_TARGET, 0.01 nm. -/
def clrTarget (m : Mach) : Nat := calSet m 18 2 150
/-- CLR_TOL, 0.01 nm. -/
def clrTol (m : Mach) : Nat := calSet m 20 2 10
/-- MOD_LIMIT, 0.01 %. -/
def modLimit (m : Mach) : Nat := calSet m 22 2 200
/-- Step of a tap of a kind (Table 10-2). -/
def calStepSize (m : Mach) : Nat → Nat
  | 0 => calSet m 24 1 8
  | 1 => calSet m 25 1 4
  | 2 => calSet m 26 1 1
  | _ => calSet m 27 1 2
/-- ALIGN_REVS. -/
def alignRevs (m : Mach) : Nat := calSet m 28 1 4
/-- RUN_MAX, ms. -/
def runMax (m : Mach) : Nat := calSet m 30 2 400

/-! ### What is due -/

/-- The heads, or the channel, that a kind calibrates on an actuator, by DH (Table 10-1). -/
def calHeads (m : Mach) (a : Act) (k : Nat) : List Nat := if k = 3 then [a.idx] else (dataHeads m a).map (dhOf a)

/-- The regions of a run of a kind (R520, R521). -/
def calRegions (m : Mach) (k dh : Nat) : List Nat := if k = 3 then [0] else regionsOf m (calAct k dh) (headOfDh dh)

/-- The place that a calibration event names. -/
def calPlace (k dh : Nat) : Place := if k = 3 then onAct (calAct k dh) else onHead (calAct k dh) (headOfDh dh)

/-- Make every region of a head due for a kind (R515). -/
def calMakeDue (k dh : Nat) (m : Mach) : Mach :=
  { m with cal.due := assocSet {} m.cal.due (calKey k dh) ⟨calRegions m k dh, true⟩ }

/-- The temperature that a kind follows on an actuator (R514, Table 10-1). -/
def calTemp (m : Mach) (a : Act) (k : Nat) : Option (BitVec 16) := if k = 3 then some (m.cal.dieTemp.get a) else m.cal.hdaMean.get a

/-- Compare one head's temperature with its baseline (R514 to R517): a kind with no baseline becomes due at a load, one that has moved
by more than the threshold becomes due with CAL 0x1310; what is due already stays as it is. -/
def calCheck (a : Act) (atLoad : Bool) (k dh : Nat) (m : Mach) : Mach :=
  let th := calThreshold m k
  if th = 0 || !(assoc {} m.cal.due (calKey k dh)).left.isEmpty then m
  else match (assoc {} m.cal.base (calKey k dh)).temp with
    | none => if atLoad then calMakeDue k dh m else m
    | some b => match calTemp m a k with
      | none => m
      | some t =>
        let moved := (t.toInt - b.toInt).natAbs
        if th < moved then
          report 0x1310 (calPlace k dh) (leBytes 1 k ++ leBytes 1 dh ++ leBytes 2 (twosComp 2 (t.toInt - b.toInt))) (calMakeDue k dh m)
        else m

/-- Compare every head of an actuator (R514, R523). -/
def calEvaluate (a : Act) (atLoad : Bool) (m : Mach) : Mach :=
  (List.range 5).foldl (fun m k => (calHeads m a k).foldl (fun m dh => calCheck a atLoad k dh m) m) m

/-! ### The choice of a run -/

/-- Automatic runs may start (R523, R547, R548). -/
def calAuto (m : Mach) : Bool := fliesHeads m.sup.mode && !m.cal.pause && armed m 0x1310 == 6

/-- A run named in the queue of an actuator. -/
def calAsked (m : Mach) (a : Act) (k dh r : Nat) : Bool :=
  (m.cal.act.get a).queue.any (fun e => e.kind == k && e.left.contains (dh, r))

/-- A run that may start: forced, directly after a head load in whatever mode (R231), asked for, or automatic (R518, R523). -/
def calMay (m : Mach) (a : Act) (k dh r : Nat) : Bool :=
  let due := (assoc {} m.cal.due (calKey k dh)).left.contains r
  (calAsked m a k dh r && (fliesHeads m.sup.mode || m.sup.mode == .service))
    || (due && m.cal.forced.contains (calKey k dh) && flying m a)
    || (due && calAuto m)

/-- The runs that may start on an actuator, in the order of R519. -/
def calCands (m : Mach) (a : Act) : List CalJob :=
  let all := [3, 0, 1, 2, 4].flatMap (fun k => (calHeads m a k).flatMap (fun dh =>
    ((List.range 64).filter (calMay m a k dh)).map (fun r =>
      { kind := k, dh := dh, head := if k = 3 then 0 else headOfDh dh, region := r
        forced := m.cal.forced.contains (calKey k dh) && (assoc {} m.cal.due (calKey k dh)).left.contains r : CalJob })))
  all.filter (·.forced) ++ all.filter (fun j => !j.forced)

/-! ### Taps -/

/-- Number of taps of a kind: slices 1 to 3 of each reader for ADC_SKEW (Table 10-2). -/
def calTaps : Nat → Nat
  | 2 => 4
  | 3 => 6
  | _ => 1

/-- The range of a tap (Table 10-2). -/
def calRange : Nat → Int × Int
  | 2 => (-24, 24)
  | 3 => (-127, 127)
  | _ => (0, 1023)

/-- EPS of a kind, in pm, 0.01 dB, 0.01 % and 0.1 dBc (Table 10-2). -/
def calEps : Nat → Int
  | 0 => 10
  | 2 => 20
  | _ => 5

/-- The adaptive record and key that a run of a kind writes; the readers of ADC_SKEW have one each (Table 10-1). -/
def calRecs (a : Act) (j : CalJob) : List (Nat × Nat × List Byte) :=
  match j.kind with
  | 0 | 1 => [(hifTy a 0x82, hifTy a 0x02, recKey a.idx j.head j.region 0xFF)]
  | 2 => [(chTy a 0x82, chTy a 0x02, recKey a.idx j.head j.region 0xFF)]
  | 3 => [(chTy a 0x83, chTy a 0x03, recKey a.idx 0xFF 0xFF 0), (chTy a 0x83, chTy a 0x03, recKey a.idx 0xFF 0xFF 1)]
  | _ => [(srvTy a 0x83, srvTy a 0x03, recKey a.idx j.head j.region 0xFF)]

/-- The value in force: the adaptive record, else the seed, else a record of zeros; under the key that the module writes (log entry 35). -/
def calValue (m : Mach) (x : Nat × Nat × List Byte) (len : Nat) : List Byte :=
  x.2.2 ++ (match (recKeyed m x.1 x.2.2).or (recKeyed m x.2.1 x.2.2) with
    | some v => v.drop 4
    | none => List.replicate (len - 4) 0)

/-- The length of the record of a kind. -/
def calLen : Nat → Nat
  | 2 => 160
  | 3 => 20
  | 4 => 516
  | _ => 20

/-- Where a tap's code stands: index of the record, offset and size. -/
def tapAt (k tap : Nat) : Nat × Nat × Nat :=
  match k with
  | 0 => (0, 4, 2)
  | 1 => (0, 10, 2)
  | 2 => (0, 28 + tap, 1)
  | _ => (tap / 3, 4 + 4 * (tap % 3 + 1), 1)

/-- The record of a tap. -/
def tapRec (a : Act) (j : CalJob) (tap : Nat) : Nat × Nat × List Byte := (calRecs a j).getD (tapAt j.kind tap).1 (0, 0, [])

/-- The code of a tap in force. -/
def tapCode (m : Mach) (a : Act) (j : CalJob) (tap : Nat) : Int :=
  let v := calValue m (tapRec a j tap) (calLen j.kind)
  let p := tapAt j.kind tap
  if p.2.2 = 1 then fieldAtS v p.2.1 1 else (fieldAt v p.2.1 2 : Int)

/-- A heater or assist code moved by a difference, clipped (R535). -/
def moveCode (v : List Byte) (off : Nat) (d : Int) : List Byte :=
  putBytes v off (leBytes 2 (clampInt 0 1023 ((fieldAt v off 2 : Int) + d)).toNat)

/-- Put a tap's code into the record in force; the codes that move with it move by the same difference from where they stood
before the run (R535). -/
def putTap (a : Act) (r : CalRun) (x : Int) (m : Mach) : Mach :=
  let j := r.job
  let rc := tapRec a j r.tap
  let p := tapAt j.kind r.tap
  let cur := calValue m rc (calLen j.kind)
  let old := match r.saved.head? with
    | some (_, _, some v) => v
    | _ => (recKeyed m rc.2.1 rc.2.2).getD cur
  let v := match j.kind with
    | 0 => moveCode (moveCode (putBytes old 4 (leBytes 2 x.toNat)) 6 (x - r.x0)) 8 (x - r.x0)
    | 1 => moveCode (putBytes old 10 (leBytes 2 x.toNat)) 12 (x - r.x0)
    | _ => putBytes cur p.2.1 (leBytes 1 (twosComp 1 x))
  calApply a j (putRecord rc.1 rc.2.2 (some v) m)

/-- Update the run in progress. -/
def onRun (a : Act) (f : CalRun → CalRun) (m : Mach) : Mach := m.onCal a (fun c => { c with run := c.run.map f })

/-- The key of DIR of a kind, head and region. -/
def dirKey (j : CalJob) : Nat := 64 * calKey j.kind j.dh + j.region

/-- DIR of the last run (R531): rising until a run has fallen. -/
def calDir (m : Mach) (j : CalJob) : Int := if m.cal.falling.contains (dirKey j) then -1 else 1

/-- Start a run (R520, R530): its records as they stand are kept, its head's metrics held. -/
def calStart (a : Act) (j : CalJob) (m : Mach) : Mach :=
  let saved := (calRecs a j).map (fun x => (x.1, x.2.2, recKeyed m x.1 x.2.2))
  let x0 := if j.kind = 4 then 0 else tapCode m a j 0
  let m := m.onCal a (fun c => { c with run := some { job := j, x0 := x0, x := x0, dir := calDir m j, saved := saved } })
  let m := ifDo (j.kind != 3) (fun m => m.onCh a (fun c => { c with held := c.mets.filter (fun e => e.1 / 64 == j.head) })) m
  ifDo (j.kind == 4) (fun m => m.onCfx a (fun c => { c with fieldAcc := [] })) m

/-- A slice starts (R524 to R526): the run in progress goes on, or the next one starts. -/
def sliceStart (a : Act) (m : Mach) : Mach :=
  let m := m.onCal a (fun c => { c with gap := false })
  match (m.cal.act.get a).run with
  | some r => if r.inSlice then m else onRun a (fun r => { r with inSlice := true, sliceUs := 0, slices := BitVec.ofNat 8 (satTo 255 (r.slices.toNat + 1)) }) m
  | none =>
    if (m.srv.get a).st != .follow || m.pwr.loss then m
    else match (calCands m a).head? with
      | none => m
      | some j => calStart a j m

/-- Nothing is due on an actuator: preemption ends (R526). -/
def preemptEnd (a : Act) (m : Mach) : Mach :=
  let left := m.cal.due.any (fun e => decide (calAct (e.1 / 64) (e.1 % 64) = a)) || !(m.cal.act.get a).queue.isEmpty
  if left then m else m.onCal a (fun c => { c with preempt := false, gap := false })

/-- A slice ends (R524 to R527): the next follows at once for a forced run, while the queue is empty, or while a command waits for the
head; in preemption the gap comes first; otherwise the run waits for idle. -/
def sliceEnd (a : Act) (idle waited : Bool) (m : Mach) : Mach :=
  let m := onRun a (fun r => { r with inSlice := false }) m
  let forced := match (m.cal.act.get a).run with
    | some r => r.job.forced
    | none => ((calCands m a).head?.map (·.forced)).getD false
  if forced || idle || (waited && (m.cal.act.get a).run.isSome) then sliceStart a m
  else if (m.cal.act.get a).preempt then m.onCal a (fun c => { c with gap := true })
  else m

/-! ### Results -/

/-- The value of record 0x1381 from offset 4 (Table 10-9). -/
def CalBase.bytes (b : CalBase) : List Byte :=
  leBytes 2 (b.temp.getD 0).toNat ++ leBytes 2 b.figure.toNat ++ leBytes 2 b.resid.toNat
    ++ [BitVec.ofNat 8 (b.failed.toNat + 2 * b.falling.toNat), 0#8] ++ leBytes 8 b.opsec.toNat

/-- The key of record 0x1381 (R550). -/
def baseKey (k dh : Nat) : List Byte :=
  if k = 3 then recKey dh 0xFF 0xFF 3 else recKey (calAct k dh).idx (headOfDh dh) 0xFF k

/-- Keep a baseline and result, in force and staged (R514, R546). -/
def putBase (k dh : Nat) (b : CalBase) (m : Mach) : Mach :=
  let m := { m with cal.base := assocSet {} m.cal.base (calKey k dh) b }
  if b.temp.isNone then m
  else
    let v := baseKey k dh ++ b.bytes
    stageOwn ⟨0x1381, v⟩ (putRecord 0x1381 (baseKey k dh) (some v) m)

/-- A signed 16-bit figure, held at the ends of its range. -/
def fig16 (v : Int) : BitVec 16 := BitVec.ofInt 16 (clampInt (-32768) 32767 v)

/-- A kind is no longer due for a head. -/
def calClear (k dh : Nat) (m : Mach) : Mach :=
  { m with cal.due := assocSet {} m.cal.due (calKey k dh) {}, cal.forced := m.cal.forced.filter (· != calKey k dh) }

/-- A run fails (R543): values restored, CAL 0x1320, the baseline with FAILED, nothing due until the temperature moves on. -/
def calFail (a : Act) (fig res : Int) (temp : BitVec 16) (m : Mach) : Mach :=
  match (m.cal.act.get a).run with
  | none => m
  | some r =>
    let j := r.job
    let m := calRelease a (calRestore a r m)
    let m := report 0x1320 (calPlace j.kind j.dh) (leBytes 1 j.kind ++ leBytes 1 j.region ++ leBytes 2 (fig16 fig).toNat)
      { m with cal.failCnt := m.cal.failCnt.inc }
    let m := putBase j.kind j.dh ⟨some temp, fig16 fig, fig16 res, true, r.dir < 0, m.sup.opSec⟩ (calClear j.kind j.dh m)
    preemptEnd a (calReqDone a j stHwFault m)

/-- A run succeeds (R542, R546): the records are staged; with the last region of a head the kind is complete (R521). -/
def calSucceed (a : Act) (fig res : Int) (temp : BitVec 16) (m : Mach) : Mach :=
  match (m.cal.act.get a).run with
  | none => m
  | some r =>
    let j := r.job
    let m := (calRecs a j).foldl (fun m x => stageOwn ⟨x.1, calValue m x (calLen j.kind)⟩ m) m
    let old := assoc {} m.cal.base (calKey j.kind j.dh)
    let d := assoc {} m.cal.due (calKey j.kind j.dh)
    let left := d.left.filter (· != j.region)
    let done := !d.left.isEmpty && left.isEmpty
    let m := calRelease a { m with cal.runCnt := m.cal.runCnt.inc, cal.due := assocSet {} m.cal.due (calKey j.kind j.dh) { d with left := left } }
    let m := putBase j.kind j.dh ⟨if done && d.full then some temp else old.temp, fig16 fig, fig16 res, false, r.dir < 0, m.sup.opSec⟩ m
    let m := ifDo done (calClear j.kind j.dh) m
    let m := ifDo (done && d.full) (report 0x1311 (calPlace j.kind j.dh)
      (leBytes 1 j.kind ++ leBytes 2 (fig16 fig).toNat ++ leBytes 2 (fig16 res).toNat)) m
    preemptEnd a (calReqDone a j stOk m)

/-- The clearance estimate d in pm (R532). -/
def clearancePm (m : Mach) (a : Act) (j : CalJob) (lnR : Int) : Int :=
  match recKeyed m 0x1302 (recKey a.idx j.head j.region 0xFF) with
  | some v => ((fieldAt v 4 4 : Int) * (lnR - fieldAtS v 8 4)).tdiv 65536
  | none => 0

/-- The signed value and the measure, smaller being better, of one step, and its modulation (Table 10-2, R532). -/
def calJudge (m : Mach) (a : Act) (j : CalJob) : CalMeas → Option (Int × Int × Nat)
  | .clearance l w => if j.kind = 0 then
      let d := clearancePm m a j l
      some (d, ((d - 10 * (clrTarget m : Int)).natAbs : Int), w) else none
  | .assist snr it => if j.kind = 1 then
      let v := snr - (((it : Int) - 200).toNat / 10 : Nat)
      some (v, -v, 0) else none
  | .shift v => if j.kind = 2 then some (v, (v.natAbs : Int), 0) else none
  | .skew l _ => if j.kind = 3 then some (l, l, 0) else none
  | _ => none

/-- Trims of the slices after the skew taps (R537). -/
def putTrims (a : Act) (j : CalJob) (sl : List (Int × Nat)) (m : Mach) : Mach :=
  let recs := calRecs a j
  calApply a j (((List.range 2).foldl (fun m rd =>
    let rc := recs.getD rd (0, 0, [])
    let v := calValue m rc 20
    let ref := sl.getD (4 * rd) (0, 0)
    let v := (List.range 4).foldl (fun v s =>
      let x := sl.getD (4 * rd + s) (0, 0)
      putBytes v (4 + 4 * s + 1) [Config.gainTrim ref.2 x.2, Config.ofsTrim ref.1 x.1]) v
    putRecord rc.1 rc.2.2 (some v) m)) m)

/-- The run is over after its last tap (R542, R543, Tables 10-2 and 10-4). -/
def tapRunEnd (a : Act) (r : CalRun) (sl : List (Int × Nat)) (temp : BitVec 16) (m : Mach) : Mach :=
  let j := r.job
  match j.kind with
  | 0 =>
    let fig := r.bestV.tdiv 10
    if 10 * (clrTol m : Int) < r.bestM then calFail a fig (fig - clrTarget m) temp m else calSucceed a fig (fig - clrTarget m) temp m
  | 1 =>
    let excepts := decide (assistIlim m a * 1023 < r.best.toNat * assistFull m * 10)
    if decide (r.best = 0) || decide (r.best = 1023) || excepts then calFail a r.bestV (r.bestV - r.firstV) temp m
    else calSucceed a r.bestV (r.bestV - r.firstV) temp m
  | 2 => if 500 < r.worst then calFail a r.worst r.worstTap temp m else calSucceed a r.worst r.worstTap temp m
  | _ =>
    let fig := Config.skewFs r.worst (m.clk.freqKhz.get a).toNat
    if -300 < r.worst then calFail a fig r.worst temp m else calSucceed a fig r.worst temp (putTrims a j sl m)

/-- A tap is over (R531, R536): its best code is applied, DIR kept; the next tap starts from the value in force, or the run ends. -/
def tapEnd (a : Act) (r : CalRun) (sl : List (Int × Nat)) (temp : BitVec 16) (m : Mach) : Mach :=
  let j := r.job
  let m := putTap a r r.best m
  let m := { m with cal.falling := m.cal.falling.filter (· != dirKey j) ++ (if r.dir < 0 then [dirKey j] else []) }
  let r := match j.kind with
    | 2 => if r.worstTap = 0 || r.worst < r.bestM then { r with worst := r.bestM, worstTap := r.tap + 1 } else r
    | 3 => if r.tap % 3 = 2 && (r.tap = 2 || r.worst < r.bestM) then { r with worst := r.bestM } else r
    | _ => r
  if r.tap + 1 < calTaps j.kind then
    let x0 := tapCode m a j (r.tap + 1)
    onRun a (fun _ => { r with tap := r.tap + 1, x0 := x0, x := x0, started := false, n := 0, worse := 0, reversed := false }) m
  else tapRunEnd a r sl temp (onRun a (fun _ => r) m)

/-- The next code of a tap, or its end (R531). -/
def tapNext (a : Act) (r : CalRun) (sl : List (Int × Nat)) (temp : BitVec 16) (m : Mach) : Mach :=
  let x := r.x + r.dir * calStepSize m r.job.kind
  let rg := calRange r.job.kind
  if maxTaps m ≤ r.n || x < rg.1 || rg.2 < x then tapEnd a r sl temp m
  else putTap a r x (onRun a (fun _ => { r with x := x }) m)

/-- One step of a tap run is judged (R531, R533, R534). -/
def tapStep (a : Act) (r : CalRun) (v mt : Int) (w : Nat) (sl : List (Int × Nat)) (temp : BitVec 16) (m : Mach) : Mach :=
  let j := r.job
  let eps := calEps j.kind
  let contact := decide (j.kind = 0) && decide (modLimit m < w)
  if !r.started then
    let r := { r with started := true, best := r.x0, bestM := mt, bestV := v, prev := mt, firstV := v }
    if contact then
      let m := report 0x1322 (calPlace j.kind j.dh) (leBytes 1 j.region ++ leBytes 2 r.x0.toNat ++ leBytes 2 w) m
      tapNext a { r with dir := -1, reversed := true } sl temp m
    else tapNext a r sl temp m
  else
    let r := { r with n := r.n + 1 }
    let r := if !contact && decide (mt + eps < r.bestM) then { r with best := r.x, bestM := mt, bestV := v } else r
    let r := { r with worse := if contact then r.worse + 2 else if r.prev + eps < mt then r.worse + 1 else 0, prev := mt }
    if r.n = 1 && r.worse = 1 && !r.reversed then
      tapNext a { r with dir := -r.dir, x := r.x0, prev := r.bestM, worse := 0, reversed := true } sl temp m
    else if 2 ≤ r.worse then tapEnd a r sl temp m
    else tapNext a r sl temp m

/-! ### ALIGN_MAP -/

/-- The largest integer whose square does not exceed a number below 2^64. -/
def isqrt (n : Nat) : Nat :=
  ((List.range 32).reverse).foldl (fun r i => if (r + 2 ^ i) * (r + 2 ^ i) ≤ n then r + 2 ^ i else r) 0

/-- The accepted errors of one field. -/
def fieldErrs (acc : List (Nat × Int)) (k : Nat) : List Int := (acc.filter (fun e => e.1 == k)).map (·.2)

/-- The change of one entry, c + mean(e), truncated toward zero (R540). -/
def alignChange (c : Int) (es : List Int) : Int := (c * es.length + es.sum).tdiv es.length

/-- An ALIGN_MAP run ends (R387, R540, R541). -/
def alignEnd (a : Act) (r : CalRun) (temp : BitVec 16) (m : Mach) : Mach :=
  let j := r.job
  let acc := (m.cfx.get a).fieldAcc
  let c := (m.srv.get a).alignC
  let rc := tapRec a j 0
  let fields := (List.range 128).map (fieldErrs acc)
  let old := (List.range 128).map (offsetEntry m a j.head j.region)
  let chg := fields.map (alignChange c)
  let new := List.zipWith (· + ·) old chg
  let big := chg.foldl (fun b x => if b < x.natAbs then x.natAbs else b) 0
  let devs := (fields.map (fun es => es.foldl (fun s e => s + (e - es.sum.tdiv es.length).natAbs ^ 2) 0)).sum
  let fig := if acc.isEmpty then 0 else isqrt (devs / acc.length)
  if fields.any (fun es => decide (es.length < (alignRevs m + 1) / 2)) || new.any (fun x => decide (1000000 < x.natAbs)) then
    calFail a fig big temp m
  else
    let v := rc.2.2 ++ (new.map (fun x => leBytes 4 (twosComp 4 x))).flatten
    let m := putRecord rc.1 rc.2.2 (some v) m
    let m := ifDo ((m.hif.get a).region.toNat == j.region && (m.srv.get a).head.toNat == j.head)
      (fun m => m.onSrv a (fun s => { s with alignC := s.alignC - chg.sum.tdiv 128 })) m
    calSucceed a fig big temp m

/-- Due state at a head load (R516, R523), and forced runs directly after it (R518, R231). -/
def calOnLoad (a : Act) (m : Mach) : Mach :=
  let m := calEvaluate a true m
  if ((calCands m a).head?.map (·.forced)).getD false then sliceStart a m else m

/-- The baselines of record 0x1381 in force (R514), and every kind forced for the heads whose adaptive records were discarded (R83). -/
def calBoot (m : Mach) : Mach :=
  let base := (m.sup.records.filter (fun r => r.ty == 0x1381)).foldl (fun t r =>
    let v := r.val
    let k := fieldAt v 3 1
    let dh := if k = 3 then fieldAt v 0 1 else 11 * fieldAt v 0 1 + (fieldAt v 1 1 - 1)
    assocSet {} t (calKey k dh) ⟨some (BitVec.ofNat 16 (fieldAt v 4 2)), BitVec.ofNat 16 (fieldAt v 6 2), BitVec.ofNat 16 (fieldAt v 8 2),
      fieldAt v 10 1 % 2 == 1, fieldAt v 10 1 / 2 % 2 == 1, BitVec.ofNat 40 (fieldAt v 12 8)⟩) []
  { m with cal.base := base, cal.trigger := [] }

/-- Force every kind for a head (R83); ADC_SKEW is due for the channel of its actuator (Table 10-1). -/
def calForce (a : Act) (h : Nat) (m : Mach) : Mach :=
  [(0, dhOf a h), (1, dhOf a h), (2, dhOf a h), (3, a.idx), (4, dhOf a h)].foldl (fun m x =>
    calMakeDue x.1 x.2 { m with cal.forced := m.cal.forced.filter (· != calKey x.1 x.2) ++ [calKey x.1 x.2] }) m

end Sys2Proof.Machine
end

