-- ==== Sys2Proof/Machine/OpsZone.lean ====
section
/-! DEFINITION. Shared operations of the zone manager (spec/12): the track layout (spec/09 R471 to R477, R1045), bands, the place of an
LBA, zones. -/

namespace Sys2Proof.Machine

/-! ### Track layout -/

/-- The first field whose slot ends after a tick (R561). -/
def nextField (tp ft p : Nat) : Nat :=
  let k := p * 128 / (if tp = 0 then 1 else tp) - 1
  let cand := (List.range 4).map (fun i => (k + i) * tp / 128)
  (cand.find? (fun f => decide (p < f + ft))).getD (p + ft)

/-- The split index that puts a field slot at its place in a sector that starts at `p`, if there is one (R474 to R476): `pre` is the
preamble in ticks. -/
def splitIndex (pre p f : Nat) : Option Nat :=
  let x := (f : Int) - (p + pre + 6)
  let y := (f : Int) - (p + pre + 10)
  if 1 ≤ x ∧ x ≤ 255 then some (8 * x.toNat)
  else if 256 ≤ y ∧ y ≤ 4623 then some (8 * y.toNat)
  else none

/-- The sector slots of a track from a tick on, START and S (R471, R474 to R476, R1045): `w` ticks are written, `gap` follow. -/
def layoutFrom (tp ft pre gap : Nat) : Nat → Nat → List (Nat × Nat)
  | 0, _ => []
  | n + 1, p =>
    let w := pre + 4640
    let f := nextField tp ft p
    if tp ≤ p then []
    else if p + w ≤ f then
      if p + w + gap ≤ tp + ft then (p, 0) :: layoutFrom tp ft pre gap n (p + w + gap) else []
    else match splitIndex pre p f with
      | some s => if p + w + gap + 10 + ft ≤ tp + ft then (p, s) :: layoutFrom tp ft pre gap n (p + w + gap + 10 + ft) else []
      | none => layoutFrom tp ft pre gap n (f + ft)

/-- GAP_BITS. -/
def gapBits (m : Mach) (a : Act) : Nat := chSet m a 2 2 1496

/-- The sector slots of a track of a head and region (R471 to R477, R613). -/
def layout (m : Mach) (a : Act) (h r : Nat) : List (Nat × Nat) :=
  let e := regionEntry m a h r
  let tp := tprOf m (fieldAt e 4 4)
  let ft := fieldAt e 8 2
  if tp = 0 then [] else layoutFrom tp ft (preBits m a / 8) (gapBits m a / 8) (tp / 4640 + 300) ft

/-! ### Bands -/

/-- A settings field of record 0x0D01 (Table 12-8). -/
def zmgSet (m : Mach) (off n dflt : Nat) : Nat := setting m 0x0D01 off n dflt
/-- VERIFY. -/
def verifyOn (m : Mach) : Bool := zmgSet m 0 1 1 == 1

/-- One band of record 0x0D02: region, first track, tracks, CELLAR (Table 12-9). -/
structure BandRow where
  region : Nat
  first : Nat
  tracks : Nat
  cellar : Bool
  deriving DecidableEq, Repr

/-- The bands of a head, by band index (R611). -/
def bandRows (m : Mach) (a : Act) (h : Nat) : List BandRow :=
  (List.range 64).flatMap (fun r => match recKeyed m 0x0D02 (recKey a.idx h r 0xFF) with
    | none => []
    | some v => (List.range (fieldAt v 10 2)).map (fun i =>
        ⟨r, fieldAt v (12 + 8 * i) 4, fieldAt v (16 + 8 * i) 2, fieldAt v (18 + 8 * i) 1 % 2 == 1⟩))

/-- The band of a physical band number (R611). -/
def bandRow (m : Mach) (a : Act) (pbn : Nat) : Option BandRow := (bandRows m a (pbn % 16))[pbn / 16]?

/-- Every band of an actuator in rising PBN order, with its CELLAR flag (R608, R611). -/
def allBands (m : Mach) (a : Act) : List (Nat × Bool) :=
  let hs := (dataHeads m a).map (fun h => (h, bandRows m a h))
  let n := hs.foldl (fun x p => max x p.2.length) 0
  (List.range n).flatMap (fun i => hs.filterMap (fun p => (p.2[i]?).map (fun b => (16 * i + p.1, b.cellar))))

/-- The defect runs of a record of a head and region: track, first slot, length (Table 12-9). -/
def defectRuns (m : Mach) (ty : Nat) (a : Act) (h r : Nat) : List (Nat × Nat × Nat) :=
  match recKeyed m ty (recKey a.idx h r 0xFF) with
    | none => []
    | some v => (List.range (fieldAt v 4 2)).map (fun i => (fieldAt v (8 + 8 * i) 4, fieldAt v (12 + 8 * i) 2, fieldAt v (14 + 8 * i) 2))

/-- The defects that the numbering of a band's slots leaves out: the integrator's. A sector whose slot becomes a grown defect lives in
a spare slot and the others keep their places (R613, R645; log entry 46). -/
def defects (m : Mach) (a : Act) (h r : Nat) : List (Nat × Nat × Nat) := defectRuns m 0x0D03 a h r

/-- The grown defects (R645). -/
def grown (m : Mach) (a : Act) (h r : Nat) : List (Nat × Nat × Nat) := defectRuns m 0x0D81 a h r

/-- A slot is a defect (R613). -/
def isDefect (ds : List (Nat × Nat × Nat)) (t s : Nat) : Bool := ds.any (fun d => d.1 == t && decide (d.2.1 ≤ s) && decide (s < d.2.1 + d.2.2))

/-- The tracks of a band: all in shingled form, every 16/13 of a track in conventional form (R612, R614); the index of a
conventional track is the shingled index at or below its centre (log entry 43). -/
def bandTracks (b : BandRow) (conv : Bool) : List Nat :=
  if conv then (List.range ((b.tracks - 1) * 13 / 16 + 1)).map (fun j => b.first + 16 * j / 13)
  else (List.range b.tracks).map (b.first + ·)

/-- The usable slots of a track: slot number, START, S. -/
def usable (lay : List (Nat × Nat)) (ds : List (Nat × Nat × Nat)) (t : Nat) : List (Nat × Nat × Nat) :=
  (lay.zipIdx.filter (fun p => !isDefect ds t p.2)).map (fun p => (p.2, p.1.1, p.1.2))

/-- Usable slots of a track, counted. -/
def usableCount (n : Nat) (ds : List (Nat × Nat × Nat)) (t : Nat) : Nat := ((List.range n).filter (fun s => !isDefect ds t s)).length

/-- The k-th usable slot of a list of tracks: its track and the slot's index on it. -/
def seekSlot (n : Nat) (ds : List (Nat × Nat × Nat)) : List Nat → Nat → Option (Nat × Nat)
  | [], _ => none
  | t :: ts, k => let c := usableCount n ds t
    if k < c then some (t, k) else seekSlot n ds ts (k - c)

/-- A slot of the surface: head, region, track, slot, START, S. -/
structure Phys where
  head : Nat
  region : Nat
  track : Nat
  slot : Nat
  start : Nat
  s : Nat
  deriving DecidableEq, Repr

/-- The k-th usable slot of a band (R613, R614). -/
def bandSlot (m : Mach) (a : Act) (pbn : Nat) (conv : Bool) (k : Nat) : Option Phys :=
  match bandRow m a pbn with
  | none => none
  | some b =>
    let h := pbn % 16
    let lay := layout m a h b.region
    let ds := defects m a h b.region
    (seekSlot lay.length ds (bandTracks b conv) k).bind (fun x =>
      ((usable lay ds x.1)[x.2]?).map (fun q => ⟨h, b.region, x.1, q.1, q.2.1, q.2.2⟩))

/-- The number of usable slots of a band. -/
def bandSize (m : Mach) (a : Act) (pbn : Nat) (conv : Bool) : Nat :=
  match bandRow m a pbn with
  | none => 0
  | some b => ((bandTracks b conv).map (usableCount (layout m a (pbn % 16) b.region).length (defects m a (pbn % 16) b.region))).sum

/-- User sectors of a band by form (Table 12-1). -/
def userSectors (conv : Bool) : Nat := if conv then 53248 else 65536

/-- The index of a spare slot: the last 64 usable slots of a shingled band, those after the user sectors of a conventional one (R613,
R614). -/
def spareIndex (m : Mach) (a : Act) (pbn : Nat) (conv : Bool) (i : Nat) : Nat :=
  if conv then 53248 + i else bandSize m a pbn false - 64 + i

/-- The substitutions of record 0x0D82: actuator, old, new (Table 12-9). -/
def substs (m : Mach) : List (Nat × Nat × Nat) := match recVal m 0x0D82 with
  | none => []
  | some v => (List.range (fieldAt v 0 2)).map (fun i => (fieldAt v (4 + 12 * i) 1, fieldAt v (8 + 12 * i) 4, fieldAt v (12 + 12 * i) 4))

/-- The band in place of a band (R618). -/
def standIn (m : Mach) (a : Act) (pbn : Nat) : Nat :=
  (substs m).foldl (fun p s => if s.1 == a.idx && s.2.1 == p then s.2.2 else p) pbn

/-- Bands of the cellar of an actuator, flagged or added, that replace none and are in service (R615, R646, R648). -/
def cellarFree (m : Mach) (a : Act) : List Nat :=
  let flagged := ((allBands m a).filter (·.2)).map (·.1)
  let added := (m.zmg.maps.cellarAdded.filter (fun x => x.1 == a.idx)).map (·.2)
  (flagged ++ added).filter (fun p => !(substs m).any (fun s => s.1 == a.idx && s.2.2 == p) && !m.zmg.maps.gone.contains (a.idx, p))

/-- Free bands of an actuator in rising PBN order (R608, R609). -/
def freeBands (m : Mach) (a : Act) : List Nat :=
  let used := m.zmg.maps.nss.flatMap (fun n => n.bands.get a ++ n.pool.get a)
  ((allBands m a).filter (fun p => !p.2)).map (·.1) |>.filter (fun p =>
    !used.contains p && !m.zmg.maps.gone.contains (a.idx, p) && !m.zmg.maps.cellarAdded.contains (a.idx, p))

/-! ### Namespaces and where an LBA lives -/

/-- A namespace by NSID. -/
def nsOf (m : Mach) (nsid : Nat) : Option Ns := m.zmg.maps.nss.find? (fun n => n.nsid == nsid)

/-- A namespace in conventional form. -/
def isConv (m : Mach) (nsid : Nat) : Bool := ((nsOf m nsid).map (fun n => decide (n.kind = .conventional))).getD false

/-- The actuator that holds an LBA (R618). -/
def lbaAct (k : NsKind) (lba : Nat) : Act := match k with
  | .zoned => Act.ofNum (lba / 65536)
  | _ => Act.ofNum (lba / 512)

/-- The logical band or zone-list index, and the sector in it, of an LBA on its actuator (R618). -/
def lbaBand (k : NsKind) (lba : Nat) : Nat × Nat := match k with
  | .zoned => (lba / 65536 / 2, lba % 65536)
  | _ =>
    let local_ := lba / 512 / 2 * 512 + lba % 512
    let per := if k = .managed then 65536 else 53248
    (local_ / per, local_ % per)

/-- The LBA of a sector of a logical band: the reverse of R618. -/
def bandLba (k : NsKind) (a : Act) (l sector : Nat) : Nat := match k with
  | .zoned => 65536 * (2 * l + a.idx) + sector
  | _ =>
    let per := if k = .managed then 65536 else 53248
    let local_ := l * per + sector
    512 * (2 * (local_ / 512) + a.idx) + local_ % 512

/-- The key of a zone. -/
def zoneKey (nsid z : Nat) : Nat := 2 ^ 20 * nsid + z

/-- A zone. -/
def zoneOf (m : Mach) (nsid z : Nat) : Zone := assoc {} m.zmg.maps.zones (zoneKey nsid z)

/-- Change a zone. -/
def onZoneDo (nsid z : Nat) (f : Zone → Zone) (m : Mach) : Mach :=
  { m with zmg.maps.zones := assocSet {} m.zmg.maps.zones (zoneKey nsid z) (f (zoneOf m nsid z)) }

/-- Managed maps of a namespace on an actuator. -/
def manOf (m : Mach) (nsid : Nat) (a : Act) : Managed := assoc {} m.zmg.maps.man (2 * nsid + a.idx)

/-- Change managed maps. -/
def onMan (nsid : Nat) (a : Act) (f : Managed → Managed) (m : Mach) : Mach :=
  { m with zmg.maps.man := assocSet {} m.zmg.maps.man (2 * nsid + a.idx) (f (manOf m nsid a)) }

/-- The key of a band in the tables. -/
def bandKey (a : Act) (pbn : Nat) : Nat := 2 ^ 24 * a.idx + pbn

/-- The slot index that a user sector of a band has: its spare when it was moved (R645). -/
def slotIndex (m : Mach) (a : Act) (pbn : Nat) (conv : Bool) (k : Nat) : Nat :=
  match m.zmg.maps.moved.find? (fun x => x.1 == bandKey a pbn && x.2.1 == k) with
  | some x => spareIndex m a pbn conv x.2.2
  | none => k

/-- A live location: band, slot index in it (R634). -/
def livePlace (m : Mach) (n : Ns) (lba : Nat) : Option (Nat × Nat) :=
  let a := lbaAct n.kind lba
  let (l, k) := lbaBand n.kind lba
  match n.kind with
  | .managed =>
    let mm := manOf m n.nsid a
    match (mm.live.find? (fun e => e.1 == lba)).map (fun (e : Nat × Loc) => e.2) with
    | some (.porch p i) => some (p, i)
    | some .rewrite => mm.rewrite.map (fun w => (w.pbn, k))
    | some .dead => none
    | none => match assoc 0 mm.map l with
      | 0 => none
      | p + 1 => some (p, k)
  | _ => match (n.bands.get a)[l]? with
    | none => none
    | some p => let q := standIn m a p
      some (q, slotIndex m a q (decide (n.kind = .conventional)) k)

/-- The slot of the surface where an LBA lives. -/
def lbaPhys (m : Mach) (n : Ns) (lba : Nat) : Option Phys :=
  (livePlace m n lba).bind (fun x => bandSlot m (lbaAct n.kind lba) x.1 (decide (n.kind = .conventional)) x.2)

/-- The payload that stands on the media for an LBA. -/
def mediaSector (m : Mach) (n : Ns) (lba : Nat) : Option Payload :=
  (lbaPhys m n lba).bind (fun p => slotData m (lbaAct n.kind lba) p.head p.track p.slot)

/-- An LBA reads as stored data: below the write pointer of a zone that is not Offline, with a live location, or, in a
CONVENTIONAL namespace, once written (R609, R630, R635; log entry 72). -/
def lbaWritten (m : Mach) (n : Ns) (lba : Nat) : Bool :=
  match n.kind with
  | .zoned => let z := zoneOf m n.nsid (lba / 65536)
    z.st != .offline && (z.st == .full || decide (lba % 65536 < z.wp))
  | .managed => (livePlace m n lba).isSome
  | .conventional => (mediaSector m n lba).isSome

/-! ### Counts -/

/-- A zone is open. -/
def ZoneSt.isOpen : ZoneSt → Bool
  | .impOpen | .expOpen => true
  | _ => false

/-- A zone is active. -/
def ZoneSt.isActive : ZoneSt → Bool
  | .impOpen | .expOpen | .closed => true
  | _ => false

/-- Zones of an actuator with a property: even zones lie on actuator 0 (R618, R620). -/
def zonesWith (m : Mach) (a : Act) (p : ZoneSt → Bool) : List (Nat × Zone) :=
  m.zmg.maps.zones.filter (fun e => decide (Act.ofNum (e.1 % 2 ^ 20) = a) && p e.2.st)

/-- Porch fill of an actuator in 0.01 %, and its extents: the pool bands that logs use, against those the logs may use (R636, R641). -/
def porchFill (m : Mach) (a : Act) : Nat :=
  let ms := m.zmg.maps.nss.filter (fun n => decide (n.kind = .managed))
  let used := (ms.map (fun n => (manOf m n.nsid a).porch.length)).sum
  let cap := (ms.map (fun n => (n.pool.get a).length - 2)).sum
  if cap = 0 then 0 else 10000 * used / cap

/-- Extents of consecutive LBAs at consecutive slots. -/
def extentsOf : List (Nat × Loc) → Option (Nat × Nat × Nat) → Nat
  | [], _ => 0
  | (lba, .porch p k) :: r, prev =>
    (if prev == some (lba, p, k) then 0 else 1) + extentsOf r (some (lba + 1, p, k + 1))
  | _ :: r, _ => extentsOf r none

/-- Live porch extents of an actuator (R641). -/
def porchExtents (m : Mach) (a : Act) : Nat :=
  ((m.zmg.maps.nss.filter (fun n => decide (n.kind = .managed))).map (fun n => extentsOf (manOf m n.nsid a).live none)).sum

/-- CLEAN_LO, CLEAN_HI, CLEAN_FORCE, EXT_HI in percent (Table 12-8). -/
def cleanLo (m : Mach) : Nat := zmgSet m 1 1 40
/-- CLEAN_HI. -/
def cleanHi (m : Mach) : Nat := zmgSet m 2 1 60
/-- CLEAN_FORCE. -/
def cleanForce (m : Mach) : Nat := zmgSet m 3 1 85
/-- EXT_HI. -/
def extHi (m : Mach) : Nat := zmgSet m 4 1 60

/-- Extents in percent of the 4,194,304 entries. -/
def extPct (m : Mach) (a : Act) : Nat := 100 * porchExtents m a / 4194304

/-- Judge the porch of an actuator (R641, Table 12-5): CLEAN with its hysteresis, FORCE and FULL with their events at each onset. -/
def judgePorch (a : Act) (m : Mach) : Mach :=
  let f := porchFill m a
  let x := extPct m a
  let hi := decide (100 * cleanHi m ≤ f) || decide (extHi m ≤ x)
  let lo := decide (f < 100 * cleanLo m) && decide (x < cleanLo m)
  let force := decide (100 * cleanForce m ≤ f) || decide (cleanForce m ≤ x)
  let full := decide (10000 ≤ f) || decide (100 ≤ x)
  let ps := leBytes 2 (satTo 65535 f) ++ leBytes 2 (porchExtents m a / 1024)
  let m := ifDo (force && !m.zmg.force.get a) (report 0x0D40 (onAct a) ps) m
  let m := ifDo (full && !m.zmg.full.get a) (report 0x0D41 (onAct a) ps) m
  { m with zmg.clean := m.zmg.clean.upd a (fun c => hi || (c && !lo)), zmg.force := m.zmg.force.upd a (fun _ => force), zmg.full := m.zmg.full.upd a (fun _ => full) }

/-- Free cellar bands per head against CELLAR_WARN, once for each crossing (R649). -/
def cellarCheck (a : Act) (m : Mach) : Mach :=
  let warn := zmgSet m 6 2 10
  (dataHeads m a).foldl (fun m h =>
    let n := ((cellarFree m a).filter (fun p => p % 16 == h)).length
    let was := m.zmg.cellarLow.contains (a.idx, h)
    if n < warn then
      if was then m else report 0x0D23 (onHead a h) (leBytes 2 n) { m with zmg.cellarLow := m.zmg.cellarLow ++ [(a.idx, h)] }
    else { m with zmg.cellarLow := m.zmg.cellarLow.filter (· != (a.idx, h)) }) m

/-- The structures of the reserved media area are written, both copies (R617): the tables in force (log entry 44). -/
def saveMaps (m : Mach) : Mach := { m with hda.rsv := m.zmg.maps }

/-- An LBA enters the pending list (R650); a full list takes none and is reported once. -/
def pendEnter (a : Act) (nsid lba zone : Nat) (m : Mach) : Mach :=
  let l := m.zmg.maps.pend.get a
  if l.contains (nsid, lba) then m
  else if 4096 ≤ l.length then
    if m.zmg.pendFull.get a then m
    else report 0x0D43 (onAct a) [] { m with zmg.pendFull := m.zmg.pendFull.upd a (fun _ => true) }
  else
    let m := { m with zmg.maps.pend := m.zmg.maps.pend.upd a (· ++ [(nsid, lba)]), zmg.unrecCnt := m.zmg.unrecCnt.inc }
    let m := report 0x0D24 ⟨BitVec.ofNat 8 a.idx, 0xFF, BitVec.ofNat 24 zone⟩ (leBytes 2 nsid ++ leBytes 6 lba) m
    if 4096 ≤ (m.zmg.maps.pend.get a).length then
      report 0x0D43 (onAct a) [] { m with zmg.pendFull := m.zmg.pendFull.upd a (fun _ => true) }
    else m

/-- LBAs that satisfy a condition leave the pending lists (R651, R865). -/
def pendLeave (p : Nat × Nat → Bool) (m : Mach) : Mach :=
  let keep := fun (l : List (Nat × Nat)) => l.filter (fun x => !p x)
  let q : Pair (List (Nat × Nat)) := ⟨keep m.zmg.maps.pend.p0, keep m.zmg.maps.pend.p1⟩
  { m with zmg.maps.pend := q, zmg.pendFull := ⟨m.zmg.pendFull.p0 && decide (4096 ≤ q.p0.length), m.zmg.pendFull.p1 && decide (4096 ≤ q.p1.length)⟩ }

/-- The zone, or the logical band of a MANAGED namespace, that a record's zone field names (Table 12-12). -/
def zoneField (n : Ns) (lba : Nat) : Nat := match n.kind with
  | .zoned => lba / 65536
  | _ => (lbaBand n.kind lba).1

end Sys2Proof.Machine
end

