-- ==== Sys2Proof/Machine/OpsCache.lean ====
section
/-! DEFINITION. Shared operations of the buffer cache (spec/14 R707 to R747): lookup, replacement, the attic, miss registers, dirty data. -/

namespace Sys2Proof.Machine

/-! ### Frames and sets -/

/-- The set of a line (R708). -/
def setOf (ns line : Nat) : Nat := (line + 1531 * ns) % 12288

/-- A frame. -/
def frameAt (m : Mach) (k : Nat) : Line := assoc {} m.bcm.frames k
/-- Change a frame. -/
def onFrame (k : Nat) (f : Line → Line) (m : Mach) : Mach :=
  { m with bcm.frames := assocSet {} m.bcm.frames k (f (frameAt m k)) }

/-- Bits set in a mask of eight sectors. -/
def bits8 (b : BitVec 8) : Nat := ((List.range 8).filter (fun i => b.getLsbD i)).length
/-- The mask of one sector. -/
def mask8 (i : Nat) : BitVec 8 := BitVec.ofNat 8 (2 ^ i)

/-- A frame is empty (Table 14-3). -/
def Line.isEmpty (l : Line) : Bool := l.valid == 0 && l.dirty == 0 && l.poison == 0 && !l.fill

/-- A frame holds a line: by its content, its fill or its lock; one invalidated while locked holds none (R742). -/
def Line.holds (l : Line) (ns line : Nat) : Bool :=
  l.ns == ns && l.line == line && !l.ghost && (!l.isEmpty || l.lock)

/-- The frame of a line (R710). -/
def frameOf (m : Mach) (ns line : Nat) : Option Nat :=
  ((List.range 16).map (16 * setOf ns line + ·)).find? (fun k => (frameAt m k).holds ns line)

/-- Settings of record 0x0E01 (Table 14-8). -/
def bcmSet (m : Mach) (off n dflt : Nat) : Nat := setting m 0x0E01 off n dflt
/-- ATTIC_EN. -/
def atticEn (m : Mach) : Bool := bcmSet m 2 1 1 == 1

/-- The protected dirty budget in sectors (R730). -/
def budget (m : Mach) : Nat := match m.id.variant with
  | .u1 => 65536
  | _ => 32768

/-- The sectors that count against the budget (R730). -/
def dirtyCount (m : Mach) : Nat := (m.bcm.frames.map (fun e => bits8 (e.2.dirty ||| e.2.poison))).sum

/-- Sectors of dirty data that a destage can still clear. -/
def dirtySectors (m : Mach) : Nat := (m.bcm.frames.map (fun e => bits8 (e.2.dirty &&& ~~~e.2.poison))).sum

/-- Pinned sectors. -/
def pinnedCount (m : Mach) : Nat := (m.bcm.frames.map (fun e => if e.2.pin then bits8 e.2.dirty else 0)).sum

/-! ### Replacement -/

/-- The pseudo-LRU row after a use of a way (R712): at each of the four ancestors the bit points away from the way used. -/
def touchRow (row : BitVec 15) (way : Nat) : BitVec 15 :=
  [1, 2, 4, 8].foldl (fun r d =>
    let node := (way + 16) / d
    let parent := node / 2
    let b := BitVec.ofNat 15 (2 ^ (parent - 1))
    if node % 2 = 0 then r ||| b else r &&& ~~~b) row

/-- Mark a frame's way most recently used (R712). -/
def touch (k : Nat) (m : Mach) : Mach :=
  { m with bcm.plru := assocSet 0#15 m.bcm.plru (k / 16) (touchRow (assoc 0#15 m.bcm.plru (k / 16)) (k % 16)) }

/-- A way may be allocated (R714). -/
def Line.eligible (l : Line) (spec : Bool) : Bool :=
  !l.lock && !l.retired && !l.retiring && !l.fill && !l.dstg && l.dirty == 0 && l.poison == 0 && (!spec || l.isEmpty || l.spec)

/-- A subtree at a depth holds a way of a set of ways (R715). -/
def subtreeHas (e : List Nat) (node depth : Nat) : Bool := e.any (fun w => (w + 16) / 2 ^ (4 - depth) == node)

/-- The descent of R715. -/
def descend (row : BitVec 15) (e : List Nat) : Nat → Nat → Nat
  | 0, node => node - 16
  | n + 1, node =>
    let pref := 2 * node + (row.getLsbD (node - 1)).toNat
    descend row e n (if subtreeHas e pref (4 - n) then pref else if pref % 2 = 0 then pref + 1 else pref - 1)

/-- The victim of a set (R715), as a frame. -/
def victimOf (m : Mach) (set : Nat) (spec : Bool) : Option Nat :=
  let e := (List.range 16).filter (fun w => (frameAt m (16 * set + w)).eligible spec)
  match e with
  | [] => none
  | _ => match e.find? (fun w => (frameAt m (16 * set + w)).isEmpty) with
    | some w => some (16 * set + w)
    | none =>
      let sp := e.filter (fun w => (frameAt m (16 * set + w)).spec)
      some (16 * set + descend (assoc 0#15 m.bcm.plru set) (if sp.isEmpty then e else sp) 4 1)

/-- A line leaves its frame for another (R717): a clean line enters the attic, a speculative or transient one is discarded. -/
def leaveFrame (k : Nat) (m : Mach) : Mach :=
  let l := frameAt m k
  let m := onFrame k (fun _ => {}) m
  if l.valid == 0 || l.spec || l.transient || !atticEn m then m
  else { m with bcm.moves := m.bcm.moves ++ [.evict { l with fill := false, lock := false, pin := false }] }

/-- Take a frame for a line. -/
def takeFrame (k ns line : Nat) (m : Mach) : Mach :=
  onFrame k (fun _ => { ns := ns, line := line, secs := List.replicate 8 none }) (leaveFrame k m)

/-- A copy of a line in the attic or on its way there (R726, R729). -/
def atticLine (m : Mach) (ns line : Nat) : Option Line :=
  match m.bcm.attic.find? (fun l => l.ns == ns && l.line == line) with
  | some l => some l
  | none => (m.bcm.moves.filterMap (fun x => match x with
      | .evict l => if l.ns == ns && l.line == line then some l else none
      | .recall _ _ => none)).head?

/-- The attic copy of a line goes (R728). -/
def atticDrop (ns line : Nat) (m : Mach) : Mach :=
  { m with
    bcm.attic := m.bcm.attic.filter (fun l => !(l.ns == ns && l.line == line))
    bcm.moves := m.bcm.moves.filter (fun x => match x with
      | .evict l => !(l.ns == ns && l.line == line)
      | .recall n l => !(n == ns && l == line)) }

/-! ### Contexts -/

/-- A context. -/
def ctxOf (m : Mach) (c : NvCmd) : Option Ctx := m.fe.ctxs.find? (fun x => x.id == c)
/-- Change a context. -/
def onCtx (c : NvCmd) (f : Ctx → Ctx) (m : Mach) : Mach :=
  { m with fe.ctxs := m.fe.ctxs.map (fun x => if x.id == c then f x else x) }

/-- A context has its result (R822, Table 16-5). An aborting one posts no success (R685, R824). -/
def finish (c : NvCmd) (st : NvSt) (m : Mach) : Mach :=
  onCtx c (fun x => if x.status.isSome then x else
    { x with phase := .done, status := some (if x.aborting then .abortRequested else st), left := [], secs := if st = .success then x.secs else [] }) m

/-- A waiting read or write-through gets an LBA (R686, R722). -/
def deliver (c : NvCmd) (lba : Nat) (s : CSec) (m : Mach) : Mach :=
  onCtx c (fun x => if x.left.contains lba then { x with left := x.left.filter (· != lba), secs := x.secs ++ [(lba, s)] } else x) m

/-! ### Runs -/

/-- Descriptors of placed sectors, grouped into runs of consecutive slots on one track (R654). -/
def runsOf (ps : List (Phys × Use × Bool)) : List (Phys × List Desc) :=
  let mk := fun (p : Phys × Use × Bool) => (⟨BitVec.ofNat 24 p.1.start, BitVec.ofNat 16 p.1.s, BitVec.ofNat 16 p.1.slot, p.2.2, false, false, p.2.1, false⟩ : Desc)
  (ps.foldl (fun (acc : List (Phys × List Desc)) p =>
    match acc with
    | (q, ds) :: r =>
      if q.head == p.1.head && q.track == p.1.track && p.1.slot == q.slot + ds.length then (q, ds ++ [mk p]) :: r
      else (p.1, [mk p]) :: acc
    | [] => [(p.1, [mk p])]) []).reverse

/-- A run waits to enter the queue of its actuator (R654 to R656); it takes its sequence number on entry. -/
def offer (a : Act) (op cls : Nat) (since : Nat) (hosts : List NvCmd) (o : Origin) (p : Phys) (ds : List Desc) (m : Mach) : Mach :=
  { m with sch.act := m.sch.act.upd a (fun x => { x with
      incoming := x.incoming ++ [⟨0, op, p.head, p.track, p.region, ds, cls, since, hosts, o, false, false⟩] }) }

/-- Offer every run of a list. -/
def offerAll (a : Act) (op cls since : Nat) (hosts : List NvCmd) (o : Origin) (rs : List (Phys × List Desc)) (m : Mach) : Mach :=
  rs.foldl (fun m r => offer a op cls since hosts o r.1 r.2 m) m

/-! ### Miss registers -/

/-- The register of a line. -/
def missOf (m : Mach) (ns line : Nat) : Option Miss := m.bcm.misses.find? (fun x => x.ns == ns && x.line == line && !x.dropped)
/-- Change the register of a line. -/
def onMiss (ns line : Nat) (f : Miss → Miss) (m : Mach) : Mach :=
  { m with bcm.misses := m.bcm.misses.map (fun x => if x.ns == ns && x.line == line && !x.dropped then f x else x) }

/-- Registers of an actuator in use. -/
def missUsed (m : Mach) (a : Act) : Nat := (m.bcm.misses.filter (fun x => decide (x.act = a))).length

/-- The sectors of a line that a fill reads: within the namespace, written, neither VALID nor DIRTY (R718). -/
def fillMask (m : Mach) (n : Ns) (line : Nat) (l : Line) : BitVec 8 :=
  (List.range 8).foldl (fun b i =>
    if decide (8 * line + i < n.size) && lbaWritten m n (8 * line + i) && !(l.valid ||| l.dirty ||| l.poison).getLsbD i then b ||| mask8 i else b) 0

/-- Offer the fill of a register that has a frame (R718). -/
def offerFill (n : Ns) (x : Miss) (cls since : Nat) (o : Origin) (m : Mach) : Mach :=
  let ps := ((List.range 8).filter (fun i => x.fills.getLsbD i)).filterMap (fun i =>
    (lbaPhys m n (8 * x.line + i)).map (fun p => (p, Use.fill n.nsid (8 * x.line + i), false)))
  offerAll x.act 0 cls since x.waiters o (runsOf ps) m

/-- The oldest dirty line of a set is asked to be destaged (R716). -/
def lineSince (l : Line) : Nat :=
  ((List.range 8).filterMap (fun i => if l.dirty.getLsbD i then (l.secs.getD i none).map (·.since) else none)).foldl min (2 ^ 64)

/-- A line can be asked to be destaged. -/
def Line.canDestage (l : Line) : Bool := l.dirty &&& ~~~l.poison != 0 && !l.dstg && !l.pin

/-- The actuator of a line. -/
def lineAct (m : Mach) (l : Line) : Act := match nsOf m (l.ns + 1) with
  | some n => lbaAct n.kind (8 * l.line)
  | none => .a0

/-- Ask for the destage of a frame's line (R732, R733): DSTG sets. -/
def askDestage (k : Nat) (m : Mach) : Mach :=
  let l := frameAt m k
  if !l.canDestage then m
  else
    let m := onFrame k (fun l => { l with dstg := true, flight := l.dirty &&& ~~~l.poison, redirty := 0 }) m
    { m with zmg.requests := m.zmg.requests ++ [(lineAct m l, k)] }

/-- The frame of a set whose dirty line is oldest. -/
def oldestIn (m : Mach) (ks : List Nat) : Option Nat :=
  (ks.filter (fun k => (frameAt m k).canDestage)).foldl (fun b k => match b with
    | none => some k
    | some j => if lineSince (frameAt m k) < lineSince (frameAt m j) then some k else some j) none

/-- Ask for the oldest dirty line of a set (R716). -/
def askSet (set : Nat) (m : Mach) : Mach :=
  match oldestIn m ((List.range 16).map (16 * set + ·)) with
  | some k => askDestage k m
  | none => m

/-- Allocate a miss register for a line (R718): with a victim the frame is reserved and the fill offered; without one a demand miss waits
and the set's oldest dirty line is asked for (R716). -/
def allocMiss (n : Ns) (line cls since : Nat) (hosts : List NvCmd) (spec : Bool) (o : Origin) (m : Mach) : Mach :=
  let a := lbaAct n.kind (8 * line)
  let ns := n.nsid - 1
  let own := frameOf m ns line
  let place := match own with
    | some k => some k
    | none => victimOf m (setOf ns line) spec
  match place with
  | none =>
    if spec then m
    else
      let x : Miss := ⟨a, ns, line, none, fillMask m n line {}, fillMask m n line {}, false, 0, hosts, false⟩
      askSet (setOf ns line) { m with bcm.misses := m.bcm.misses ++ [x] }
  | some k =>
    let m := if own.isSome then m else takeFrame k ns line m
    let f := fillMask m n line (frameAt m k)
    let x : Miss := ⟨a, ns, line, some k, f, f, spec, 0, hosts, false⟩
    let m := onFrame k (fun l => { l with fill := true, spec := l.spec || (spec && own.isNone), transient := l.transient || (m.bcm.mode == .bypass && !spec && own.isNone) }) m
    offerFill n x cls since o { m with bcm.misses := m.bcm.misses ++ [x] }

/-- The time of CLK_FAB at which a command arrived, from its wrapping 32-bit ARRIVAL (Table 16-5, R17, R655). -/
def arrivedAt (m : Mach) (x : Ctx) : Nat := m.sch.now - (BitVec.ofNat 32 m.sch.now - x.arrival).toNat

/-- Registers without a frame take the first frame of their set that is eligible (R716). -/
def missRetry (m : Mach) : Mach :=
  (m.bcm.misses.filter (fun x => x.frame.isNone && !x.dropped)).foldl (fun m x =>
    match victimOf m (setOf x.ns x.line) false, nsOf m (x.ns + 1) with
    | some k, some n =>
      let m := onFrame k (fun l => { l with fill := true, transient := m.bcm.mode == .bypass }) (takeFrame k x.ns x.line m)
      let y := { x with frame := some k }
      let cs := x.waiters.filterMap (ctxOf m)
      let m := onMiss x.ns x.line (fun _ => y) m
      offerFill n y ((cs.map (·.cls)).foldl min 3) ((cs.map (arrivedAt m)).foldl min m.sch.now) .host m
    | _, _ => m) m

/-! ### Dirty data -/

/-- The drain of R736 to R738: when nothing but pinned sectors is dirty the request completes with DRAIN_BLOCKED. -/
def drainCheck (m : Mach) : Mach :=
  if m.bcm.draining && !m.bcm.blocked && decide (0 < dirtyCount m)
      && m.bcm.frames.all (fun e => e.2.dirty == 0 || e.2.pin) then
    let m := { m with bcm.blocked := true }
    match m.bcm.modeReq with
    | some h => reply h stDrainBlocked (pinnedCount m) [] { m with bcm.modeReq := none }
    | none => m
  else m

/-- A line that has become clean and was to be retired is retired (R752 steps 2 and 3). -/
def retireClean (k : Nat) (m : Mach) : Mach :=
  let l := frameAt m k
  if l.retiring && l.dirty == 0 && l.poison == 0 && !l.fill && !l.dstg then
    let m := onFrame k (fun _ => { retired := true }) m
    report 0x0E21 nowhere (leBytes 2 (k / 16) ++ leBytes 1 (k % 16)) { m with bcm.retFrames := m.bcm.retFrames ++ [k] }
  else m

/-- A transient line of BYPASS is released once clean, with its commands over (Table 14-4). -/
def releaseTransient (k : Nat) (m : Mach) : Mach :=
  let l := frameAt m k
  if l.transient && !l.fill && !l.dstg && l.dirty == 0 && l.poison == 0 && !l.lock then onFrame k (fun _ => {}) m else m

/-- Commands that wait for an LBA to be on the media (R686). -/
def wroteFor (nsid lba : Nat) (m : Mach) : Mach :=
  let hit := m.fe.ctxs.filter (fun x => match x.cmd with
    | some (.write n _ _ _ _) | some (.append n _ _ _ _) | some (.writeZeroes n _ _ _) => n == nsid && x.left.contains lba
    | _ => false)
  hit.foldl (fun m x =>
    let m := onCtx x.id (fun y => { y with left := y.left.filter (· != lba) }) m
    match ctxOf m x.id with
    | some y => if y.left.isEmpty && y.secs.isEmpty then finish x.id .success m else m
    | none => m) m

/-- A sector that a running clean shutdown has destaged counts in SUP.SHUT.DESTAGED (R254, Table 4-13). -/
def countDestaged (m : Mach) : Mach :=
  if m.sup.shut != .draining then m
  else { m with sup.shutDirty := m.sup.shutDirty + 1, sup.destaged := BitVec.ofNat 16 (satTo 65535 ((m.sup.shutDirty + 1) / 256)) }

/-- The destage of one sector ends (R733, R737): written, it leaves DIRTY unless REDIRTY; failed, it stays dirty, pinned in a drain. -/
def destageEnd (nsid lba : Nat) (ok : Bool) (m : Mach) : Mach :=
  match frameOf m (nsid - 1) (lba / 8) with
  | none => m
  | some k =>
    let b := mask8 (lba % 8)
    let l := frameAt m k
    if l.flight &&& b == 0 then m
    else
      let fl := l.flight &&& ~~~b
      let again := l.redirty &&& b != 0
      let m := onFrame k (fun l => { l with
        flight := fl, dstg := fl != 0, redirty := l.redirty &&& ~~~b
        dirty := if ok && !again then l.dirty &&& ~~~b else l.dirty
        pin := (l.pin || (!ok && m.bcm.draining)) && (if ok && !again then l.dirty &&& ~~~b else l.dirty) != 0 }) m
      let m := if ok && !again then wroteFor nsid lba (countDestaged m) else m
      drainCheck (releaseTransient k (retireClean k m))

/-- A sector of a line lost with its destage under way no longer counts as in flight. -/
def dropFlight (nsid lba : Nat) (m : Mach) : Mach :=
  match frameOf m (nsid - 1) (lba / 8) with
  | none => m
  | some k => onFrame k (fun l => let f := l.flight &&& ~~~(mask8 (lba % 8)); { l with flight := f, dstg := f != 0 }) m

/-- A host sector enters the cache (R711, R723, R728, R731): VALID and DIRTY set, POISON clears; the frame is the line's own or a
victim. None when the set has no victim. -/
def enterSector (nsid lba : Nat) (s : CSec) (m : Mach) : Option Mach :=
  let ns := nsid - 1
  let m := if (atticLine m ns (lba / 8)).isSome then atticDrop ns (lba / 8) m else m
  let place : Option (Nat × Mach) := match frameOf m ns (lba / 8) with
    | some k => some (k, m)
    | none => (victimOf m (setOf ns (lba / 8)) false).map (fun k =>
        (k, onFrame k (fun l => { l with transient := decide (m.bcm.mode = CacheMode.bypass) }) (takeFrame k ns (lba / 8) m)))
  place.map (fun (p : Nat × Mach) =>
    let b := mask8 (lba % 8)
    touch p.1 (onFrame p.1 (fun l =>
      let old : Option CSec := l.secs.getD (lba % 8) none
      let since := if l.dirty &&& b != 0 then (old.map (fun (o : CSec) => o.since)).getD s.since else s.since
      { l with
        valid := l.valid ||| b, dirty := l.dirty ||| b, poison := l.poison &&& ~~~b, spec := false
        redirty := if l.flight &&& b != 0 then l.redirty ||| b else l.redirty
        secs := updAt l.secs (lba % 8) (fun _ => some { s with since := since }) }) p.2))

/-! ### Invalidation -/

/-- Invalidate sectors of one line (R725, R740, R742): its bits clear at once; a locked frame left empty stays reserved. -/
def invalLine (ns line : Nat) (mask : BitVec 8) (m : Mach) : Mach :=
  let clear := fun (l : Line) => { l with
    valid := l.valid &&& ~~~mask, dirty := l.dirty &&& ~~~mask, redirty := l.redirty &&& ~~~mask, poison := l.poison &&& ~~~mask
    flight := l.flight &&& ~~~mask, dstg := l.flight &&& ~~~mask != 0
    pin := l.pin && l.dirty &&& ~~~mask != 0
    secs := (l.secs.zipIdx).map (fun p => if mask.getLsbD p.2 then none else p.1) }
  let m := { m with
    bcm.attic := (m.bcm.attic.map (fun l => if l.ns == ns && l.line == line then clear l else l)).filter (fun l => l.valid != 0)
    bcm.moves := (m.bcm.moves.map (fun x => match x with
      | .evict l => if l.ns == ns && l.line == line then .evict (clear l) else x
      | .recall _ _ => x)) }
  match frameOf m ns line with
  | none => m
  | some k =>
    let m := match missOf m ns line with
      | some x => if x.frame == some k then onFrame k (fun l => { l with fill := false }) (onMiss ns line (fun x => { x with dropped := true }) m) else m
      | none => m
    let l := clear (frameAt m k)
    retireClean k (onFrame k (fun _ => if l.isEmpty then (if l.lock then { l with ghost := true } else if l.retiring then l else {}) else l) m)

/-- The frames of locked lines that a range invalidates (R743). -/
def lockedHit (m : Mach) (nsid : Nat) (inside : Nat → Bool) : Nat :=
  (m.bcm.frames.filter (fun e => e.2.lock && !e.2.ghost && e.2.ns + 1 == nsid && (List.range 8).any (fun i => inside (8 * e.2.line + i)))).length

/-- The cached lines of a namespace that a condition on LBAs touches: index, line and mask. -/
def linesIn (m : Mach) (nsid : Nat) (inside : Nat → Bool) : List (Nat × BitVec 8) :=
  let mask := fun line => (List.range 8).foldl (fun b i => if inside (8 * line + i) then b ||| mask8 i else b) (0 : BitVec 8)
  let ls := (m.bcm.frames.map (·.2)) ++ m.bcm.attic ++ m.bcm.moves.filterMap (fun x => match x with
    | .evict l => some l
    | .recall _ _ => none)
  (nubList ((ls.filter (fun l => l.ns + 1 == nsid)).map (·.line))).filterMap (fun ln => if mask ln == 0 then none else some (ln, mask ln))

end Sys2Proof.Machine
end

