-- ==== Sys2Proof/Machine/OpsIo.lean ====
section
/-! DEFINITION. Shared operations of host I/O: protection information and encryption (spec/17 R851 to R869), cache lookups of reads (spec/14
R710 to R729), and writes entering the cache (spec/14 R731, spec/12 R625). -/

namespace Sys2Proof.Machine

/-! ### Protection information and encryption -/

/-- Protection information as stored: guard, application tag and reference tag from the high bits down (Table 12-6, R867). -/
def piPack (guard : BitVec 64) (app : BitVec 16) (ref : BitVec 48) : BitVec 128 := guard ++ app ++ ref

/-- Its guard. -/
def piGuard (p : BitVec 128) : BitVec 64 := p.extractLsb' 64 64
/-- Its application tag. -/
def piApp (p : BitVec 128) : BitVec 16 := p.extractLsb' 48 16
/-- Its reference tag. -/
def piRef (p : BitVec 128) : BitVec 48 := p.extractLsb' 0 48

/-- One bit of the CRC-16 of T10-DIF, polynomial 0x8BB7, the highest bit first (R867). -/
def crc16Bit (c : BitVec 16) : BitVec 16 := if c.msb then (c <<< 1) ^^^ 0x8BB7#16 else c <<< 1

/-- One byte of that CRC-16. -/
def crc16Byte (c : BitVec 16) (b : Byte) : BitVec 16 :=
  (List.range 8).foldl (fun c _ => crc16Bit c) (c ^^^ (b.zeroExtend 16 <<< 8))

/-- One bit of the CRC-64 of NVMe, polynomial 0xAD93_D235_94C9_3659, the lowest bit first (R867; PRESUMED, log entry 8). -/
def crc64Bit (c : BitVec 64) : BitVec 64 := if c.getLsbD 0 then (c >>> 1) ^^^ 0x9A6C9329AC4BC9B5#64 else c >>> 1

/-- One byte of that CRC-64. -/
def crc64Byte (c : BitVec 64) (b : Byte) : BitVec 64 := (List.range 8).foldl (fun c _ => crc64Bit c) (c ^^^ b.zeroExtend 64)

/-- The bytes of a sector, byte 0 its lowest. -/
def sectorBytes (d : Sector) : List Byte := (List.range 4096).map (fun i => d.extractLsb' (8 * i) 8)

/-- The guard of a plaintext sector in an LBA format (R867, R868): the CRC-16 starts at 0, the CRC-64 starts at all ones and is complemented
(PRESUMED, log entry 8). -/
def guardOf (fmt : Nat) (d : Sector) : BitVec 64 :=
  if fmt = 2 then ~~~((sectorBytes d).foldl crc64Byte (BitVec.allOnes 64)) else ((sectorBytes d).foldl crc16Byte 0).zeroExtend 64

/-- Bits of the reference tag in an LBA format. -/
def refBits (fmt : Nat) : Nat := if fmt = 2 then 48 else 32

/-- The reference tag expected for the i-th sector (NVMe Base 2.0: types 1 and 2 rise by 1 per sector). -/
def refOf (fmt : Nat) (p : Prot) (i : Nat) : BitVec 48 := BitVec.ofNat 48 ((p.ref.toNat + i) % 2 ^ refBits fmt)

/-- Check one sector (R869): guard, then application tag, then reference tag, as PRCHK asks; the escape values of NVMe Base 2.0 check
nothing. -/
def piCheck (n : Ns) (p : Prot) (i : Nat) (d : Sector) (x : BitVec 128) : Option NvSt :=
  if n.fmt = 0 || n.pit = 0 then none
  else if piApp x == 0xFFFF && (n.pit ≠ 3 || piRef x == BitVec.ofNat 48 (2 ^ refBits n.fmt - 1)) then none
  else if p.prchk.getLsbD 2 && piGuard x != guardOf n.fmt d then some .guardCheck
  else if p.prchk.getLsbD 1 && (piApp x &&& p.mask) != (p.app &&& p.mask) then some .appTagCheck
  else if p.prchk.getLsbD 0 && n.pit ≠ 3 && piRef x != refOf n.fmt p i then some .refTagCheck
  else none

/-- The first failing check of sectors in order. -/
def piFirst (n : Ns) (p : Prot) : Nat → List (Sector × BitVec 128) → Option NvSt
  | _, [] => none
  | i, (d, x) :: r => match piCheck n p i d x with
    | some st => some st
    | none => piFirst n p (i + 1) r

/-- Protection information to store with a written sector: the host's, or the module's own under PRACT (R867). -/
def piStore (n : Ns) (p : Prot) (i : Nat) (d : Sector) (x : BitVec 128) : BitVec 128 :=
  if n.fmt = 0 || n.pit = 0 then 0
  else if p.pract then piPack (guardOf n.fmt d) p.app (refOf n.fmt p i)
  else x

/-- A range contains an LBA (Table 17-1). -/
def LRange.has (r : LRange) (nsid lba : Nat) : Bool := r.on && r.nsid == nsid && decide (r.start ≤ lba) && decide (lba < r.start + r.len)

/-- The locking range of an LBA: a range 1 to 15, else the Global Range. -/
def rangeOf (m : Mach) (nsid lba : Nat) : LRange :=
  ((m.dsv.opal.ranges.drop 1).find? (·.has nsid lba)).getD (m.dsv.opal.ranges.headD {})

/-- The ranges that LBAs of a namespace touch (R861): those 1 to 15 that overlap, and the Global Range unless they cover all of it. -/
def rangesTouched (m : Mach) (nsid lba n : Nat) : List LRange :=
  let rs := (m.dsv.opal.ranges.drop 1).filter (fun r => r.on && r.nsid == nsid && decide (r.start < lba + n) && decide (lba < r.start + r.len))
  let cover := (rs.map (fun r => min (lba + n) (r.start + r.len) - max lba r.start)).sum
  if cover < n || rs.isEmpty then m.dsv.opal.ranges.headD {} :: rs else rs

/-- Access is denied (R858, R860, R861). -/
def denied (m : Mach) (nsid lba n : Nat) (write : Bool) : Bool :=
  m.dsv.keysBad || (rangesTouched m nsid lba n).any (fun r => if write then r.wle && r.wl else r.rle && r.rl)

/-- The tweak of a sector (R854). -/
def tweak (nsid lba : Nat) : BitVec 128 := BitVec.ofNat 128 (nsid * 2 ^ 64 + lba)

/-- Encrypt a sector on its way into the cache (R851). -/
def protectSector (m : Mach) (nsid lba : Nat) (d : Sector) : Sector := Config.xtsEnc (rangeOf m nsid lba).key (tweak nsid lba) d
/-- Decrypt a sector on its way out (R851). -/
def recoverSector (m : Mach) (nsid lba : Nat) (d : Sector) : Sector := Config.xtsDec (rangeOf m nsid lba).key (tweak nsid lba) d

/-! ### Reads -/

/-- The namespace, first LBA and count of a command that reads. -/
def readPart : IoCmd → Option (Nat × Nat × Nat × Prot × List (Sector × BitVec 128))
  | .read n l c p => some (n, l, c, p, [])
  | .verify n l c p => some (n, l, c, p, [])
  | .compare n l c p d => some (n, l, c, p, d)
  | _ => none

/-- A read whose sectors are all there ends (R686, R722, R851, R868, R869): decrypted, checked, and compared for Compare; sectors without
stored data read as zeros and carry no protection information to check (R630, R635). -/
def readDone (c : NvCmd) (m : Mach) : Mach :=
  match ctxOf m c with
  | none => m
  | some x => match x.cmd.bind readPart with
    | none => m
    | some (nsid, lba, n, p, want) => match nsOf m nsid with
      | none => finish c .invalidNamespace m
      | some ns =>
        let cell := fun i => (x.secs.find? (fun e => e.1 == lba + i)).map (fun (e : Nat × CSec) => e.2)
        let plain := (List.range n).map (fun i => match cell i with
          | some s => (recoverSector m nsid (lba + i) s.data, s.pi)
          | none => ((0 : Sector), (0 : BitVec 128)))
        let bad := ((List.range n).filterMap (fun i => if (cell i).isSome then
          (let q := plain.getD i (0, 0); piCheck ns p i q.1 q.2) else none)).head?
        match bad with
        | some st => finish c st { m with dsv.piErr := m.dsv.piErr.inc }
        | none => match x.cmd with
          | some (.compare _ _ _ _ _) =>
            if plain.map (·.1) == want.map (·.1) then finish c .success m else finish c .compareFailure m
          | some (.verify _ _ _ _) => finish c .success m
          | _ => finish c .success (onCtx c (fun y => { y with out := plain }) m)

/-- What a lookup of the sectors of one line finds for a command (R710, R711, R727): a line all of whose needed sectors are VALID. -/
def lookupLine (m : Mach) (ns line : Nat) (need : List Nat) : Option (Line × Option Nat) :=
  let ok := fun (l : Line) => need.all (fun i => l.valid.getLsbD i)
  match frameOf m ns line with
  | some k => if ok (frameAt m k) then some (frameAt m k, some k) else none
  | none => match atticLine m ns line with
    | some l => if ok l then some (l, none) else none
    | none => none

/-- Deliver sectors of a hit line: a POISON sector ends the command with Unrecovered Read Error (R711). -/
def deliverLine (c : NvCmd) (line : Nat) (need : List Nat) (l : Line) (m : Mach) : Mach :=
  if need.any (fun i => l.poison.getLsbD i) then finish c .unrecoveredRead m
  else need.foldl (fun m i => match l.secs.getD i none with
    | some s => deliver c (8 * line + i) s m
    | none => m) m

/-- Wait for a register to free or to complete (R719, R721). -/
def waitMiss (c : NvCmd) (count : Bool) (m : Mach) : Mach :=
  if m.bcm.missWait.contains c then m
  else { m with bcm.missWait := m.bcm.missWait ++ [c], bcm.missWaitCnt := if count then m.bcm.missWaitCnt.inc else m.bcm.missWaitCnt }

/-- The media queue's entries for a speculative fill that a demand joins take its class and command (R679, R720). -/
def promote (a : Act) (nsid line cls since : Nat) (c : NvCmd) (m : Mach) : Mach :=
  let hit := fun (e : Entry) => e.descs.any (fun d => match d.use with
    | .fill n l => n == nsid && l / 8 == line
    | _ => false)
  let up := fun (e : Entry) => if hit e then { e with cls := min e.cls cls, since := if e.hosts.isEmpty then since else min e.since since, hosts := e.hosts ++ [c], origin := if e.origin.isSpec then .host else e.origin } else e
  { m with sch.act := m.sch.act.upd a (fun x => { x with queue := x.queue.map up, incoming := x.incoming.map up, box := x.box.map up, flight := x.flight.map up }) }

/-- One line of a read (R711 to R721, R727). -/
def readLine (c : NvCmd) (cls since : Nat) (n : Ns) (line : Nat) (need : List Nat) (m : Mach) : Mach :=
  let ns := n.nsid - 1
  let a := lbaAct n.kind (8 * line)
  match lookupLine m ns line need with
  | some (l, some k) =>
    let m := { m with bcm.hitCnt := m.bcm.hitCnt.inc, sch.raHitCnt := if l.spec then m.sch.raHitCnt.add need.length else m.sch.raHitCnt }
    touch k (onFrame k (fun l => { l with spec := false }) (deliverLine c line need l m))
  | some (l, none) =>
    let m := { m with bcm.atticHitCnt := m.bcm.atticHitCnt.inc, bcm.hitCnt := m.bcm.hitCnt.inc }
    let m := if m.bcm.moves.contains (.recall ns line) || !(m.bcm.attic.any (fun l => l.ns == ns && l.line == line)) then m
      else { m with bcm.moves := m.bcm.moves ++ [.recall ns line] }
    deliverLine c line need l m
  | none =>
    let l := match frameOf m ns line with
      | some k => frameAt m k
      | none => {}
    let zero := need.filter (fun i => !l.valid.getLsbD i && !lbaWritten m n (8 * line + i))
    let m := onCtx c (fun x => { x with left := x.left.filter (fun b => !(zero.map (8 * line + ·)).contains b) }) m
    let need := need.filter (fun i => !zero.contains i)
    if need.isEmpty then m
    else if need.all (fun i => l.valid.getLsbD i) then deliverLine c line need l m
    else
      let m := { m with bcm.missCnt := m.bcm.missCnt.inc }
      match missOf m ns line with
      | some x =>
        if need.all (fun i => x.fills.getLsbD i || l.valid.getLsbD i) && decide (x.merged < 8) then
          let have_ := need.filter (fun i => l.valid.getLsbD i)
          let m := deliverLine c line have_ l m
          let m := onMiss ns line (fun x => { x with merged := x.merged + 1, waiters := x.waiters ++ [c], spec := false }) m
          promote a n.nsid line cls since c { m with bcm.mergeCnt := m.bcm.mergeCnt.inc }
        else waitMiss c false m
      | none =>
        if 128 ≤ missUsed m a then waitMiss c true m
        else
          let have_ := need.filter (fun i => l.valid.getLsbD i)
          allocMiss n line cls since [c] false .host (deliverLine c line have_ l m)

/-- The lines of a list of LBAs, with the sectors needed of each. -/
def linesOf (ls : List Nat) : List (Nat × List Nat) :=
  (nubList (ls.map (· / 8))).map (fun ln => (ln, (ls.filter (fun b => b / 8 == ln)).map (· % 8)))

/-- A read looks up every line it still needs and is not waiting for (R710 to R722); once nothing is left it ends. -/
def readTry (c : NvCmd) (m : Mach) : Mach :=
  match ctxOf m c with
  | none => m
  | some x => match x.cmd.bind readPart with
    | none => m
    | some (nsid, _, _, _, _) => match nsOf m nsid with
      | none => finish c .invalidNamespace m
      | some n =>
        let m := (linesOf x.left).foldl (fun m p =>
          match missOf m (nsid - 1) p.1 with
          | some y => if y.waiters.contains c then m else readLine c x.cls (arrivedAt m x) n p.1 p.2 m
          | none => readLine c x.cls (arrivedAt m x) n p.1 p.2 m) m
        match ctxOf m c with
        | some y => if y.status.isNone && y.left.isEmpty then readDone c m else m
        | none => m

/-- Lock a frame that holds a line, or a victim taken for it (R744, R745). -/
def lockLine (n : Ns) (line : Nat) (m : Mach) : Option Mach :=
  let ns := n.nsid - 1
  match frameOf m ns line with
  | some k => some (onFrame k (fun l => { l with lock := true, spec := false, transient := false }) m)
  | none =>
    let m := if (atticLine m ns line).isSome then atticDrop ns line m else m
    (victimOf m (setOf ns line) false).map (fun k => onFrame k (fun l => { l with lock := true }) (takeFrame k ns line m))

/-- Sectors of a locked line that its fill would read. -/
def lockMissing (m : Mach) (n : Ns) (line : Nat) : Bool :=
  match frameOf m (n.nsid - 1) line with
  | some k => fillMask m n line (frameAt m k) != 0
  | none => false

/-- A lock in progress goes on (R745): lines that wait take a victim, missing sectors are read at class 3 as miss registers allow, and the
reply follows the last of them. -/
def lockStep (m : Mach) : Mach :=
  match m.bcm.lockReq with
  | none => m
  | some j =>
    let r := j.wait.foldl (fun (acc : Mach × LockJob) p =>
      match nsOf acc.1 (p.1 + 1) with
      | none => (acc.1, { acc.2 with wait := acc.2.wait.filter (· != p) })
      | some n => match lockLine n p.2 acc.1 with
        | none => (askSet (setOf p.1 p.2) acc.1, acc.2)
        | some m => (m, { acc.2 with
            wait := acc.2.wait.filter (· != p), count := acc.2.count + 1
            fills := if acc.2.fill && lockMissing m n p.2 then acc.2.fills ++ [p] else acc.2.fills })) (m, j)
    let m := r.2.fills.foldl (fun m p => match nsOf m (p.1 + 1) with
      | none => m
      | some n => if (missOf m p.1 p.2).isSome || decide (128 ≤ missUsed m (lbaAct n.kind (8 * p.2))) then m
        else allocMiss n p.2 3 m.sch.now [] false .host m) r.1
    if r.2.wait.isEmpty && r.2.fills.isEmpty then reply j.h stOk r.2.count [] { m with bcm.lockReq := none }
    else { m with bcm.lockReq := some r.2 }

/-- Commands that waited for a register are looked up again, in arrival order (R719, R721). -/
def missKick (m : Mach) : Mach :=
  let cs := m.bcm.missWait
  cs.foldl (fun m c => readTry c m) (lockStep (missRetry { m with bcm.missWait := [] }))

/-! ### Fills -/

/-- A register completes (R724, R725): FILL clears, the register frees, a frame with no sector is empty; its speculative mark stays. -/
def missEnd (x : Miss) (m : Mach) : Mach :=
  let m := { m with bcm.misses := m.bcm.misses.filter (fun y => y != x) }
  let m := match x.frame with
    | some k => if x.dropped then m else
        let m := onFrame k (fun l => let l := { l with fill := false }; if l.isEmpty && !l.lock then {} else l) m
        if x.spec then m else touch k m
    | none => m
  let m := x.waiters.foldl (fun m c => match ctxOf m c with
    | some y => if y.status.isNone && y.left.isEmpty then readDone c m else m
    | none => m) m
  let m := { m with bcm.lockReq := m.bcm.lockReq.map (fun j => { j with fills := j.fills.filter (· != (x.ns, x.line)) }) }
  missKick (match x.frame with
    | some k => releaseTransient k (retireClean k m)
    | none => m)

/-- The register that a sector of a fill belongs to, invalidated ones included. -/
def missFor (m : Mach) (nsid lba : Nat) : Option Miss :=
  m.bcm.misses.find? (fun x => x.ns + 1 == nsid && x.line == lba / 8 && x.left.getLsbD (lba % 8))

/-- A sector of a fill has a result (R722 to R724): decoded, it becomes VALID unless a write has overtaken it or the line was
invalidated, and goes to the requesters; left unrecovered, its requesters complete with Unrecovered Read Error. -/
def fillResult (nsid lba : Nat) (p : Option Payload) (m : Mach) : Mach :=
  match missFor m nsid lba with
  | none => m
  | some x =>
    let b := mask8 (lba % 8)
    let y := { x with left := x.left &&& ~~~b }
    let m := { m with bcm.misses := m.bcm.misses.map (fun z => if z == x then y else z) }
    let m := match p with
      | some q =>
        let s : CSec := ⟨q.data, q.info.pi, m.sch.now⟩
        let m := match x.frame with
          | some k => if x.dropped then m else
              onFrame k (fun l => if l.dirty &&& b != 0 then l else { l with valid := l.valid ||| b, secs := updAt l.secs (lba % 8) (fun _ => some s) }) m
          | none => m
        let cur := match x.frame with
          | some k => if x.dropped then s else ((frameAt m k).secs.getD (lba % 8) none).getD s
          | none => s
        x.waiters.foldl (fun m c => deliver c lba cur m) m
      | none => x.waiters.foldl (fun m c => match ctxOf m c with
          | some w => if w.left.contains lba then finish c .unrecoveredRead m else m
          | none => m) m
    let m := x.waiters.foldl (fun m c => match ctxOf m c with
      | some w => if w.status.isNone && w.left.isEmpty then readDone c m else m
      | none => m) m
    if y.left == 0 then missEnd y m else m

/-! ### Writes -/

/-- The namespace of a command that writes sectors. -/
def writeNs : IoCmd → Option Nat
  | .write n _ _ _ _ => some n
  | .append n _ _ _ _ => some n
  | .writeZeroes n _ _ _ => some n
  | _ => none

/-- The write pointer advances with a sector (R625): the last sector makes the zone Full. -/
def advanceWp (nsid lba : Nat) (m : Mach) : Mach :=
  match nsOf m nsid with
  | some n =>
    if n.kind = .zoned then
      onZoneDo nsid (lba / 65536) (fun z =>
        let w := lba % 65536 + 1
        { z with wp := w, st := if 65536 ≤ w then .full else z.st, order := m.zmg.order }) { m with zmg.order := m.zmg.order + 1 }
    else m
  | none => m

/-- The mode that new writes follow (R736). -/
def writeMode (m : Mach) : CacheMode := if m.bcm.draining then m.bcm.target else m.bcm.mode

/-- Move the sectors of waiting writes into the cache, the commands in the order accepted, while the count is below the budget (R731). -/
def pumpWrites : Nat → Mach → Mach
  | 0, m => m
  | f + 1, m => match m.bcm.writeWait with
    | [] => m
    | c :: cs => match ctxOf m c with
      | none => pumpWrites f { m with bcm.writeWait := cs }
      | some x => match x.secs, x.cmd.bind writeNs with
        | (lba, s) :: r, some nsid =>
          if budget m ≤ dirtyCount m then m
          else match enterSector nsid lba { s with since := m.sch.now } m with
            | none => askSet (setOf (nsid - 1) (lba / 8)) m
            | some m =>
              let m := onCtx c (fun y => { y with secs := r, progress := y.progress + 1, left := if writeMode m == .writeBack then y.left else y.left ++ [lba] }) (advanceWp nsid lba m)
              let m := if r.isEmpty && writeMode m == .writeBack && ((ctxOf m c).map (fun y => y.left.isEmpty)).getD false then finish c .success m else m
              pumpWrites f (if r.isEmpty then { m with bcm.writeWait := cs } else m)
        | _, _ => pumpWrites f { m with bcm.writeWait := cs }

/-- Enough steps for every waiting sector. -/
def pump (m : Mach) : Mach :=
  pumpWrites ((m.bcm.writeWait.map (fun c => ((ctxOf m c).map (fun x => x.secs.length + 1)).getD 1)).sum + 1) m

end Sys2Proof.Machine
end

