-- ==== Sys2Proof/Machine/OpsSched.lean ====
section
/-! DEFINITION. Shared operations of the media scheduler (spec/13): the queue, the choice of the next operation, the mailbox, speculation that
is overtaken, and entries that return. -/

namespace Sys2Proof.Machine

/-! ### Settings of record 0x0C01 (Table 13-4) -/

/-- A field of record 0x0C01. -/
def schSet (m : Mach) (off n dflt : Nat) : Nat := setting m 0x0C01 off n dflt
/-- AGE_CAP in µs. -/
def ageCap (m : Mach) : Nat := 1000 * schSet m 0 2 2000
/-- PRESEEK_IDLE_MS in µs. -/
def preseekIdle (m : Mach) : Nat := 1000 * schSet m 10 2 5
/-- CAND_MAX. -/
def candMax (m : Mach) : Nat := schSet m 2 2 64
/-- STREAM_MIN. -/
def streamMin (m : Mach) : Nat := schSet m 4 1 2
/-- STREAM_GAP. -/
def streamGap (m : Mach) : Nat := schSet m 5 1 8
/-- RA_SIZE, KiB. -/
def raSize (m : Mach) : Nat := schSet m 6 2 1024
/-- SPEC_MAX, MiB. -/
def specMax (m : Mach) : Nat := schSet m 8 2 128
/-- DESTAGE_HI, percent. -/
def destageHi (m : Mach) : Nat := schSet m 14 1 75
/-- HS_US. -/
def hsUs (m : Mach) : Nat := schSet m 16 2 300
/-- STAGGER_US. -/
def staggerUs (m : Mach) : Nat := schSet m 18 2 500

/-- The cache and the fabric are frozen for a power loss or an uncorrectable error (Table 15-1, R778). -/
def frozen (m : Mach) : Bool := m.pwr.loss || (match m.vlt.writing with
  | some w => w.img.cause.toNat % 4 != 0
  | none => false)

/-- Change the scheduling of one actuator. -/
def onSch (a : Act) (f : SchAct → SchAct) (m : Mach) : Mach := { m with sch.act := m.sch.act.upd a f }

/-- CLK_FAB time has moved on (R655); time told by a command never goes back. -/
def clockTo (now : Nat) (m : Mach) : Mach := { m with sch.now := max m.sch.now now }

/-- The age of an entry in µs (R655). -/
def ageOf (m : Mach) (e : Entry) : Nat := m.sch.now - e.since

/-! ### Predicted access (R663 to R665) -/

/-- A point of the seek profile: distance, T_READ and T_WRITE_EXTRA (Table 13-5). -/
def profileOf (m : Mach) (a : Act) : List (Nat × Nat × Nat) :=
  match recKeyed m 0x0C02 (recKey 0xFF 0xFF 0xFF (m.srv.get a).trajSet.toNat) with
  | none => []
  | some v => (List.range (fieldAt v 4 2)).map (fun i => (fieldAt v (8 + 8 * i) 4, fieldAt v (12 + 8 * i) 2, fieldAt v (14 + 8 * i) 2))

/-- T_READ and T_WRITE_EXTRA at a distance, interpolated and truncated to µs (R663). -/
def profileAt : List (Nat × Nat × Nat) → Nat → Nat × Nat
  | [], _ => (0, 0)
  | [p], d => if d ≤ p.1 then p.2 else Config.seekBeyond p.1 p.2.1 p.2.2 d
  | p :: q :: r, d =>
    if d ≤ p.1 then p.2
    else if d < q.1 then
      let mix := fun (x y : Nat) => (((x : Int) + ((y : Int) - x) * ((d : Int) - p.1) / ((q.1 : Int) - p.1))).toNat
      (mix p.2.1 q.2.1, mix p.2.2 q.2.2)
    else profileAt (q :: r) d

/-- FIELD_PHASE of a head in 1/65,536 revolution (Table 6-10). -/
def phaseOf (m : Mach) (a : Act) (h : Nat) : Nat :=
  match recKeyed m (srvTy a 0x05) (recKey a.idx h 0xFF 0xFF) with
  | some v => fieldAt v 4 2
  | none => 0

/-- Angles of the prediction, in 1/2^24 revolution, truncated. -/
def turn : Nat := 2 ^ 24

/-- The angle of a tick of a head and region (R331, R561, R663). -/
def tickAngle (m : Mach) (a : Act) (h r start : Nat) : Nat :=
  let t := tprOf m (fieldAt (regionEntry m a h r) 4 4)
  (256 * phaseOf m a h + (if t = 0 then 0 else start * turn / t)) % turn

/-- The ticks that a slot takes (R471, R474): a split slot spans a field. -/
def slotTicks (m : Mach) (a : Act) (h r s : Nat) : Nat :=
  preBits m a / 8 + 4640 + (if s = 0 then 0 else 10 + fieldAt (regionEntry m a h r) 8 2)

/-- Where the arm and the rotor will be at the end of the operation before (R663): track, head and angle. -/
def fromPlace (m : Mach) (a : Act) : Nat × Nat × Nat :=
  match (m.sch.act.get a).flight.getLast? with
  | some e => match e.descs.getLast? with
    | some d => (e.track, e.head, tickAngle m a e.head e.region (d.start.toNat + slotTicks m a e.head e.region d.s.toNat))
    | none => (e.track, e.head, 256 * mechAngle m.spn)
  | none => ((m.srv.get a).tgtTrack.toNat, (m.hif.get a).selHead.toNat, 256 * mechAngle m.spn)

/-- The predicted access time of an entry in ns (R663, R664). -/
def accessNs (m : Mach) (a : Act) (e : Entry) : Nat :=
  let (t0, h0, ang) := fromPlace m a
  let p := profileAt (profileOf m a) (((e.track : Int) - t0).natAbs)
  let tpos := p.1 + (if e.op = 1 then p.2 else 0) + (if e.head = h0 then 0 else hsUs m)
  let v := m.spn.speed.toNat
  if !m.spn.anchored || v = 0 then 1000 * tpos
  else
    let th := match e.descs.head? with
      | some d => tickAngle m a e.head e.region d.start.toNat
      | none => 0
    let gone := tpos * v * turn / 6000000000
    let wait := ((th : Int) - ang - gone) % (turn : Int)
    1000 * tpos + wait.toNat * 6000000000000 / (v * turn)

/-! ### Classes and candidates -/

/-- Destage promotion with its hysteresis (R658). -/
def judgePromote (m : Mach) : Mach :=
  let d := 100 * dirtyCount m
  let f := fun (x : SchAct) => { x with promoted := decide (destageHi m * budget m ≤ d) || (x.promoted && decide ((destageHi m - 10) * budget m ≤ d)) }
  { m with sch.act := ⟨f m.sch.act.p0, f m.sch.act.p1⟩ }

/-- The class in which an entry is treated (R658, Table 13-1). -/
def clsOf (x : SchAct) (e : Entry) : Nat := if e.cls = 4 && x.promoted then 1 else e.cls

/-- The band front that a write must meet (R633, R662): the slot index of its first sector and the front of its band, when the band
is in shingled form. -/
def frontOf (m : Mach) (a : Act) (pbn : Nat) : Nat := assoc 0 m.zmg.maps.front (bandKey a pbn)

/-- Descriptors that wait on an actuator or are in flight. -/
def waitingDescs (m : Mach) (a : Act) : List Desc :=
  let x := m.sch.act.get a
  (x.queue ++ x.incoming ++ x.box ++ x.flight).flatMap (·.descs)

/-- A dirty sector of a zone that waits to be written, below an offset. -/
def dirtyBelow (m : Mach) (nsid z k : Nat) : Bool :=
  m.bcm.frames.any (fun e => e.2.ns + 1 == nsid && e.2.line / 8192 == z && (List.range 8).any (fun i =>
    (e.2.dirty &&& ~~~e.2.poison).getLsbD i && decide ((8 * e.2.line + i) % 65536 < k) && !m.zmg.pins.contains (nsid, 8 * e.2.line + i)))

/-- A write may go to its slot now (R633): in a zone no sector before it is still to be written, in a porch or rewrite band no slot before it
has a write waiting; conventional bands and spare slots wait for nothing. -/
def atFront (m : Mach) (a : Act) (d : Desc) : Bool :=
  match d.use with
  | .destage nsid lba pbn k =>
    if isConv m nsid || decide (65536 ≤ k) then true
    else if ((nsOf m nsid).map (fun n => decide (n.kind = .zoned))).getD false then !dirtyBelow m nsid (lba / 65536) k
    else !(waitingDescs m a).any (fun x => match x.use with
        | .destage _ _ p j => p == pbn && decide (j < k)
        | _ => false)
  | _ => true

/-- A candidate entry (R659, R633): its head is not held by a calibration run, a write starts at the front. -/
def isCand (m : Mach) (a : Act) (e : Entry) : Bool :=
  !calHeld m a e.head && decide (e.cls ≤ 5) && !e.origin.isSpec
    && (e.op != 1 || (e.descs.head?.map (atFront m a)).getD true)

/-- The candidates of an actuator, the mailbox's included. -/
def candidates (m : Mach) (a : Act) : List Entry :=
  let x := m.sch.act.get a
  ((x.queue ++ x.box).filter (isCand m a))

/-- The share's reach (R672). -/
def cleanReach (m : Mach) (a : Act) : Nat := if m.zmg.force.get a || m.zmg.full.get a then 0 else 1

/-- The greatest-age entry, lower sequence number first among equals. -/
def oldest (m : Mach) (l : List Entry) : Option Entry :=
  leastBy (fun e => (2 ^ 64 - ageOf m e) * 2 ^ 64 + e.seq) l

/-- The choice of R660. -/
def selectEntry (m : Mach) (a : Act) : Option Entry :=
  let x := m.sch.act.get a
  let es := candidates m a
  match oldest m (es.filter (fun e => decide (ageCap m ≤ ageOf m e))) with
  | some e => some e
  | none =>
    let owed := x.cleanOwed && es.any (fun e => e.cls == 5) && !es.any (fun e => decide (clsOf x e ≤ cleanReach m a))
    let low := (es.map (clsOf x)).foldl min 6
    let c := if owed then es.filter (fun e => e.cls == 5) else es.filter (fun e => clsOf x e == low)
    let c := (sortBy (fun e => (2 ^ 64 - ageOf m e) * 2 ^ 64 + e.seq) c).take (candMax m)
    leastBy (fun e => (accessNs m a e * 2 ^ 64 + (2 ^ 64 - ageOf m e)) * 2 ^ 64 + e.seq) c

/-- The first slot of an entry. -/
def Entry.slot0 (e : Entry) : Nat := match e.descs.head? with
  | some d => d.slot.toNat
  | none => 0

/-- Other entries of the same kind, head and track that one revolution from the chosen slot reaches, in slot order from it (R662); of writes
to a band in shingled form, those that follow in frontier order; at most 1,024 descriptors in all. -/
def joinRun (m : Mach) (a : Act) (e : Entry) : List Entry :=
  let same := (candidates m a ++ (m.sch.act.get a).queue.filter (fun x => x.op == 1 && !isCand m a x)).filter (fun x =>
    x.seq != e.seq && x.op == e.op && x.head == e.head && x.track == e.track && x.region == e.region)
  let far := fun (x : Entry) => (x.slot0 + 2048 - e.slot0) % 2048
  let next := sortBy far same
  (next.foldl (fun (acc : List Entry × Nat × Bool) x =>
    let n := acc.2.1 + x.descs.length
    let chained := e.op != 1 || x.slot0 == e.slot0 + acc.2.1 || (match x.descs.head? with
      | some d => (match d.use with
          | .destage nsid _ _ k => isConv m nsid || decide (65536 ≤ k)
          | _ => false)
      | none => false)
    if acc.2.2 && n ≤ 1024 && chained then (acc.1 ++ [x], n, true) else (acc.1, acc.2.1, acc.2.2 && e.op != 1))
    ([e], e.descs.length, true)).1

/-! ### The mailbox -/

/-- Mark the last descriptor (Table 11-3). -/
def markLast (ds : List Desc) : List Desc := (ds.zipIdx).map (fun p => { p.1 with last := p.2 + 1 == ds.length, taken := false, failed := false })

/-- The track operation of entries (Table 11-2, R668). -/
def opOf (m : Mach) (a : Act) (es : List Entry) : Option TrackOp :=
  es.head?.map (fun e =>
    let ds := markLast (es.flatMap (·.descs))
    ⟨e.op, [BitVec.ofNat 24 e.track, BitVec.ofNat 24 (e.head + 16 * e.region), BitVec.ofNat 24 ds.length, BitVec.ofNat 24 (if e.op = 1 then 1 else 0),
      BitVec.ofNat 24 (retryLimit m a), 0, 0, 0], ds, e.origin.isSpec⟩)

/-- The queue in the order of sequence numbers. -/
def queueIn (es : List Entry) (x : SchAct) : SchAct := { x with queue := sortBy (·.seq) (x.queue ++ es) }

/-- Take the mailbox's content back: entries of classes 0 to 5 return to the queue (R667). -/
def withdraw (a : Act) (m : Mach) : Mach :=
  let x := m.sch.act.get a
  if (m.cfx.get a).mailbox.isNone then m
  else (onSch a (fun x => { queueIn (x.box.filter (fun e => !e.origin.isSpec)) x with box := [] }) m).onCfx a (fun c => { c with mailbox := if x.box.isEmpty then c.mailbox else none })

/-- In PS1 a dispatch waits for its duty and for the other actuator's seek (R692). -/
def ps1Waits (m : Mach) (a : Act) : Bool :=
  m.sup.nvmePs == 1 && (decide (m.sch.duty < (m.sch.act.get a).busyPct)
    || (decide (0 < (m.sch.act.get a.other).seekAt) && decide (m.sch.now < (m.sch.act.get a.other).seekAt + staggerUs m)))

/-- The scheduler may place work: not in a power loss (R695), not with its heads parked (R199) or its queue held (R671), not in a calibration
slice (R524), not in SERVICE (R238). -/
def mayPlace (m : Mach) (a : Act) : Bool :=
  !frozen m && loaded m a && !(m.sch.act.get a).held && m.sup.mode != .service && !ps1Waits m a
    && !(match (m.cal.act.get a).run with
      | some r => r.inSlice
      | none => false)

/-- Choose and place the next operation, in place of what the mailbox held (R660, R662, R667); a speculative operation that waits in the
mailbox gives way to any candidate (R679). -/
def placeNext (a : Act) (m : Mach) : Mach :=
  let m := judgePromote m
  if !mayPlace m a || (candidates m a).isEmpty then m
  else
    let m := withdraw a m
    if (m.cfx.get a).mailbox.isSome then m
    else match selectEntry m a with
      | none => m
      | some e =>
        let es := joinRun m a e
        let o := opOf m a es
        let t := accessNs m a e / 1000
        (onSch a (fun x => { x with queue := x.queue.filter (fun q => !es.any (fun y => y.seq == q.seq)), box := es, boxPred := t }) m).onCfx a (fun c => { c with mailbox := o })

/-- Any descriptor of an operation can still be stopped: its sequencer runs it. -/
def opRuns (m : Mach) (a : Act) : Bool := (m.cfx.get a).op.isSome && !(m.sch.act.get a).flight.isEmpty

/-- The speculative operation of an actuator is stopped (R679): one in the mailbox is withdrawn and its lines released, one in flight is
asked to stop; a pre-seek is left to the next seek (R680). -/
def releaseSpec (es : List Entry) (m : Mach) : Mach :=
  es.foldl (fun m e => e.descs.foldl (fun m d => match d.use with
    | .fill n l => fillResult n l none m
    | _ => m) m) m

/-- Stop speculation on an actuator. -/
def stopSpec (a : Act) (m : Mach) : Mach :=
  let x := m.sch.act.get a
  let boxed := x.box.filter (·.origin.isSpec)
  let m := if boxed.isEmpty then m
    else releaseSpec boxed ((onSch a (fun x => { x with box := [] }) m).onCfx a (fun c => { c with mailbox := none }))
  let fly := x.flight.any (fun e => e.origin.isSpec && e.origin != .preSeek)
  if fly && (m.cfx.get a).run == .running then cfxAbort a { m with sch.specStopCnt := m.sch.specStopCnt.inc } else m

/-- What a candidate that becomes ready does (R667, R679): speculation in the way is stopped and the choice is made again. -/
def entryReady (a : Act) (m : Mach) : Mach :=
  if (candidates m a).isEmpty then m else placeNext a (stopSpec a m)

/-- The entries that wait in an actuator's queue: the mailbox's stay queued until the sequencer takes them (R667). -/
def queued (m : Mach) (a : Act) : List Entry :=
  let x := m.sch.act.get a
  x.queue ++ x.box.filter (fun e => !e.origin.isSpec)

/-- The first run that waits outside enters the queue, or stays outside a full one, which is counted and reported once a second (R654 to R656). -/
def queueEnter (a : Act) (m : Mach) : Mach :=
  let x := m.sch.act.get a
  match x.incoming with
  | [] => m
  | e :: r =>
    if 1024 ≤ (queued m a).length then
      let sec := m.sch.now / 1000000
      let m := onSch a (fun x => { x with fullCnt := x.fullCnt.inc }) m
      if x.fullAt == some sec then m
      else report 0x0C10 (onAct a) (leBytes 1 a.idx ++ leBytes 2 1024) (onSch a (fun x => { x with fullAt := some sec }) m)
    else
      let e := { e with seq := m.sch.nextSeq }
      entryReady a (onSch a (fun x => { queueIn [e] x with incoming := r }) { m with sch.nextSeq := m.sch.nextSeq + 1 })

/-- The sequencer has taken the mailbox: its entries are in flight (R667), the prediction is kept (R666), and the next operation is placed. -/
def opTakenDo (a : Act) (m : Mach) : Mach :=
  let x := m.sch.act.get a
  if x.box.isEmpty then m
  else
    let capped := match x.box.head? with
      | some e => decide (e.cls ≤ 5) && !e.origin.isSpec && decide (ageCap m ≤ ageOf m e)
      | none => false
    let m := { m with sch.dispCnt := m.sch.dispCnt.inc, sch.ageCapCnt := if capped then m.sch.ageCapCnt.inc else m.sch.ageCapCnt }
    placeNext a (onSch a (fun x => { x with flight := x.box, box := [], pred := BitVec.ofNat 16 (satTo 65535 (x.boxPred / 10)), flyPred := x.boxPred, seekAt := m.sch.now }) m)

/-- An actuator's media queue is empty and nothing is in flight (R523, Table 13-2). -/
def queueIdle (m : Mach) (a : Act) : Bool :=
  let x := m.sch.act.get a
  x.queue.isEmpty && x.incoming.isEmpty && (x.box ++ x.flight).all (·.origin.isSpec)

/-- An entry of a host command lies on a head (R526). -/
def waitsFor (m : Mach) (a : Act) (h : Nat) : Bool :=
  let x := m.sch.act.get a
  (x.queue ++ x.incoming ++ x.box).any (fun e => e.head == h && !e.hosts.isEmpty)

/-! ### Power loss and resets -/

/-- The reads of an actuator that waited are dropped, with their lines (R695); writes stay dirty in the cache. -/
def dropMedia (a : Act) (m : Mach) : Mach :=
  let m := { m with bcm.misses := m.bcm.misses.filter (fun x => decide (x.act ≠ a)) }
  let m := { m with bcm.frames := m.bcm.frames.filterMap (fun (e : Nat × Line) =>
      let l : Line := if decide (lineAct m e.2 = a) then { e.2 with fill := false, dstg := false, flight := 0, redirty := 0 } else e.2
      if l.isEmpty && !l.lock && !l.retired && !l.retiring then none else some (e.1, l)) }
  let m := { m with zmg.requests := m.zmg.requests.filter (fun r => decide (r.1 ≠ a)), zmg.verify := m.zmg.verify.filter (fun t => decide (t.act ≠ a)) }
  (onSch a (fun x => { x with queue := [], incoming := [], box := [], flight := [] }) m).onCfx a (fun c => { c with mailbox := none, ended := none })

/-- Entries of the operation in flight, with the results that its descriptors have. -/
def resultsOf (es : List Entry) (ds : List Desc) : List (Entry × List Desc) :=
  (es.foldl (fun (acc : List (Entry × List Desc) × List Desc) e => (acc.1 ++ [(e, acc.2.take e.descs.length)], acc.2.drop e.descs.length)) ([], ds)).1

/-- Runs of descriptors of consecutive slots. -/
def splitRuns (ds : List Desc) : List (List Desc) :=
  ds.foldr (fun d acc => match acc with
    | (x :: xs) :: r => if x.slot == d.slot + 1 then (d :: x :: xs) :: r else [d] :: (x :: xs) :: r
    | _ => [d] :: acc) []

/-- Descriptors that return to the queue, with the entry's age and sequence number (R670, R1036); descriptors of several runs return as so
many entries of the same number. -/
def requeue (a : Act) (e : Entry) (ds : List Desc) (m : Mach) : Mach :=
  onSch a (queueIn ((splitRuns (ds.map (fun d => { d with failed := false, taken := false, last := false }))).map (fun r => { e with descs := r }))) m

/-- SCH 0x0C12 (R670, R671, R1036). -/
def requeued (a : Act) (n : Nat) (m : Mach) : Mach := if n = 0 then m else report 0x0C12 (onAct a) (leBytes 1 a.idx ++ leBytes 4 n) m

/-- A reset of G_ACTn (R671): untaken descriptors of the operation in flight return, the queue is held. -/
def schReset (a : Act) (m : Mach) : Mach :=
  let x := m.sch.act.get a
  let ds := match (m.cfx.get a).op with
    | some o => o.descs
    | none => match (m.cfx.get a).ended with
      | some (o, _) => o.descs
      | none => x.flight.flatMap (·.descs)
  let rs := ((resultsOf x.flight ds).filter (fun p => !p.1.origin.isSpec)).map (fun p => (p.1, p.2.filter (fun d => !d.failed && !d.taken)))
  let rs := rs.filter (fun p => !p.2.isEmpty)
  let m := releaseSpec ((x.flight ++ x.box).filter (·.origin.isSpec)) (withdraw a m)
  let m := onSch a (fun x => { x with flight := [], box := [], held := true, idleAt := m.sch.now }) m
  let m := rs.foldl (fun m p => requeue a p.1 p.2 m) m
  requeued a rs.length (m.onCfx a (fun c => { c with mailbox := none, ended := none }))

/-- The queue is served again once the actuator is media-ready (R671). -/
def schServe (a : Act) (m : Mach) : Mach := placeNext a (onSch a (fun x => { x with held := false }) m)

end Sys2Proof.Machine
end

