-- ==== Sys2Proof/Machine/OpsDestage.lean ====
section
/-! DEFINITION. Shared operations of destage: which line goes next (spec/14 R732), where its sectors go (spec/12 R633 to R638), what a written
sector changes, write verify and reallocation (R644 to R652). -/

namespace Sys2Proof.Machine

/-! ### Which line -/

/-- An established write stream that a line's sectors belong to (R675, R732). -/
def inStream (m : Mach) (nsid lba : Nat) : Bool :=
  m.sch.streams.any (fun t => t.write && t.nsid == nsid && decide (streamMin m ≤ t.count) && decide (t.start ≤ lba) && decide (lba < t.next))

/-- Dirty lines of an actuator that can be asked for. -/
def destageable (m : Mach) (a : Act) : List (Nat × Line) :=
  m.bcm.frames.filter (fun e => e.2.canDestage && decide (lineAct m e.2 = a))

/-- Everything dirty is to go: a drain, a clean shutdown, a transition that waits for it, or a mode whose writes complete on the media. -/
def mustDestage (m : Mach) : Bool :=
  m.bcm.draining || writeMode m != .writeBack || m.sup.shut == .draining || (m.sup.trans && (m.sup.target == .safe || m.sup.target == .service))

/-- Some line of an actuator may be asked for (R732); with its heads parked the lines stay under vault protection (R199). -/
def destageDue (m : Mach) (a : Act) : Bool := loaded m a && (
  decide (bcmSet m 0 1 25 * budget m ≤ 100 * dirtyCount m)
    || (destageable m a).any (fun e => decide (lineSince e.2 + 1000000 * bcmSet m 1 1 30 ≤ m.sch.now))
    || queueIdle m a || mustDestage m)

/-- The line to be asked for (R732): lines of established write streams, then the oldest. -/
def destagePick (m : Mach) (a : Act) : Option Nat :=
  let es := destageable m a
  let st := es.filter (fun e => inStream m (e.2.ns + 1) (8 * e.2.line))
  (leastBy (fun (e : Nat × Line) => lineSince e.2) (if st.isEmpty then es else st)).map (·.1)

/-! ### Where its sectors go -/

/-- Band of a write of LBAs in ZONED and CONVENTIONAL form. -/
def placeFixed (m : Mach) (n : Ns) (lba : Nat) : Option (Phys × Use × Bool) :=
  (livePlace m n lba).bind (fun x => (bandSlot m (lbaAct n.kind lba) x.1 (decide (n.kind = .conventional)) x.2).map (fun p =>
    (p, Use.destage n.nsid lba x.1 x.2, false)))

/-- A slot of a band is a grown defect. -/
def slotGrown (m : Mach) (a : Act) (pbn k : Nat) : Bool := match bandSlot m a pbn false k with
  | some p => isDefect (grown m a p.head p.region) p.track p.slot
  | none => false

/-- The next slot of a porch band from an index on that is no grown defect (Table 12-7). -/
def porchSlot (m : Mach) (a : Act) (pbn : Nat) : Nat → Nat → Option Nat
  | 0, _ => none
  | f + 1, k => if 65536 ≤ k then none else if slotGrown m a pbn k then porchSlot m a pbn f (k + 1) else some k

/-- One sector at the tail of the porch log (R636, R637): a new band when the last is filled, never the last two free ones; none when the
log is full. A filled band checkpoints the extent map (R642). -/
def porchAppend (nsid : Nat) (a : Act) (m : Mach) : Option (Mach × Nat × Nat) :=
  let mm := manOf m nsid a
  let fresh : Option (Mach × Nat × Nat) := match mm.free with
    | p :: q :: r :: rest =>
      some (saveMaps (onMan nsid a (fun x => { x with porch := x.porch ++ [(p, 1)], free := q :: r :: rest })
        { m with zmg.maps.front := assocSet 0 m.zmg.maps.front (bandKey a p) 0 }), p, 0)
    | _ => none
  match mm.porch.getLast? with
  | none => fresh
  | some (p, u) => match porchSlot m a p 1024 u with
    | some k => some (onMan nsid a (fun x => { x with porch := x.porch.dropLast ++ [(p, k + 1)] }) m, p, k)
    | none => fresh

/-- Append sectors to the porch log, as far as it has room. -/
def porchRun (nsid : Nat) (a : Act) : List Nat → Mach → Mach × List (Nat × Nat × Nat)
  | [], m => (m, [])
  | lba :: r, m =>
    if m.zmg.full.get a then (m, [])
    else match porchAppend nsid a m with
      | none => (m, [])
      | some (m, p, k) => let x := porchRun nsid a r m
        (x.1, (lba, p, k) :: x.2)

/-- Runs of consecutive LBAs. -/
def lbaRuns (ls : List Nat) : List (List Nat) :=
  ls.foldr (fun b acc => match acc with
    | (x :: xs) :: r => if x == b + 1 then (b :: x :: xs) :: r else [b] :: (x :: xs) :: r
    | _ => [b] :: acc) []

/-- The rewrite band takes a run at its frontier (R637); it closes at its end (R638). -/
def rewriteRun (nsid : Nat) (a : Act) (w : Rewrite) (k0 : Nat) (ls : List Nat) (m : Mach) : Mach × List (Nat × Nat × Nat) :=
  (onMan nsid a (fun x => { x with rewrite := some { w with frontier := k0 + ls.length, closed := decide (65536 ≤ k0 + ls.length) } }) m,
    ls.zipIdx.map (fun p => (p.1, w.pbn, k0 + p.2)))

/-- Route one dirty run of a MANAGED namespace (R637). -/
def routeManaged (nsid : Nat) (a : Act) (ls : List Nat) (m : Mach) : Mach × List (Nat × Nat × Nat) :=
  let mm := manOf m nsid a
  let (l, k0) := lbaBand .managed (ls.headD 0)
  let open_ : Option Rewrite := match mm.rewrite with
    | some w => if w.band == l && !w.closed && w.frontier == k0 then some w else none
    | none => none
  match open_ with
  | some w => rewriteRun nsid a w k0 ls m
  | none =>
    match mm.rewrite, mm.free with
    | none, f :: rest =>
      if k0 == 0 && inStream m nsid (ls.headD 0) then
        rewriteRun nsid a ⟨l, f, 0, false⟩ 0 ls (onMan nsid a (fun x => { x with free := rest })
          { m with zmg.maps.front := assocSet 0 m.zmg.maps.front (bandKey a f) 0 })
      else porchRun nsid a ls m
    | _, _ => porchRun nsid a ls m

/-- Offer writes of placed sectors (class 4, Table 13-1). -/
def offerWrites (a : Act) (ps : List (Phys × Use × Bool)) (m : Mach) : Mach :=
  offerAll a 1 4 m.sch.now [] .destage (runsOf ps) m

/-- Route the first destage request of an actuator (R637, R716, R733): the destage-operation count rises; sectors for which there is no
place yet leave the request, which the cache makes again. -/
def routeRequest (a : Act) (m : Mach) : Mach :=
  match m.zmg.requests.find? (fun r => decide (r.1 = a)) with
  | none => m
  | some r =>
    let m := { m with zmg.requests := m.zmg.requests.erase r }
    let l := frameAt m r.2
    let ls := ((List.range 8).filter (fun i => l.flight.getLsbD i)).map (8 * l.line + ·)
    match nsOf m (l.ns + 1) with
    | none => m
    | some n =>
      if ls.isEmpty then onFrame r.2 (fun l => { l with dstg := false }) m
      else
        let m := { m with zmg.maps.wseq := m.zmg.maps.wseq.upd a (· + 1) }
        let res : Mach × List (Phys × Use × Bool) := match n.kind with
          | .managed => (lbaRuns ls).foldl (fun acc run =>
              let x := routeManaged n.nsid a run acc.1
              (x.1, acc.2 ++ x.2.filterMap (fun q => (bandSlot x.1 a q.2.1 false q.2.2).map (fun p => (p, Use.destage n.nsid q.1 q.2.1 q.2.2, false))))) (m, [])
          | _ => (m, ls.filterMap (placeFixed m n))
        let done := res.2.filterMap (fun p => match p.2.1 with
          | .destage _ lba _ _ => some lba
          | _ => none)
        let m := (ls.filter (fun b => !done.contains b)).foldl (fun m b => dropFlight n.nsid b m) res.1
        judgePorch a (offerWrites a res.2 m)

/-! ### What a sector carries (R643, Table 12-6) -/

/-- The zone, or logical band, of an LBA, for META. -/
def metaBand (m : Mach) (n : Ns) (lba pbn : Nat) : Nat :=
  if n.kind = .managed && (manOf m n.nsid (lbaAct n.kind lba)).porch.any (fun p => p.1 == pbn) then (lbaBand n.kind lba).1 else pbn

/-- The identity that a destaged sector takes with it. -/
def secMeta (m : Mach) (a : Act) (head track slot : Nat) (n : Ns) (lba pbn k : Nat) (pi : BitVec 128) : SecMeta :=
  let porch := decide (n.kind = .managed) && (manOf m n.nsid a).porch.any (fun p => p.1 == pbn)
  { tag := tagOf head track slot
    wseq := m.zmg.maps.wseq.get a
    flags := BitVec.ofNat 16 (porch.toNat + 2 * (n.kind != .managed && decide (65536 ≤ k || (n.kind = .conventional && 53248 ≤ k))).toNat + 4 * (decide (n.kind = .conventional)).toNat)
    nsid := BitVec.ofNat 32 n.nsid, lba := BitVec.ofNat 64 lba, pi := pi
    pbn := BitVec.ofNat 32 (metaBand m n lba pbn)
    zrc := if n.kind = .zoned then (zoneOf m n.nsid (lba / 65536)).zrc else 0 }

/-- The sector of the cache for an LBA. -/
def cacheSec (m : Mach) (nsid lba : Nat) : Option CSec :=
  (frameOf m (nsid - 1) (lba / 8)).bind (fun k => let l := frameAt m k
    if l.valid.getLsbD (lba % 8) then l.secs.getD (lba % 8) none else none)

/-- The payload of a write descriptor (R575, R643). -/
def payloadOf (m : Mach) (a : Act) (head track : Nat) (d : Desc) : Option Payload :=
  match d.use with
  | .destage nsid lba pbn k => match nsOf m nsid, cacheSec m nsid lba with
    | some n, some s => some ⟨s.data, secMeta m a head track d.slot.toNat n lba pbn k s.pi⟩
    | _, _ => none
  | _ => none

/-! ### Verify -/

/-- Slots of a band before its i-th track. -/
def slotsBefore (m : Mach) (a : Act) (pbn i : Nat) : Nat := match bandRow m a pbn with
  | none => 0
  | some b => (((bandTracks b false).take i).map (usableCount (layout m a (pbn % 16) b.region).length (defects m a (pbn % 16) b.region))).sum

/-- A track of a band may be verified (R644): conventional and porch tracks at once, a track with a spare slot at once, any other once the
next track is written or no further track will be. -/
def verifyNow (m : Mach) (t : VerTrack) : Bool :=
  let a := t.act
  match t.descs.head?.map (fun (d : Desc) => d.use) with
  | some (.verify nsid lba pbn k) => match nsOf m nsid, bandRow m a pbn with
    | some n, some b =>
      let front := frontOf m a pbn
      let i := t.track - b.first
      let z := zoneOf m nsid (lba / 65536)
      decide (n.kind = .conventional) || (manOf m nsid a).porch.any (fun p => p.1 == pbn) || decide (65536 ≤ k)
        || t.descs.any (fun d => match d.use with
          | .verify _ _ _ k => decide (65536 ≤ k)
          | _ => false)
        || decide (slotsBefore m a pbn (i + 2) ≤ front) || decide (65536 ≤ front) || i + 1 == b.tracks
        || (n.kind = .zoned && z.st == .full && decide (z.wp ≤ front) && z.spares.isEmpty)
    | _, _ => true
  | _ => true

/-- Judge every waiting track of an actuator (R644). -/
def judgeVerify (m : Mach) : Mach :=
  { m with zmg.verify := m.zmg.verify.map (fun t => if t.due then t else { t with due := verifyNow m t }) }

/-- A written sector waits for the verify of its track. -/
def awaitVerify (a : Act) (e : Entry) (d : Desc) (m : Mach) : Mach :=
  match d.use with
  | .destage nsid lba pbn k =>
    let d := { d with use := .verify nsid lba pbn k, taken := false, failed := false, last := false }
    let hit := fun (t : VerTrack) => decide (t.act = a) && t.head == e.head && t.track == e.track
    if m.zmg.verify.any hit then { m with zmg.verify := m.zmg.verify.map (fun t => if hit t then { t with descs := sortBy (·.slot.toNat) (t.descs.filter (fun x => x.slot != d.slot) ++ [d]), due := false } else t) }
    else { m with zmg.verify := m.zmg.verify ++ [⟨a, e.head, e.track, e.region, pbn, false, [d]⟩] }
  | _ => m

/-- The first track due for verify is offered as a VERIFY_RUN (R644, class 4). -/
def offerVerify (a : Act) (m : Mach) : Mach :=
  match m.zmg.verify.find? (fun t => decide (t.act = a) && t.due) with
  | none => m
  | some t =>
    let m := { m with zmg.verify := m.zmg.verify.erase t }
    (splitRuns t.descs).foldl (fun m r => match r.head? with
      | some d => offer a 2 4 m.sch.now [] .verify ⟨t.head, t.region, t.track, d.slot.toNat, d.start.toNat, d.s.toNat⟩ r m
      | none => m) m

/-! ### A written sector -/

/-- Set a live location (R634). -/
def setLive (lba : Nat) (x : Option Loc) (l : List (Nat × Loc)) : List (Nat × Loc) :=
  match x with
  | some v => insBy (fun (e : Nat × Loc) => e.1) (lba, v) (l.filter (fun e => e.1 != lba))
  | none => l.filter (fun e => e.1 != lba)

/-- The band that a logical band gives up when it is mapped anew: the one it had, or while it was UNMAPPED the user band that the namespace was
given for it (R605, R634, R639; log entry 68). -/
def givenUp (m : Mach) (nsid : Nat) (a : Act) (l old : Nat) : List Nat :=
  if old = 0 then ((nsOf m nsid).bind (fun n => (n.bands.get a)[l]?)).toList else [old - 1]

/-- A rewrite whose band has been written whole becomes the band of L (R638, R639 step 4). -/
def rewriteDone (nsid : Nat) (a : Act) (m : Mach) : Mach :=
  match (manOf m nsid a).rewrite with
  | none => m
  | some w =>
    if w.closed && decide (65536 ≤ frontOf m a w.pbn) then
      saveMaps (onMan nsid a (fun x =>
        let old := assoc 0 x.map w.band
        { x with
          map := assocSet 0 x.map w.band (w.pbn + 1)
          live := x.live.filter (fun e => !(e.2 == .rewrite && (lbaBand .managed e.1).1 == w.band))
          free := x.free ++ givenUp m nsid a w.band old, rewrite := none }) m)
    else m

/-- Step 4 of R639: MAP[L] becomes F, the porch extents of L are dropped, the replaced band is free. -/
def remapCleaned (nsid : Nat) (a : Act) (m : Mach) : Mach :=
  match (manOf m nsid a).journal with
  | none => m
  | some (l, f, old) =>
    let inL := fun (e : Nat × Loc) => (lbaBand .managed e.1).1 == l
    let m := onMan nsid a (fun x => { x with
      map := assocSet 0 x.map l (f + 1)
      live := x.live.filter (fun e => !(inL e && e.2 != .dead))
      rewrite := match x.rewrite with
        | some w => if w.pbn == f then none else some w
        | none => none
      free := x.free ++ givenUp m nsid a l old
      journal := none, cleaning := none }) m
    saveMaps { m with zmg.cleanCnt := m.zmg.cleanCnt.inc, zmg.cleaning := m.zmg.cleaning.upd a (fun _ => false) }

/-- A new live location in a band that is being cleaned (R639, R681): a cleaning that is journaled is finished first, one that is not is
given up and its band is free. -/
def cleanMeets (nsid : Nat) (a : Act) (lba : Nat) (m : Mach) : Mach :=
  let mm := manOf m nsid a
  let l := (lbaBand .managed lba).1
  match mm.journal, mm.cleaning with
  | some (j, _, _), _ => if j == l then remapCleaned nsid a m else m
  | none, some (j, f) =>
    if j == l then
      { onMan nsid a (fun x => { x with cleaning := none, free := if (x.rewrite.map (fun w => w.pbn == f)).getD false then x.free else x.free ++ [f] }) m with
        zmg.cleaning := m.zmg.cleaning.upd a (fun _ => false) }
    else m
  | none, none => m

/-- Porch bands at the head of the log without a live sector are released (R636). -/
def releasePorch (nsid : Nat) (a : Act) : Nat → Mach → Mach
  | 0, m => m
  | f + 1, m =>
    let mm := manOf m nsid a
    match mm.porch with
    | (p, _) :: q :: rest =>
      if mm.live.any (fun e => match e.2 with
        | .porch b _ => b == p
        | _ => false) then m
      else releasePorch nsid a f (onMan nsid a (fun x => { x with porch := q :: rest, free := x.free ++ [p] }) m)
    | _ => m

/-- A sector is on the media at a slot of a band (R633, R634, R651). -/
def sectorWritten (a : Act) (nsid lba pbn k : Nat) (m : Mach) : Mach :=
  match nsOf m nsid with
  | none => m
  | some n =>
    let m := if n.kind = .conventional || decide (65536 ≤ k) then m
      else { m with zmg.maps.front := assocSet 0 m.zmg.maps.front (bandKey a pbn) (max (frontOf m a pbn) (k + 1)) }
    let m := pendLeave (fun x => x == (nsid, lba)) m
    match n.kind with
    | .managed =>
      let m := cleanMeets nsid a lba m
      let mm := manOf m nsid a
      let rw := match mm.rewrite with
        | some w => w.pbn == pbn
        | none => false
      let m := onMan nsid a (fun x => { x with live := setLive lba (some (if rw then .rewrite else .porch pbn k)) x.live
                                               rewrite := if rw then x.rewrite.map (fun w => { w with frontier := max w.frontier (k + 1) }) else x.rewrite }) m
      let m := if rw then m else { m with zmg.porchWr := m.zmg.porchWr.inc }
      judgePorch a (releasePorch nsid a 64 (rewriteDone nsid a m))
    | _ => m

/-- A write that failed at a slot (R633, log entry 45): in a zone or a rewrite band the front stays at it; the porch log passes it. -/
def sectorUnwritten (a : Act) (nsid pbn k : Nat) (m : Mach) : Mach :=
  match nsOf m nsid with
  | none => m
  | some n =>
    if n.kind = .conventional || decide (65536 ≤ k) then m
    else if (manOf m nsid a).porch.any (fun p => p.1 == pbn) then
      { m with zmg.maps.front := assocSet 0 m.zmg.maps.front (bandKey a pbn) (max (frontOf m a pbn) (k + 1)) }
    else { m with zmg.maps.front := assocSet 0 m.zmg.maps.front (bandKey a pbn) (min (frontOf m a pbn) k) }

/-! ### Reallocation -/

/-- A slot enters the grown defect list (R645): record 0x0D81, in force at once and staged. -/
def addGrown (a : Act) (p : Phys) (m : Mach) : Mach :=
  if isDefect (grown m a p.head p.region) p.track p.slot then m
  else
    let key := recKey a.idx p.head p.region 0xFF
    let ds := grown m a p.head p.region ++ [(p.track, p.slot, 1)]
    let v := key ++ leBytes 2 ds.length ++ leBytes 2 0 ++ (ds.map (fun d => leBytes 4 d.1 ++ leBytes 2 d.2.1 ++ leBytes 2 d.2.2)).flatten
    stageOwn ⟨0x0D81, v⟩ (putRecord 0x0D81 key (some v) m)

/-- Record 0x0D82 with one more substitution (R618, R646). -/
def addSubst (a : Act) (old new : Nat) (m : Mach) : Mach :=
  let ss := substs m ++ [(a.idx, old, new)]
  let v := leBytes 2 ss.length ++ leBytes 2 0 ++ (ss.map (fun x => leBytes 1 x.1 ++ leBytes 3 0 ++ leBytes 4 x.2.1 ++ leBytes 4 x.2.2)).flatten
  stageOwn ⟨0x0D82, v⟩ { m with sup.records := m.sup.records.filter (fun r => r.ty != 0x0D82) ++ [⟨0x0D82, v⟩] }

/-- The place that an event of the zone manager names (Table 12-12). -/
def zmgPlace (a : Act) (n : Ns) (lba : Nat) : Place := ⟨BitVec.ofNat 8 a.idx, 0xFF, BitVec.ofNat 24 (zoneField n lba)⟩

/-- The cellar band that takes a band's place (R646): one of the same head, else one of the head with the most free ones. -/
def cellarFor (m : Mach) (a : Act) (pbn : Nat) : Option Nat :=
  let free := cellarFree m a
  match free.find? (fun p => p % 16 == pbn % 16) with
  | some p => some p
  | none =>
    let cnt := fun h => (free.filter (fun p => p % 16 == h)).length
    leastBy (fun p => (2 ^ 20 - cnt (p % 16)) * 2 ^ 24 + p) free

/-- A cache line is pinned, or freed of its pin when no sector of it is pinned any more. -/
def pinLine (nsid lba : Nat) (m : Mach) : Mach := match frameOf m (nsid - 1) (lba / 8) with
  | some k => onFrame k (fun l => { l with pin := l.dirty != 0 }) m
  | none => m

/-- Pin a sector (R647, R652). -/
def pinSector (nsid lba : Nat) (m : Mach) : Mach :=
  pinLine nsid lba (if m.zmg.pins.contains (nsid, lba) then m else { m with zmg.pins := m.zmg.pins ++ [(nsid, lba)] })

/-- A pin ends. -/
def unpinSector (nsid lba : Nat) (m : Mach) : Mach :=
  let m := { m with zmg.pins := m.zmg.pins.filter (· != (nsid, lba)) }
  if m.zmg.pins.any (fun p => p.1 == nsid && p.2 / 8 == lba / 8) then m
  else match frameOf m (nsid - 1) (lba / 8) with
    | some k => onFrame k (fun l => { l with pin := false }) m
    | none => m

/-- A sector's destage is under way again. -/
def flyAgain (nsid lba : Nat) (m : Mach) : Mach := match frameOf m (nsid - 1) (lba / 8) with
  | some k => onFrame k (fun l => { l with flight := l.flight ||| mask8 (lba % 8), dstg := true }) m
  | none => m

/-- Offer the write of one sector to a slot index of a band. -/
def offerSector (a : Act) (n : Ns) (lba pbn k : Nat) (m : Mach) : Mach :=
  match bandSlot m a pbn (decide (n.kind = .conventional)) k with
  | some p => offerWrites a [(p, .destage n.nsid lba pbn k, false)] (flyAgain n.nsid lba m)
  | none => m

/-- Copy a slot of the surface to another, under its new identity. -/
def copySlot (a : Act) (p q : Phys) (pbn : Nat) (m : Mach) : Mach :=
  match slotData m a p.head p.track p.slot with
  | none => m
  | some x =>
    slotPut a q.head q.track q.slot { x with info := { x.info with tag := tagOf q.head q.track q.slot, pbn := BitVec.ofNat 32 pbn, wseq := m.zmg.maps.wseq.get a } } m

/-- Write a sector of the cache to a slot of the surface. -/
def putSlot (a : Act) (q : Phys) (n : Ns) (lba pbn k : Nat) (m : Mach) : Mach :=
  match cacheSec m n.nsid lba with
  | none => m
  | some s =>
    slotPut a q.head q.track q.slot ⟨s.data, secMeta m a q.head q.track q.slot n lba pbn k s.pi⟩ m

/-- A band's live sectors are copied to a cellar band, which takes its place, its pinned sectors from the cache (R646, log entry 47). -/
def substitute (a : Act) (n : Ns) (l pbn new : Nat) (m : Mach) : Mach :=
  let conv := decide (n.kind = .conventional)
  let last := if conv then 53248 else frontOf m a pbn
  let m := (List.range last).foldl (fun m k =>
    let lba := bandLba n.kind a l k
    match bandSlot m a new conv k with
    | none => m
    | some q =>
      if m.zmg.pins.contains (n.nsid, lba) then unpinSector n.nsid lba (destageEnd n.nsid lba true (flyAgain n.nsid lba (putSlot a q n lba new k m)))
      else match bandSlot m a pbn conv (slotIndex m a pbn conv k) with
        | some p => copySlot a p q new m
        | none => m) m
  let m := addSubst a pbn new { m with
    zmg.maps.gone := m.zmg.maps.gone ++ [(a.idx, pbn)]
    zmg.substCnt := m.zmg.substCnt.inc
    zmg.maps.front := (if conv then m.zmg.maps.front else assocSet 0 (assocSet 0 m.zmg.maps.front (bandKey a new) last) (bandKey a pbn) 0)
    zmg.maps.moved := m.zmg.maps.moved.filter (fun x => x.1 != bandKey a pbn) }
  let m := report 0x0D21 (zmgPlace a n (bandLba n.kind a l 0)) (leBytes 3 pbn ++ leBytes 3 new) m
  saveMaps (cellarCheck a m)

/-- A zone becomes Read Only or Offline on the module's own account (R632, R647, R648). -/
def zoneLost (a : Act) (n : Ns) (z : Nat) (st : ZoneSt) (m : Mach) : Mach :=
  let m := onZoneDo n.nsid z (fun x => { x with st := st }) m
  let m := postNotice (fun k => k.zoneAen && n.att.get k.port) (0x02 + 0x100 * 0xEF + 0x10000 * 0xBF + 2 ^ 32 * n.nsid) m
  saveMaps (report (if st = .readOnly then 0x0D30 else 0x0D31) ⟨BitVec.ofNat 8 a.idx, 0xFF, BitVec.ofNat 24 z⟩ (leBytes 2 n.nsid ++ leBytes 3 z) m)

/-- The dirty sectors of a logical band from a sector on. -/
def dirtyFrom (m : Mach) (a : Act) (n : Ns) (l k : Nat) : List Nat :=
  m.bcm.frames.flatMap (fun e => if e.2.ns + 1 != n.nsid then [] else
    (List.range 8).filterMap (fun i =>
      let lba := 8 * e.2.line + i
      if (e.2.dirty &&& ~~~e.2.poison).getLsbD i && decide (lbaAct n.kind lba = a) && (lbaBand n.kind lba).1 == l && decide (k ≤ (lbaBand n.kind lba).2)
      then some lba else none))

/-- No free spare slot is left in the band of a pinned sector (R646, R647): a cellar band takes its place, or that sector and the dirty
sectors after it in the band stay pinned. -/
def outOfSpares (a : Act) (n : Ns) (lba pbn : Nat) (m : Mach) : Mach :=
  let l := (lbaBand n.kind lba).1
  match cellarFor m a pbn with
  | some new => substitute a n l pbn new m
  | none =>
    let m := (dirtyFrom m a n l (lbaBand n.kind lba).2).foldl (fun m b => pinSector n.nsid b m) m
    let cnt := (m.zmg.pins.filter (fun p => p.1 == n.nsid && (lbaBand n.kind p.2).1 == l)).length
    let m := report 0x0D22 (zmgPlace a n lba) (leBytes 3 pbn ++ leBytes 4 cnt) m
    if n.kind = .zoned && (zoneOf m n.nsid (lba / 65536)).st != .readOnly then zoneLost a n (lba / 65536) .readOnly m else m

/-- Spare slots of a band used. -/
def sparesUsedOf (m : Mach) (a : Act) (pbn : Nat) : Nat := assoc 0 m.zmg.maps.spareUsed (bandKey a pbn)

/-- Spare slots of a band (R613, R614). -/
def spareSlots (conv : Bool) (m : Mach) (a : Act) (pbn : Nat) : Nat := if conv then min 64 (bandSize m a pbn true - 53248) else 64

/-- A failed sector takes the next free spare slot of its band (R645). -/
def takeSpare (a : Act) (n : Ns) (lba pbn k : Nat) (m : Mach) : Mach :=
  let conv := decide (n.kind = .conventional)
  let i := sparesUsedOf m a pbn
  if spareSlots conv m a pbn ≤ i then outOfSpares a n lba pbn (pinSector n.nsid lba m)
  else
    let m := { m with
      zmg.maps.spareUsed := assocSet 0 m.zmg.maps.spareUsed (bandKey a pbn) (i + 1)
      zmg.maps.moved := m.zmg.maps.moved.filter (fun x => !(x.1 == bandKey a pbn && x.2.1 == k)) ++ [(bandKey a pbn, k, i)] }
    saveMaps (offerSector a n lba pbn (spareIndex m a pbn conv i) (unpinSector n.nsid lba m))

/-- The sectors of a zone that wait for spare slots are written once its front has passed the last user slot, or at Finish Zone (R629,
R645). -/
def spareWrites (a : Act) (n : Ns) (z : Nat) (m : Mach) : Mach :=
  let x := zoneOf m n.nsid z
  match livePlace m n (65536 * z) with
  | none => m
  | some (pbn, _) =>
    if x.spares.isEmpty || !(decide (65536 ≤ frontOf m a pbn) || (x.st == .full && decide (x.wp ≤ frontOf m a pbn))) then m
    else
      let m := onZoneDo n.nsid z (fun y => { y with spares := [] }) m
      x.spares.foldl (fun m k => takeSpare a n (65536 * z + k) pbn k m) m

/-- A sector whose verify failed is reallocated as its kind asks (R645, Table 12-7). -/
def reallocate (a : Act) (n : Ns) (lba pbn k : Nat) (m : Mach) : Mach :=
  let code := match n.kind with
    | .zoned => 0
    | .conventional => 1
    | .managed => if (assoc 0 (manOf m n.nsid a).map (lbaBand n.kind lba).1) == pbn + 1 then 2 else 3
  let m := match bandSlot m a pbn (decide (n.kind = .conventional)) k with
    | some p => report 0x0D20 ⟨BitVec.ofNat 8 a.idx, BitVec.ofNat 8 p.head, BitVec.ofNat 24 (zoneField n lba)⟩ (secLoc p.track p.slot ++ leBytes 1 code) (addGrown a p m)
    | none => m
  let m := { m with zmg.reallocCnt := m.zmg.reallocCnt.inc }
  let user := (lbaBand n.kind lba).2
  match n.kind with
  | .zoned => spareWrites a n (lba / 65536) (pinSector n.nsid lba (onZoneDo n.nsid (lba / 65536) (fun z => { z with spares := z.spares.filter (· != user) ++ [user] }) m))
  | .conventional => takeSpare a n lba pbn user m
  | .managed =>
    let r := porchRun n.nsid a [lba] m
    match r.2 with
    | [(_, p, j)] => offerSector a n lba p j r.1
    | _ => r.1

/-- A verify read found a sector bad (R645, R652): reallocated when armed, else pinned until SPARE_COMMIT names it. -/
def verifyFailed (a : Act) (nsid lba pbn k : Nat) (m : Mach) : Mach :=
  let m := destageEnd nsid lba false m
  match nsOf m nsid with
  | none => m
  | some n => if armed m (actCode 0x0824 a) = 2 then reallocate a n lba pbn k m else pinSector nsid lba m

/-! ### The end of an operation (R669, R670, R1036) -/

/-- A sector of an operation that ended well. -/
def sectorDone (a : Act) (e : Entry) (d : Desc) (m : Mach) : Mach :=
  match d.use with
  | .fill nsid lba => fillResult nsid lba none m
  | .destage nsid lba pbn k =>
    let flying := match frameOf m (nsid - 1) (lba / 8) with
      | some f => (frameAt m f).flight.getLsbD (lba % 8)
      | none => false
    if !flying then m
    else
      let m := sectorWritten a nsid lba pbn k m
      let m := if verifyOn m then judgeVerify (awaitVerify a e d m) else destageEnd nsid lba true m
      match nsOf m nsid with
      | some n => if n.kind = .zoned then spareWrites a n (lba / 65536) m else m
      | none => m
  | .verify nsid lba _ _ => destageEnd nsid lba true m
  | _ => m

/-- A sector of an operation that failed: an unrecovered read, or a failed write (R650, R669). -/
def sectorFailed (a : Act) (e : Entry) (d : Desc) (m : Mach) : Mach :=
  match d.use with
  | .fill nsid lba =>
    let m := match nsOf m nsid with
      | some n => if e.origin.isSpec then m else pendEnter a nsid lba (zoneField n lba) m
      | none => m
    fillResult nsid lba none m
  | .destage nsid lba pbn k => destageEnd nsid lba false (sectorUnwritten a nsid pbn k m)
  | .verify nsid lba pbn k => verifyFailed a nsid lba pbn k m
  | _ => m

/-- Slots written after a failed slot of the same band in one operation count as not written (log entry 45). -/
def afterFailure (ds : List Desc) : List Desc :=
  (ds.foldl (fun (acc : List Desc × Bool) d => (acc.1 ++ [if acc.2 then { d with failed := true } else d], acc.2 || d.failed)) ([], false)).1

/-- One entry of an ended operation: what failed, what was done, what returns. -/
def entryEnded (a : Act) (kind : Nat) (e : Entry) (ds : List Desc) (m : Mach) : Mach × Nat :=
  let shingled := e.op == 1 && !(match ds.head?.map (fun (d : Desc) => d.use) with
    | some (.destage n _ _ _) => isConv m n
    | _ => true)
  let ds := if shingled then afterFailure ds else ds
  let giveUp := kind == 0 && e.returned
  let orphan := decide (e.origin = .host) && e.hosts.isEmpty
  let m := ds.foldl (fun m d =>
    if d.failed then sectorFailed a e d m
    else if d.taken then sectorDone a e d m
    else if e.origin.isSpec || orphan then (match d.use with
      | .fill n l => fillResult n l none m
      | _ => m)
    else if kind = 3 then m
    else if giveUp then sectorFailed a e d m
    else m) m
  let back := ds.filter (fun d => !d.failed && !d.taken)
  if back.isEmpty || e.origin.isSpec || orphan || kind = 3 || giveUp then (m, 0)
  else (requeue a { e with returned := e.returned || kind == 0 } back m, 1)

/-- The sequencer's completion is taken (R666, R669, R670, R1036): every entry of the operation in flight gets its results, and the next
operation is chosen. `meas` is the measured access in µs. -/
def completeOp (a : Act) (meas : Nat) (m : Mach) : Mach :=
  match (m.cfx.get a).ended with
  | none => m
  | some (o, kind) =>
    let x := m.sch.act.get a
    let v := m.spn.speed.toNat
    let gated := x.flight.any (fun e => !e.descs.isEmpty)
    let late := gated && decide (x.flyPred * v + 4500000000 < meas * v)
    let m := { m with sch.missRevCnt := if late then m.sch.missRevCnt.inc else m.sch.missRevCnt }
    let m := (onSch a (fun y => { y with flight := [], idleAt := m.sch.now, meas := if !gated then y.meas else BitVec.ofNat 16 (satTo 65535 (meas / 10)) }) m).onCfx a (fun c => { c with ended := none })
    let r := (resultsOf x.flight o.descs).foldl (fun (acc : Mach × Nat) p =>
      let y := entryEnded a kind p.1 p.2 acc.1
      (y.1, acc.2 + y.2)) (m, 0)
    placeNext a (requeued a r.2 (pump (missKick r.1)))

end Sys2Proof.Machine
end

