-- ==== Sys2Proof/Machine/OpsBcm.lean ====
section
/-! DEFINITION. Shared operations of the buffer cache's modes (spec/14 R735 to R739, R1044), of frame and page retirement (R751 to R757), and
of the reset of the fabric's own units. -/

namespace Sys2Proof.Machine

/-! ### Cache modes -/

/-- BCM.MODE.MODE changes (R1044): BCM 0x0E31 with the old mode, the new one and the cause. -/
def cacheModeTo (x : CacheMode) (cause : Nat) (m : Mach) : Mach :=
  if m.bcm.mode = x then m
  else report 0x0E31 nowhere (leBytes 1 m.bcm.mode.code ++ leBytes 1 x.code ++ leBytes 1 cause) { m with bcm.mode := x }

/-- A CACHE_SET_MODE that waits ends with a status (R739). -/
def modeReqEnd (st detail : Nat) (m : Mach) : Mach :=
  match m.bcm.modeReq with
  | some h => reply h st detail [] { m with bcm.modeReq := none }
  | none => m

/-- A drain whose dirty count has reached zero ends (R736, R738): the target mode is entered, the request completes. -/
def drainDone (m : Mach) : Mach :=
  if m.bcm.draining && decide (dirtyCount m = 0) then
    let cause := if m.bcm.blocked then 5 else m.bcm.drainCause
    modeReqEnd stOk 0 (cacheModeTo m.bcm.target cause { m with bcm.draining := false, bcm.blocked := false })
  else m

/-- A new target mode (R736, R739): WRITE_BACK at once, any other through a drain; an earlier request that drains is replaced. -/
def cacheTarget (x : CacheMode) (cause : Nat) (h : Option Hdr) (m : Mach) : Mach :=
  let m := modeReqEnd stAborted 0 m
  match x with
  | .writeBack =>
    modeReqEnd stOk 0 (cacheModeTo x cause { m with bcm.draining := false, bcm.blocked := false, bcm.target := x, bcm.modeReq := h })
  | _ => drainCheck (drainDone { m with bcm.draining := true, bcm.blocked := false, bcm.target := x, bcm.drainCause := cause, bcm.modeReq := h })

/-- The armed WRITE_THROUGH (R795): the mode in force is kept for its end. In SERVICE the cache is in write-through already (R240). -/
def forceWt (m : Mach) : Mach :=
  if m.bcm.forcedWt then m
  else if m.bcm.before.isSome then { m with bcm.forcedWt := true }
  else cacheTarget .writeThrough 2 none { m with bcm.forcedWt := true, bcm.before := some (if m.bcm.draining then m.bcm.target else m.bcm.mode) }

/-- Forced write-through ends (R796): the mode in force before returns, but for SERVICE, which keeps write-through. -/
def endForceWt (m : Mach) : Mach :=
  let m := { m with bcm.forcedWt := false }
  if m.sup.mode == .service then m
  else match m.bcm.before with
    | some x => cacheModeTo x 3 { m with bcm.before := none, bcm.draining := false, bcm.blocked := false, bcm.target := x }
    | none => m

/-- SERVICE runs the cache write-through (R240): a drain in progress is replaced; nothing is dirty at entry. -/
def serviceCache (m : Mach) : Mach :=
  let m := modeReqEnd stAborted 0 m
  let was := if m.bcm.draining then m.bcm.target else m.bcm.mode
  let before := match m.bcm.before with
    | some x => some x
    | none => some was
  cacheModeTo .writeThrough 4 { m with bcm.before := before, bcm.draining := false, bcm.blocked := false, bcm.target := .writeThrough }

/-- SERVICE ends: the mode before returns unless write-through is forced (R240, R739); the check-bit test mode ends (R762). -/
def leaveServiceCache (m : Mach) : Mach :=
  let m := { m with bcm.test := false }
  if m.bcm.forcedWt then m
  else match m.bcm.before with
    | some x => cacheModeTo x 4 { m with bcm.before := none, bcm.target := x }
    | none => m

/-! ### Retirement -/

/-- Retired frames of a set, those on their way out included (R753). -/
def retiredIn (m : Mach) (set : Nat) : Nat := ((List.range 16).filter (fun w => let l := frameAt m (16 * set + w); l.retired || l.retiring)).length

/-- Retire a frame (R752, R753): it becomes ineligible, its dirty sectors are asked to be destaged, its clean contents are discarded. -/
def retireFrame (k : Nat) (m : Mach) : Mach :=
  let l := frameAt m k
  if l.retired || l.retiring then m
  else if 4 ≤ retiredIn m (k / 16) then report 0x0E22 nowhere (leBytes 2 (k / 16) ++ leBytes 1 (k % 16)) m
  else
    let m := onFrame k (fun l => if l.fill then { l with retiring := true } else { l with retiring := true, valid := l.valid &&& (l.dirty ||| l.poison) }) m
    retireClean k (askDestage k m)

/-- Visible pages (R705). -/
def visiblePages : Nat := 1835008

/-- The first spare page that is free, by its number in the pool (R704, R756). -/
def sparePage (m : Mach) : Option Nat := (List.range 4096).find? (fun i => !m.bcm.retPages.any (fun p => p.2 == i))

/-- Remap a visible page (R756), or say that the pool is used up: the machine and whether it was done. -/
def remapPage (p : Nat) (m : Mach) : Mach × Bool :=
  match sparePage m with
  | some q => (report 0x0E23 nowhere (leBytes 4 p ++ leBytes 2 q) { m with bcm.retPages := m.bcm.retPages ++ [(p, q)] }, true)
  | none => (report 0x0E24 nowhere (leBytes 4 p) m, false)

/-- The spare context rows (R820). -/
def spareRows : Nat := 64

/-- A context row shows a corrected error at two scrub visits (R841): condition 0x1030 with the spare row that the armed response takes,
0xFF for none. -/
def contextRow (row : Nat) (m : Mach) : Mach :=
  let remap := armed m 0x1030 == 4 && !m.fe.rowRemap.contains row
  let room := decide (m.fe.rowRemap.length < spareRows)
  let m' := report 0x1030 nowhere (leBytes 2 row ++ leBytes 1 (if remap && room then m.fe.rowRemap.length else 0xFF)) m
  if !remap then m'
  else if room then { m' with fe.rowRemap := m'.fe.rowRemap ++ [row] }
  else report 0x1031 nowhere (leBytes 2 row) m'

/-- A DRAM word shows a corrected error at two scrub visits (R752 to R754): condition 0x0E20, and its armed response. -/
def persistentPage (page : Nat) (m : Mach) : Mach :=
  let inFrame := decide (page < 1572864)
  let m := report 0x0E20 nowhere (leBytes 4 page ++ leBytes 4 (if inFrame then page / 8 else 0xFFFFFFFF)) m
  if inFrame && armed m 0x0E20 == 1 then retireFrame (page / 8) m else m

/-! ### Resets of the fabric's units -/

/-- The frames of the retirement list, retired (R757). -/
def retiredFrames (m : Mach) : List (Nat × Line) := m.bcm.retFrames.foldl (fun fs k => assocSet {} fs k ({ retired := true } : Line)) []

/-- BCM after stage 4 (R757, R1039): check bits initialised, the retirement list applied. -/
def dramInit (m : Mach) : Mach :=
  { m with bcm.trained := true, bcm.checksInit := true, bcm.retireApplied := true, bcm.frames := retiredFrames m }

/-- BCM after a reset of G_FAB: empty, in WRITE_BACK (R735); retirement and counters stay (R757, R14). -/
def bcmReset (m : Mach) : Mach :=
  let b := m.bcm
  let n : Bcm := { frames := retiredFrames m, retFrames := b.retFrames, retPages := b.retPages, cePages := b.cePages, trained := b.trained, checksInit := b.checksInit, retireApplied := b.retireApplied
                   grants := b.grants, hitCnt := b.hitCnt, missCnt := b.missCnt, mergeCnt := b.mergeCnt, atticHitCnt := b.atticHitCnt, dramCorr := b.dramCorr
                   arrCorr := b.arrCorr, deadlineCnt := b.deadlineCnt, missWaitCnt := b.missWaitCnt }
  { m with bcm := n, events.bcm := 0 }

/-- SCH after a reset of G_FAB: counters stay. -/
def schFabReset (m : Mach) : Mach :=
  let x := m.sch
  let n : Sch := { now := x.now, nextSeq := x.nextSeq, dispCnt := x.dispCnt, ageCapCnt := x.ageCapCnt, specStopCnt := x.specStopCnt, raHitCnt := x.raHitCnt, missRevCnt := x.missRevCnt, abortCnt := x.abortCnt }
  { m with sch := n, events.sch := 0 }

/-- ZMG after a reset of G_FAB: the tables are those of the reserved media area once stage 8 has read them; counters stay. -/
def zmgReset (m : Mach) : Mach :=
  let x := m.zmg
  let n : Zmg := { reallocCnt := x.reallocCnt, substCnt := x.substCnt, cleanCnt := x.cleanCnt, porchWr := x.porchWr, unrecCnt := x.unrecCnt }
  { m with zmg := n, events.zmg := 0 }

/-- A reset that ends every request ends the queues of CAL_RUN with them (R923, Table 10-5) and abandons the runs in progress (Table 10-3). Block
CAL is of G_AON (Table 1-1): its registers, what is due, and the baselines stay. -/
def calReset (m : Mach) : Mach :=
  let m := calAbandonAll 2 m
  let c := fun (x : CalAct) => { x with queue := [], gap := false }
  { m with cal.act := ⟨c m.cal.act.p0, c m.cal.act.p1⟩ }

end Sys2Proof.Machine
end

