-- ==== Sys2Proof/Machine/OpsVault.lean ====
section
/-! DEFINITION. Shared operations of the vault (spec/15): blocks, images, the image sequence, protection, replay and disposal. -/

namespace Sys2Proof.Machine

/-- SPARE_WARN (Table 15-7). -/
def spareWarn (m : Mach) : Nat := setting m 0x0F01 0 2 820
/-- RETURN_S. -/
def returnS (m : Mach) : Nat := setting m 0x0F01 2 1 10

/-! ### Blocks -/

/-- Image blocks of the variant (R787). -/
def vaultBlocks (m : Mach) : Nat := match m.id.variant with
  | .u1 => 132
  | _ => 68

/-- A pool block, as 2,048 × die + block (R782, R783). -/
def isPool (b : Nat) : Bool := decide (b < 4096) && decide (4 ≤ b % 2048)

/-- Pool blocks. -/
def poolBlocks : Nat := 4088

/-- Good pool blocks (R787). -/
def goodBlocks (m : Mach) : Nat := poolBlocks - m.vlt.bad.length

/-- Blocks that images hold, the ones being written and imported included. -/
def heldBlocks (m : Mach) : List Nat :=
  m.vlt.impBlocks ++ ((m.vlt.images.filter (fun i => !i.consumed)).map (·.blocks)).flatten ++ ((m.vlt.writing.map (fun w => w.img.blocks)).getD [])

/-- Ready blocks, good and erased, counted (R784). -/
def readyBlocks (m : Mach) : Nat := poolBlocks - (m.vlt.bad.length + m.vlt.spent.length + (heldBlocks m).length)

/-- A block is ready. -/
def isReady (m : Mach) (b : Nat) : Bool := isPool b && !m.vlt.bad.contains b && !m.vlt.spent.contains b && !(heldBlocks m).contains b

/-- The first ready blocks, as many as asked for (log entry 53). -/
def takeReady (m : Mach) (n : Nat) : List Nat := ((List.range 4096).filter (isReady m)).take n

/-- The spare count (R787). -/
def vaultSpare (m : Mach) : Nat := goodBlocks m - 2 * (vaultBlocks m + 8)

/-- A block is retired (R786); VLT 0x0F21 once for each crossing of SPARE_WARN (R787). -/
def retireBlock (b : Nat) (m : Mach) : Mach :=
  if !isPool b || m.vlt.bad.contains b then m
  else
    let was := vaultSpare m
    let m := { m with vlt.bad := m.vlt.bad ++ [b], vlt.spent := m.vlt.spent.filter (· != b) }
    if spareWarn m ≤ was && decide (vaultSpare m < spareWarn m) then report 0x0F21 nowhere (leBytes 2 (vaultSpare m)) m else m

/-- A page program fails on a block (R786): retired, counted, VLT 0x0F20; an image being written goes on in another ready block. -/
def programFail (die plane block : Nat) (m : Mach) : Mach :=
  let b := 2048 * die + block
  let m := report 0x0F20 nowhere (leBytes 1 die ++ leBytes 1 plane ++ leBytes 2 block) { m with vlt.pfailCnt := m.vlt.pfailCnt.inc }
  let next := (takeReady m 1).head?
  let m := { m with vlt.writing := m.vlt.writing.map (fun w => { w with img := { w.img with
      blocks := w.img.blocks.filterMap (fun x => if x == b then next else some x) } }) }
  retireBlock b m

/-! ### Images -/

/-- The attached HDA by its identity page. -/
def ownHda (m : Mach) (i : VImage) : Bool := match hdaPage m with
  | some p => i.hdaSerial == p.serial && i.geomSig == p.geomSig
  | none => false

/-- Kept images (R791); the module knows of none while the vault directory does not read. -/
def keptImages (m : Mach) : List VImage := if m.vlt.dirOk then m.vlt.images.filter (fun i => i.valid && !i.consumed) else []

/-- Kept images of another HDA, which are held (R798). -/
def foreignImages (m : Mach) : List VImage := if (hdaPage m).isNone then [] else (keptImages m).filter (fun i => !ownHda m i)

/-- The newest of images by SEQ, the lower INDEX on a tie (R18, R19, R797). -/
def newestImage (l : List VImage) : Option VImage :=
  l.foldl (fun (b : Option VImage) i => match b with
    | none => some i
    | some x => if newer i.seq x.seq == newer x.seq i.seq then (if x.index && !i.index then some i else some x)
        else if newer i.seq x.seq then some i else some x) none

/-- The newest kept image of the attached HDA (R797). -/
def imageI (m : Mach) : Option VImage := newestImage ((keptImages m).filter (ownHda m))

/-- Every sector that has DIRTY or POISON set (R789). -/
def vaultEntries (m : Mach) : List VEntry :=
  m.bcm.frames.flatMap (fun e => ((List.range 8).filter (fun i => (e.2.dirty ||| e.2.poison).getLsbD i)).map (fun i =>
    let s : CSec := (e.2.secs.getD i none).getD ⟨0, 0, 0⟩
    ⟨e.2.ns + 1, 8 * e.2.line + i, s.pi, e.2.poison.getLsbD i, s.data⟩))

/-- Metadata that goes into an image (Table 15-2): none before the tables are up, none when nothing changed since the last save. -/
def vaultMaps (m : Mach) : Option ZmgMaps := if m.zmg.mapsOk && m.zmg.maps != m.hda.rsv then some m.zmg.maps else none

/-- Blocks that an image of so many sectors takes: 8 MiB for header, directory and metadata, and the sectors (R787, R788). -/
def blocksFor (n : Nat) : Nat := 4 + (n + 511) / 512

/-- Tables with some structures of Table 12-3 as the reserved media area holds them: namespace table, zone table, managed maps, pending list
in bits 0 to 3 (R779). -/
def mixMaps (rows : BitVec 8) (x saved : ZmgMaps) : ZmgMaps :=
  let x := if rows.getLsbD 0 then { x with nss := saved.nss, gone := saved.gone, cellarAdded := saved.cellarAdded } else x
  let x := if rows.getLsbD 1 then { x with zones := saved.zones, front := saved.front, spareUsed := saved.spareUsed, moved := saved.moved, wseq := saved.wseq } else x
  let x := if rows.getLsbD 2 then { x with man := saved.man } else x
  if rows.getLsbD 3 then { x with pend := saved.pend } else x

/-- Group, parity column and extent of each parity update in the send log (R896). -/
def parityUnderWay (m : Mach) : List (BitVec 32 × Nat × Nat) :=
  nubList (m.dsv.log.flatMap (fun l => match l.msg with
    | .parity gid _ lba _ => match m.dsv.groups.find? (fun g => g.gid == gid) with
      | some g => ((List.range g.m).map (g.k + ·)).filterMap (fun c =>
          let e := lba / 262144
          let holder := match g.excepts.find? (fun o => o.col == c && decide (o.first ≤ e) && decide (e < o.first + o.count)) with
            | some o => o.holder
            | none => (g.cols.getD c (0, 0)).1
          if holder == l.dst then some (gid, c, e) else none)
      | none => []
    | _ => []))

/-- A new image frozen from the cache and the zone manager (R788, R789, Table 15-3). -/
def freezeImage (cause : Nat) (skip : BitVec 8) (m : Mach) : VImage :=
  let es := vaultEntries m
  { seq := m.vlt.lastSeq + 1, index := !m.vlt.lastIndex, cause := BitVec.ofNat 8 cause, variant := m.id.variant, omitted := skip
    hdaSerial := ((hdaPage m).map (fun p => p.serial)).getD (List.replicate 24 0), geomSig := ((hdaPage m).map (fun p => p.geomSig)).getD 0
    module := m.id.serial, pcycle := m.sup.pcycle, opsec := m.sup.opSec, duration := 0, entries := es
    maps := (vaultMaps m).map (fun x => mixMaps skip x m.hda.rsv), parity := parityUnderWay m, valid := false, consumed := false, blocks := [] }

/-- Begin an image, or join one in progress, with an occasion (R769, R778, R780, R781). With fewer ready blocks than it needs no header can
be programmed (R775, R791). -/
def vaultBegin (cause : Nat) (skip : BitVec 8) (reset : Bool) (m : Mach) : Mach :=
  match m.vlt.writing with
  | some w => { m with vlt.writing := some { img := { w.img with cause := w.img.cause ||| BitVec.ofNat 8 cause }, thenReset := w.thenReset || reset } }
  | none =>
    let i := freezeImage cause skip m
    let n := blocksFor i.entries.length
    { m with vlt.lastSeq := i.seq, vlt.lastIndex := i.index, vlt.seqDone := false
             vlt.writing := some ⟨{ i with blocks := takeReady m n }, reset⟩ }

/-- Last-shutdown slot 1 is programmed LOST with the VSEQ of the image (R97), unless it is programmed already (R777). -/
def lostSlot (m : Mach) : Mach :=
  if m.hda.slot1.isSome || !(m.hda.strapOk && m.hda.norOk) then m
  else match m.vlt.writing with
    | none => m
    | some w =>
      { m with hda.slot1 := some ⟨m.sup.slotSeq + 1, .lost, m.id.serial, m.sup.pcycle, m.sup.opSec, w.img.seq⟩, sup.slotSeq := m.sup.slotSeq + 1, sup.opened := false }

/-- Blocks that an image leaves wait for their erase. -/
def spendBlocks (bs : List Nat) (m : Mach) : Mach := { m with vlt.spent := m.vlt.spent ++ bs.filter (fun b => !m.vlt.bad.contains b) }

/-- An IMPORT is over: its blocks wait for their erase (R805, R806). -/
def importOver (m : Mach) : Mach := spendBlocks m.vlt.impBlocks { m with vlt.imp := none, vlt.impBlocks := [] }

/-- The vault's part of a power loss (R251, R769, R776, R777): nothing after a completed shutdown or during a replay. A test or import ends
(R806). -/
def vaultLoss (m : Mach) : Mach :=
  let m := importOver m
  if m.sup.shut == .complete || m.sup.shut == .completeVaulted || m.vlt.replaying.isSome then { m with vlt.seqDone := true }
  else lostSlot (vaultBegin 1 0 false m)

/-- The image of a vaulted shutdown (R780). -/
def vaultShutdown (m : Mach) : Mach :=
  let m := vaultBegin 4 0 false m
  { m with sup.shutVseq := m.vlt.writing.map (fun w => w.img.seq) }

/-- VSEQ of the image a vaulted shutdown writes. -/
def newestVseq (m : Mach) : BitVec 32 := m.sup.shutVseq.getD 0

/-- The image part of a sequence is over: header read back, or no image is to be written (R773, R776). -/
def vaultSeqDone (m : Mach) : Bool := m.vlt.seqDone

/-- An image write ends without a valid header (R775): its blocks wait for their erase. -/
def vaultDrop (m : Mach) : Mach :=
  match m.vlt.writing with
  | none => m
  | some w => spendBlocks w.img.blocks { m with vlt.writing := none }

/-- VBULK has reached 180 V (R775). -/
def vaultBulkGone (m : Mach) : Mach := vaultDrop m

/-- Mark images consumed or discarded: their consumed page is programmed, their blocks wait for their erase (R785, R801, R804). -/
def consume (p : VImage → Bool) (m : Mach) : Mach :=
  let gone := m.vlt.images.filter (fun i => p i && !i.consumed)
  spendBlocks (gone.flatMap (·.blocks)) { m with vlt.images := m.vlt.images.map (fun i => if p i then { i with consumed := true } else i) }

/-- Image bytes of a metadata part. -/
def metaBytes (i : VImage) : List Byte := match i.maps with
  | some x => Config.vaultMeta (some x) i.parity i.omitted
  | none => if i.parity.isEmpty then [] else Config.vaultMeta none i.parity i.omitted

/-- Size of an image in bytes (Table 15-2). -/
def imageLen (i : VImage) : Nat := 16384 + 4128 * i.entries.length + (metaBytes i).length

/-- The header has been programmed and read back (R788): the image is valid; a third kept image of this HDA discards the oldest (R791). -/
def vaultHeader (us ms rate : Nat) (ok : Bool) (m : Mach) : Mach :=
  match m.vlt.writing with
  | none => m
  | some w =>
    if !ok || decide (w.img.blocks.length < blocksFor w.img.entries.length) then { vaultDrop m with vlt.seqDone := true }
    else
      let img := { w.img with duration := BitVec.ofNat 32 us, valid := true }
      let m := { m with
        vlt.writing := none, vlt.seqDone := true, vlt.images := m.vlt.images ++ [img], vlt.writeCnt := m.vlt.writeCnt.inc
        vlt.lastMs := BitVec.ofNat 16 (satTo 65535 ms), vlt.writeRate := BitVec.ofNat 16 rate
        vlt.lastMib := BitVec.ofNat 16 (satTo 65535 ((imageLen img + 1048575) / 1048576)) }
      let own := (keptImages m).filter (ownHda m)
      if own.length ≤ 2 then m
      else match own.head? with
        | some old => consume (fun i => i.seq == old.seq) m
        | none => m

/-! ### Protection (R792 to R796) -/

/-- Causes for which the vault does not protect: blocks, rate, image of another HDA, directory, hold-up. -/
def unprotected (m : Mach) : BitVec 5 :=
  BitVec.ofNat 5 ((decide (readyBlocks m < vaultBlocks m + 8)).toNat + 2 * (!m.vlt.rateOk).toNat + 4 * (!(foreignImages m).isEmpty).toNat
    + 8 * (!m.vlt.dirOk).toNat + 16 * (!m.pwr.holdupOk).toNat)

/-- All conditions of R792 hold. -/
def protects (m : Mach) : Bool := unprotected m == 0

/-- Protection stops (R793, R794): VLT 0x0F50 for every cause but hold-up, which PWR 0x0111 has reported; the armed response is taken. -/
def protectionLost (m : Mach) : Mach :=
  let now := unprotected m
  let new := now &&& ~~~m.vlt.lost
  let m := { m with vlt.lost := now, vlt.unprotSecs := if m.vlt.lost == 0 && !m.bcm.forcedWt then 0 else m.vlt.unprotSecs }
  if new == 0 then m
  else
    let vlt := new &&& 0x0F#5 != 0
    let m := if vlt then report 0x0F50 nowhere (leBytes 1 (now.toNat % 16)) m else m
    if (vlt && armed m 0x0F50 == 8) || (new.getLsbD 4 && armed m 0x0111 == 8) then forceWt m else m

/-- Protection has held for RETURN_S (R796). -/
def protectionReturn (m : Mach) : Mach :=
  if !protects m then m
  else
    let m := { m with vlt.lost := 0 }
    if m.bcm.forcedWt && decide (returnS m ≤ m.vlt.okSecs) then
      endForceWt (report 0x0F51 nowhere (leBytes 4 m.vlt.unprotSecs) { m with vlt.unprotSecs := 0 })
    else m

/-- One second passes for the vault's protection: causes that have gone may be reported again; the time without it runs from its report. -/
def protectionTick (m : Mach) : Mach :=
  let was := m.vlt.lost
  let m := { m with vlt.lost := was &&& unprotected m }
  if protects m then { m with vlt.okSecs := satTo 255 (m.vlt.okSecs + 1) }
  else { m with vlt.okSecs := 0, vlt.unprotSecs := if was == 0 then m.vlt.unprotSecs else satTo 4294967295 (m.vlt.unprotSecs + 1) }

/-! ### Replay (R797 to R802) -/

/-- Put one directory entry's sector into the cache (R800). -/
def replayEntry (e : VEntry) (m : Mach) : Mach :=
  match enterSector e.nsid e.lba ⟨e.data, e.pi, m.sch.now⟩ m with
  | none => m
  | some m => if !e.poison then m else match frameOf m (e.nsid - 1) (e.lba / 8) with
    | some k => onFrame k (fun l => { l with poison := l.poison ||| mask8 (e.lba % 8) }) m
    | none => m

/-- The zone manager's tables after a replay: those of the image, or rebuilt when the image omits them (R779, R800). -/
def replayMaps (i : VImage) (m : Mach) : Mach :=
  let m := match i.maps with
    | some x => { m with zmg.maps := x, zmg.mapsOk := true }
    | none => m
  if i.omitted != 0 then { m with zmg.rebuilt := true } else m

/-- Every sector and structure has been applied (R801): the image and every older kept one of this HDA are CONSUMED, the record is resolved. -/
def replayEnd (i : VImage) (m : Mach) : Mach :=
  let m := replayMaps i m
  let m := report 0x0F11 nowhere (leBytes 4 i.seq.toNat ++ leBytes 4 i.entries.length
    ++ leBytes 4 (i.entries.filter (·.poison)).length ++ leBytes 1 i.omitted.toNat) m
  let m := consume (fun x => x.valid && ownHda m x && (x.seq == i.seq || newer i.seq x.seq)) m
  { m with vlt.replaying := none, vlt.replayed := true, vlt.replayCnt := m.vlt.replayCnt.inc
           sup.replayed := true, sup.resolved := true, vlt.unresolved := false, sup.foreign := false, vlt.staleDue := i.parity }

/-- Apply the next entries of an image (R800, R801). -/
def replaySome (i : VImage) (from_ n : Nat) (m : Mach) : Mach :=
  let m := ((i.entries.drop from_).take n).foldl (fun m e => replayEntry e m) m
  if from_ + n < i.entries.length then { m with vlt.replaying := some (i.seq, from_ + n) } else replayEnd i m

/-- The first 8 bytes of a serial. -/
def serial8 (l : List Byte) : List Byte := (l ++ List.replicate 8 0).take 8

/-- Begin the replay of an image (Table 15-4). -/
def replayStart (i : VImage) (n : Nat) (m : Mach) : Mach :=
  replaySome i 0 n (report 0x0F10 nowhere (leBytes 4 i.seq.toNat ++ leBytes 1 i.cause.toNat ++ leBytes 2 (satTo 65535 (i.duration.toNat / 1000))) m)

/-- A loss that stays unresolved (R232, R803). -/
def holdLoss (m : Mach) : Mach := { m with vlt.unresolved := true, sup.foreign := true }

/-- The decisions of Table 15-4 on N, the newer valid last-shutdown slot, with `n` entries applied at once. -/
def replayDecide (slot : Option Slot) (n : Nat) (m : Mach) : Mach :=
  let i := imageI m
  let m := (foreignImages m).foldl (fun m x => report 0x0F40 nowhere (leBytes 4 x.seq.toNat ++ serial8 x.hdaSerial) m) m
  match slot with
  | none => match i with
    | none => { m with sup.resolved := true }
    | some x => replayStart x n m
  | some s => match s.state with
    | .clean => match i with
      | none => m
      | some x => consume (fun y => y.seq == x.seq && ownHda m y) (report 0x0F30 nowhere (leBytes 4 x.seq.toNat) m)
    | st =>
      if s.module != m.id.serial then holdLoss (report 0x0F41 nowhere (serial8 s.module ++ leBytes 4 s.vseq.toNat) m)
      else
        let fits := fun (x : VImage) => st != .lost || x.seq == s.vseq || newer x.seq s.vseq
        match i with
        | some x => if fits x then replayStart x n m
          else holdLoss (report 0x0F42 nowhere (leBytes 4 s.vseq.toNat ++ leBytes 4 x.seq.toNat) m)
        | none => holdLoss (report 0x0F42 nowhere (leBytes 4 s.vseq.toNat ++ leBytes 4 (((newestImage (keptImages m)).map (fun x => x.seq.toNat)).getD 0)) m)

/-! ### Image bytes -/

/-- The code of VARIANT (Table 15-3). -/
def Variant.code : Variant → Nat
  | .u0 => 0 | .u1 => 1 | .s0 => 2

/-- "IXVI". -/
def imageMagic : List Byte := [0x49, 0x58, 0x56, 0x49]

/-- Directory, sectors and metadata of an image (Table 15-2). -/
def imageBody (i : VImage) : List Byte :=
  (i.entries.map (fun e => leBytes 4 e.nsid ++ leBytes 8 e.lba ++ leBytes 16 e.pi.toNat ++ leBytes 1 e.poison.toNat ++ [0, 0, 0])).flatten
    ++ (i.entries.map (fun e => leBytes 4096 e.data.toNat)).flatten ++ metaBytes i

/-- The first 88 bytes of a header (Table 15-3). -/
def headerHead (i : VImage) : List Byte :=
  imageMagic ++ leBytes 4 i.seq.toNat ++ leBytes 1 i.index.toNat ++ leBytes 1 i.cause.toNat ++ leBytes 1 (Variant.code i.variant) ++ leBytes 1 (i.omitted != 0).toNat
    ++ (i.hdaSerial ++ List.replicate 24 0).take 24 ++ leBytes 8 i.geomSig.toNat ++ (i.module ++ List.replicate 16 0).take 16
    ++ leBytes 4 i.entries.length ++ leBytes 4 (metaBytes i).length ++ leBytes 4 i.pcycle.toNat ++ leBytes 8 i.opsec.toNat ++ leBytes 4 i.duration.toNat
    ++ leBytes 4 (crc32c (imageBody i)).toNat

/-- The header of Table 15-3. -/
def imageHeader (i : VImage) : List Byte := headerHead i ++ leBytes 4 (crc32c (headerHead i)).toNat

/-- The bytes of an image: the header page, then the body. -/
def imageAll (i : VImage) : List Byte := (imageHeader i ++ List.replicate (16384 - 92) 0) ++ imageBody i

/-- A chunk of an image (R805). -/
def imageChunk (i : VImage) (c : Nat) : List Byte := ((imageAll i).drop (65536 * c)).take 65536

/-- An image from imported bytes, when it checks under R788. -/
def imageFrom (bs : List Byte) : Option VImage :=
  let h := bs.take 92
  let n := fieldAt h 0x3C 4
  let len := fieldAt h 0x40 4
  let body := (bs.drop 16384).take (4128 * n + len)
  if h.take 4 != imageMagic || fieldAt h 0x58 4 != (crc32c (h.take 88)).toNat || decide (body.length ≠ 4128 * n + len)
      || fieldAt h 0x54 4 != (crc32c body).toNat then none
  else
    let dir := body.take (32 * n)
    let dat := (body.drop (32 * n)).take (4096 * n)
    let es := (List.range n).map (fun i =>
      let d := (dir.drop (32 * i)).take 32
      (⟨fieldAt d 0 4, fieldAt d 4 8, BitVec.ofNat 128 (fieldAt d 12 16), fieldAt d 28 1 % 2 == 1, BitVec.ofNat 32768 (leNat ((dat.drop (4096 * i)).take 4096))⟩ : VEntry))
    some { seq := BitVec.ofNat 32 (fieldAt h 4 4), index := fieldAt h 8 1 == 1, cause := BitVec.ofNat 8 (fieldAt h 9 1)
           variant := match fieldAt h 10 1 with
             | 0 => .u0
             | 1 => .u1
             | _ => .s0
           omitted := if len = 0 then 0 else ((Config.vaultMetaOf (body.drop (4128 * n))).map (fun x => x.2.2)).getD 0, hdaSerial := (h.drop 12).take 24, geomSig := BitVec.ofNat 64 (fieldAt h 0x24 8)
           module := (h.drop 0x2C).take 16, pcycle := BitVec.ofNat 32 (fieldAt h 0x44 4), opsec := BitVec.ofNat 40 (fieldAt h 0x48 8)
           duration := BitVec.ofNat 32 (fieldAt h 0x50 4), entries := es
           maps := if len = 0 then none else (Config.vaultMetaOf (body.drop (4128 * n))).bind (fun x => x.1)
           parity := if len = 0 then [] else ((Config.vaultMetaOf (body.drop (4128 * n))).map (fun x => x.2.1)).getD []
           valid := true, consumed := false, blocks := [] }

/-! ### Resolution -/

/-- An unresolved loss is disposed of (R803): the record is resolved, the HDA counts as the module's own again. -/
def resolveLoss (action : Nat) (seq : BitVec 32) (m : Mach) : Mach :=
  report 0x0F43 nowhere (leBytes 1 action ++ leBytes 4 seq.toNat) { m with vlt.unresolved := false, sup.foreign := false, sup.resolved := true }

/-- VLT after a reset of G_FAB: NAND, measured rates, counters stay. -/
def vltReset (m : Mach) : Mach :=
  let v := (vaultDrop (importOver m)).vlt
  let n : Vlt := { images := v.images, bad := v.bad, spent := v.spent, erases := v.erases, lastSeq := v.lastSeq, lastIndex := v.lastIndex, rateOk := v.rateOk
                   replayed := v.replayed, unprotSecs := v.unprotSecs, lastMs := v.lastMs, lastMib := v.lastMib, testRate := v.testRate, writeRate := v.writeRate
                   writeCnt := v.writeCnt, replayCnt := v.replayCnt, pfailCnt := v.pfailCnt, eraseCnt := v.eraseCnt }
  { m with vlt := n, events.vlt := 0 }

end Sys2Proof.Machine
end

