-- ==== Sys2Proof/Machine/OpsFe.lean ====
section
/-! DEFINITION. Shared operations of the front end and the ports (spec/16 R809 to R849) that resets, power loss and bring-up need. -/

namespace Sys2Proof.Machine

/-- DEFAULT_ENGINE (Table 16-12). -/
def defaultEngine (m : Mach) : Act := if setting m 0x1001 2 1 0 = 0 then .a0 else .a1
/-- WDT_MS (Table 16-12). -/
def wdtMs (m : Mach) : Nat := setting m 0x1001 0 2 100
/-- PERS_A, PERS_B (Table 16-10). -/
def persEth (m : Mach) (p : Act) : Bool := setting m 0x1401 p.idx 1 0 == 1

/-- Change one port unit. -/
def onPrt (p : Act) (f : Port → Port) (m : Mach) : Mach := { m with prt := m.prt.upd p f }

/-- Contexts go without a completion, and nothing waits for them any more (R770, R845); the media work goes on. -/
def dropCtxs (p : Ctx → Bool) (m : Mach) : Mach :=
  let gone := (m.fe.ctxs.filter p).map (·.id)
  let keep := fun (c : NvCmd) => !gone.contains c
  { m with
    fe.ctxs := m.fe.ctxs.filter (fun x => !p x)
    bcm.writeWait := m.bcm.writeWait.filter keep, bcm.missWait := m.bcm.missWait.filter keep
    bcm.misses := m.bcm.misses.map (fun x => { x with waiters := x.waiters.filter keep })
    zmg.zoneQ := m.zmg.zoneQ.filter (fun e => keep e.2), zmg.zoneBusy := m.zmg.zoneBusy.filter (fun e => keep e.2) }

/-- A controller is disabled (R845): its queues, requests and notices go. -/
def Ctrlr.disabled (k : Ctrlr) : Ctrlr := { k with en := false, rdy := false, queues := [], aers := [], notices := [], shutting := false, shutDone := false }

/-- The controllers of a port end: the PCIe controller is disabled, associations and their connections go (R844, R845); requests and sessions
that they carried are discarded (spec/18 R910, R923). -/
def endControllers (p : Act) (m : Mach) : Mach :=
  let ids := (m.fe.ctrls.filter (fun k => decide (k.port = p))).map (·.cntlid)
  let m := dropTransport (fun t => match t with
    | .nvme c => ids.contains c
    | _ => false) m
  { m with fe.ctrls := (m.fe.ctrls.filter (fun k => !(decide (k.port = p) && k.tcp))).map (fun k => if decide (k.port = p) then k.disabled else k) }

/-- A link goes down (R1043): PRT 0x1402 with the port and the cause; its line registers read down. -/
def linkDownAt (p : Act) (cause : Nat) (m : Mach) : Mach :=
  if (m.prt.get p).up then
    report 0x1402 nowhere (leBytes 1 p.idx ++ leBytes 1 cause)
      (onPrt p (fun x => { x with up := false, degraded := false, speed := 0, width := 0, fec := false, linkDn := x.linkDn.inc }) m)
  else m

/-- EVENTS and LINK_DIS of a port at their reset values; counters and the personality stay (R14, R811, Table 16-15). -/
def prtRegs (p : Act) (m : Mach) : Mach :=
  onPrt p (fun x => { x with linkDis := false }) { m with events.prt := m.events.prt.upd p (fun _ => 0) }

/-- G_PORTx is in reset (R844): its registers are reset, the link goes down with a cause, its controllers and commands end. -/
def portHeld (p : Act) (cause : Nat) (m : Mach) : Mach :=
  let m := linkDownAt p cause (prtRegs p m)
  let m := endControllers p (dropCtxs (fun x => decide (x.id.port = p)) m)
  onPrt p (fun x => { x with held := false, pll := false, mtu := 0, heldCmds := [], heldHeads := [] }) m

/-- G_PORTx is reset (R1043 cause 5). -/
def portReset (p : Act) (m : Mach) : Mach := portHeld p 5 m

/-- Both ports go down for STANDBY or a power loss (R1043 cause 6). -/
def portsDown (m : Mach) : Mach :=
  let m := portHeld .a1 6 (portHeld .a0 6 m)
  { m with fe.posting := false, fe.powered := ⟨false, false⟩, fe.tko := none, fe.fenced := false }

/-- G_FEn is reset: an active engine posts no more until it has booted again. -/
def engineReset (e : Act) (m : Mach) : Mach :=
  { m with fe.posting := m.fe.posting && decide (m.fe.active ≠ e) }

/-- Power loss, or an uncorrectable fabric error (Table 15-1, R770, R772, R778): commands without a result end, a write in transfer stops. -/
def feLoss (m : Mach) : Mach :=
  dropCtxs (fun x => x.status.isNone) { m with fe.tko := none, fe.fenced := false }

/-- The engine that a module reset activates (R827). -/
def activeEngine (m : Mach) : Act := if m.fe.faulty.get (defaultEngine m) then (defaultEngine m).other else defaultEngine m

/-- The CNTLID of the PCIe controller of a port (log entry 54). -/
def pcieId (p : Act) : BitVec 16 := BitVec.ofNat 16 p.idx

/-- A port takes its personality from record 0x1401 at a module reset (R809, R811); a PCIe port presents its controller (R815). -/
def portPersonality (p : Act) (m : Mach) : Mach :=
  let want := persEth m p && m.sup.fwSlot != 3
  let refused := want && m.id.variant == .s0
  let eth := want && !refused
  let m := if refused && !(m.prt.get p).refused then report 0x1403 nowhere (leBytes 1 p.idx) m else m
  let m := onPrt p (fun x => { x with eth := eth, refused := refused, mtu := 0 }) m
  let ks := m.fe.ctrls.filter (fun k => decide (k.port ≠ p))
  { m with fe.ctrls := if eth then ks else ks ++ [{ port := p, cntlid := pcieId p : Ctrlr }] }

/-- The active engine has booted (R827, R828): it posts, its watchdog runs; the ports have their personalities. -/
def feBoot (m : Mach) : Mach :=
  let e := activeEngine m
  let m := portPersonality .a1 (portPersonality .a0 m)
  { m with fe.active := e, fe.posting := true, fe.powered := (⟨false, false⟩ : Pair Bool).upd e (fun _ => true), fe.wdtMs := BitVec.ofNat 16 (wdtMs m), fe.wdtFed := true
           fe.tko := none, fe.fenced := false }

/-- The active engine's group leaves a reset alone: outside a takeover or restart it posts again. -/
def feReleased (e : Act) (m : Mach) : Mach :=
  if decide (m.fe.active = e) && m.fe.tko.isNone && m.sup.stages.getLsbD 9 && !m.pwr.loss then { m with fe.posting := true } else m

/-- G_PORTx leaves reset: its PCIe controller stands disabled; training starts with LINK_UP (R846). -/
def portReleased (_p : Act) (m : Mach) : Mach := m

/-- FE after a reset of G_FAB: contexts and controllers go; faulty engines, remapped rows, reservations, counters stay (R838,
R841). -/
def feReset (m : Mach) : Mach :=
  let f := m.fe
  let n : Fe := { rowRemap := f.rowRemap, faulty := f.faulty, lastTrigger := f.lastTrigger, overlap := f.overlap, gapUs := f.gapUs
                  resv := f.resv
                  tkoCnt := f.tkoCnt, ctxFull := f.ctxFull, ctxCorr := f.ctxCorr }
  { m with fe := n, events.fe := 0 }

/-- Reservations that do not persist end with the power (Table 16-2). -/
def dropResv (m : Mach) : Mach := { m with fe.resv := m.fe.resv.filter (fun (e : Nat × Resv) => e.2.ptpl) }

/-- DSV after a reset of G_FAB: LockOnReset is due (Table 17-1), sessions, the send log and all that is under way go; the counts of tries end with
a power cycle only, the sequence numbers with the EPOCH (log entry 71). -/
def dsvReset (m : Mach) : Mach :=
  let d := m.dsv
  let n : Dsv := { opal := d.opal, tries := d.tries, peers := d.peers.map (fun p => { p with up := false, down := false, held := [] }),
                   piErr := d.piErr, zgpTx := d.zgpTx, zgpDup := d.zgpDup, zgpAuth := d.zgpAuth, dupAt := d.dupAt, svn := d.svn, keySlot := d.keySlot }
  { m with dsv := n, events.dsv := 0 }

/-- Every unit of G_FAB after its reset. -/
def fabReset (m : Mach) : Mach :=
  dsvReset (feReset (vltReset (calReset (zmgReset (schFabReset (bcmReset m))))))

/-- STANDBY removes the power of G_FAB (R198, R1039): what the fabric holds is lost, the DRAM is trained again on leaving. -/
def standbyMedia (m : Mach) : Mach :=
  let m := fabReset m
  { m with bcm.trained := false, bcm.checksInit := false, bcm.retireApplied := false }

end Sys2Proof.Machine
end

