-- ==== Sys2Proof/Machine/OpsEvr.lean ====
section
/-! DEFINITION. Shared operations of the event recorder, of wear accounting and of credential proofs
(spec/19 R949 to R984, spec/18 R919 to R924). -/

namespace Sys2Proof.Machine

/-! ### The event store -/

/-- Sector of a slot of the store (R969). -/
def EvSlot.sector (e : EvSlot) : Nat := e.slot / 128

/-- The NOR slot does not hold the working copy (R970). -/
def EvSlot.pending (e : EvSlot) : Bool := e.nor != some e.cur

/-- The slot holds another record than the working copy: its sector must be rewritten (R970). -/
def EvSlot.stale (e : EvSlot) : Bool := e.nor.isSome && e.pending

/-- The NOR takes the working copy. -/
def EvSlot.saved (e : EvSlot) : EvSlot := { e with nor := some e.cur }

/-- Changes wait for the NOR. -/
def Evr.pending (e : Evr) : Bool := e.held.any (·.pending)

/-- Count erases of recorder sectors: 0 to 127 the records, 128 the control sector, 129 the staging sector (R969). -/
def Evr.erase (e : Evr) (ss : List Nat) : Evr :=
  { e with erases := ss.foldl (fun t s => assocSet 0 t s (assoc 0 t s + 1)) e.erases }

/-- A NOR write of the recorder ends (R972): NOR_OK, or EVR 0x1210 once per power cycle. -/
def norWritten (ok : Bool) (sector : Nat) (m : Mach) : Mach :=
  if ok then { m with evr.norOk := true }
  else
    let m := { m with evr.norOk := false }
    if m.evr.norFailed then m else report 0x1210 nowhere (leBytes 4 sector) { m with evr.norFailed := true }

/-- Power loss programs every pending change (R970). -/
def evrFlush (m : Mach) : Mach :=
  let ss := nubList ((m.evr.held.filter (·.stale)).map (·.sector))
  let e := m.evr.erase (ss.flatMap (fun s => [s, 129]))
  { m with evr := { e with held := e.held.map (·.saved), staging := none, norOk := true } }

/-- Put a staging copy into its sector (R971). -/
def restored (held : List EvSlot) (sector : Nat) (copy : List EvSlot) : List EvSlot :=
  let here := copy.map (fun (e : EvSlot) => e.slot)
  held.map (fun e => if e.sector == sector then
      (match copy.find? (fun c => c.slot == e.slot) with
       | some c => { e with nor := some c.cur }
       | none => e)
    else e) ++ copy.filter (fun c => decide (c.sector = sector) && here.contains c.slot && !held.any (fun e => e.slot == c.slot))

/-- The supervisor starts from its boot ROM: a valid staging copy is written to its sector first (R971), then the records that the NOR
holds are the store (R957). -/
def evrReload (m : Mach) : Mach :=
  let st := m.evr.staging
  let held := match st with
    | some (s, copy) => restored m.evr.held s copy
    | none => m.evr.held
  let held := held.filterMap (fun e => e.nor.map (fun r => { e with cur := r, nor := some r }))
  let e := { m.evr with held := (sortBy (fun (x : EvSlot) => (m.evr.newest - x.cur.seq).toNat) held), staging := none, rewriteAt := none }
  match st with
  | some (s, _) => report 0x1211 nowhere (leBytes 4 s) { m with evr := { e.erase [s, 129] with restored := true } }
  | none => { m with evr := e }

/-- A record as its 32 bytes (Table 19-9). -/
def EvRec.bytes (r : EvRec) : List Byte :=
  leBytes 2 r.code.toNat ++ leBytes 1 r.sev.code ++ [r.act, r.head] ++ leBytes 3 r.zone.toNat ++ leBytes 5 r.opsec.toNat ++ [0#8]
    ++ leBytes 2 r.rep.toNat ++ leBytes 4 r.pcycle.toNat ++ leBytes 4 r.seq.toNat ++ r.param

/-- Held records in rising SEQ order. -/
def Evr.rising (e : Evr) : List EvRec := (e.held.map (·.cur)).reverse

/-- Records from a sequence number on (R977): from the oldest whose SEQ is that number or newer. -/
def Evr.readFrom (e : Evr) (seq : BitVec 32) (n : Nat) : List EvRec :=
  (e.rising.dropWhile (fun r => !(r.seq == seq || newer r.seq seq))).take n

/-- Held records of a severity. -/
def Evr.heldOf (e : Evr) (sv : Sev) : Nat := (e.held.filter (fun x => x.cur.sev == sv)).length

/-- Oldest SEQ held. -/
def Evr.oldest (e : Evr) : BitVec 32 := match e.held.getLast? with
  | some x => x.cur.seq
  | none => 0

/-- CODE and SEQ of the newest record of a severity, 0 with none (R979). -/
def Evr.newestOf (e : Evr) (sv : Sev) : List Byte := match e.held.find? (fun x => x.cur.sev == sv) with
  | some x => leBytes 2 x.cur.code.toNat ++ leBytes 4 x.cur.seq.toNat
  | none => List.replicate 6 0

/-- The event summary (R979). -/
def Evr.summary (e : Evr) : List Byte :=
  leBytes 4 e.newest.toNat ++ leBytes 4 e.oldest.toNat
    ++ leBytes 2 (e.heldOf .info) ++ leBytes 2 (e.heldOf .notice) ++ leBytes 2 (e.heldOf .error) ++ leBytes 2 (e.heldOf .critical)
    ++ e.newestOf .critical ++ e.newestOf .error ++ leBytes 1 e.ixd3.toNat ++ List.replicate 3 0

/-- GET_HEALTH or EVR_STATUS served on the management port releases the alert (R1001). -/
def alertServed (h : Hdr) (m : Mach) : Mach := match h.who with
  | .mctp => { m with pins.mgtAlert := false, pins.ibi := false }
  | _ => m

/-- EVR.STATUS (Table 19-13). -/
def evrStatusReg (e : Evr) : Reg := packReg [⟨5, 1, e.recCnt.ovf.toNat⟩, ⟨4, 1, (decide (storeSlots ≤ e.held.length)).toNat⟩, ⟨3, 1, e.ixd3.toNat⟩,
  ⟨2, 1, e.pending.toNat⟩, ⟨1, 1, e.restored.toNat⟩, ⟨0, 1, e.norOk.toNat⟩]
/-- EVR.HELD01. -/
def evrHeld01Reg (e : Evr) : Reg := packReg [⟨16, 16, e.heldOf .notice⟩, ⟨0, 16, e.heldOf .info⟩]
/-- EVR.HELD23. -/
def evrHeld23Reg (e : Evr) : Reg := packReg [⟨16, 16, e.heldOf .critical⟩, ⟨0, 16, e.heldOf .error⟩]
/-- The dropped count that DROPSEL selects. -/
def Evr.dropSelected (e : Evr) : Counter := match e.dropSel.toNat with
  | 0 => e.drop0
  | 1 => e.drop1
  | 2 => e.drop2
  | _ => e.drop3
/-- EVR.DROPSEL. -/
def evrDropselReg (e : Evr) : Reg := packReg [⟨2, 1, e.dropSelected.ovf.toNat⟩, ⟨0, 2, e.dropSel.toNat⟩]

/-- A correct EVR_CLEAR (R984): every held record is erased with the counts, and EVR 0x1201 is the first record of the cleared store. -/
def evrClear (who : Transport) (m : Mach) : Mach :=
  let n := m.evr.held.length
  let used := nubList ((m.evr.held.filter (fun e => e.nor.isSome)).map (·.sector))
  let e := m.evr.erase used
  let m := { m with evr := { e with held := [], drop0 := .zero, drop1 := .zero, drop2 := .zero, drop3 := .zero, staging := none, clears := e.clears + 1 } }
  report 0x1201 nowhere ([0x01#8] ++ who.bytes ++ leBytes 4 n) m

/-! ### Wear items (Table 19-8) -/

/-- Erase count of a settings bank: record 0x1281 (R963). -/
def bankErases (m : Mach) (b : Act) : Nat := match recIn m.sup.base 0x1281 with
  | some v => fieldAt v (4 * b.idx) 4
  | none => 0

/-- Largest erase count of a good block of a die. -/
def dieErases (m : Mach) (die : Nat) : Nat :=
  (m.vlt.erases.filter (fun e => e.1 / 2048 == die && !m.vlt.bad.contains e.1)).foldl (fun (x : Nat) e => if x < e.2 then e.2 else x) 0

/-- Largest erase count of a recorder sector. -/
def evrErases (m : Mach) : Nat := m.evr.erases.foldl (fun (x : Nat) e => if x < e.2 then e.2 else x) 0

/-- The wear items but item 4: item, instance, VALUE, LIMIT. -/
def wearItems (m : Mach) : List (Nat × Nat × Nat × Nat) := [
  (1, 0, bankErases m .a0, 100000), (1, 1, bankErases m .a1, 100000), (2, 0, dieErases m 0, 100000), (2, 1, dieErases m 1, 100000),
  (3, 0xFF, evrErases m, 100000), (5, 0xFF, m.id.svnRaises, 64)]

/-- Items at 90 % of their limit are reported once (R964). -/
def wearCheck (m : Mach) : Mach :=
  (wearItems m).foldl (fun m x =>
    if decide (9 * x.2.2.2 ≤ 10 * x.2.2.1) && !m.evr.wearNoted.contains (x.1, x.2.1) then
      report 0x1240 nowhere (leBytes 1 x.1 ++ leBytes 1 x.2.1 ++ leBytes 8 x.2.2.1) { m with evr.wearNoted := m.evr.wearNoted ++ [(x.1, x.2.1)] }
    else m) m

/-! ### The arming table -/

/-- Entry of ARM_READ (R955, Table 19-5). -/
def armEntry (m : Mach) (code : Nat) : List Byte :=
  leBytes 2 code ++ leBytes 1 (armed m code) ++ leBytes 1 (committedArm m code) ++ leBytes 1 (factoryArm code) ++ [0#8]
    ++ leBytes 2 (if permittedArm code = 0 then 1 else 1 + 2 ^ permittedArm code)

/-! ### Firmware slots -/

/-- A slot's image boots: its signature verifies under a key slot that is not revoked, and its SVN is not below MIN_SVN (R222, R870,
R871). -/
def fwGood (m : Mach) (f : FwSlot) : Bool := f.sigOk && !m.id.revoked.getLsbD f.key.toNat && decide (m.id.minSvn.toNat ≤ f.svn.toNat)

/-- A firmware slot verifies. -/
def fwVerifies (m : Mach) (x : Act) : Bool := match m.sup.fw.get x with
  | some f => fwGood m f
  | none => false

/-- The slot that runs, none for the recovery image. -/
def fwRunning (m : Mach) : Option Act := match m.sup.fwSlot.toNat with
  | 1 => some .a0
  | 2 => some .a1
  | _ => none

/-- MIN_SVN rises at controller-ready to the SVN of a running image with ADVANCE, at most 64 times (R872). -/
def svnRaise (m : Mach) : Mach := match (fwRunning m).bind (fun x => m.sup.fw.get x) with
  | some f => if f.advance && decide (m.id.minSvn.toNat < f.svn.toNat) && decide (m.id.svnRaises < 64)
      then { m with id.minSvn := f.svn, id.svnRaises := m.id.svnRaises + 1 } else m
  | none => m

/-! ### Proofs of a credential -/

/-- MAINT_HASH of record 0x0003 in force. -/
def maintHash (m : Mach) : Option (List Byte) := (recVal m 0x0003).map (·.take 32)

/-- The key of an authority: K (R921). -/
def credKey (m : Mach) (level : Nat) : Option (List Byte) := if level = lvFactory then some m.id.factoryHash else maintHash m

/-- A challenge still counts: 60 s (R920, R982). -/
def Challenge.fresh (c : Challenge) (now : BitVec 40) : Bool := decide (now.toNat < c.at_.toNat + 60)

/-- A lockout of R924 is in force on a carrier. -/
def lockedOut (m : Mach) (who : Transport) : Bool := m.svc.lockouts.any (fun l => l.1 == who && decide (m.sup.opSec.toNat < l.2.toNat + 60))

/-- A challenge is given out (R920, R982): 16 free bytes; it replaces an earlier one of the same carrier and purpose. -/
def giveChallenge (who : Transport) (forClear : Bool) (level : Nat) (m : Mach) : Mach × List Byte :=
  let x := leBytes 8 (freshVal m).toNat
  let m := drew m
  let bs := x ++ leBytes 8 (freshVal m).toNat
  let m := drew m
  ({ m with svc.challenges := m.svc.challenges.filter (fun c => !(c.who == who && c.forClear == forClear && c.level == level)) ++ [⟨who, forClear, level, bs, m.sup.opSec⟩] }, bs)

/-- The challenge a proof answers, which it uses up. -/
def challengeFor (m : Mach) (who : Transport) (forClear : Bool) (level : Nat) : Option Challenge :=
  m.svc.challenges.find? (fun c => c.who == who && c.forClear == forClear && c.level == level && c.fresh m.sup.opSec)

/-- The challenge is used (R920, R982). -/
def dropChallenge (who : Transport) (forClear : Bool) (level : Nat) (m : Mach) : Mach :=
  { m with svc.challenges := m.svc.challenges.filter (fun c => !(c.who == who && c.forClear == forClear && c.level == level)) }

/-- A wrong proof (R924): counted, SUP 0x0040; the fifth on a carrier within 60 s locks it out for 60 s, SUP 0x0041. -/
def proofFailed (who : Transport) (level : Nat) (m : Mach) : Mach :=
  let m := report 0x0040 nowhere (who.bytes ++ leBytes 1 level) { m with svc.authFail := m.svc.authFail.inc }
  let recent := m.svc.fails.filter (fun f => f.1 == who && decide (m.sup.opSec.toNat < f.2.toNat + 60))
  let others := m.svc.fails.filter (fun f => f.1 != who)
  if recent.length + 1 < 5 then { m with svc.fails := others ++ recent ++ [(who, m.sup.opSec)] }
  else report 0x0041 nowhere who.bytes { m with svc.fails := others, svc.lockouts := m.svc.lockouts.filter (fun l => l.1 != who) ++ [(who, m.sup.opSec)] }

end Sys2Proof.Machine
end

