-- ==== Sys2Proof/Machine/OpsHooks.lean ====
section
/-! DEFINITION. Shared operations that resets, power loss and bring-up ask of the media path, the front end and the settings. -/

namespace Sys2Proof.Machine

/-- Power loss reaches a sequencer and its queue (R588, R695). -/
def cfxLoss (a : Act) (m : Mach) : Mach := dropMedia a (cfxPloss a m)

/-- A reset of G_ACTn reaches the media path (R557, R671). -/
def mediaReset (a : Act) (m : Mach) : Mach := resetMedia a (schReset a m)

/-- The power-loss sequence is over (R115, R774): ports and engines are down, what does not persist goes, a new power cycle follows. -/
def vaultSeqEnd (m : Mach) : Mach :=
  let m := dropResv (portsDown (vaultDrop m))
  { m with vlt.seqDone := false, vlt.replayed := false, pins.preampOn := ⟨false, false⟩ }

/-- A media command is outstanding (Table 4-2). -/
def mediaOutstanding (m : Mach) : Bool := m.fe.ctxs.any (fun x => !x.admin && x.status.isNone && x.cmd.isSome)

/-- An actuator's media queue is empty. -/
def mediaIdle (m : Mach) (a : Act) : Bool := queueIdle m a
/-- A waiting command has sectors on a head. -/
def headWaited (m : Mach) (a : Act) (h : Nat) : Bool := waitsFor m a h
/-- Speculative work on an actuator is stopped. -/
def specStop (a : Act) (m : Mach) : Mach := stopSpec a m

/-- XFER passes a read sector to the cache (R574). -/
def xferRead (_a : Act) (u : Use) (p : Payload) (m : Mach) : Mach :=
  match u with
  | .fill nsid lba => fillResult nsid lba (some p) m
  | _ => m
/-- XFER tells the cache that a sector is on the media (R574): its destage is judged when the operation completes. -/
def xferWrite (_a : Act) (_u : Use) (m : Mach) : Mach := m
/-- The payload of a write descriptor (R575, R643). -/
def payloadFor (m : Mach) (a : Act) (track : Nat) (d : Desc) : Option Payload := payloadOf m a (m.hif.get a).selHead.toNat track d
/-- The scheduler sees its operation taken. -/
def opTaken (a : Act) (m : Mach) : Mach := opTakenDo a m

/-- RESET_GROUP requests for the whole module are answered once the clean shutdown has ended, before the reset (R929). -/
def resetReply (m : Mach) : Mach :=
  (m.sup.resetReqs.filter (fun q => q.2 == 255)).foldl (fun m q => reply q.1 stOk 0 [] m) { m with sup.resetReqs := m.sup.resetReqs.filter (fun q => q.2 != 255) }

/-- RESET_GROUP requests for one group are answered when its reset has ended (R185, Table 18-6). -/
def groupReply (g : Nat) (m : Mach) : Mach :=
  (m.sup.resetReqs.filter (fun q => q.2 == g)).foldl (fun m q => reply q.1 stOk 0 [] m) { m with sup.resetReqs := m.sup.resetReqs.filter (fun q => q.2 != g) }

end Sys2Proof.Machine
end

