-- ==== Sys2Proof/Machine/OpsPower.lean ====
section
/-! DEFINITION. Shared operations of the power unit (spec/02): rail measurements, the hold-up requirement (R119 to R122) and
the bulk capacitance measurement (R124 to R131). -/

namespace Sys2Proof.Machine

/-- A measured VBULK: BULK_OK from 330 V on (Table 2-7), the bulk indicator above 60 V (R1019). -/
def setVbulk (v : BitVec 16) (m : Mach) : Mach :=
  { m with pwr.vbulk := v, pwr.bulkOk := decide (3300 ≤ v.toNat), pins.bulkInd := decide (600 < v.toNat) }

/-- An AC input of at least `rms` volts, by its rectified peak in 0.1 V (R100, R102). -/
def acAtLeast (pk rms : Nat) : Bool := decide (2 * (10 * rms) ^ 2 ≤ pk ^ 2)

/-- The input of a kind reaches at least these volts: rms for AC, DC volts for DC. -/
def inputAtLeast (k : InputKind) (pk acV dcV : Nat) : Bool :=
  match k with
  | .none => false
  | .ac => acAtLeast pk acV
  | .dc => decide (10 * dcV ≤ pk)

/-- The input stands above these volts. -/
def inputAbove (k : InputKind) (pk acV dcV : Nat) : Bool :=
  match k with
  | .none => false
  | .ac => decide (2 * (10 * acV) ^ 2 < pk ^ 2)
  | .dc => decide (10 * dcV < pk)

/-- The input lies outside the operating range of R100 while the module runs (R103). -/
def inputOutside (k : InputKind) (pk : Nat) : Bool :=
  inputAbove k pk 265 375 || (inputAtLeast k pk 75 105 && !inputAtLeast k pk 85 120)

/-- VBULK is regulated at 390 V: the PFC stage switches and VBULK lies within 2 % (R1032). -/
def regulated (m : Mach) (v : Nat) : Bool := m.pwr.pfcOn && decide (3822 ≤ v) && decide (v ≤ 3978)

/-- The vault image size of the variant in bytes (Table 0-2, R119). -/
def imageBytes (m : Mach) : Nat :=
  match m.id.variant with
  | .u1 => 264 * 1048576
  | _ => 136 * 1048576

/-- P_HOLD, 0.1 W (Table 2-5). -/
def pHold (m : Mach) : Nat := setting m 0x0101 0 2 100
/-- T_FIXED, ms (Table 2-5). -/
def tFixed (m : Mach) : Nat := setting m 0x0101 2 2 77
/-- MARGIN, percent (Table 2-5). -/
def holdMargin (m : Mach) : Nat := setting m 0x0101 4 1 10

/-- 6,400,000 × E_req in mJ (R119): P_HOLD × (T_FIXED × 640,000 + S_IMAGE). -/
def eReqScaled (m : Mach) : Nat := pHold m * (tFixed m * 640000 + imageBytes m)

/-- E_req in mJ (R119, Table 2-9). -/
def eReqOf (m : Mach) : Nat := eReqScaled m / 6400000
/-- (1 + MARGIN ÷ 100) × E_req in mJ (R120, Table 2-9). -/
def eNeedOf (m : Mach) : Nat := (100 + holdMargin m) * eReqScaled m / 640000000

/-- Hold-up is sufficient (R120), by the usable energy of the measured charge, charge × 3,825 ÷ 2,000 mJ; without a valid measurement it is not
(R130). -/
def holdupSufficient (m : Mach) : Bool :=
  m.pwr.measValid && decide (2000 * ((100 + holdMargin m) * eReqScaled m) ≤ 640000000 * (3825 * m.pwr.charge.toNat))

/-- Show hold-up (R121); PWR 0x0111 when it stops being sufficient (R122), the first finding of a power-up included. -/
def holdupCheck (first : Bool) (m : Mach) : Mach :=
  let was := m.pwr.holdupOk
  let ok := holdupSufficient m
  let m := { m with pwr.eReq := BitVec.ofNat 16 (satTo 65535 (eReqOf m)), pwr.eNeed := BitVec.ofNat 16 (satTo 65535 (eNeedOf m)), pwr.holdupOk := ok }
  if !ok && (was || first) then report 0x0111 nowhere (leBytes 2 m.pwr.eUse.toNat ++ leBytes 2 m.pwr.eNeed.toNat) m else m

/-- Stage 5 of Table 4-7 completes with BULKCAP, completed or failed (R125, R216); CAP_RETRY when it took more than one attempt. -/
def bulkStage (m : Mach) : Mach :=
  if m.pwr.measDone then m
  else { m with pwr.measDone := true, sup.stages := m.sup.stages ||| 0x010#12, sup.capRetry := m.pwr.measTries != 0 }

/-- A measurement is wanted: at power-up once the payload read has begun (Table 4-7), or by CAL_RUN (R124). -/
def bulkWanted (m : Mach) : Bool := m.pwr.measByRun || (m.sup.stages.getLsbD 3 && !m.pwr.measDone)

/-- The PFC stage may switch: the input stands at or above its stop threshold, at or below 400 V at the peak, and the module leaves it on
(R102, R104, R105). -/
def pfcMayRun (m : Mach) : Bool :=
  m.pwr.inputOk && !m.pwr.pfcHeldOv && inputAtLeast m.pwr.kind m.pwr.vinPk.toNat 70 98 && m.sup.mode != .standby

/-- An attempt is abandoned (R129): the PFC stage resumes; the third abandonment reports PWR 0x0112, and at power-up it
clears MEAS_VALID (R130), on command the previous value stays in force (R131). -/
def bulkAbandon (why : AbandonReason) (m : Mach) : Mach :=
  let m := { m with pwr.measuring := false, pwr.pfcOn := m.pwr.pfcOn || (m.pwr.measuring && pfcMayRun m) }
  if m.pwr.measTries.toNat < 2 then { m with pwr.measTries := m.pwr.measTries + 1 }
  else
    let m := report 0x0112 nowhere (leBytes 1 why.code) m
    if m.pwr.measByRun then calBulkDone false { m with pwr.measByRun := false, pwr.measTries := 0 }
    else
      let first := !m.pwr.measDone
      holdupCheck first { bulkStage m with pwr.measValid := false, pwr.measTries := 0 }

/-- A measurement completes with a charge in µC (R126, R131): C = Q ÷ 20 V, E = ½·C·76,500 V²; both registers truncate. -/
def bulkComplete (charge : Nat) (m : Mach) : Mach :=
  let first := !m.pwr.measDone && !m.pwr.measByRun
  let byRun := m.pwr.measByRun
  let m := if byRun then m else bulkStage m
  let m := { m with
    pwr.measuring := false, pwr.pfcOn := pfcMayRun m, pwr.measValid := true, pwr.charge := BitVec.ofNat 16 charge, pwr.measTries := 0, pwr.measByRun := false
    pwr.cap := BitVec.ofNat 16 (satTo 65535 (charge / 2)), pwr.eUse := BitVec.ofNat 16 (satTo 65535 (charge * 3825 / 2000)) }
  let m := holdupCheck first m
  if byRun then calBulkDone true m else m

/-! ### Brake chopper -/

/-- What is left of an energy after an interval of µs at a time constant of 60 s (R138): e^(−t ÷ 60 s) as (120 s − t) ÷ (120 s + t), for intervals
of about a second (DESIGN CHOICE, log entry 103). -/
def decay60 (us e : Nat) : Nat := e * (120000000 - us) / (120000000 + us)

/-- The thermal model of the 8.2 Ω brake resistor at a measured VMOT, `us` after its last update (R138): decay, and, while the chopper is gated, the
energy V² ÷ 8.2 Ω × t in µJ, with the mean square of the two measures of VMOT in 10 mV (DESIGN CHOICE, log entry 103). -/
def brakeHeat (vmot : BitVec 16) (us : BitVec 20) (m : Mach) : Mach :=
  let gain := if m.pwr.chopGated then (m.pwr.vmot.toNat ^ 2 + vmot.toNat ^ 2) * us.toNat / 164000 else 0
  { m with pwr.vmot := vmot, pwr.chopEnergy := decay60 us.toNat m.pwr.chopEnergy + gain }

/-- CHOPCTL.CHOP_E, 0.1 J (Table 2-10). -/
def chopE (m : Mach) : Nat := satTo 511 (m.pwr.chopEnergy / 100000)

/-- The chopper is withheld from 30.0 J on, until the model falls below 15.0 J (R139, R140, R290). -/
def chopLimit (m : Mach) : Mach :=
  if m.pwr.withheld then { m with pwr.withheld := decide (15000000 ≤ m.pwr.chopEnergy) }
  else if m.pwr.chopEnergy < 30000000 then m
  else replaceBrake 2 (report 0x0122 nowhere (leBytes 2 (chopE m)) { m with pwr.withheld := true, pwr.chopGated := false })

/-- The chopper is faulty by a test of R141: PWR 0x0120, and short-braking in place of regeneration (R142, R143, R146, R290). -/
def chopFails (test : Byte) (m : Mach) : Mach :=
  replaceBrake 1 (report 0x0120 nowhere [test] { m with pwr.chopFault := true, pwr.chopGated := false })

/-- The gated chopper's VMOT test (R141): past 28.0 V it has failed. -/
def chopVmotTest (m : Mach) : Mach := if m.pwr.chopGated && decide (2800 < m.pwr.vmot.toNat) then chopFails 1 m else m

/-- A retract under way draws from VMOT or, with VMOT below 10.0 V, from the spindle back-EMF (R398). -/
def retractSource (m : Mach) : Mach :=
  let f := fun (c : SrvCtl) => { c with retSrc := if c.retActive then retractFromEmf m else c.retSrc }
  (m.onSrv .a0 f).onSrv .a1 f

/-- The motor bus is measured: the thermal model, the chopper's limit and its VMOT test follow, and the source of a retract. -/
def vmotSeen (vmot : BitVec 16) (us : BitVec 20) (m : Mach) : Mach := retractSource (chopVmotTest (chopLimit (brakeHeat vmot us m)))

end Sys2Proof.Machine
end

