-- ==== Sys2Proof/Machine/OpsMode.lean ====
section
/-! DEFINITION. Shared operations of resets (spec/03 R176 to R196), of the major modes, SAFE, and the clean shutdown
(spec/04), and of power loss (spec/02 R111 to R117). -/

namespace Sys2Proof.Machine

/-! ### Settings of record 0x0001 (Table 4-9) -/

/-- POWERUP_MODE. -/
def powerupMode (m : Mach) : Mode := (Mode.ofCode (setting m 0x0001 0 1 4)).getD .idleFly
/-- DEMAND_LOW. -/
def demandLow (m : Mach) : Nat := setting m 0x0001 1 1 64
/-- DEMAND_FULL. -/
def demandFull (m : Mach) : Nat := setting m 0x0001 2 1 255
/-- SHUT_LIMIT, s. -/
def shutLimit (m : Mach) : Nat := setting m 0x0001 4 2 10

/-- The spin demand of a mode (Table 4-5). -/
def demandOf (m : Mach) : Mode → Nat
  | .idleLow => demandLow m
  | .idleReady | .idleFly | .active => demandFull m
  | .service => match m.spn.serviceDemand with
    | some d => d.toNat
    | none => m.sup.demand.toNat
  | _ => 0

/-! ### Major modes -/

/-- The module leaves STANDBY or is in no STANDBY: its stages may run (R105, R198, R219). -/
def mayConvert (m : Mach) : Bool := m.sup.mode != .standby || m.sup.trans

/-- Heads may be loaded: bring-up has reached controller-ready, the record sector is opened, no other module's loss is unresolved (R93, R98,
R232). -/
def headsAllowed (m : Mach) : Bool := recordOpen m && m.sup.stages.getLsbD 10

/-- The heads can take dirty lines to the media: they may be loaded, their preamps have passed their check, and no table or microcode that they
need has failed (R238). -/
def headsAble (m : Mach) : Bool :=
  headsAllowed m && (m.hif.get .a0).profileOk && (m.hif.get .a1).profileOk && !m.sup.checksFailed && !m.sup.ucodeFail && !m.pwr.loss

/-- Dirty lines that the heads can still take to the media before SAFE or SERVICE; otherwise they stay under vault protection (R238,
Table 4-3). -/
def owesDestage (m : Mach) : Bool := decide (0 < dirtySectors m) && headsAble m

/-- Modes in which the module keeps heads loaded, once the record sector is opened (R93, R98, R232); a transition that owes a destage, and a clean
shutdown that drains, load them for it (R199, Tables 4-3 and 4-8). In SAFE and SERVICE a shutdown loads none (R234, R242). -/
def wantsHeads (m : Mach) : Bool := headsAllowed m &&
  (match m.sup.shut with
   | .draining => m.sup.mode != .safe && m.sup.mode != .service && decide (0 < dirtySectors m)
   | .vaulting | .unloading => false
   | _ =>
     if m.sup.trans then fliesHeads m.sup.target || ((m.sup.target == .safe || m.sup.target == .service) && owesDestage m)
     else fliesHeads m.sup.mode)

/-- Load what the mode in force wants loaded, in every mode but SERVICE (R242, R376). -/
def loadWanted (m : Mach) : Mach :=
  if wantsHeads m then load .a1 (load .a0 m) else m


/-- Test fields of a sequencer, and the channel's RWS fields, return to their values (R243, R511, Table 11-15). -/
def leaveServiceAct (a : Act) (m : Mach) : Mach :=
  (loadChCfg a m).onCfx a (fun c => { c with hold := false, test := false })

/-- What leaving SERVICE restores: CHOP_EN, BRAKE_OVR, SOFTEN, HOLD, TEST, SYNCCFG, DECCFG, WDT_MS, LINK_DIS, the cache mode (R151, R240, R243, R511,
R762, Tables 5-9, 11-15, 16-14, 16-15); FACTORY sessions close (R922). -/
def leaveService (m : Mach) : Mach :=
  let m := leaveServiceCache (leaveServiceAct .a1 (leaveServiceAct .a0 m))
  let m := onPrt .a1 (fun x => { x with linkDis := false }) (onPrt .a0 (fun x => { x with linkDis := false }) m)
  let m := { m with fe.wdtMs := BitVec.ofNat 16 (wdtMs m) }
  closeFactory { m with
    pwr.chopEn := true, spn.brakeOvr := 0, spn.soften := BitVec.ofNat 5 (spnSoften m), spn.serviceDemand := none
    svc.uartBuf := [], sup.serviceDirty := false }

/-- Answer every SET_MODE that waits for a mode (R202). -/
def answerModes (md : Mode) (m : Mach) : Mach :=
  let done := m.sup.modeReqs.filter (fun q => q.2 == md || (q.2 == .active && md == .idleFly))
  let m := { m with sup.modeReqs := m.sup.modeReqs.filter (fun q => !(q.2 == md || (q.2 == .active && md == .idleFly))) }
  done.foldl (fun m q => reply q.1 stOk 0 [] m) m

/-- Requests that named a target and are replaced end with ABORTED (R206, Table 18-6). -/
def abortModes (m : Mach) : Mach :=
  let old := m.sup.modeReqs
  old.foldl (fun m q => reply q.1 stAborted 0 [] m) { m with sup.modeReqs := [] }

/-- The module changes major mode and reports SUP 0x0020 with the row of Table 4-2 (R200). -/
def changeMode (md : Mode) (cause : Nat) (m : Mach) : Mach :=
  let old := m.sup.mode
  let m := if old == md then m
    else
      let m := report 0x0020 nowhere (leBytes 1 old.code ++ leBytes 1 md.code ++ leBytes 1 cause) m
      let m := ifDo (old == .service) leaveService m
      let m := ifDo (old == .safe) (fun m => { m with sup.safeCause := 0 }) m
      ifDo (md == .service) serviceCache { m with sup.mode := md }
  answerModes md { m with sup.target := md, sup.trans := false }

/-- Every actuator whose heads the identity page declares follows. -/
def allFollow (m : Mach) : Bool := (m.srv.get .a0).st == .follow && (m.srv.get .a1).st == .follow

/-- The transition in progress has met what its target asks for (Table 4-1, Table 4-3, R202, R240). -/
def targetMet (m : Mach) : Bool :=
  match m.sup.target with
  | .idleFly | .active => allFollow m
  | .idleReady => parked m && m.spn.atSpeed
  | .idleLow => parked m && m.spn.atSpeed
  | .safe => parked m && m.spn.st == .stopped && !owesDestage m
  | .service => !owesDestage m
  | _ => false

/-- Move a transition on toward its target with what the target asks of heads and spindle (R206, R207, R212, R234). -/
def pursueTarget (m : Mach) : Mach :=
  match m.sup.target with
  | .idleFly | .active => loadWanted (setDemand (demandFull m) m)
  | .idleReady => unloadBoth (setDemand (demandFull m) m)
  | .idleLow => setDemand (demandLow m) (unloadBoth m)
  | .safe => if owesDestage m then loadWanted (setDemand (demandFull m) m) else setDemand 0 (unloadBoth m)
  | .service => if owesDestage m then loadWanted (setDemand (demandFull m) m) else m
  | _ => m

/-- SAFE entered on SET_MODE: SUP 0x0021 and SAFECAUSE (R234); the request has no event code of its own, so that of the mode change, SUP 0x0020,
stands as the cause (DESIGN CHOICE, log entry 62). -/
def safeEntered (m : Mach) : Mach := report 0x0021 nowhere (leBytes 2 0x0020) { m with sup.safeCause := 0x0020 }

/-- A transition that has met its target ends in the new mode; ACTIVE is reached by way of IDLE_FLY (Table 4-2). Nothing moves while the power-up
sequence out of STANDBY runs (R219), nor before the commit at the end of a clean shutdown (Table 4-8). -/
def modeAdvance (m : Mach) : Mach :=
  if m.sup.trans && !m.sup.tail && m.sup.mode != .standby then
    if targetMet m then
      if m.sup.target == .active && !fliesHeads m.sup.mode then
        changeMode .active 1 (changeMode .idleFly m.sup.transCause.toNat m)
      else if m.sup.target == .safe then safeEntered (changeMode .safe m.sup.transCause.toNat m)
      else changeMode m.sup.target m.sup.transCause.toNat m
    else pursueTarget m
  else m

/-- Begin a transition to a mode for a row of Table 4-2; a transition in progress runs on toward the new target (R206), and
a load that had failed is tried again. -/
def beginMode (md : Mode) (cause : Nat) (m : Mach) : Mach :=
  if m.sup.mode == md && !m.sup.trans then m
  else
    let again := fun (c : SrvCtl) => { c with loadFailed := false }
    modeAdvance (pursueTarget ({ m with sup.target := md, sup.trans := true, sup.transCause := BitVec.ofNat 8 cause }.onSrv .a0 again |>.onSrv .a1 again))

/-- A clean shutdown for PWR_DIS or for a module reset, which an entry into SAFE does not end (R205, R237). -/
def shutStays (m : Mach) : Bool := m.sup.shutTrigger == some .pwrDis || m.sup.shutTrigger == some .resetGroup

/-- Any other clean shutdown ends with the entry into SAFE, its last steps with it (R237); one that is complete stays complete. -/
def shutInSafe (m : Mach) : Mach :=
  if shutStays m then m
  else { m with sup.tail := false, sup.shutTrigger := none
                sup.shut := if m.sup.shut == .complete || m.sup.shut == .completeVaulted then m.sup.shut else .none }

/-- Enter SAFE for an event code (R234): heads parked, spindle stopped, SUP 0x0021, the cause held. A module already in SAFE
keeps its cause, and one on its way to STANDBY for PWR_DIS goes on toward it (R205). -/
def enterSafe (code : Nat) (m : Mach) : Mach :=
  if m.sup.mode == .safe then m
  else
    let going := m.sup.trans && m.sup.target == .standby && shutStays m
    let m := shutInSafe (abortModes m)
    let m := changeMode .safe 11 m
    let m := report 0x0021 nowhere (leBytes 2 code) m
    let m := setDemand 0 (unloadBoth { m with sup.safeCause := BitVec.ofNat 16 code })
    if going then { m with sup.target := .standby, sup.trans := true } else m

/-! ### Resets -/

/-- A bit of a nine-bit group word. -/
def groupBit (g : Group) : BitVec 9 := BitVec.ofNat 9 (2 ^ g.bitNo)

/-- A clock is CLK_CH or CLK_CORE. -/
def Clock.fast : Clock → Bool
  | .core | .ch _ => true
  | _ => false

/-- Synchronizer depth (R166). -/
def Crossing.depth (c : Crossing) : Nat := if c.src.fast || c.dst.fast then 3 else 2

/-- The idle values of a crossing whose owner is in reset, or whose island is torn (R191, R195): request and acknowledge deasserted, counts and data
0. -/
def Crossing.reset (c : Crossing) : Crossing := { c with count := 0, last := 0, delta := 0, busy := false, bundle := 0, taken := 0 }

/-- A group enters reset: its bits stand in RSTSTAT, its crossings discard what is in flight, counted in XDROP (R193). -/
def assertReset (g : Group) (m : Mach) : Mach :=
  let lost := (m.clk.crossings.filter (fun c => c.owner == g && c.busy)).length
  { m with
    clk.inReset := m.clk.inReset ||| groupBit g
    clk.resetSeen := m.clk.resetSeen ||| groupBit g
    clk.resetWait := m.clk.resetWait &&& ~~~(groupBit g)
    clk.xdrop := m.clk.xdrop.add lost
    clk.crossings := m.clk.crossings.map (fun c => if c.owner == g then c.reset else c) }

/-- The group that owns the feed-forward island of a sending actuator has its torn island cleared (R194, R196). -/
def ffCleared (g : Group) (p : Pair Bool) : Pair Bool := match g with
  | .act a => p.upd a (fun _ => false)
  | _ => p

/-- A group leaves reset with its islands: counts stand at 0 (R192) and TORN clears. R196 clears TORN on a reset by the reset controller and has
traffic resume with its completion; the bit is cleared there (DESIGN CHOICE, log entry 102). -/
def releaseReset (g : Group) (m : Mach) : Mach :=
  { m with
    clk.inReset := m.clk.inReset &&& ~~~(groupBit g)
    clk.torn := m.clk.torn &&& ~~~(groupBit g)
    clk.ffTorn := ffCleared g m.clk.ffTorn
    clk.crossings := m.clk.crossings.map (fun c => if c.owner == g then { c.reset with torn := false } else c) }

/-- A group that neither the always-on domain nor the LLC stage supplies stays in reset: in STANDBY, and once a power-loss sequence has ended (R198,
R774). -/
def unsupplied (m : Mach) (g : Group) : Bool := g != .aon && (!mayConvert m || (m.pwr.loss && m.pwr.discharge))

/-- A group that is in reset leaves it. -/
def releaseIfReset (g : Group) (m : Mach) : Mach := if inReset m g then releaseReset g m else m

/-- A write to CLK.CHnFREQ.FREQ_KHZ (R157 to R159): a value in range settles, replacing a pending one; the value in force, with none pending,
changes nothing. -/
def writeFreq (a : Act) (khz : Nat) (m : Mach) : Mach :=
  if decide (1000000 ≤ khz) && decide (khz ≤ 3000000) && !((m.clk.freqPend.get a).isNone && decide ((m.clk.freqKhz.get a).toNat = khz)) then
    { m with clk.freqPend := m.clk.freqPend.upd a (fun _ => some (BitVec.ofNat 22 khz)) }
  else m

/-- The control registers a servo unit takes at its reset: record 0xn06 and the bank records in force (R342, R405, R409). -/
def srvCtlInit (m : Mach) (a : Act) (c : SrvCtl) : SrvCtl :=
  let sel := ctlSet m a 32 1 0
  let flags := ctlSet m a 33 1 7
  let bankWords := (List.range 16).foldl (fun ws i =>
      match recKeyed m (srvTy a 0x07) (recKey a.idx 0xFF 0xFF i) with
      | none => ws
      | some v => (List.range 39).foldl (fun ws j => assocSet 0#32 ws (0x1000 + 0x100 * i + 4 * j) (BitVec.ofNat 32 (fieldAt v (4 + 4 * j) 4))) ws) []
  let words := (List.range 2).foldl (fun ws i =>
      match recKeyed m (srvTy a 0x08) (recKey a.idx 0xFF 0xFF i) with
      | none => ws
      | some v => (List.range 16).foldl (fun ws j => assocSet 0#32 ws (0x2000 + 0x40 * i + 4 * j) (BitVec.ofNat 32 (fieldAt v (4 + 4 * j) 4))) ws) bankWords
  { st := c.st, loaded := c.loaded, retActive := c.retActive, retV := c.retV, retSrc := c.retSrc, retCause := c.retCause
    seekCnt := c.seekCnt, offTrkCnt := c.offTrkCnt, retractCnt := c.retractCnt, ovrCnt := c.ovrCnt
    rroSaved := c.rroSaved, rroLoaded := c.rroLoaded, head := c.head
    shockWi := c.shockWi
    banksel := (List.range 4).map (fun i => BitVec.ofNat 2 (sel / 4 ^ i))
    xffEn := flags % 2 == 1, rvffEn := flags / 2 % 2 == 1, maEn := flags / 4 % 2 == 1
    learnN := BitVec.ofNat 4 (ctlSet m a 34 1 8), lead := BitVec.ofNat 4 (ctlSet m a 35 1 2)
    rroLimit := BitVec.ofNat 16 (ctlSet m a 36 2 1024)
    words := words }

/-- The position-sensing registers a servo unit takes at its reset: POSCFG from record 0xn01 (R342), the lane-damage map from
record 0xn84. -/
def srvRefInit (m : Mach) (a : Act) (r : SrvRef) : SrvRef :=
  { laneAgree := BitVec.ofNat 10 (posSet m a 0 2 96), invLimit := BitVec.ofNat 6 (posSet m a 4 1 8)
    missLimit := BitVec.ofNat 3 (posSet m a 5 1 3), alignReader := BitVec.ofNat 2 (posSet m a 6 1 0)
    alignLimit := BitVec.ofNat 11 (posSet m a 8 2 300)
    damage := match recVal m (srvTy a 0x84) with
      | none => []
      | some v => (List.range (fieldAt v 0 2)).map (fun i => ⟨BitVec.ofNat 32 (fieldAt v (4 + 8 * i) 4), BitVec.ofNat 16 (fieldAt v (8 + 8 * i) 2), if fieldAt v (10 + 8 * i) 1 == 0 then .setA else .setB⟩)
    invCnt := r.invCnt, fbCnt := r.fbCnt, amissCnt := r.amissCnt }

/-- A head interface after a reset of its group: registers at their reset values, counters and lifetimes kept (R14, R444); the write-unsafe of an
unlocked CLK_CHn stays (R163). -/
def hifInit (lock : Bool) (h : Hif) : Hif := { inhCnt := h.inhCnt, hbErr := h.hbErr, life := h.life, wusIn := h.wusIn, wusClk := h.wusClk && !lock }

/-- The EVENTS registers of one actuator's blocks at their reset value. -/
def Events.clearAct (e : Events) (a : Act) : Events :=
  { e with
    srvRef := e.srvRef.upd a (fun _ => 0), srvCtl := e.srvCtl.upd a (fun _ => 0), hif := e.hif.upd a (fun _ => 0)
    ch := e.ch.upd a (fun _ => 0), cfx := e.cfx.upd a (fun _ => 0) }

/-- Reset of G_ACTn once its heads are parked (R180, R181): SRV, HIF, CH and CFX of the actuator; CLK_CHn keeps its frequency
(R187), the retract path is untouched (R399). -/
def resetAct (a : Act) (m : Mach) : Mach :=
  let m := assertReset (.act a) (calAbandon a 2 m)
  let m := m.onSrv a (srvCtlInit m a)
  let m := m.onRef a (srvRefInit m a)
  let m := m.onHif a (hifInit (m.clk.chLock.get a))
  let m := { m with events := m.events.clearAct a, sup.actReady := m.sup.actReady.upd a (fun _ => false) }
  mediaReset a m

/-- Ask for a reset of G_ACTn: with heads loaded it waits for a retract with cause 0x04 (R181); a request for a group already in
reset merges (R185). -/
def requestActReset (a : Act) (m : Mach) : Mach :=
  if inReset m (.act a) then m
  else if loaded m a then
    retract a 4 { m with clk.resetWait := m.clk.resetWait ||| groupBit (.act a) }
  else resetAct a m

/-- The spindle unit in a reset of G_SPN: its registers at their reset values, SOFTEN at the record's; counters are kept. -/
def resetSpn (m : Mach) : Mach :=
  let p := m.spn
  { m with
    spn := { splitReported := p.splitReported, soften := BitVec.ofNat 5 (spnSoften m), revCnt := p.revCnt, lossCnt := p.lossCnt, startCnt := p.startCnt }
    events.spn := 0 }

/-- The supervisor's bring-up registers at the start of a power-up sequence (R215, R237); CHOP_EN is back at 1, as a module reset may leave SERVICE
(R151, R243). -/
def bootStart (m : Mach) : Mach :=
  { m with
    sup.mode := .off, sup.target := .off, sup.trans := false, sup.nvmePs := 0, sup.lastOpPs := 0, sup.apstEn := false, sup.demand := 0
    sup.safeCause := 0, sup.ctrlReady := false, sup.actReady := ⟨false, false⟩, sup.stages := 0, sup.fwSlot := 0, sup.replayed := false
    sup.capRetry := false, sup.mediaT := 0, sup.ctrlT := 0, sup.shut := .none, sup.shutTrigger := none, sup.shutVseq := none, sup.tail := false
    sup.bankInUse := none, sup.noRecords := false, sup.records := [], sup.base := [], sup.checksFailed := false, sup.armFailed := false
    sup.resolved := false, sup.opened := false, sup.foreign := false, sup.afterReset := m.sup.afterReset, sup.ucodeFail := false, sup.serviceDirty := false
    pwr.measDone := false, pwr.measuring := false, pwr.measTries := 0, pwr.measByRun := false, pwr.chopEn := true }

/-- Every session, challenge, outstanding request and staged record ends with a module reset (R910, R923, R940); the arming
returns to the committed one (R952). -/
def serviceReset (m : Mach) : Mach :=
  { m with
    svc.sessions := [], svc.challenges := [], svc.fails := [], svc.lockouts := [], svc.out := [], svc.staged := []
    svc.commit := none, svc.commitQueue := [], svc.uartBuf := [], sup.modeReqs := [], sup.resetReqs := [], evr.arming := [] }

/-- A module reset: every group except G_AON enters reset (Table 3-5), and the power-up sequence starts again. -/
def moduleReset (m : Mach) : Mach :=
  let m := if m.sup.restart then evrReload { m with sup.restart := false } else m
  let m := serviceReset m
  let m := bootStart m
  let m := resetAct .a1 (resetAct .a0 m)
  let m := resetSpn (assertReset .spn m)
  let m := engineReset .a1 (engineReset .a0 (assertReset (.fe .a1) (assertReset (.fe .a0) m)))
  let m := portReset .a1 (portReset .a0 (assertReset (.port .a1) (assertReset (.port .a0) m)))
  fabReset (assertReset .fab m)

/-- A module reset that waited for the retract of both actuators begins once both are parked (R178). -/
def moduleResetAfterRetract (m : Mach) : Mach :=
  if m.clk.resetWait.getLsbD 2 && parked m then moduleReset { m with clk.resetWait := m.clk.resetWait &&& ~~~(0x004#9) } else m

/-- A module reset caused by G_SPN retracts both actuators first (R178). -/
def spnModuleReset (m : Mach) : Mach :=
  moduleResetAfterRetract (retractBoth 4 { m with clk.resetWait := m.clk.resetWait ||| 0x004#9 })

/-- An uncorrectable error that resets G_FAB (R178, R748, R778): the sequencers stop at a sector boundary, nothing more is fetched or
dispatched, and an image with cause 2 is written before the module reset. During a replay no image is written (R776, log entry 55). -/
def fabSequence (skip : BitVec 8) (m : Mach) : Mach :=
  if m.vlt.replaying.isSome then spnModuleReset m
  else if frozen m then vaultBegin 2 skip true m
  else
    let m := feLoss (cfxAbort .a1 (cfxAbort .a0 (withdraw .a1 (withdraw .a0 m))))
    lostSlot (vaultBegin 2 skip true m)

/-- The reset that a fault of one group asks for (R152, R177, R178, Table 3-5): a group that is reset alone is reset; any reset
of G_FAB, G_SPN or of the always-on domain is a module reset. -/
def resetOwner (g : Group) (m : Mach) : Mach :=
  match g with
  | .aon => moduleReset m
  | .fab => fabSequence 0 m
  | .spn => spnModuleReset m
  | .fe e => if inReset m (.fe e) then m else engineReset e (assertReset (.fe e) m)
  | .port p => if inReset m (.port p) then m else portReset p (assertReset (.port p) m)
  | .act a => requestActReset a m

/-- The count of power cycles rises by one, and saturates (R15). -/
def nextCycle (n : BitVec 32) : BitVec 32 := if n = 0xFFFFFFFF then n else n + 1

/-- The machine as supply to the always-on domain finds it (R14, R177, R735, R999, R1030, R1039, Table 3-5): what one-time memory, the NORs, the NAND
and the HDA keep stays, counters that no rule keeps are 0, every group but G_AON is in reset. The HDA is the same, or another that has been
fitted. -/
def poweredOn (hda : Option Hda) (m : Mach) : Mach :=
  let m := vaultDrop m
  let f : Mach := {}
  { f with
    id := m.id, hda := hda.getD m.hda, nor := m.nor, drawn := m.drawn
    sup := { f.sup with pcycle := nextCycle m.nor.pcycle, opSec := m.nor.opSec, fw := m.sup.fw, fwActive := m.sup.fwActive }
    pwr := { f.pwr with energy := m.nor.energy, lossCnt := m.nor.lossCnt, dropCnt := m.nor.dropCnt }
    clk := { f.clk with xtalOk := true, rootLock := true, chLock := ⟨true, true⟩, inReset := 0x1FE#9 }
    svc := { f.svc with lastAdaptAt := m.nor.opSec }
    evr := { f.evr with held := m.evr.held, newest := m.evr.newest, ixd3 := m.evr.ixd3, drop0 := m.evr.drop0, drop1 := m.evr.drop1, drop2 := m.evr.drop2, drop3 := m.evr.drop3
                        staging := m.evr.staging, clears := m.evr.clears, erases := m.evr.erases, wearNoted := m.evr.wearNoted }
    srv := ⟨{ f.srv.p0 with rroSaved := m.srv.p0.rroSaved }, { f.srv.p1 with rroSaved := m.srv.p1.rroSaved }⟩
    bcm := { f.bcm with retFrames := m.bcm.retFrames, retPages := m.bcm.retPages }
    vlt := { f.vlt with images := m.vlt.images.filter (·.valid), bad := m.vlt.bad, spent := m.vlt.spent, erases := m.vlt.erases, lastSeq := m.vlt.lastSeq, lastIndex := m.vlt.lastIndex }
    fe := { f.fe with rowRemap := m.fe.rowRemap, faulty := m.fe.faulty, resv := m.fe.resv.filter (fun (e : Nat × Resv) => e.2.ptpl) }
    pins := { f.pins with perst := m.pins.perst, pwrDis := m.pins.pwrDis } }

/-! ### Power loss -/

/-- Life values are written to the module NOR (R1030). -/
def persistLife (m : Mach) : Mach :=
  { m with nor := ⟨m.sup.pcycle, m.sup.opSec, m.pwr.energy, m.pwr.lossCnt, m.pwr.dropCnt⟩ }

/-- A commit that runs when power loss is asserted is abandoned: the bank being written has no valid header (R67). -/
def abandonCommit (m : Mach) : Mach :=
  match m.svc.commit with
  | none => m
  | some _ => { m with svc.commit := none, svc.commitQueue := [] }

/-- Rebuilds that a power loss ends (spec/17 Table 17-6, R902): their requests complete with ABORTED. -/
def rebuildsCut (m : Mach) : Mach :=
  m.dsv.rebuilds.foldl (fun (m : Mach) (r : Rebuild) => match r.req with
    | some h => reply h stAborted 0 [] m
    | none => m) { m with dsv.rebuilds := [] }

/-- The retract of a power loss: at once, or, where a write gate is open, with its closing (R588, Table 7-4 cause 0x01). -/
def lossRetract (a : Act) (m : Mach) : Mach := if (m.cfx.get a).gate gWG then m else retract a 1 m

/-- Power loss is asserted (R111 to R117): once, only while detection is armed. It is recorded as PWR 0x0110, counts, puts the
precharge resistance back (R109), ends any transition and bulk measurement (R129, R209), floats the spindle (R268, R300),
stops the sequencers (R588) and retracts both actuators (R400), starts the vault image (R788), and programs the recorder's
pending changes with the life counters (R970, R1030). -/
def assertLoss (cause : Nat) (m : Mach) : Mach :=
  if m.pwr.loss || !m.pwr.detArmed then m
  else
    let m := { m with
      pwr.loss := true, pwr.lossCause := BitVec.ofNat 8 cause, pwr.lossCnt := m.pwr.lossCnt.inc, pwr.bypass := false
      sup.trans := false, sup.tail := false }
    let m := report 0x0110 nowhere (leBytes 1 cause ++ leBytes 2 m.pwr.vbulk.toNat) m
    let m := rebuildsCut (abandonCommit m)
    let m := calAbandonAll 1 (ifDo m.pwr.measuring (bulkAbandon .powerLoss) m)
    let m := feLoss (cfxLoss .a1 (cfxLoss .a0 m))
    let m := spnCoast m
    let m := vaultLoss m
    let m := lossRetract .a1 (lossRetract .a0 m)
    let m := match m.sup.shut with
      | .complete | .completeVaulted => m
      | _ => { m with sup.shut := .none, sup.shutTrigger := none }
    persistLife (evrFlush m)

/-! ### Clean shutdown -/

/-- RESET_GROUP requests for the whole module that a later trigger replaces end with ABORTED (R206, Table 18-6). -/
def abortResets (m : Mach) : Mach :=
  (m.sup.resetReqs.filter (fun q => q.2 == 255)).foldl (fun m q => reply q.1 stAborted 0 [] m) { m with sup.resetReqs := m.sup.resetReqs.filter (fun q => q.2 != 255) }

/-- What a trigger replaces when it names another end for the shutdown (R206). -/
def replaceEnd (t : ShutTrigger) (m : Mach) : Mach :=
  let m := ifDo (t != .resetGroup) abortResets m
  ifDo (t != .setMode) abortModes m

/-- A clean shutdown starts draining (R245, R247): from IDLE_LOW the spindle is brought to full speed for what the heads have to destage. Once it
runs, and until its last steps are done, a further trigger only changes what follows it. -/
def startShutdown (t : ShutTrigger) (m : Mach) : Mach :=
  let m := replaceEnd t m
  if m.sup.shut == .none || ((m.sup.shut == .complete || m.sup.shut == .completeVaulted) && !m.sup.tail) then
    let m := { m with sup.shut := .draining, sup.shutTrigger := some t, sup.shutDirty := 0, sup.destaged := 0, sup.shutVseq := none, sup.tail := false }
    loadWanted (ifDo (wantsHeads m) (setDemand (demandFull m)) m)
  else { m with sup.shutTrigger := some t }

/-- A last-shutdown slot of this module with the next sequence number (R90). -/
def nextSlot (m : Mach) (st : SlotState) (vseq : BitVec 32) : Slot :=
  ⟨m.sup.slotSeq + 1, st, m.id.serial, m.sup.pcycle, m.sup.opSec, vseq⟩

/-- Open the cycle: erase the record sector and program slot 0 RUNNING (R93, R98). -/
def openRecord (m : Mach) : Mach :=
  { m with hda.slot0 := some (nextSlot m .running 0), hda.slot1 := none, sup.slotSeq := m.sup.slotSeq + 1, sup.opened := true, sup.resolved := true }

/-- Close the cycle in slot 1 (R90, R96, R97). -/
def closeRecord (st : SlotState) (vseq : BitVec 32) (m : Mach) : Mach :=
  { m with hda.slot1 := some (nextSlot m st vseq), sup.slotSeq := m.sup.slotSeq + 1, sup.opened := false }

/-- Operation returns after a clean shutdown in the same power cycle (R98): the module resolves the record again. After a vaulted shutdown that
is the replay of its own image, whose sectors the cache still holds, so that no parity update is lost (R94, R800). Resolved, the sector is erased
and slot 0 programmed. -/
def resolveAgain (m : Mach) : Mach :=
  let m := match m.sup.shutVseq.bind (fun v => (keptImages m).find? (fun i => i.seq == v && ownHda m i)) with
    | some i => { replayStart i i.entries.length m with vlt.staleDue := [] }
    | none => m
  let m := { m with sup.shut := .none, sup.shutVseq := none, sup.tail := false }
  if m.sup.resolved && !m.sup.opened && !m.sup.foreign && norUsable m then openRecord m else m

/-- A switch of the whole module to STANDBY (R105, R198, R219, R940, R1006): PFC and LLC off, a bulk measurement ended, detection disarmed, ports
down, every group but G_AON without power and in reset, staging area lost, curve and images back to the bank's. -/
def powerDownToStandby (cause : Nat) (m : Mach) : Mach :=
  let m := changeMode .standby cause m
  let m := resetAct .a1 (resetAct .a0 m)
  let m := resetSpn (assertReset .spn m)
  let m := assertReset (.port .a1) (assertReset (.port .a0) (assertReset .fab (assertReset (.fe .a0) (assertReset (.fe .a1) m))))
  let m := dropImage .a1 (dropImage .a0 (portsDown (standbyMedia m)))
  { m with
    pwr.pfcOn := false, pwr.llcOn := false, pwr.detArmed := false, pwr.vmotOutEn := false, pwr.measuring := false
    svc.staged := [], spn.loadedCurve := none, pins.preampOn := ⟨false, false⟩
    sup.ctrlReady := false, sup.tail := false }

/-- STANDBY is left toward a mode, for a row of Table 4-2: the power-up sequence runs again from the row of LLC start (R219). Stages 1 and 2 stand,
the others are to come, with the bulk measurement among them; the last-shutdown record is read and resolved anew (R98). -/
def leaveStandby (t : Mode) (row : Nat) (m : Mach) : Mach :=
  { m with
    sup.target := t, sup.trans := true, sup.transCause := BitVec.ofNat 8 row, sup.stages := m.sup.stages &&& 0x003#12, sup.capRetry := false
    sup.shut := .none, sup.shutTrigger := none, sup.shutVseq := none, sup.tail := false, sup.resolved := false, sup.opened := false
    sup.foreign := false, sup.checksFailed := false, sup.armFailed := false, sup.ucodeFail := false
    pwr.measDone := false, pwr.measTries := 0, pwr.measByRun := false }

/-- The preamp check and first writes of an actuator (R423, R424): a mismatch reports event 0x10 and enters SAFE; otherwise ILIM,
OT_LIMIT, page 0's HTR_RD and CTRL are written. -/
def preampInit (a : Act) (m : Mach) : Mach :=
  let id := (m.pre.get a).id
  let kind := match hdaPage m with
    | some p => p.assist.toNat
    | none => 0
  if field (id.zeroExtend 32) 8 8 != 1 || field (id.zeroExtend 32) 4 4 != kind then
    enterSafe (actCode 0x0610 a) (report (actCode 0x0610 a) (onAct a) (leBytes 2 id.toNat) m)
  else
    let m := m.onHif a (fun h => { h with profileOk := true })
    let m := sendFrame a ⟨true, 15, 7, [BitVec.ofNat 16 (assistIlim m a), BitVec.ofNat 16 (otLimit m a)], 2⟩ [] false m
    let m := sendFrame a ⟨true, 0, 0x10, [BitVec.ofNat 16 (fieldAt (headRegs m a 0 255) 0 2)], 1⟩ [] false m
    sendFrame a (globalWrite 2 0x0007#16) [] false m

/-- In PS1 the scheduler selects the reduced-acceleration trajectories, by TRAJ_SET (R211, R369, R665; log entry 78). -/
def trajForPs (a : Act) (m : Mach) : Mach := m.onSrv a (fun c => { c with trajSet := m.sup.nvmePs == 1 })

/-- The NVMe power state changes; on entry to PS1 the duty is 100 % (R693), and on entry and leaving the trajectories follow (R211). -/
def psTo (ps : BitVec 3) (m : Mach) : Mach :=
  if (ps == 1) == (m.sup.nvmePs == 1) then { m with sup.nvmePs := ps }
  else trajForPs .a1 (trajForPs .a0 { m with sup.nvmePs := ps, sch.duty := if ps == 1 then 100 else m.sch.duty })

/-- A microcode block that stays rejected leads to SAFE once stage 9 is done (R226). -/
def ucodeSafe (m : Mach) : Mach := if m.sup.ucodeFail && m.sup.stages.getLsbD 8 then enterSafe 0x0024 m else m

/-- What follows the release of G_ACTn: the preamp's supplies and check, the trajectories of PS1 and the sequencer's initialisation, with its
microcode loaded anew (R211, R226, R423, R424, R557, R1006). -/
def actReleased (a : Act) (m : Mach) : Mach := ucodeSafe (cfxResetInit a (preampInit a (preampSupply true a (trajForPs a m))))

/-- STANDBY is entered once the spindle stands; a PWR_DIS released meanwhile, or a later SET_MODE, starts the power-up sequence
from the stage of LLC start (R206, R253). -/
def standbyReached (m : Mach) : Mach :=
  let rel := m.sup.shutTrigger == some .pwrDis && !m.pins.pwrDis
  let next := m.sup.afterReset
  let m := powerDownToStandby m.sup.transCause.toNat { m with sup.afterReset := none }
  match next with
  | some t => if m.pins.pwrDis then m else leaveStandby t 6 m
  | none => if rel && powerupMode m != .standby then leaveStandby (powerupMode m) 8 m else m

/-- A clean shutdown to STANDBY is complete and waits for the spindle to stand. -/
def standbyWaits (m : Mach) : Bool :=
  m.sup.trans && m.sup.target == .standby && (m.sup.shut == .complete || m.sup.shut == .completeVaulted)

/-- A clean shutdown has been completed and nothing has returned to operation since. -/
def shutOver (m : Mach) : Bool := m.sup.shut == .complete || m.sup.shut == .completeVaulted

/-- A clean shutdown runs, or is complete and a switch to STANDBY or a module reset is still to follow. -/
def shutRuns (m : Mach) : Bool :=
  m.sup.shut == .draining || m.sup.shut == .vaulting || m.sup.shut == .unloading || standbyWaits m || (m.sup.tail && m.sup.shutTrigger == some .resetGroup)

/-- The spindle stands: a clean shutdown whose last step this was enters STANDBY. -/
def standbyIfDone (m : Mach) : Mach := if standbyWaits m && !m.sup.tail && m.spn.st == .stopped then standbyReached m else m

/-- The transition that a complete clean shutdown begins (R248, Table 4-2): to STANDBY for PWR_DIS and SET_MODE; to IDLE_LOW after notifications in
modes 2 to 5, where it replaces a target named before. In SAFE and SERVICE notifications leave the mode. -/
def shutTarget (m : Mach) : Mach :=
  let toward := fun (t : Mode) (row : Nat) (m : Mach) => { m with sup.target := t, sup.trans := true, sup.transCause := BitVec.ofNat 8 row }
  match m.sup.shutTrigger with
  | some .resetGroup | none => m
  | some .notify => if m.sup.mode == .safe || m.sup.mode == .service then m else toward .idleLow 9 (abortModes m)
  | some .pwrDis => toward .standby 7 m
  | some .setMode => toward .standby 6 m

/-- What follows a clean shutdown once its tables are committed (R206, R248, R253): the module reset; STANDBY once the spindle stands; IDLE_LOW once
it has slowed. After notifications a SET_MODE that came meanwhile has the module return to operation toward its target instead. -/
def afterShutdown (m : Mach) : Mach :=
  match m.sup.shutTrigger with
  | some .resetGroup => moduleReset (resetReply m)
  | some .notify =>
    (match m.sup.afterReset with
     | some t => beginMode t 6 (resolveAgain { m with sup.afterReset := none })
     | none => modeAdvance m)
  | some .pwrDis | some .setMode => standbyIfDone (setDemand 0 m)
  | none => m

end Sys2Proof.Machine
end

