-- ==== Sys2Proof/Machine/OpsZgp.lean ====
section
/-! DEFINITION. Peer groups among members (spec/17 R875 to R902): the field arithmetic, the edits of placement entries, frames and the send log,
parity updates of writes, and the restoring of rows. -/

namespace Sys2Proof.Machine

/-! ### The code (R885) -/

/-- Multiply a byte by x in GF(2^8) with polynomial 0x11D. -/
def gfX (a : Nat) : Nat := if a < 128 then 2 * a else (2 * a) ^^^ 0x11D

/-- The product of two bytes. -/
def gfMul (a b : Nat) : Nat :=
  ((List.range 8).foldl (fun (p : Nat × Nat) i => (gfX p.1, if b.testBit i then p.2 ^^^ p.1 else p.2)) (a, 0)).2

/-- The inverse of a byte; 0 for 0. -/
def gfInv (a : Nat) : Nat := ((List.range 256).find? (fun b => gfMul a b == 1)).getD 0

/-- c(j, i) of a group with `p` parity columns. -/
def gfCoef (p j i : Nat) : Nat := gfInv (j ^^^ (p + i))

/-- Multiply every byte of a word by x. -/
def gfXs {w : Nat} (v : BitVec w) : BitVec w :=
  let ones := BitVec.ofNat w ((2 ^ w - 1) / 255)
  ((v &&& BitVec.ofNat w (127 * ((2 ^ w - 1) / 255))) <<< 1) ^^^ (((v >>> 7) &&& ones) * 0x1D)

/-- Multiply every byte of a word by a byte. -/
def gfScale {w : Nat} (c : Nat) (v : BitVec w) : BitVec w :=
  ((List.range 8).foldl (fun (p : BitVec w × BitVec w) i => (gfXs p.1, if c.testBit i then p.2 ^^^ p.1 else p.2)) (v, 0)).2

/-- Multiply a sector and its protection information. -/
def gfSector (c : Nat) (d : Sector × BitVec 128) : Sector × BitVec 128 := (gfScale c d.1, gfScale c d.2)

/-- Add two sectors with their protection information. -/
def xorSector (a b : Sector × BitVec 128) : Sector × BitVec 128 := (a.1 ^^^ b.1, a.2 ^^^ b.2)

/-- What a column is of the data columns. -/
def columnRow (k p col : Nat) : List Nat :=
  (List.range k).map (fun i => if col < k then (if i = col then 1 else 0) else gfCoef p (col - k) i)

/-- Reduce the `i`-th column of an augmented matrix (Gauss–Jordan). -/
def gfPivot (i : Nat) (rows : List (List Nat)) : List (List Nat) :=
  match (List.range rows.length).find? (fun r => decide (i ≤ r) && (rows.getD r []).getD i 0 != 0) with
  | none => rows
  | some r =>
    let top := rows.getD r []
    let inv := gfInv (top.getD i 0)
    let top := top.map (gfMul inv)
    let rows := updAt (updAt rows r (fun _ => rows.getD i [])) i (fun _ => top)
    rows.zipIdx.map (fun (x : List Nat × Nat) => if x.2 = i then x.1
      else let f := x.1.getD i 0
        (x.1.zip top).map (fun y => y.1 ^^^ gfMul f y.2))

/-- The factors with which `k` source columns add up to a column (R885, R900). -/
def gfSolve (k p : Nat) (srcs : List Nat) (col : Nat) : List Nat :=
  let want := columnRow k p col
  let rows := (List.range k).map (fun i => (srcs.map (fun s => (columnRow k p s).getD i 0)) ++ [want.getD i 0])
  (((List.range k).foldl (fun rs i => gfPivot i rs) rows).map (fun r => r.getD k 0))

/-! ### Placement entries (R886, R897) -/

/-- An entry range is as the default. -/
def Group_.isDefault (g : Group_) (o : Override) : Bool :=
  o.st == .up && o.holder == (g.cols.getD o.col (0, 0)).1 && o.nsid == (g.cols.getD o.col (0, 0)).2 && o.hext == o.first

/-- The entry ranges of a column, the default ones among them, in order: at most `f` of them from an extent. -/
def Group_.segsFrom (g : Group_) (col : Nat) : Nat → Nat → List Override
  | 0, _ => []
  | f + 1, e =>
    if g.c ≤ e then []
    else
      let stop := ((g.excepts.filter (fun o => o.col == col && decide (e < o.first))).map (·.first)).foldl min g.c
      match g.excepts.find? (·.covers col e) with
      | some o =>
        let n := o.first + o.count - e
        { o with first := e, count := n, hext := o.hext + (e - o.first), mark := if o.first = e then o.mark else 0 } :: g.segsFrom col f (e + n)
      | none =>
        let c := g.cols.getD col (0, 0)
        ⟨col, .up, c.1, e, stop - e, c.2, e, 0⟩ :: g.segsFrom col f stop

/-- The entry ranges of a column. -/
def Group_.segs (g : Group_) (col : Nat) : List Override := g.segsFrom col (2 * g.excepts.length + 2) 0

/-- Cut a range at an extent. -/
def Override.cut (p : Nat) (o : Override) : List Override :=
  if o.first < p && p < o.first + o.count then
    [{ o with count := p - o.first }, { o with first := p, count := o.first + o.count - p, hext := o.hext + (p - o.first), mark := 0 }]
  else [o]

/-- Join ranges that follow each other. -/
def joinSegs : List Override → List Override
  | [] => []
  | a :: r => match joinSegs r with
    | [] => [a]
    | b :: q =>
      if a.col = b.col && a.st == b.st && a.holder == b.holder && a.nsid == b.nsid && a.first + a.count == b.first && a.hext + a.count == b.hext
        && a.mark == 0 && b.mark == 0 then { a with count := a.count + b.count } :: q
      else a :: b :: q

/-- Change the entries of a column's extents. -/
def Group_.edit (g : Group_) (col first count : Nat) (f : Override → Override) : Group_ :=
  let all := ((g.segs col).flatMap (Override.cut first)).flatMap (Override.cut (first + count))
  let new := all.map (fun o => if first ≤ o.first && o.first < first + count then f o else o)
  { g with excepts := g.excepts.filter (fun o => o.col != col) ++ joinSegs (new.filter (fun o => !g.isDefault o)) }

/-- How severe a state is, for the merge of R897 (log entry 70). -/
def ColState.rank : ColState → Nat
  | .up => 0 | .rebuilding => 1 | .stale => 2 | .down => 3

/-- Take an entry range as another member states it. -/
def Group_.take (g : Group_) (o : Override) : Group_ := g.edit o.col o.first o.count (fun s =>
  { s with st := o.st, holder := o.holder, nsid := o.nsid, hext := o.hext + (s.first - o.first), mark := if s.first = o.first then o.mark else 0 })

/-- Take the more severe state (R897). -/
def Group_.merge (g : Group_) (o : Override) : Group_ := g.edit o.col o.first o.count (fun s =>
  if s.st.rank < o.st.rank then { s with st := o.st, mark := if s.first = o.first then o.mark else 0 } else s)

/-! ### Frames (R875 to R881) -/

/-- A member of the address table. -/
def peerOf (m : Mach) (n : Nat) : Option Peer := m.dsv.peers.find? (fun p => p.num == n)

/-- Change one peer. -/
def onPeer (n : Nat) (f : Peer → Peer) (m : Mach) : Mach := { m with dsv.peers := m.dsv.peers.map (fun p => if p.num == n then f p else p) }

/-- The ACK field of frames to a peer: the highest SEQ up to which every frame has been delivered and dealt with; all ones before the first
(log entry 71). -/
def ackField (m : Mach) (p : Peer) : BitVec 32 := match (m.dsv.inbox.filter (fun x => x.1 == p.num)).head? with
  | some x => x.2.1 - 1
  | none => match p.d with
    | some d => d
    | none => 0xFFFFFFFF#32

/-- TYPE of a frame (Table 17-2). -/
def ZMsg.code : ZMsg → Nat
  | .hello => 0x01 | .ack => 0x02 | .groupDef .. => 0x10 | .groupAns .. => 0x10 | .state .. => 0x11 | .parity .. => 0x20
  | .reconRead .. => 0x30 | .reconData .. => 0x31

/-- Bytes 0 to 31 of a frame, the additional data of its encryption (Table 17-2, R877). -/
def zgpHead (m : Mach) (p : Peer) (msg : ZMsg) (len : Nat) : List Byte :=
  let group := ((msg.gid.bind (groupOf m)).map (fun g => g.index)).getD 0xFFFF
  leBytes 2 0x5A47 ++ leBytes 1 1 ++ leBytes 1 msg.code ++ leBytes 8 m.dsv.domain.toNat ++ leBytes 4 m.sup.pcycle.toNat ++ leBytes 2 m.dsv.module
    ++ leBytes 2 p.num ++ leBytes 4 p.next.toNat ++ leBytes 4 (ackField m p).toNat ++ leBytes 2 len ++ leBytes 2 group

/-- The 12-byte nonce of a frame (R877): EPOCH, SRC, DST and SEQ. -/
def zgpNonce (m : Mach) (p : Peer) : List Byte :=
  leBytes 4 m.sup.pcycle.toNat ++ leBytes 2 m.dsv.module ++ leBytes 2 p.num ++ leBytes 4 p.next.toNat

/-- A frame, complete and encrypted (R877, R879, Table 17-2); the layout of a payload is not stated (log entry 70). -/
def zgpBytes (m : Mach) (p : Peer) (msg : ZMsg) : List Byte :=
  let payload := Config.zgpPayload msg
  let head := zgpHead m p msg payload.length
  head ++ Config.gcmSeal m.dsv.domKey (zgpNonce m p) head payload

/-- Log a frame and send it (R879): its SEQ is the next for that receiver. -/
def sendZ (dst : Nat) (msg : ZMsg) (cmd : Option NvCmd) (m : Mach) : Mach :=
  match peerOf m dst with
  | none => m
  | some p => onPeer dst (fun p => { p with next := p.next + 1 })
      { m with dsv.log := m.dsv.log ++ [⟨dst, p.next, msg, 0, cmd, zgpBytes m p msg⟩], dsv.zgpTx := m.dsv.zgpTx.inc }

/-- Every module that holds a column of a group or is a member, but this one. -/
def others (m : Mach) (g : Group_) : List Nat :=
  nubList ((g.cols.map (·.1) ++ g.excepts.map (·.holder)).filter (fun n => n != m.dsv.module))

/-- Send a frame to every other member that is not DOWN. -/
def sendAll (g : Group_) (msg : ZMsg) (m : Mach) : Mach :=
  (others m g).foldl (fun m n => if (peerOf m n).any (fun p => p.down) then m else sendZ n msg none m) m

/-- The mark that an update leaves in its write until it is acknowledged (R891). -/
def zgpMark (dst : Nat) (seq : BitVec 32) : Nat := 2 ^ 64 + dst * 2 ^ 32 + seq.toNat

/-- A write whose sectors have entered the cache and that waits for nothing more completes (R686, R891). -/
def writeMayEnd (c : NvCmd) (m : Mach) : Mach := match ctxOf m c with
  | some x => if x.status.isNone && x.phase == .data && x.secs.isEmpty && x.left.isEmpty && !m.bcm.writeWait.contains c then finish c .success m else m
  | none => m

/-- Logged frames to a receiver release the writes that wait for them. -/
def releaseWrites (ls : List Logged) (m : Mach) : Mach := ls.foldl (fun m l => match l.cmd with
  | some c => writeMayEnd c (onCtx c (fun x => { x with left := x.left.filter (· != zgpMark l.dst l.seq) }) m)
  | none => m) m

/-- An acknowledgement (R880): frames up to its SEQ leave the log. -/
def ackLog (src : Nat) (ack : BitVec 32) (m : Mach) : Mach :=
  let hit := fun (l : Logged) => l.dst == src && !newer l.seq ack
  releaseWrites (m.dsv.log.filter hit) { m with dsv.log := m.dsv.log.filter (fun l => !hit l) }

/-- A delivered message has been dealt with: it leaves the inbox and an ACK goes out (R880, R890). -/
def inboxDone (x : Nat × BitVec 32 × ZMsg) (m : Mach) : Mach :=
  { m with dsv.inbox := m.dsv.inbox.erase x, dsv.zgpTx := m.dsv.zgpTx.inc }

/-! ### The state of a group (R897, R898) -/

/-- The first row of a FAILED group. -/
def Group_.failRow (g : Group_) : Nat := (((g.excepts.filter (fun o => decide (g.m < g.badAt o.first))).map (·.first)).foldl min g.c) * 1024

/-- Put a group; entering DEGRADED and FAILED is reported (R898). -/
def putGroup (g : Group_) (m : Mach) : Mach :=
  let want := if g.failed then 2 else if g.degraded then 1 else 0
  let m := { m with dsv.groups := m.dsv.groups.map (fun x => if x.gid == g.gid then { g with told := want } else x) }
  let m := if 1 ≤ want && g.told = 0 then report 0x1142 nowhere (leBytes 1 g.index) m else m
  if want = 2 && g.told < 2 then report 0x1143 nowhere (leBytes 1 g.index ++ leBytes 4 g.failRow) m else m

/-- Change a group's entries: members exchange STATE frames whenever an entry changes (R897). The entries that this member has itself assigned
or restored are named, for the others to take as they are (log entry 70). -/
def changeGroup (gid : BitVec 32) (f : Group_ → Group_) (assigned : List Override) (m : Mach) : Mach := match groupOf m gid with
  | none => m
  | some g =>
    let n := f g
    if n.excepts == g.excepts then m else sendAll n (.state gid n.excepts assigned) (putGroup n m)

/-- A column is marked STALE in every extent (R889, R897): DSV 0x1141. -/
def markStale (gid : BitVec 32) (col : Nat) (m : Mach) : Mach := match groupOf m gid with
  | none => m
  | some g => report 0x1141 nowhere (leBytes 1 g.index ++ leBytes 1 col ++ leBytes 4 g.c)
      (changeGroup gid (fun g => g.edit col 0 g.c (fun s => { s with st := .stale, mark := 0 })) [] m)

/-- A peer becomes DOWN (R875, R897). -/
def peerDown (n : Nat) (m : Mach) : Mach := match peerOf m n with
  | none => m
  | some p =>
    if p.down then m
    else
      let m := report 0x1140 nowhere (leBytes 2 n) (onPeer n (fun p => { p with up := false, down := true }) m)
      let m := m.dsv.groups.foldl (fun (m : Mach) (g : Group_) => (List.range g.n).foldl (fun (m : Mach) (c : Nat) =>
        changeGroup g.gid (fun g => g.edit c 0 g.c (fun s => if s.holder == n then { s with st := .down } else s)) [] m) m) m
      releaseWrites (m.dsv.log.filter (fun l => l.dst == n)) m

/-- A peer is UP again (R875, R897): its parity columns become STALE, its data columns UP; what it has not acknowledged is sent again. -/
def peerUp (n : Nat) (m : Mach) : Mach := match peerOf m n with
  | none => m
  | some p =>
    let was := p.down
    let m := onPeer n (fun p => { p with up := true, down := false }) m
    if !was then m
    else
      let m := { m with dsv.log := m.dsv.log.map (fun (l : Logged) => if l.dst == n then { l with again := 0 } else l) }
      m.dsv.groups.foldl (fun (m : Mach) (g : Group_) => (List.range g.n).foldl (fun (m : Mach) (c : Nat) =>
        let mine := (g.segs c).filter (fun s => s.holder == n)
        if mine.isEmpty then m
        else
          let m := changeGroup g.gid (fun g => g.edit c 0 g.c (fun s => if s.holder == n then { s with st := if c < g.k then .up else .stale, mark := 0 } else s)) [] m
          if c < g.k then m else report 0x1141 nowhere (leBytes 1 g.index ++ leBytes 1 c ++ leBytes 4 (mine.map (·.count)).sum) m) m) m

/-! ### Sectors of columns -/

/-- LBAs of an extent and of a row (R884). -/
def extLbas : Nat := 262144
/-- LBAs of a row of one column. -/
def rowLbas : Nat := 256

/-- The group, column and column LBA that an LBA of a namespace of this module holds (R883, R886). -/
def localCol (m : Mach) (nsid lba : Nat) : Option (Group_ × Nat × Nat) :=
  (m.dsv.groups.filterMap (fun g =>
    let e := lba / extLbas
    match g.excepts.find? (fun o => o.holder == m.dsv.module && o.nsid == nsid && decide (o.hext ≤ e) && decide (e < o.hext + o.count)) with
    | some o => some (g, o.col, (o.first + (e - o.hext)) * extLbas + lba % extLbas)
    | none =>
      match (List.range g.n).find? (fun c => g.cols.getD c (0, 0) == (m.dsv.module, nsid) && decide (e < g.c) && !g.excepts.any (·.covers c e)) with
      | some c => some (g, c, lba)
      | none => none)).head?

/-- The data column that an LBA of a namespace belongs to. -/
def dataCol (m : Mach) (nsid lba : Nat) : Option (Group_ × Nat × Nat) := (localCol m nsid lba).filter (fun x => decide (x.2.1 < x.1.k))

/-- Namespace and LBA at the holder of a column's LBA. -/
def Group_.place (g : Group_) (col lba : Nat) : Nat × Nat :=
  let o := g.entry col (lba / extLbas)
  (o.nsid, (o.hext + (lba / extLbas - o.first)) * extLbas + lba % extLbas)

/-- The holder of a column's LBA. -/
def Group_.holderAt (g : Group_) (col lba : Nat) : Nat := (g.entry col (lba / extLbas)).holder

/-- The plaintext of a stored sector, from the cache or from the media (R890); zeros where nothing is stored. -/
def plainOf (m : Mach) (nsid lba : Nat) : Sector × BitVec 128 :=
  let attic := (atticLine m (nsid - 1) (lba / 8)).bind (fun l => if l.valid.getLsbD (lba % 8) then l.secs.getD (lba % 8) none else none)
  let stored := match cacheSec m nsid lba with
    | some s => some (s.data, s.pi)
    | none => match attic with
      | some s => some (s.data, s.pi)
      | none => match nsOf m nsid with
        | some n => if lbaWritten m n lba then (mediaSector m n lba).map (fun (p : Payload) => (p.data, p.info.pi)) else none
        | none => none
  match stored with
  | some x => (recoverSector m nsid lba x.1, x.2)
  | none => (0, 0)

/-- Put a plaintext sector into the cache as dirty data; none when there is no room for it (R730, R890). -/
def putPlain (nsid lba : Nat) (d : Sector × BitVec 128) (m : Mach) : Option Mach :=
  if budget m ≤ dirtyCount m then none else enterSector nsid lba ⟨protectSector m nsid lba d.1, d.2, m.sch.now⟩ m

/-! ### Writes to data columns (R890 to R894) -/

/-- The rows of protected data that LBAs of a namespace touch: group, column, row. -/
def rowsOf (m : Mach) (nsid lba n : Nat) : List (BitVec 32 × Nat × Nat) :=
  nubList ((List.range n).filterMap (fun i => (dataCol m nsid (lba + i)).map (fun x => (x.1.gid, x.2.1, x.2.2 / rowLbas))))

/-- The parity columns of a row that take updates (R890, R894). -/
def Group_.upParity (g : Group_) (row : Nat) : List Nat :=
  ((List.range g.m).map (g.k + ·)).filter (fun c => g.stAt c (row / 1024) == .up)

/-- The update of one sector goes to every parity column of its extent that is UP; this module's write waits for each (R890, R891). -/
def sendDelta (c : NvCmd) (nsid lba : Nat) (new : Sector × BitVec 128) (m : Mach) : Mach := match dataCol m nsid lba with
  | none => m
  | some (g, col, l) =>
    let delta := xorSector (plainOf m nsid lba) new
    (g.upParity (l / rowLbas)).foldl (fun m p =>
      let dst := g.holderAt p l
      match peerOf m dst with
      | none => m
      | some q => sendZ dst (.parity g.gid col l [delta]) (some c) (onCtx c (fun x => { x with left := x.left ++ [zgpMark dst q.next] }) m)) m

/-- A write must wait before step 1 of R890: an earlier write of the same row has not entered the cache (R892), or the send log would exceed
2 MiB of Δ (R893). `before` are the writes that wait ahead of it. -/
def writeWaits (m : Mach) (before : List NvCmd) (c : NvCmd) (nsid lba n : Nat) : Bool :=
  let rows := rowsOf m nsid lba n
  let spanOf := fun (x : IoCmd) => match x with
    | .write a b _ _ d => some (a, b, d.length)
    | .writeZeroes a b k _ => some (a, b, k)
    | _ => none
  let meets := fun (q : NvCmd) => match (ctxOf m q).bind (fun x => x.cmd.bind spanOf) with
    | some (a, b, k) => (rowsOf m a b k).any (fun r => rows.contains r)
    | none => false
  !rows.isEmpty
    && (before.any meets
      || m.fe.ctxs.any (fun x => x.id != c && x.status.isNone && !x.secs.isEmpty && m.bcm.writeWait.contains x.id && meets x.id)
      || decide (512 < deltaLog m (fun _ => true) + n))

/-! ### Restoring rows (R900 to R902) -/

/-- The columns from which a row of a column can be restored: for a parity column the data columns, otherwise any that are UP. -/
def rowSources (m : Mach) (g : Group_) (col row : Nat) : List Nat :=
  let up := fun c => c != col && g.stAt c (row / 1024) == .up && !(peerOf m (g.holderAt c (row * rowLbas))).any (fun p => p.down)
  let all := (List.range (if col < g.k then g.n else g.k)).filter up
  if all.length < g.k then [] else all.take g.k

/-- The LBAs of a row that a rebuild restores. -/
def Rebuild.lbasOf (r : Rebuild) (row : Nat) : List Nat :=
  ((List.range rowLbas).map (row * rowLbas + ·)).filter (fun l => match r.lbas with
    | some (a, n) => decide (a ≤ l) && decide (l < a + n)
    | none => true)

/-- The sector of a source column, when it is at hand. -/
def Rebuild.source (r : Rebuild) (m : Mach) (g : Group_) (c lba : Nat) : Option (Sector × BitVec 128) :=
  if g.holderAt c lba == m.dsv.module then (let p := g.place c lba; some (plainOf m p.1 p.2))
  else (r.got.find? (fun x => x.1 == c && x.2.1 == lba)).map (fun x => x.2.2)

/-- A sector restored from its sources. -/
def restoreSector (g : Group_) (col : Nat) (srcs : List Nat) (xs : List (Sector × BitVec 128)) : Sector × BitVec 128 :=
  ((gfSolve g.k g.m srcs col).zip xs).foldl (fun acc x => xorSector acc (gfSector x.1 x.2)) (0, 0)

/-- Write restored sectors where this module holds the column, as far as there is room: how many stand. -/
def putRow (g : Group_) (col : Nat) : List (Nat × Sector × BitVec 128) → Nat → Mach → Mach × Nat
  | [], n, m => (m, n)
  | (l, d) :: r, n, m =>
    let p := g.place col l
    match putPlain p.1 p.2 d m with
    | none => (askSet (setOf (p.1 - 1) (p.2 / 8)) m, n)
    | some m => putRow g col r (n + 1) m

/-- The entry of an extent moves on with a row of a rebuild: the watermark rises, the last row makes it UP (R900, R902). -/
def rowRestored (r : Rebuild) (col row : Nat) (m : Mach) : Mach × Rebuild :=
  let r := { r with rows := r.rows.drop 1, asked := [], got := [], put := 0 }
  let e := row / 1024
  if r.lbas.isSome then (m, r)
  else if r.req.isNone then ({ m with dsv.rowsDone := m.dsv.rowsDone ++ [(r.gid, col, row)] }, r)
  else if row % 1024 = 1023 then
    let up := fun (g : Group_) => g.edit col e 1 (fun s => { s with st := .up, mark := 0 })
    let o := (groupOf m r.gid).map (fun g => { g.entry col e with st := .up, first := e, count := 1, mark := 0, hext := (g.entry col e).hext + (e - (g.entry col e).first) })
    let m := changeGroup r.gid up o.toList m
    ({ m with dsv.rowsDone := m.dsv.rowsDone.filter (fun x => !(x.1 == r.gid && x.2.1 == col && x.2.2 / 1024 == e)) }, { r with done := r.done + 1 })
  else
    (match groupOf m r.gid with
      | some g => { m with dsv.groups := m.dsv.groups.map (fun x => if x.gid == g.gid then g.edit col e 1 (fun s => { s with mark := row % 1024 + 1 }) else x) }
      | none => m, r)

/-- A rebuild of an extent begins with its first row: the entry is REBUILDING (R900). -/
def enterExtent (r : Rebuild) (col row : Nat) (m : Mach) : Mach := match groupOf m r.gid with
  | none => m
  | some g =>
    let e := row / 1024
    if r.req.isNone || r.lbas.isSome || g.stAt col e == .rebuilding then m
    else
      let o := { g.entry col e with st := .rebuilding, first := e, count := 1, mark := 0, hext := (g.entry col e).hext + (e - (g.entry col e).first) }
      changeGroup r.gid (fun g => g.take o) [o] m

/-- Fewer than k columns are left for a row (R902): the rebuild stops. -/
def rebuildStop (r : Rebuild) (row : Nat) (m : Mach) : Mach := match r.req with
  | none => m
  | some h =>
    let i := ((groupOf m r.gid).map (fun g => g.index)).getD 0
    reply h stHwFault 0 [] (report 0x1145 nowhere (leBytes 1 i ++ leBytes 4 row) m)

/-- One step of a rebuild: the rebuild as it then stands, none when it has ended or stopped, and whether it moved on to a further row. -/
def rebuildStep (r : Rebuild) (m : Mach) : Mach × Option Rebuild × Bool :=
  match groupOf m r.gid, r.rows with
  | none, _ => (rebuildStop r 0 m, none, false)
  | some _, [] => (m, if r.req.isNone then none else some r, false)
  | some g, (col, row) :: _ =>
    let srcs := rowSources m g col row
    if srcs.isEmpty then (rebuildStop r row m, none, false)
    else
      let ask := srcs.filter (fun c => g.holderAt c (row * rowLbas) != m.dsv.module && !r.asked.contains c)
      let m := ask.foldl (fun m c => sendZ (g.holderAt c (row * rowLbas)) (.reconRead g.gid c row) none m) m
      let r := { r with asked := r.asked ++ ask }
      let lbas := r.lbasOf row
      let secs := lbas.filterMap (fun l =>
        let xs := srcs.filterMap (fun c => r.source m g c l)
        if xs.length = srcs.length then some (l, restoreSector g col srcs xs) else none)
      if secs.length < lbas.length then (m, some r, false)
      else
        let m := if r.put = 0 then enterExtent r col row m else m
        let g := (groupOf m r.gid).getD g
        let dst := g.holderAt col (row * rowLbas)
        if dst == m.dsv.module then
          let w := putRow g col (secs.drop r.put) r.put m
          if w.2 < lbas.length then (w.1, some { r with put := w.2 }, false)
          else let x := rowRestored r col row w.1
            (x.1, some x.2, true)
        else if r.put < lbas.length then
          (secs.foldl (fun m s => sendZ dst (.reconData g.gid col s.1 [s.2]) none m) m, some { r with put := lbas.length }, false)
        else if m.dsv.log.any (fun l => match l.msg with
            | .reconData i c x _ => i == g.gid && c == col && x / rowLbas == row
            | _ => false) then (m, some r, false)
        else let x := rowRestored r col row m
          (x.1, some x.2, true)

/-- Run one rebuild as far as it goes, over at most `f` rows. -/
def rebuildRun : Nat → Rebuild → Mach → Mach × Option Rebuild
  | 0, r, m => (m, some r)
  | f + 1, r, m => match rebuildStep r m with
    | (m, some r, true) => rebuildRun f r m
    | (m, r, _) => (m, r)

/-- Every rebuild goes on (R900). -/
def rebuildKick (m : Mach) : Mach :=
  m.dsv.rebuilds.foldl (fun m r =>
    let x := rebuildRun (r.rows.length + 1) r m
    { x.1 with dsv.rebuilds := x.1.dsv.rebuilds.flatMap (fun y => if y.req == r.req && y.gid == r.gid && y.rows == r.rows then x.2.toList else [y]) }) m

/-- The rows of an extent REBUILDING at this module that LBAs of a namespace touch and that are not yet restored (R894, R901). -/
def rowsMissing (m : Mach) (nsid lba n : Nat) : List (BitVec 32 × Nat × Nat) :=
  (rowsOf m nsid lba n).filter (fun x => match groupOf m x.1 with
    | some g =>
      let o := g.entry x.2.1 (x.2.2 / 1024)
      o.st == .rebuilding && !m.dsv.rowsDone.contains x && decide ((if o.first = x.2.2 / 1024 then o.mark else 0) ≤ x.2.2 % 1024)
    | none => false)

/-- A row that cannot be restored now (R902). -/
def rowLost (m : Mach) (x : BitVec 32 × Nat × Nat) : Bool := match groupOf m x.1 with
  | some g => (rowSources m g x.2.1 x.2.2).isEmpty
  | none => false

/-- Ask for rows that a host command needs, each once. -/
def askRows (xs : List (BitVec 32 × Nat × Nat)) (m : Mach) : Mach := xs.foldl (fun m x =>
  if m.dsv.rebuilds.any (fun r => r.gid == x.1 && r.rows == [(x.2.1, x.2.2)]) then m
  else { m with dsv.rebuilds := m.dsv.rebuilds ++ [{ req := none, gid := x.1, rows := [(x.2.1, x.2.2)], lbas := none }] }) m

end Sys2Proof.Machine
end

