-- ==== Sys2Proof/Machine/OpsNvme.lean ====
section
/-! DEFINITION. Shared operations of NVMe commands: contexts (spec/16 R820 to R826), checks at decode (R1038, spec/17 R861), zones (spec/12 R620
to R635), streams and speculation (spec/13 R675 to R683), aborts (R684 to R689), and the release of held commands (spec/04 R229). -/

namespace Sys2Proof.Machine

/-! ### Contexts -/

/-- Contexts for I/O commands: all but admin ones and service requests (Table 16-4). -/
def ioUsed (m : Mach) : Nat := (m.fe.ctxs.filter (fun x => !x.admin)).length
/-- The controller of a command. -/
def ctrlOf (m : Mach) (c : NvCmd) : Option Ctrlr := m.fe.ctrls.find? (fun x => x.cntlid == c.cntlid && decide (x.port = c.port))

/-- Change a controller. -/
def onCtrl (p : Act) (id : BitVec 16) (f : Ctrlr → Ctrlr) (m : Mach) : Mach :=
  { m with fe.ctrls := m.fe.ctrls.map (fun x => if x.cntlid == id && decide (x.port = p) then f x else x) }

/-- The class of a submission queue (Table 13-1): with round robin every queue is MEDIUM. -/
def queueCls (m : Mach) (c : NvCmd) : Nat := match ctrlOf m c with
  | some k => ((k.queues.find? (fun q => !q.cq && q.qid == c.sqid)).map (fun q => q.prio.cls)).getD 2
  | none => 2

/-- The port unit fetches from a submission queue that exists, of an enabled controller that takes commands, over a link that is up; not while
power is lost (R821, R849, spec/04 R246). -/
def mayFetch (m : Mach) (c : NvCmd) : Bool :=
  !frozen m && (m.prt.get c.port).up && m.sup.ctrlReady && (match ctrlOf m c with
    | some k => k.rdy && !k.shutDone && !k.shutting && (c.sqid == 0 || k.queues.any (fun q => !q.cq && q.qid == c.sqid))
    | none => false)

/-- Fetch a submission entry into a context (R821): with none of the needed kind free the port holds its fetching and counts it. In a takeover the
port holds the doorbell or capsule, and fetches after it (R833). -/
def fetch (c : NvCmd) (m : Mach) : Mach :=
  let admin := c.sqid == 0
  if !mayFetch m c || (ctxOf m c).isSome then m
  else if m.fe.tko.isSome then
    { m with prt := m.prt.upd c.port (fun p => if p.heldCmds.contains c then p else { p with heldCmds := p.heldCmds ++ [c] }) }
  else if (if admin then decide (64 ≤ rsvUsed m) else decide (3072 ≤ ioUsed m)) then
    { m with prt := m.prt.upd c.port (fun p => { p with held := true }), fe.ctxFull := m.fe.ctxFull.inc }
  else
    { m with fe.ctxs := m.fe.ctxs ++ [{ id := c, admin := admin, arrival := BitVec.ofNat 32 m.sch.now, cls := queueCls m c : Ctx }]
             prt := m.prt.upd c.port (fun p => { p with held := false }) }

/-- The engine may decode: it runs, posts, and is in no takeover (R833, R837). -/
def engineUp (m : Mach) : Bool := m.fe.posting && m.fe.tko.isNone

/-- A context that the engine may decode: fetched and not yet decoded. -/
def fresh (m : Mach) (c : NvCmd) : Bool := match ctxOf m c with
  | some x => engineUp m && x.phase == .fetched && !x.aborting
  | none => false

/-- A command row begins: its entry is fetched when it has not been, and decoded by the active engine. -/
def begin (c : NvCmd) (f : Mach → Mach) (m : Mach) : Mach :=
  let m := if (ctxOf m c).isNone then fetch c m else m
  if fresh m c then f (onCtx c (fun x => { x with phase := .decoded }) m) else m

/-- Give a context result bytes and Dwords, and finish it. -/
def finishWith (c : NvCmd) (dw : Nat) (bytes : List Byte) (m : Mach) : Mach :=
  finish c .success (onCtx c (fun x => { x with dw := BitVec.ofNat 64 dw, bytes := bytes }) m)

/-- A change of persistent state and its result become final together (R835). -/
def commitCtx (c : NvCmd) (m : Mach) : Mach := onCtx c (fun x => { x with committed := true }) m

/-- The host of a controller. -/
def hostOf (m : Mach) (c : NvCmd) : BitVec 128 := ((ctrlOf m c).map (fun k => k.host)).getD 0

/-! ### Modes -/

/-- A media command wakes the module, takes a transition to IDLE_FLY on to ACTIVE, or reverses a transition to parked heads (Table 4-2, R207,
R208). -/
def wake (m : Mach) : Mach :=
  let m := if m.sup.nvmePs.toNat < 2 || m.sup.apstEn then m else psTo m.sup.lastOpPs m
  let park := m.sup.trans && (m.sup.target == .idleReady || m.sup.target == .idleLow || m.sup.target == .safe)
  let m := ifDo park (fun m => { abortModes m with sup.tail := false }) m
  match m.sup.mode with
  | .idleFly => if park then beginMode .active 3 m else if m.sup.trans then m else changeMode .active 1 m
  | .idleLow | .idleReady => if !m.sup.trans || park || m.sup.target == .idleFly then beginMode .active 3 m else m
  | .active => if park then beginMode .active 3 m else m
  | _ => m

/-- Why an I/O command completes at once (R232, R235, R241, R246, R247). -/
def ioBarred (m : Mach) : Option NvSt :=
  match m.sup.mode with
  | .safe => some .namespaceNotReadyDnr
  | .service => some .namespaceNotReady
  | _ =>
    if m.sup.foreign || (m.sup.shut != .none && m.sup.shut != .complete && m.sup.shut != .completeVaulted) || frozen m then some .namespaceNotReady
    else if m.sup.trans && m.sup.target == .standby then some .namespaceNotReady
    else none

/-! ### What a command touches -/

/-- NSID, first LBA, LBAs, whether it writes, whether it transfers data with the host. -/
def ioSpan : IoCmd → Nat × Nat × Nat × Bool × Bool
  | .read n l c _ => (n, l, c, false, true)
  | .write n l c _ _ => (n, l, c, true, true)
  | .append n l c _ _ => (n, l, c, true, true)
  | .writeZeroes n l c _ => (n, l, c, true, false)
  | .compare n l c _ _ => (n, l, c, false, true)
  | .verify n l c _ => (n, l, c, false, false)
  | .deallocate n rs => (n, (rs.headD (0, 0)).1, 0, true, false)
  | .zoneOpen n l _ => (n, l, 0, true, false)
  | .zoneClose n l _ => (n, l, 0, true, false)
  | .zoneFinish n l _ => (n, l, 0, true, false)
  | .zoneReset n l _ => (n, l, 0, true, false)
  | .zoneReport n l => (n, l, 0, false, false)
  | .flush n => (n, 0, 0, false, false)

/-- Every range that a command names. -/
def ioRanges : IoCmd → List (Nat × Nat)
  | .deallocate _ rs => rs
  | .flush _ => []
  | x => [((ioSpan x).2.1, (ioSpan x).2.2.1)]

/-- A Zone Management Send, Deallocate or other write is barred by a write lock, a read by a read lock (R861). -/
def lockBars (m : Mach) (x : IoCmd) : Bool :=
  match x with
  | .flush _ | .zoneReport _ _ => m.dsv.keysBad
  | .zoneOpen n l all | .zoneClose n l all | .zoneFinish n l all | .zoneReset n l all =>
    denied m n (if all then 0 else l) (if all then ((nsOf m n).map (fun y => y.size)).getD 0 else 65536) true
  | _ => (ioRanges x).any (fun r => denied m (ioSpan x).1 r.1 r.2 (ioSpan x).2.2.2.1)

/-- A reservation bars a command of a host (Table 16-2; the access rules of NVMe Base 2.0, log entry 49). -/
def resvBars (m : Mach) (c : NvCmd) (x : IoCmd) : Bool :=
  match (m.fe.resv.find? (fun e => e.1 == (ioSpan x).1)).map (fun (e : Nat × Resv) => e.2) with
  | none => false
  | some r => match r.held with
    | none => false
    | some (holder, ty) =>
      let me := hostOf m c
      let reg := r.regs.any (fun e => e.1 == me)
      let mine := if ty = 5 || ty = 6 then reg else holder == me
      let write := match x with
        | .flush _ => true
        | _ => (ioSpan x).2.2.2.1
      if mine then false
      else if ty = 1 then write
      else if ty = 2 then true
      else if ty = 3 || ty = 5 then write && !reg
      else !reg

/-- LBAs after which a namespace's LBAs change the actuator (R618). -/
def actStride : NsKind → Nat
  | .zoned => 65536
  | _ => 512

/-- An actuator holds some of `cnt` LBAs from a first one: past the next change both do. -/
def spanOn (n : Ns) (lba cnt : Nat) (a : Act) : Bool :=
  decide (lbaAct n.kind lba = a) || decide ((lba / actStride n.kind + 1) * actStride n.kind < lba + cnt)

/-- A command is about the whole namespace: a Flush, or a Zone Management Send with Select All. -/
def ioWhole : IoCmd → Bool
  | .flush _ | .zoneOpen _ _ true | .zoneClose _ _ true | .zoneFinish _ _ true | .zoneReset _ _ true => true
  | _ => false

/-- The actuators that a command touches: those of every LBA of its ranges, or of the whole namespace. -/
def actsOf (n : Ns) (x : IoCmd) : List Act := [Act.a0, .a1].filter (fun a =>
  if ioWhole x then spanOn n 0 n.size a else (ioRanges x).any (fun r => spanOn n r.1 r.2 a))

/-- An actuator serves the media (R228, R231): it is media-ready, or its heads fly and forced calibrations of some heads are still to end. -/
def actServes (m : Mach) (a : Act) : Bool := m.sup.actReady.get a || flying m a

/-- A command waits for media ready (R229, R231): an actuator that it touches does not serve, or a head that holds its sectors waits for its
forced calibrations. -/
def mediaWaits (m : Mach) (n : Ns) (x : IoCmd) : Bool :=
  (actsOf n x).any (fun a => !actServes m a)
    || (ioRanges x).any (fun r => (List.range r.2).any (fun i => headForced m n (r.1 + i)))
where
  /-- the head of an LBA waits for forced calibrations -/
  headForced (m : Mach) (n : Ns) (lba : Nat) : Bool := match lbaPhys m n lba with
    | some p => (List.range 5).any (fun k => k != 3 && m.cal.forced.contains (calKey k (dhOf (lbaAct n.kind lba) p.head)))
    | none => false

/-- What fails at decode, in order (spec/12 R610, R1038, spec/17 R861, R869). -/
def ioFails (m : Mach) (c : NvCmd) (x : IoCmd) : Option NvSt :=
  let (nsid, lba, cnt, write, moves) := (ioSpan x)
  match nsOf m nsid with
  | none => some .invalidNamespace
  | some n =>
    if !(n.att.get c.port) then some .invalidNamespace
    else
      let zoned := decide (n.kind = NsKind.zoned)
      let bad := match x with
        | .append _ _ _ _ _ | .zoneOpen _ _ _ | .zoneClose _ _ _ | .zoneFinish _ _ _ | .zoneReset _ _ _ | .zoneReport _ _ => !zoned
        | _ => false
      let misZone := match x with
        | .append _ l _ _ _ => l % 65536 != 0
        | .zoneOpen _ l al => !al && l % 65536 != 0
        | .zoneClose _ l al => !al && l % 65536 != 0
        | .zoneFinish _ l al => !al && l % 65536 != 0
        | .zoneReset _ l al => !al && l % 65536 != 0
        | _ => false
      let all := match x with
        | .zoneOpen _ _ al => al
        | .zoneClose _ _ al => al
        | .zoneFinish _ _ al => al
        | .zoneReset _ _ al => al
        | _ => false
      if bad then some .invalidField
      else if !all && (ioRanges x).any (fun r => decide (n.size < r.1 + r.2) || (decide (r.2 = 0) && decide (n.size ≤ r.1))) then some .lbaOutOfRange
      else if misZone || (moves && decide (256 < cnt)) then some .invalidField
      else if resvBars m c x then some .reservationConflict
      else if lockBars m x then some .accessDenied
      else match x with
        | .write _ _ _ p d => if p.pract then none else piFirst n p 0 d
        | .append _ _ _ p d => if p.pract then none else piFirst n p 0 d
        | .read nsid l k _ => match ctrlOf m c with
          | some q => if q.dulbe.contains nsid && (List.range k).any (fun i => !lbaWritten m n (l + i) && (cacheSec m nsid (l + i)).isNone) then some .deallocated else none
          | none => none
        | _ => if write && lba > n.size then some .lbaOutOfRange else none

/-! ### Streams (R675 to R677) -/

/-- The streams with room for one more on an actuator: the least recently continued of sixteen goes (R676, R677). -/
def streamRoom (a : Act) (l : List Stream) : List Stream :=
  let mine := l.filter (fun t => decide (t.act = a))
  if mine.length < 16 then l
  else match leastBy (fun (t : Stream) => t.order) mine with
    | some old => l.erase old
    | none => l

/-- A host request continues its stream, which moves to the request's actuator, or opens one (R675 to R677). -/
def noteStream (nsid : Nat) (write : Bool) (lba cnt : Nat) (a : Act) (m : Mach) : Mach :=
  let hit := fun (t : Stream) => t.nsid == nsid && t.write == write && decide (t.next ≤ lba) && decide (lba ≤ t.next + streamGap m)
  let m := { m with sch.streamOrder := m.sch.streamOrder + 1 }
  match m.sch.streams.find? hit with
  | some t =>
    let rest := m.sch.streams.erase t
    let rest := if t.act = a then rest else streamRoom a rest
    { m with sch.streams := rest ++ [{ t with next := lba + cnt, count := t.count + 1, order := m.sch.streamOrder, act := a }] }
  | none => { m with sch.streams := streamRoom a m.sch.streams ++ [⟨nsid, write, lba, lba + cnt, 0, m.sch.streamOrder, a⟩] }

/-! ### Zones -/

/-- The actuator and key of a zone. -/
def zoneAct (z : Nat) : Act := Act.ofNum z

/-- Active, and open, zones on an actuator (R620). -/
def activeCount (m : Mach) (a : Act) : Nat := (zonesWith m a ZoneSt.isActive).length
/-- Open zones. -/
def openCount (m : Mach) (a : Act) : Nat := (zonesWith m a ZoneSt.isOpen).length

/-- A zone takes a resource (R621, R622): one more active zone when it is Empty, an open place otherwise, for which the implicitly opened
zone with the oldest last write closes. -/
def zoneAdmit (nsid z : Nat) (m : Mach) : Mach × Option NvSt :=
  let a := zoneAct z
  let st := (zoneOf m nsid z).st
  if st.isOpen then (m, none)
  else if st == .empty && decide (128 ≤ activeCount m a) then (m, some .tooManyActiveZones)
  else if openCount m a < 128 then (m, none)
  else match leastBy (fun (e : Nat × Zone) => e.2.order) ((zonesWith m a ZoneSt.isOpen).filter (fun e => e.2.st == .impOpen)) with
    | some e => (onZoneDo (e.1 / 2 ^ 20) (e.1 % 2 ^ 20) (fun x => { x with st := .closed }) m, none)
    | none => (m, some .tooManyOpenZones)

/-- The checks of a write or an append when the zone manager takes it (R624). -/
def zoneWriteFails (z : Zone) (append : Bool) (off cnt : Nat) : Option NvSt :=
  if z.st == .readOnly then some .zoneReadOnly
  else if z.st == .offline then some .zoneOffline
  else if z.st == .full then some .zoneFull
  else if !append && off != z.wp then some .zoneInvalidWrite
  else if 65536 < (if append then z.wp else off) + cnt then some .zoneBoundary
  else none

/-- The sectors of a writing command enter DSV (R851, R867, R890): the updates of protected columns go out, the sectors are encrypted. -/
def stageNow (c : NvCmd) (n : Ns) (lba : Nat) (p : Prot) (data : List (Sector × BitVec 128)) (m : Mach) : Mach :=
  let cells := data.zipIdx.map (fun q => (lba + q.2, q.1.1, piStore n p q.2 q.1.1 q.1.2))
  let m := onCtx c (fun x => { x with phase := .data, secs := [], left := [] }) m
  let m := cells.foldl (fun m q => sendDelta c n.nsid q.1 q.2 m) m
  let secs := cells.map (fun q => (q.1, (⟨protectSector m n.nsid q.1 q.2.1, q.2.2, 0⟩ : CSec)))
  if secs.isEmpty then finish c .success m else pump (onCtx c (fun x => { x with secs := secs }) { m with bcm.writeWait := m.bcm.writeWait ++ [c] })

/-- The sectors of a writing command from a first LBA: a write of a protected column may have to wait first (R892, R893). -/
def stageWrite (c : NvCmd) (nsid lba : Nat) (p : Prot) (data : List (Sector × BitVec 128)) (m : Mach) : Mach :=
  match nsOf m nsid with
  | none => m
  | some n => if writeWaits m m.dsv.waiting c nsid lba data.length then { m with dsv.waiting := m.dsv.waiting ++ [c] } else stageNow c n lba p data m

/-- Data of a command that writes; zeros for Write Zeroes. -/
def ioPayload : IoCmd → Option (Prot × List (Sector × BitVec 128))
  | .write _ _ _ p d => some (p, d)
  | .append _ _ _ p d => some (p, d)
  | .writeZeroes _ _ c p => some ({ p with pract := true }, List.replicate c (0, 0))
  | _ => none

/-- Stop the writes of sectors that are invalidated (R741): their descriptors leave the queue, an operation in flight that holds one is
stopped. -/
def stopWrites (nsid : Nat) (inside : Nat → Bool) (a : Act) (m : Mach) : Mach :=
  let hit := fun (d : Desc) => match d.use with
    | .destage n l _ _ => n == nsid && inside l
    | .verify n l _ _ => n == nsid && inside l
    | _ => false
  let cut := fun (es : List Entry) => es.filterMap (fun e => let ds := e.descs.filter (fun d => !hit d); if ds.isEmpty && !e.descs.isEmpty then none else some { e with descs := ds })
  let fly := (m.sch.act.get a).flight.any (fun e => e.descs.any hit)
  let box := (m.sch.act.get a).box.any (fun e => e.descs.any hit)
  let m := if box then withdraw a m else m
  let m := onSch a (fun x => { x with queue := cut x.queue, incoming := cut x.incoming }) m
  let m := { m with zmg.verify := m.zmg.verify.filterMap (fun t => let ds := t.descs.filter (fun d => !hit d); if ds.isEmpty then none else some { t with descs := ds }) }
  let m := if fly then cfxAbort a m else m
  if box then placeNext a m else m

/-- Invalidate the LBAs of a namespace that satisfy a condition (R740 to R743): the number of locked lines touched, and the machine. -/
def invalidate (nsid : Nat) (inside : Nat → Bool) (m : Mach) : Mach × Nat :=
  let locked := lockedHit m nsid inside
  let m := stopWrites nsid inside .a1 (stopWrites nsid inside .a0 m)
  let m := (linesIn m nsid inside).foldl (fun m p => invalLine (nsid - 1) p.1 p.2 m) m
  let m := { m with zmg.pins := m.zmg.pins.filter (fun p => !(p.1 == nsid && inside p.2)) }
  (drainCheck m, locked)

/-- Reset one zone (R628): its lines go, the pointer returns, it is Empty, the reset count rises, its LBAs leave the pending list (R651). -/
def resetZone (nsid z : Nat) (m : Mach) : Mach × Nat :=
  let r := invalidate nsid (fun b => b / 65536 == z) m
  let m := onZoneDo nsid z (fun x => { x with st := .empty, wp := 0, zrc := bump32 x.zrc, spares := [] }) r.1
  let m := pendLeave (fun x => x.1 == nsid && x.2 / 65536 == z) m
  let m := match nsOf m nsid with
    | some n => match (n.bands.get (zoneAct z))[z / 2]? with
      | some p => { m with zmg.maps.front := assocSet 0 m.zmg.maps.front (bandKey (zoneAct z) (standIn m (zoneAct z) p)) 0 }
      | none => m
    | none => m
  (saveMaps m, r.2)

/-- A zone action on one zone (R621, R622, R628, R629, R631): its status, and locked lines invalidated. -/
def zoneAction (x : IoCmd) (nsid z : Nat) (m : Mach) : Mach × NvSt × Nat :=
  let st := (zoneOf m nsid z).st
  if st == .readOnly || st == .offline then (m, .zoneInvalidTransition, 0)
  else match x with
    | .zoneOpen _ _ _ =>
      if st == .full then (m, .zoneInvalidTransition, 0)
      else match zoneAdmit nsid z m with
        | (m, some e) => (m, e, 0)
        | (m, none) => (onZoneDo nsid z (fun x => { x with st := .expOpen }) m, .success, 0)
    | .zoneClose _ _ _ =>
      if st.isActive then (onZoneDo nsid z (fun x => { x with st := .closed }) m, .success, 0) else (m, .zoneInvalidTransition, 0)
    | .zoneFinish _ _ _ =>
      let m := onZoneDo nsid z (fun x => { x with st := .full }) m
      let m := match nsOf m nsid with
        | some n => judgeVerify (spareWrites (zoneAct z) n z m)
        | none => m
      (saveMaps m, .success, 0)
    | .zoneReset _ _ _ => let r := resetZone nsid z m
      (r.1, .success, r.2)
    | _ => (m, .invalidField, 0)

/-- The states that Select All acts on (ZNS command set, log entry 49). -/
def allSelects (x : IoCmd) (st : ZoneSt) : Bool := match x with
  | .zoneOpen _ _ _ => st == .closed
  | .zoneClose _ _ _ => st.isOpen
  | .zoneFinish _ _ _ => st.isActive
  | .zoneReset _ _ _ => st.isActive || st == .full
  | _ => false

/-- A Zone Management Send with Select All. -/
def ioAll : IoCmd → Bool
  | .zoneOpen _ _ a => a
  | .zoneClose _ _ a => a
  | .zoneFinish _ _ a => a
  | .zoneReset _ _ a => a
  | _ => false

/-- The zone manager takes a command for a zone (R623, R624). -/
def zoneTake (c : NvCmd) (z : Nat) (m : Mach) : Mach :=
  match ctxOf m c with
  | none => m
  | some x => if x.status.isSome then m else match x.cmd with
    | none => m
    | some io =>
      let nsid := (ioSpan io).1
      let zn := zoneOf m nsid z
      match (ioPayload io) with
      | some (p, d) =>
        let app := match io with
          | .append _ _ _ _ _ => true
          | _ => false
        let off := (ioSpan io).2.1 % 65536
        match zoneWriteFails zn app off (ioSpan io).2.2.1 with
        | some st => finish c st m
        | none => match zoneAdmit nsid z m with
          | (m, some st) => finish c st m
          | (m, none) =>
            let m := onZoneDo nsid z (fun q => { q with st := if q.st.isOpen then q.st else .impOpen }) m
            let base := 65536 * z + (if app then zn.wp else off)
            let m := if app then noteStream nsid true base (ioSpan io).2.2.1 (zoneAct z) m else m
            stageWrite c nsid base p d (onCtx c (fun y => { y with dw := if app then BitVec.ofNat 64 base else 0 }) m)
      | none =>
        if (ioAll io) then
          let r := if allSelects io zn.st then zoneAction io nsid z m else (m, .success, 0)
          let m := onCtx c (fun y => { y with left := y.left.filter (· != z), dw := y.dw + BitVec.ofNat 64 r.2.2 }) r.1
          if r.2.1 != NvSt.success then finish c r.2.1 m
          else match ctxOf m c with
            | some y => if y.left.isEmpty then finish c .success m else m
            | none => m
        else
          let r := zoneAction io nsid z m
          finish c r.2.1 (onCtx c (fun y => { y with dw := BitVec.ofNat 64 r.2.2 }) r.1)

/-- Commands whose zone work has ended free their zone: those that have their result, or whose context is gone, and Select All commands at
once for each zone (R623). -/
def zoneFree (m : Mach) : Mach :=
  let busy := fun (e : Nat × NvCmd) => match ctxOf m e.2 with
    | some x => x.status.isNone && !((x.cmd.map (fun q => (ioAll q))).getD false)
    | none => false
  { m with zmg.zoneBusy := m.zmg.zoneBusy.filter busy, zmg.zoneQ := m.zmg.zoneQ.filter (fun e => match ctxOf m e.2 with
      | some x => x.status.isNone
      | none => false) }

/-- Take every waiting command whose zone is free, in order (R623). -/
def zonePump : Nat → Mach → Mach
  | 0, m => m
  | f + 1, m =>
    let m := zoneFree m
    match m.zmg.zoneQ.find? (fun e => !m.zmg.zoneBusy.any (fun b => b.1 == e.1)
        && (m.zmg.zoneQ.find? (fun q => q.1 == e.1)) == some e) with
    | none => m
    | some e =>
      zonePump f (zoneTake e.2 (e.1 % 2 ^ 20) { m with zmg.zoneQ := m.zmg.zoneQ.erase e, zmg.zoneBusy := m.zmg.zoneBusy ++ [e] })

/-- Take what can be taken. -/
def zoneRun (m : Mach) : Mach := zoneFree (zonePump (m.zmg.zoneQ.length + 1) m)

/-- Writes of protected columns that may go on, in the order accepted (R892, R893): `before` wait ahead of the rest. -/
def zgpKick : List NvCmd → List NvCmd → Mach → Mach
  | _, [], m => m
  | before, c :: cs, m =>
    match (ctxOf m c).bind (fun x => if x.status.isSome then none else x.cmd) with
    | none => zgpKick before cs { m with dsv.waiting := m.dsv.waiting.filter (· != c) }
    | some io => match ioPayload io, nsOf m (ioSpan io).1 with
      | some (p, d), some n =>
        if writeWaits m before c n.nsid (ioSpan io).2.1 d.length then zgpKick (before ++ [c]) cs m
        else zgpKick before cs (stageNow c n (ioSpan io).2.1 p d { m with dsv.waiting := m.dsv.waiting.filter (· != c) })
      | _, _ => zgpKick before cs { m with dsv.waiting := m.dsv.waiting.filter (· != c) }

/-- What follows any change that can end a command: rebuilds and writes move on, zones are taken (R623, R731, R892, R900). -/
def flow (m : Mach) : Mach :=
  let m := pump (rebuildKick m)
  zoneRun (zgpKick [] m.dsv.waiting m)

/-! ### Running a command -/

/-- Sectors are deallocated (R635, R740, R743): invalidated; a MANAGED LBA loses its live location. The locked lines touched are counted. -/
def dropSectors (n : Ns) (rs : List (Nat × Nat)) (m : Mach) : Mach × Nat :=
  let inside := fun b => rs.any (fun r => decide (r.1 ≤ b) && decide (b < r.1 + r.2))
  let r := invalidate n.nsid inside m
  (if n.kind = .managed then
      saveMaps (rs.foldl (fun m q => (List.range q.2).foldl (fun m i =>
        let b := q.1 + i
        if (livePlace m n b).isSome then onMan n.nsid (lbaAct n.kind b) (fun x => { x with live := setLive b (some .dead) x.live }) m else m) m) r.1)
    else r.1, r.2)

/-- Deallocate (R635, R740, R743). -/
def deallocate (c : NvCmd) (n : Ns) (rs : List (Nat × Nat)) (m : Mach) : Mach :=
  let r := dropSectors n rs m
  finishWith c r.2 [] r.1

/-- A zone descriptor (ZNS command set): type, state, capacity, start, write pointer. -/
def zoneDesc (m : Mach) (nsid z : Nat) : List Byte :=
  let x := zoneOf m nsid z
  let code := match x.st with
    | .empty => 1
    | .impOpen => 2
    | .expOpen => 3
    | .closed => 4
    | .readOnly => 13
    | .full => 14
    | .offline => 15
  leBytes 1 2 ++ leBytes 1 (16 * code) ++ leBytes 6 0 ++ leBytes 8 65536 ++ leBytes 8 (65536 * z)
    ++ leBytes 8 (if x.st = .full then 65536 * z + 65536 else 65536 * z + x.wp) ++ List.replicate 32 0

/-- Report Zones (R619): the zones of the namespace from a zone on, at most as many as one transfer of 1 MiB holds. -/
def reportZones (c : NvCmd) (n : Ns) (lba : Nat) (m : Mach) : Mach :=
  let z0 := lba / 65536
  let cnt := n.size / 65536 - z0
  finishWith c 0 (leBytes 8 cnt ++ List.replicate 56 0 ++ ((List.range (min cnt 16383)).map (fun i => zoneDesc m n.nsid (z0 + i))).flatten) m

/-- Run a command that has passed its checks and is held by nothing. -/
def runIo (c : NvCmd) (x : IoCmd) (n : Ns) (m : Mach) : Mach :=
  let (nsid, lba, cnt, _, _) := (ioSpan x)
  let m := onCtx c (fun y => { y with heldAt := none, phase := .media }) m
  let noted := fun (write : Bool) => noteStream nsid write lba cnt (lbaAct n.kind (lba + cnt - 1)) m
  match x with
  | .read _ _ _ _ | .verify _ _ _ _ | .compare _ _ _ _ _ =>
    let m := noted false
    readTry c (onCtx c (fun y => { y with left := (List.range cnt).map (lba + ·) }) m)
  | .write _ _ _ p d =>
    let m := noted true
    if n.kind = NsKind.zoned then flow { m with zmg.zoneQ := m.zmg.zoneQ ++ [(zoneKey nsid (lba / 65536), c)] } else stageWrite c nsid lba p d m
  | .writeZeroes _ _ _ p =>
    let m := noted true
    if n.kind = NsKind.zoned then flow { m with zmg.zoneQ := m.zmg.zoneQ ++ [(zoneKey nsid (lba / 65536), c)] }
    else stageWrite c nsid lba { p with pract := true } (List.replicate cnt (0, 0)) m
  | .append _ _ _ _ _ => flow { m with zmg.zoneQ := m.zmg.zoneQ ++ [(zoneKey nsid (lba / 65536), c)] }
  | .deallocate _ rs => deallocate c n rs m
  | .zoneReport _ _ => reportZones c n lba m
  | .flush _ => finish c .success m
  | .zoneOpen _ _ al | .zoneClose _ _ al | .zoneFinish _ _ al | .zoneReset _ _ al =>
    let zs := if al then List.range (n.size / 65536) else [lba / 65536]
    let m := onCtx c (fun y => { y with left := if al then zs else [] }) m
    if zs.isEmpty then finish c .success m
    else flow { m with zmg.zoneQ := m.zmg.zoneQ ++ zs.map (fun z => (zoneKey nsid z, c)) }

/-- The locking ranges, by number, that LBAs of a namespace touch (R861). -/
def rangeNos (m : Mach) (nsid lba n : Nat) : List Nat :=
  let rs := ((List.range m.dsv.opal.ranges.length).drop 1).filter (fun i =>
    let r := m.dsv.opal.ranges.getD i {}
    r.on && r.nsid == nsid && decide (r.start < lba + n) && decide (lba < r.start + r.len))
  let cover := (rs.map (fun i => let r := m.dsv.opal.ranges.getD i {}; min (lba + n) (r.start + r.len) - max lba r.start)).sum
  if cover < n || rs.isEmpty then 0 :: rs else rs

/-- A command touches a locking range. -/
def ioInRange (m : Mach) (r : Nat) (x : IoCmd) : Bool :=
  let nsid := (ioSpan x).1
  if ioAll x then (rangeNos m nsid 0 (((nsOf m nsid).map (fun n => n.size)).getD 0)).contains r
  else match x with
    | .zoneReset _ l _ => (rangeNos m nsid l 65536).contains r
    | _ => (ioRanges x).any (fun q => (rangeNos m nsid q.1 (max q.2 1)).contains r)

/-- A command touches a range that is being erased, and is held (R864). -/
def eraseHolds (m : Mach) (x : IoCmd) : Bool :=
  m.dsv.erasing.any (fun (e : NvCmd × Nat) => m.fe.ctxs.any (fun y => y.id == e.1 && y.status.isNone) && ioInRange m e.2 x)

/-- The rows of REBUILDING extents that a command touches and that are not yet restored (R894, R901). -/
def ioRows (m : Mach) (x : IoCmd) : List (BitVec 32 × Nat × Nat) := nubList ((ioRanges x).flatMap (fun q => rowsMissing m (ioSpan x).1 q.1 q.2))

/-- A command that passed its checks is held for the media (R229), an erase (R864) or rows being restored (R894, R901), or runs; a row that
cannot be restored fails it. -/
def holdOrRun (c : NvCmd) (x : IoCmd) (n : Ns) (m : Mach) : Mach :=
  let rows := ioRows m x
  if rows.any (rowLost m) then finish c (if (ioSpan x).2.2.2.1 then .writeFault else .unrecoveredRead) m
  else if mediaWaits m n x || eraseHolds m x || !rows.isEmpty then onCtx c (fun y => { y with heldAt := y.heldAt.or (some m.sch.now) }) (askRows rows m)
  else flow (runIo c x n m)

/-- An I/O command at decode (R229, R232, R235, R241, R1038): barred, failed, held, or run. -/
def doIo (c : NvCmd) (x : IoCmd) (m : Mach) : Mach :=
  let m := onCtx c (fun y => { y with cmd := some x }) m
  match ioBarred m with
  | some st => finish c st m
  | none => match ioFails m c x with
    | some st => finish c st (if st = .guardCheck || st = .appTagCheck || st = .refTagCheck then { m with dsv.piErr := m.dsv.piErr.inc } else m)
    | none => match nsOf m (ioSpan x).1 with
      | none => m
      | some n =>
        holdOrRun c x n (wake m)

/-- A row of one I/O command. -/
def ioRow (c : NvCmd) (x : IoCmd) (m : Mach) : Mach := begin c (doIo c x) m

/-- Commands held for media ready that need wait no longer (R229). -/
def releaseHeldDo (m : Mach) : Mach :=
  (m.fe.ctxs.filter (fun x => x.heldAt.isSome && x.status.isNone)).foldl (fun m x =>
    match x.cmd with
    | none => m
    | some io => match nsOf m (ioSpan io).1 with
      | none => finish x.id .invalidNamespace m
      | some n => holdOrRun x.id io n m) (schServe .a1 (schServe .a0 m))

/-- A media command is outstanding (Table 4-2). -/
def mediaBusyNow (m : Mach) : Bool := m.fe.ctxs.any (fun x => !x.admin && x.status.isNone && x.cmd.isSome)

/-! ### Abort (R684 to R689) -/

/-- Entries leave a command; those of host reads that serve no other leave the queue, and what they were filling is given up (R687). -/
def dropHost (c : NvCmd) (a : Act) (m : Mach) : Mach :=
  let out := fun (e : Entry) => { e with hosts := e.hosts.filter (· != c) }
  let x := m.sch.act.get a
  let mine := fun (e : Entry) => e.hosts.contains c && decide (e.origin = .host)
  let dead := fun (e : Entry) => mine e && (out e).hosts.isEmpty
  let boxDead := x.box.any dead
  let fly := x.flight.any dead
  let m := if boxDead then withdraw a m else m
  let x := m.sch.act.get a
  let gone := (x.queue ++ x.incoming).filter dead
  let m := onSch a (fun x => { x with
    queue := (x.queue.filter (fun e => !dead e)).map out, incoming := (x.incoming.filter (fun e => !dead e)).map out
    box := x.box.map out, flight := x.flight.map out }) m
  let m := releaseSpec gone m
  let m := if fly then cfxAbort a m else m
  if boxDead then placeNext a m else m

/-- An abort won (R685, R687 to R689): the context is aborting, what it waits for is given up, its media work stops. -/
def abortWins (c : NvCmd) (m : Mach) : Mach :=
  let writes := match (ctxOf m c).bind (fun x => x.cmd) with
    | some io => (ioPayload io).isSome
    | none => false
  let left := ((ctxOf m c).map (fun x => x.left)).getD []
  let nsid := (((ctxOf m c).bind (fun x => x.cmd)).map (fun io => (ioSpan io).1)).getD 0
  let m := onCtx c (fun x => { x with aborting := true }) { m with sch.abortCnt := m.sch.abortCnt.inc }
  let m := finish c .abortRequested m
  let m := { m with
    bcm.writeWait := m.bcm.writeWait.filter (· != c), bcm.missWait := m.bcm.missWait.filter (· != c)
    bcm.misses := m.bcm.misses.map (fun x => { x with waiters := x.waiters.filter (· != c) })
    zmg.zoneQ := m.zmg.zoneQ.filter (fun e => e.2 != c) }
  let m := dropHost c .a1 (dropHost c .a0 m)
  let stop := fun (a : Act) (m : Mach) =>
    if writes && writeMode m != .writeBack && (m.sch.act.get a).flight.any (fun e => e.descs.any (fun d => match d.use with
        | .destage n l _ _ => n == nsid && left.contains l
        | _ => false)) then cfxAbort a m else m
  flow (stop .a1 (stop .a0 m))

/-- The lookup of an Abort (R684, R825): true when the abort won. -/
def abortLookup (t : NvCmd) (m : Mach) : Mach × Bool :=
  match ctxOf m t with
  | none => (m, false)
  | some x => if x.status.isSome then (m, false) else (abortWins t m, true)

/-! ### Ends without a completion -/

/-- Every command of contexts that satisfy a condition ends without a completion (R845): the media work goes on, a write in transfer stops. -/
def endCtxs (p : NvCmd → Bool) (m : Mach) : Mach :=
  flow { m with
    fe.ctxs := m.fe.ctxs.filter (fun x => !p x.id)
    bcm.writeWait := m.bcm.writeWait.filter (fun c => !p c), bcm.missWait := m.bcm.missWait.filter (fun c => !p c)
    bcm.misses := m.bcm.misses.map (fun x => { x with waiters := x.waiters.filter (fun c => !p c) })
    zmg.zoneQ := m.zmg.zoneQ.filter (fun e => !p e.2) }

/-! ### Speculation (R675 to R683) -/

/-- Speculation may run on an actuator (R683). -/
def specAllowed (m : Mach) (a : Act) : Bool :=
  m.sup.nvmePs != 1 && !(m.cal.act.get a).preempt && !m.pwr.loss && m.bcm.mode != .bypass && fliesHeads m.sup.mode && m.sup.actReady.get a
    && (candidates m a).isEmpty && (m.cfx.get a).mailbox.isNone && (m.sch.act.get a).flight.isEmpty && mayPlace m a

/-- Speculative lines of an actuator (SCH.SPECn.LINES). -/
def specLines (m : Mach) (a : Act) : Nat := (m.bcm.frames.filter (fun e => e.2.spec && decide (lineAct m e.2 = a))).length

/-- An LBA that speculation may read (R678): stored data, in a MANAGED namespace in MAP[L] only. -/
def specMayRead (m : Mach) (n : Ns) (lba : Nat) : Bool :=
  decide (lba < n.size) && lbaWritten m n lba && (n.kind != .managed || (match (manOf m n.nsid (lbaAct n.kind lba)).live.find? (fun e => e.1 == lba) with
    | some _ => false
    | none => true))

/-- Sectors of a line that speculation would fill. -/
def specWanted (m : Mach) (n : Ns) (line : Nat) (may : Nat → Bool) : Bool :=
  (missOf m (n.nsid - 1) line).isNone && (List.range 8).any (fun i => may (8 * line + i) && (lookupLine m (n.nsid - 1) line [i]).isNone)
    && (List.range 8).all (fun i => may (8 * line + i) || !lbaWritten m n (8 * line + i) || (cacheSec m n.nsid (8 * line + i)).isSome || decide (n.size ≤ 8 * line + i))

/-- Reserve speculative lines, as long as their runs stay on one track, and place the read in the mailbox (Table 13-2, R678). -/
def specRead (a : Act) (n : Ns) (o : Origin) (lines : List Nat) (m : Mach) : Mach :=
  let saved := (m.sch.act.get a).incoming
  let m := onSch a (fun x => { x with incoming := [] }) m
  let r := lines.foldl (fun (acc : Mach × List Entry × Bool) line =>
    let m := acc.1
    if !acc.2.2 || specMax m * 32 ≤ specLines m a || bcmSet m 3 1 32 ≤ (m.bcm.misses.filter (fun x => x.spec && decide (x.act = a))).length then (m, acc.2.1, false)
    else
      let m := allocMiss n line 6 m.sch.now [] true o m
      let new := (m.sch.act.get a).incoming
      let m := onSch a (fun x => { x with incoming := [] }) m
      let fits := fun (e : Entry) => match (acc.2.1 ++ new).head? with
        | some h => h.head == e.head && h.track == e.track
        | none => true
      if new.all fits then (m, acc.2.1 ++ new, true)
      else (releaseSpec (new.filter (fun e => !fits e)) m, acc.2.1 ++ new.filter fits, false)) (m, [], true)
  let m := onSch a (fun x => { x with incoming := saved }) r.1
  if r.2.1.isEmpty then m
  else
    let op := opOf m a r.2.1
    (onSch a (fun x => { x with box := r.2.1, boxPred := (r.2.1.head?.map (accessNs m a)).getD 0 / 1000 }) m).onCfx a (fun c => { c with mailbox := op })

/-- Established read stream of an actuator, the most recently continued first. -/
def streamsOf (m : Mach) (a : Act) (reads : Bool) : List Stream :=
  sortBy (fun (t : Stream) => 2 ^ 64 - t.order) (m.sch.streams.filter (fun t => decide (t.act = a) && decide (streamMin m ≤ t.count) && (!reads || !t.write)))

/-- Read-ahead of a stream: the lines of its next RA_SIZE (Table 13-2). -/
def readAhead (a : Act) (m : Mach) : Mach :=
  let ra := raSize m / 4
  let cand := (streamsOf m a true).filterMap (fun t => (nsOf m t.nsid).bind (fun n =>
    let ls := (nubList ((List.range ra).map (fun i => (t.next + i) / 8))).filter (fun l =>
      decide (lbaAct n.kind (8 * l) = a) && specWanted m n l (specMayRead m n))
    if ls.isEmpty then none else some (n, ls)))
  match cand.head? with
  | some (n, ls) => specRead a n .readAhead ls m
  | none => m

/-- Pre-seek to the next LBA of the most recently continued stream, once the actuator has been idle long enough (Table 13-2). -/
def preSeek (a : Act) (m : Mach) : Mach :=
  match if m.sch.now < (m.sch.act.get a).idleAt + preseekIdle m then none else (streamsOf m a false).head? with
  | none => m
  | some t => match (nsOf m t.nsid).bind (fun n => if lbaAct n.kind t.next = a then lbaPhys m n t.next else none) with
    | none => m
    | some p =>
      let e : Entry := ⟨0, 7, p.head, p.track, p.region, [], 6, m.sch.now, [], .preSeek, false, false⟩
      let op : TrackOp := ⟨7, [BitVec.ofNat 24 p.track, BitVec.ofNat 24 (p.head + 16 * p.region), 0, 0, BitVec.ofNat 24 (retryLimit m a), 0, 0, 0], [], true⟩
      (onSch a (fun x => { x with box := [e], boxPred := 0 }) m).onCfx a (fun c => { c with mailbox := some op })

/-- The logical band to clean next (R640). -/
def cleanNext (m : Mach) (n : Ns) (a : Act) : Option Nat :=
  let mm := manOf m n.nsid a
  let porchOf := fun (e : Nat × Loc) => match e.2 with
    | .porch p k => some ((lbaBand .managed e.1).1, p, k)
    | _ => none
  let live := mm.live.filterMap porchOf
  match mm.rewrite with
  | some w => if w.closed then some w.band else byPorch live mm
  | none => byPorch live mm
where
  /-- Rules 2 and 3. -/
  byPorch (live : List (Nat × Nat × Nat)) (mm : Managed) : Option Nat :=
    let most := leastBy (fun l => (2 ^ 32 - (live.filter (fun e => e.1 == l)).length) * 2 ^ 32 + l) (nubList (live.map (fun e => e.1)))
    if m.zmg.force.get a then
      match mm.porch.head? with
      | some (p, _) => match leastBy (fun (e : Nat × Nat × Nat) => e.2.2) (live.filter (fun e => e.2.1 == p)) with
        | some e => some e.1
        | none => most
      | none => most
    else most

/-- MANAGED namespaces whose porch on an actuator asks for cleaning. -/
def cleanWanted (m : Mach) (a : Act) : List Ns :=
  if m.zmg.clean.get a || m.zmg.force.get a || m.zmg.full.get a then m.zmg.maps.nss.filter (fun n => decide (n.kind = .managed)) else []

/-- Pre-read of the porch sectors of the band that cleaning takes next (Table 13-2). -/
def preRead (a : Act) (m : Mach) : Mach :=
  match (cleanWanted m a).filterMap (fun n => (cleanNext m n a).map (fun l => (n, l))) |>.head? with
  | none => m
  | some (n, l) =>
    let lbas := (manOf m n.nsid a).live.filterMap (fun e => match e.2 with
      | .porch _ _ => if (lbaBand .managed e.1).1 == l then some e.1 else none
      | _ => none)
    specRead a n .preRead ((nubList (lbas.map (· / 8))).filter (fun ln => specWanted m n ln (fun b => lbaWritten m n b))) m

end Sys2Proof.Machine
end

