-- ==== Sys2Proof/Machine/OpsBoot.lean ====
section
/-! DEFINITION. Shared operations of the power-up stages and of the clean shutdown (spec/04, spec/01). -/

namespace Sys2Proof.Machine

/-- Stage `n` of Table 4-7 has completed. -/
def stageDone (m : Mach) (n : Nat) : Bool := m.sup.stages.getLsbD (n - 1)

/-- Mark a stage complete (R215). -/
def markStage (n : Nat) (m : Mach) : Mach := { m with sup.stages := m.sup.stages ||| BitVec.ofNat 12 (2 ^ (n - 1)) }

/-- The newer valid last-shutdown slot (R89). -/
def newerSlot (h : Hda) : Option Slot :=
  match h.slot0, h.slot1 with
  | none, none => none
  | some a, none => some a
  | none, some b => some b
  | some a, some b => if newerPlace a.seq b.seq = .a1 then some b else some a

/-- Repetitive-controller tables are saved to the reserved media area (R392, Table 4-8). -/
def saveRro (a : Act) (m : Mach) : Mach := m.onSrv a (fun c => { c with rroSaved := c.rro })

/-- MiB of a number of 4 KiB sectors, truncated (Table 4-14). -/
def sectorsMiB (n : Nat) : Nat := n / 256

/-- The unloading steps of Table 4-8. -/
def shutUnload (m : Mach) : Mach := unloadBoth (saveRro .a1 (saveRro .a0 { m with sup.shut := .unloading }))

/-- The mode of an NVMe power state (Table 4-4). -/
def psMode : Nat → Mode
  | 3 => .idleReady
  | 4 => .idleLow
  | _ => .idleFly

end Sys2Proof.Machine
end

