-- ==== Sys2Proof/Machine/OpsPort.lean ====
section
/-! DEFINITION. Shared operations of the ports and the engine pair (spec/16 R812 to R848): takeover and restart, posting of completions,
controllers, associations, queues, and reservations. -/

namespace Sys2Proof.Machine

/-! ### Takeover and restart -/

/-- A takeover or restart starts (R831, R832): nothing is decoded or posted but what the old engine had queued. -/
def startTakeover (trigger : Nat) (new : Act) (req : Option Hdr) (m : Mach) : Mach :=
  let done := if trigger = 5 then [] else (m.fe.ctxs.filter (fun x => x.status.isSome)).map (fun x => x.id)
  { m with fe.tko := some ⟨trigger, m.fe.active, new, done, false, req⟩, fe.posting := false, fe.fenced := false }

/-- The standby engine may take over. -/
def standbySound (m : Mach) : Bool := !(m.fe.faulty.get m.fe.active.other)

/-- An uncorrectable error in an engine's group (R829 to R832, R839): the group is reset at once; a takeover when armed with a sound standby,
else a restart; in a takeover it joins the one in progress. -/
def engineFault (e : Act) (array : Byte) (m : Mach) : Mach :=
  if !(m.fe.powered.get e) then m
  else
    let up := m.fe.posting
    let m := report 0x1010 nowhere (leBytes 1 e.idx ++ [array]) (engineReset e (assertReset (.fe e) m))
    match m.fe.tko with
    | some t => { m with fe.tko := some { t with again := t.again || decide (t.new = e) } }
    | none =>
      if m.fe.active ≠ e || !up || m.pwr.loss then m
      else if armed m 0x1010 == 9 && standbySound m then startTakeover 4 e.other none m
      else startTakeover 5 e none m

/-- Entries of a completion queue that the host has taken free (R826). -/
def cqFree (p : Act) (cntlid qid taken : BitVec 16) (m : Mach) : Mach :=
  onCtrl p cntlid (fun k => { k with queues := k.queues.map (fun q => if q.cq && q.qid == qid then { q with used := q.used - taken.toNat } else q) }) m

/-- What a port unit held through a takeover is taken, in order (R833). -/
def takeHeld (p : Act) (m : Mach) : Mach :=
  let x := m.prt.get p
  let m := onPrt p (fun x => { x with heldCmds := [], heldHeads := [] }) m
  x.heldCmds.foldl (fun m c => fetch c m) (x.heldHeads.foldl (fun m h => cqFree p h.1 h.2.1 h.2.2 m) m)

/-- The new engine has reloaded the contexts (R831 to R838): it posts; the old engine's group is reset and loses its power. -/
def takeoverDone (gap : BitVec 16) (m : Mach) : Mach := match m.fe.tko with
  | none => m
  | some t =>
    if t.trigger ≠ 5 && !m.fe.fenced then m
    else
      let restart := decide (t.trigger = 5)
      let m := releaseIfReset (.fe t.new) m
      let m := if restart then m else assertReset (.fe t.old) m
      let excepts : BitVec 9 := if restart then 0 else m.fe.overlap
      let m := { m with
        fe.tko := none, fe.fenced := false, fe.posting := true, fe.active := t.new, fe.wdtFed := true, fe.overlap := excepts, fe.gapUs := gap
        fe.lastTrigger := BitVec.ofNat 3 t.trigger, fe.powered := (⟨false, false⟩ : Pair Bool).upd t.new (fun _ => true)
        fe.faulty := if t.trigger = 3 || t.trigger = 4 then m.fe.faulty.upd t.old (fun _ => true) else m.fe.faulty
        fe.tkoCnt := if restart then m.fe.tkoCnt else m.fe.tkoCnt.inc }
      let m := if restart then m
        else report 0x1011 nowhere (leBytes 1 t.trigger ++ leBytes 1 t.old.idx ++ leBytes 2 gap.toNat ++ leBytes 2 excepts.toNat) m
      let m := if restart || t.again then report 0x1012 nowhere (leBytes 1 t.new.idx ++ leBytes 2 gap.toNat) m else m
      let m := match t.req with
        | some h => reply h stOk gap.toNat [] m
        | none => m
      flow (takeHeld .a1 (takeHeld .a0 m))

/-! ### Posting -/

/-- Controllers that were told to shut down alone report it complete once they hold no command but Asynchronous Event Requests (R246); while the
whole module shuts down they report it with slot 1 programmed (R249). -/
def shutCheck (m : Mach) : Mach :=
  if shutRuns m then m
  else { m with fe.ctrls := m.fe.ctrls.map (fun k =>
    if k.shutting && !m.fe.ctxs.any (fun x => x.id.cntlid == k.cntlid && decide (x.id.port = k.port) && !k.aers.contains x.id)
    then { k with shutting := false, shutDone := true } else k) }

/-- The completion queue that a command's submission queue names has room (R826); the admin queue and NVMe/TCP always have. -/
def cqRoom (m : Mach) (c : NvCmd) : Bool := match ctrlOf m c with
  | none => true
  | some k =>
    if k.tcp || c.sqid == 0 then true
    else match k.queues.find? (fun q => !q.cq && q.qid == c.sqid) with
      | none => true
      | some q => !k.queues.any (fun x => x.cq && x.qid == q.cqid && decide (x.size ≤ x.used + 1))

/-- A completion takes an entry of its completion queue. -/
def cqTake (c : NvCmd) (m : Mach) : Mach := onCtrl c.port c.cntlid (fun k =>
  if k.tcp || c.sqid == 0 then k
  else match k.queues.find? (fun q => !q.cq && q.qid == c.sqid) with
    | none => k
    | some q => { k with queues := k.queues.map (fun x => if x.cq && x.qid == q.cqid then { x with used := x.used + 1 } else x) }) m

/-- A completion may be posted (R770, R823, R824, R826, R836, R837). -/
def mayPost (m : Mach) (x : Ctx) : Bool :=
  x.status.isSome && !(x.aborting && x.status == some .success) && (m.prt.get x.id.port).up && cqRoom m x.id
    && (match m.fe.tko with
        | none => m.fe.posting
        | some t => !m.fe.fenced && t.queued.contains x.id)

/-- The reply of a request is ready. -/
def replyReady (m : Mach) (who : Transport) (tag : Reg) : Bool := m.svc.out.any (fun o => o.names who tag && o.reply.isSome)

/-- Dword 0 of a 0xC5 completion carries READY when the reply is ready as it is posted (Table 18-3). -/
def withReady (m : Mach) (x : Ctx) : Ctx := match x.svcTag with
  | some t => if replyReady m (.nvme x.id.cntlid) t then { x with dw := x.dw ||| 0x10000 } else x
  | none => x

/-- A completion is posted: the context frees, and a held fetch resumes (R821, R823). -/
def post (c : NvCmd) (m : Mach) : Mach := match ctxOf m c with
  | none => m
  | some x =>
    if !mayPost m x then m
    else
      let m := cqTake c m
      let m := { m with fe.ctxs := m.fe.ctxs.filter (fun y => y.id != c), fe.posted := m.fe.posted.upd c.port (fun _ => some (withReady m x)) }
      let free := fun (p : Port) => { p with held := false }
      let m := { m with prt := ⟨free m.prt.p0, free m.prt.p1⟩ }
      flow (shutCheck (onPrt c.port (fun p => { p with postCnt := p.postCnt.inc }) m))

/-! ### Controllers -/

/-- A completed shutdown has left the module up, outside STANDBY and with no switch to it to come: its controllers are down until one is enabled. -/
def shutIdle (m : Mach) : Bool :=
  !m.sup.ctrlReady && m.sup.stages.getLsbD 10 && !shutRuns m && m.sup.mode != .off && m.sup.mode != .standby

/-- A controller is enabled again, or an association established, after such a shutdown (R248): CTRL_READY sets, the record is resolved again and
slot 0 reopened (spec/01 R98). -/
def reopen (m : Mach) : Mach :=
  if shutIdle m then { resolveAgain m with sup.shutTrigger := none, sup.ctrlReady := true } else m

/-- Enabled controllers are ready with the module (R227). -/
def controllersReady (m : Mach) : Mach := { m with fe.ctrls := m.fe.ctrls.map (fun k => if k.en then { k with rdy := m.sup.ctrlReady } else k) }

/-- The lowest CNTLID not in use, from 2 on (log entry 54). -/
def freeCntlid (m : Mach) : BitVec 16 :=
  BitVec.ofNat 16 (((List.range (m.fe.ctrls.length + 1)).find? (fun i => !m.fe.ctrls.any (fun k => k.cntlid.toNat == i + 2))).getD 0 + 2)

/-- Associations of a port. -/
def assocs (m : Mach) (p : Act) : Nat := (m.fe.ctrls.filter (fun k => k.tcp && decide (k.port = p))).length
/-- Connections over both ports (Table 16-3). -/
def connections (m : Mach) : Nat := m.fe.ctrls.foldl (fun n k => n + k.conns) 0

/-- A Connect refused at a limit (R819): its status, and PRT 0x1421. -/
def refuseConnect (p : Act) (limit : Nat) (m : Mach) : Mach := report 0x1421 nowhere (leBytes 1 p.idx ++ leBytes 1 limit) m

/-- Take an admin context for a command of a capsule whose controller need not exist yet. -/
def bareContext (c : NvCmd) (m : Mach) : Mach :=
  if (ctxOf m c).isSome then m
  else if 64 ≤ rsvUsed m then { onPrt c.port (fun p => { p with held := true }) m with fe.ctxFull := m.fe.ctxFull.inc }
  else { m with fe.ctxs := m.fe.ctxs ++ [{ id := c, admin := true, arrival := BitVec.ofNat 32 m.sch.now, cls := 2, phase := .decoded : Ctx }] }

/-- A command is run on a fresh admin context. -/
def bareRun (c : NvCmd) (f : Mach → Mach) (m : Mach) : Mach :=
  if (ctxOf m c).isSome then m
  else
    let m := bareContext c m
    if (ctxOf m c).isSome then f m else m

/-- End an association or reset a controller (R845, R848, spec/18 R910, R923). -/
def endController (p : Act) (id : BitVec 16) (m : Mach) : Mach :=
  endCtxs (fun c => c.cntlid == id && decide (c.port = p)) (dropTransport (fun t => t == .nvme id) m)

/-- An admin command begins: only from an admin submission queue. -/
def adminRow (c : NvCmd) (f : Mach → Mach) (m : Mach) : Mach := if c.sqid != 0 then m else begin c f m

/-! ### Reservations (Table 16-2) -/

/-- Reservation state of a namespace. -/
def resvOf (m : Mach) (nsid : Nat) : Resv := ((m.fe.resv.find? (fun e => e.1 == nsid)).map (fun (e : Nat × Resv) => e.2)).getD {}

/-- Set the reservation state of a namespace. -/
def putResv (nsid : Nat) (r : Resv) (m : Mach) : Mach := { m with fe.resv := m.fe.resv.filter (fun e => e.1 != nsid) ++ [(nsid, r)] }

/-- A host is registered with a key. -/
def Resv.has (r : Resv) (h : BitVec 128) (key : BitVec 64) : Bool := r.regs.contains (h, key)
/-- A host is registered. -/
def Resv.knows (r : Resv) (h : BitVec 128) : Bool := r.regs.any (fun e => e.1 == h)

/-- All Registrants types (NVMe Base 2.0). -/
def allReg (ty : Nat) : Bool := ty == 5 || ty == 6

/-- Registrants leave; a reservation without a holder ends. -/
def Resv.without (r : Resv) (gone : BitVec 128 × BitVec 64 → Bool) : Resv :=
  let regs := r.regs.filter (fun e => !gone e)
  let held := match r.held with
    | none => none
    | some (h, ty) => if allReg ty then (if regs.isEmpty then none else some (h, ty))
      else if regs.any (fun e => e.1 == h) then some (h, ty) else none
  { r with regs := regs, held := held }

/-- A host holds the reservation. -/
def Resv.mine (r : Resv) (me : BitVec 128) : Bool := match r.held with
  | some (h, ty) => if allReg ty then r.knows me else h == me
  | none => false

/-- Reservation Register (NVMe Base 2.0, log entry 49). -/
def resvRegister (r : Resv) (me : BitVec 128) (act : Nat) (ignore : Bool) (cptpl : Nat) (cur new : BitVec 64) : Option Resv :=
  let r' : Option Resv := match act with
    | 0 => if r.knows me then (if r.has me new then some r else none) else some { r with regs := r.regs ++ [(me, new)], gen := r.gen + 1 }
    | 1 => if r.has me cur || (ignore && r.knows me) then some { r.without (fun (e : BitVec 128 × BitVec 64) => e.1 == me) with gen := r.gen + 1 } else none
    | _ =>
      if r.has me cur || (ignore && r.knows me) then some { r with regs := r.regs.map (fun (e : BitVec 128 × BitVec 64) => if e.1 == me then (me, new) else e), gen := r.gen + 1 }
      else if ignore then some { r with regs := r.regs ++ [(me, new)], gen := r.gen + 1 } else none
  r'.map (fun (r : Resv) => if cptpl = 2 then { r with ptpl := false } else if cptpl = 3 then { r with ptpl := true } else r)

/-- Reservation Acquire: acquire, preempt, preempt and abort; the hosts preempted. -/
def resvAcquire (r : Resv) (me : BitVec 128) (act ty : Nat) (cur pre : BitVec 64) : Option (Resv × List (BitVec 128)) :=
  if !r.has me cur then none
  else if act = 0 then
    match r.held with
    | none => some ({ r with held := some (me, ty) }, [])
    | some (_, t) => if r.mine me && decide (t = ty) then some (r, []) else none
  else
    let others := fun (p : BitVec 128 × BitVec 64 → Bool) => (r.regs.filter (fun (e : BitVec 128 × BitVec 64) => e.1 != me && p e)).map (fun (e : BitVec 128 × BitVec 64) => e.1)
    match r.held with
    | some (h, t) =>
      if allReg t then
        if pre = 0 then some ({ r with regs := r.regs.filter (fun (e : BitVec 128 × BitVec 64) => e.1 == me), held := some (me, ty), gen := r.gen + 1 }, others (fun _ => true))
        else if r.regs.any (fun (e : BitVec 128 × BitVec 64) => e.2 == pre) then some ({ r.without (fun (e : BitVec 128 × BitVec 64) => e.1 != me && e.2 == pre) with gen := r.gen + 1 }, others (fun (e : BitVec 128 × BitVec 64) => e.2 == pre))
        else none
      else if r.regs.contains (h, pre) then
        some ({ r with regs := r.regs.filter (fun (e : BitVec 128 × BitVec 64) => e.1 == me || e.2 != pre), held := some (me, ty), gen := r.gen + 1 }, others (fun (e : BitVec 128 × BitVec 64) => e.2 == pre))
      else if r.regs.any (fun (e : BitVec 128 × BitVec 64) => e.2 == pre) then some ({ r.without (fun (e : BitVec 128 × BitVec 64) => e.1 != me && e.2 == pre) with gen := r.gen + 1 }, others (fun (e : BitVec 128 × BitVec 64) => e.2 == pre))
      else none
    | none =>
      if r.regs.any (fun (e : BitVec 128 × BitVec 64) => e.2 == pre) then some ({ r.without (fun (e : BitVec 128 × BitVec 64) => e.1 != me && e.2 == pre) with gen := r.gen + 1 }, others (fun (e : BitVec 128 × BitVec 64) => e.2 == pre))
      else none

/-- Reservation Release: release or clear; none for a conflict, a status for a wrong type. -/
def resvRelease (r : Resv) (me : BitVec 128) (act ty : Nat) (cur : BitVec 64) : Option (Resv × Bool) :=
  if !r.has me cur then none
  else if act = 0 then
    match r.held with
    | none => some (r, true)
    | some (_, t) => if !r.mine me then some (r, true) else if t = ty then some ({ r with held := none }, true) else some (r, false)
  else some ({ r with regs := [], held := none, gen := r.gen + 1 }, true)

/-- A reservation command of a namespace attached to its port; an I/O command, it is barred as the others are (R223, R235, R241, R247). Its change
is final with its result (R835). -/
def resvRow (c : NvCmd) (nsid : Nat) (f : Resv → BitVec 128 → Mach → Mach) (m : Mach) : Mach :=
  if c.sqid == 0 then m
  else begin c (fun m => match ioBarred m, nsOf m nsid with
    | some st, _ => finish c st m
    | none, none => finish c .invalidNamespace m
    | none, some n => if n.att.get c.port then f (resvOf m nsid) (hostOf m c) m else finish c .invalidNamespace m) m

end Sys2Proof.Machine
end

