-- ==== Sys2Proof/Machine/OpsRecords.lean ====
section
/-! DEFINITION. The settings records: lengths, keys and field ranges of every type (the record tables of spec/02 to spec/19), for
STAGE_RECORD (spec/18 R938) and for the load-time checks (spec/01 Table 1-7). -/

namespace Sys2Proof.Machine

/-! ### Fields -/

/-- A field of a record with its range: offset, bytes, two's complement or not, lowest and highest value. -/
structure Fld where
  off : Nat
  n : Nat
  signed : Bool
  lo : Int
  hi : Int
  deriving DecidableEq, Repr

/-- An unsigned field. -/
def fu (off n lo hi : Nat) : Fld := ⟨off, n, false, lo, hi⟩
/-- A signed field. -/
def fs (off n : Nat) (lo hi : Int) : Fld := ⟨off, n, true, lo, hi⟩
/-- Reserved bytes, 0. -/
def f0 (off n : Nat) : Fld := ⟨off, n, false, 0, 0⟩

/-- A value lies in a field's range. -/
def Fld.fits (v : List Byte) (f : Fld) : Bool :=
  let x : Int := if f.signed then fieldAtS v f.off f.n else fieldAt v f.off f.n
  decide (f.lo ≤ x) && decide (x ≤ f.hi)

/-- Every field of a list fits. -/
def allFit (v : List Byte) (fs : List Fld) : Bool := fs.all (Fld.fits v)

/-- Numbers rise strictly. -/
def rising : List Nat → Bool
  | [] => true
  | [_] => true
  | a :: b :: r => decide (a < b) && rising (b :: r)

/-- The values of a table: `n` entries of `step` bytes from an offset. -/
def column (v : List Byte) (base step n k : Nat) : List Nat := (List.range n).map (fun i => fieldAt v (base + step * i) k)

/-- The assist kind of the identity page: 1 laser, 2 oscillator (Table 1-8). -/
def assistKind (m : Mach) : Nat := match hdaPage m with
  | some p => p.assist.toNat
  | none => 1

/-! ### Lengths -/

/-- The length of a value fits its type (the record tables). -/
def lengthOk (ty : Nat) (v : List Byte) : Bool :=
  let n := v.length
  match normTy ty with
  | 0x0001 | 0x0002 | 0x0101 | 0x0601 | 0x0D01 | 0x0E01 | 0x1102 | 0x1281 | 0x1401 | 0x0405 | 0x0603 => n == 8
  | 0x0003 | 0x0681 => n == 36
  | 0x0301 => n == 4 + 4 * fieldAt v 0 1
  | 0x0302 | 0x0401 | 0x0801 => n == 16
  | 0x0402 => n == 20 + 8 * fieldAt v 16 2
  | 0x0403 | 0x0483 => n == 516
  | 0x0404 => n == 134
  | 0x0406 => n == 40
  | 0x0407 => n == 260
  | 0x0408 => n == 68
  | 0x0409 => n == 8 + 12 * fieldAt v 4 2
  | 0x0484 => n == 4 + 8 * fieldAt v 0 2
  | 0x0602 | 0x0682 | 0x0803 | 0x0883 | 0x0C01 | 0x1381 => n == 20
  | 0x0802 | 0x0882 => n == 160
  | 0x0A01 => n == 40 + 40 * ((fieldAt v 0 2 + 7) / 8)
  | 0x0A81 => n == 4 + 2 * fieldAt v 0 2
  | 0x0C02 => n == 8 + 8 * fieldAt v 4 2
  | 0x0D02 => n == 12 + 8 * fieldAt v 10 2
  | 0x0D03 | 0x0D81 => n == 8 + 8 * fieldAt v 4 2
  | 0x0D82 => n == 4 + 12 * fieldAt v 0 2
  | 0x0F01 | 0x1001 => n == 4
  | 0x1101 => n == 68
  | 0x1182 => if fieldAt v 3 1 = 0 then n == 60 + 20 * fieldAt v 56 2
    else if fieldAt v 3 1 ≤ 8 then n == 16 + 8 * (fieldAt v 8 1 + fieldAt v 9 1)
    else n == 8 + 24 * fieldAt v 4 2
  | 0x1201 => n == 4 + 4 * fieldAt v 0 2
  | 0x1301 => n == 32
  | 0x1302 => n == 12
  | 0x1402 => n == 56
  | _ => true

/-! ### Keys (Table 1-6) -/

/-- A key byte that is not used stands at 0xFF. -/
def unused (v : List Byte) (i : Nat) : Bool := fieldAt v i 1 == 0xFF

/-- The ACT byte of a record of a block that exists per actuator: that actuator; for the blocks whose chapters ask for no more than
Table 1-6, also none (spec/06, spec/08, spec/09; log entry 35). -/
def actByteOk (ty : Nat) (v : List Byte) : Bool :=
  let a := ty / 256 % 2
  fieldAt v 0 1 == a || (decide (6 ≤ ty / 256) && unused v 0)

/-- The key of a keyed record has the shape its table gives it. -/
def keyOk (ty : Nat) (v : List Byte) : Bool :=
  let act := fieldAt v 0 1
  let head := fieldAt v 1 1
  let region := fieldAt v 2 1
  let inst := fieldAt v 3 1
  let headRegion := decide (1 ≤ head) && decide (head ≤ 11) && decide (region ≤ 63) && unused v 3
  let headOnly := decide (1 ≤ head) && decide (head ≤ 11) && unused v 2 && unused v 3
  let instOnly := unused v 1 && unused v 2
  match normTy ty with
  | 0x0402 | 0x0403 | 0x0483 | 0x0802 | 0x0882 => actByteOk ty v && headRegion
  | 0x0602 | 0x0682 => actByteOk ty v && (headRegion || (head == 0 && unused v 2 && unused v 3))
  | 0x0405 | 0x0603 | 0x0681 => actByteOk ty v && headOnly
  | 0x0404 | 0x0408 | 0x0409 | 0x0803 | 0x0883 => actByteOk ty v && instOnly && decide (inst ≤ 1)
  | 0x0407 => actByteOk ty v && instOnly && decide (inst ≤ 15)
  | 0x0C02 | 0x1402 => unused v 0 && instOnly && decide (inst ≤ 1)
  | 0x0D02 | 0x0D03 | 0x0D81 | 0x1302 => decide (act ≤ 1) && headRegion
  | 0x1182 => unused v 0 && instOnly && (decide (inst ≤ 8) || (decide (16 ≤ inst) && decide (inst ≤ 47)))
  | 0x1381 => decide (act ≤ 1) && unused v 2 && (if inst = 3 then unused v 1 else decide (inst ≤ 4) && decide (1 ≤ head) && decide (head ≤ 11))
  | _ => true

/-! ### Ranges -/

/-- Words of a compensator bank or filter (Table 7-8, Table 7-7): CTRL's reserved bits, then the words that must be 0. -/
def bankWordsOk (v : List Byte) (zero : List Nat) : Bool :=
  fieldAt v 4 4 / 16 % 2 ^ 27 == 0 && zero.all (fun i => fieldAt v (4 + 4 * i) 4 == 0)

/-- The words of a bank that stay 0 by its loop (Table 7-8). -/
def bankZero (inst : Nat) : List Nat :=
  let tail := (List.range 25).map (· + 39)
  if inst / 4 = 1 then tail else [1, 2, 3] ++ (List.range 30).map (· + 9) ++ tail

/-- The fields of a head page (Table 8-6); of the reference head, HTR_RD alone. -/
def headPageFit (v : List Byte) : Bool :=
  if fieldAt v 1 1 = 0 then allFit v [fu 4 2 0 1023, f0 6 2, f0 8 2, f0 10 2, f0 12 2, f0 14 2, f0 16 2, f0 18 2]
  else allFit v [fu 4 2 0 1023, fu 6 2 0 1023, fu 8 2 0 1023, fu 10 2 0 1023, fu 12 2 0 1023, fu 18 2 0 2000]

/-- The fields of a region table but for FREQ_KHZ, which check 3 judges (Table 9-11, R478). -/
def regionFit (m : Mach) (v : List Byte) : Bool :=
  let den := rpmFull m * 14220 * 8
  let least := if den = 0 then 0 else (fieldAt v 4 4 * 60000 + den - 1) / den
  allFit v [fu 8 2 least 226, fu 10 2 300 1600, fu 12 1 0 24, fu 13 1 0 3, fs 14 2 (-2048) 2047, fu 16 2 0 4095, fu 18 2 0 4095,
    fs 20 1 (-64) 63, fs 21 1 (-64) 63, fs 22 1 (-100) 100, fs 23 1 (-100) 100, fs 28 1 (-24) 24, fs 29 1 (-24) 24, fs 30 1 (-24) 24, fs 31 1 (-24) 24]

/-- FREQ_KHZ of a region table (Table 9-11). -/
def freqFit (v : List Byte) : Bool := allFit v [fu 4 4 1000000 3000000]

/-- A threshold of record 0x1301: 0, or 10 to 200 (Table 10-8). -/
def thFit (v : List Byte) (off : Nat) : Bool := fieldAt v off 2 == 0 || allFit v [fu off 2 10 200]

/-- The fields of a value lie in their ranges (the record tables), whatever other records say. -/
def rangesOk (m : Mach) (ty : Nat) (v : List Byte) : Bool :=
  match normTy ty with
  | 0x0001 => allFit v [fu 0 1 1 4, fu 1 1 24 255, fu 2 1 24 255, fu 3 1 0 120, fu 4 2 1 60, f0 6 2]
  | 0x0003 => fieldAt v 32 4 == 0
  | 0x0101 => allFit v [fu 0 2 50 150, fu 2 2 20 200, fu 4 1 0 50, f0 5 3]
  | 0x0301 =>
    let n := fieldAt v 0 1
    allFit v [fu 0 1 1 16, fu 1 1 1 254, f0 2 2] && rising (column v 4 4 n 1) && (column v 5 4 n 1).all (fun k => decide (k ≤ 1))
      && (column v 6 4 n 2).all (fun r => decide (3000 ≤ r) && decide (r ≤ 7500))
  | 0x0302 => allFit v [fu 0 1 0 30, fu 1 1 0 2, fu 2 2 100 1600, fu 4 2 50 1000, fu 6 2 200 3000, fu 8 2 150 1000, fu 10 2 200 2500,
      fu 12 2 200 1600, fu 14 2 500 3000]
  | 0x0401 => allFit v [fu 0 2 16 512, fu 2 2 128 2048, fu 4 1 2 63, fu 5 1 1 7, fu 6 1 0 2, f0 7 1, fu 8 2 64 1024, fu 10 2 128 2048,
      fu 12 2 1 50, fu 14 1 10 90, fu 15 1 110 250]
  | 0x0402 =>
    let n := fieldAt v 16 2
    let starts := column v 20 8 n 4
    allFit v [fu 16 2 1 64, f0 18 2] && starts.headD 1 == 0 && rising starts && starts.all (fun s => decide (s < fieldAt v 8 4))
      && (column v 24 8 n 4).all (fun p => decide (131072 ≤ p) && decide (p ≤ 524288))
  | 0x0403 | 0x0483 => (List.range 128).all (fun i => allFit v [fs (4 + 4 * i) 4 (-1000000) 1000000])
  | 0x0404 => let xs := column v 4 2 65 2; rising xs && xs.headD 1 == 0 && xs.getLastD 0 == 1024
  | 0x0405 => fieldAt v 6 2 == 0
  | 0x0406 => allFit v [fu 0 2 64 4096, fu 2 2 32 1024, fu 4 1 1 255, fu 5 1 1 64, fu 6 2 64 1024, fu 8 2 32 512, fu 10 1 5 100, fu 11 1 1 50,
      fu 12 2 500 20000, fu 14 2 500 5000, fu 16 2 1 65535, fu 18 2 0 1000, fu 20 2 0 24000, fu 22 2 1 1000, fu 24 1 0 3, fu 25 1 3 15,
      fu 26 1 50 250, fu 27 1 2 50, fu 28 2 20 500, fu 30 1 1 20, f0 31 1, fu 33 1 0 7, fu 34 1 4 12, fu 35 1 0 15, fu 36 2 64 4096, fu 38 2 10 2000]
  | 0x0407 => bankWordsOk v (bankZero (fieldAt v 3 1))
  | 0x0408 => bankWordsOk v ([1, 2, 3] ++ (List.range 7).map (· + 9))
  | 0x0409 =>
    let n := fieldAt v 4 2
    let ds := column v 8 12 n 4
    allFit v [fu 4 2 2 128, f0 6 2] && rising ds && ds.headD 1 == 0 && (column v 18 12 n 2).all (· == 0)
  | 0x0484 => let n := fieldAt v 0 2
    allFit v [fu 0 2 0 256, f0 2 2] && (column v 10 8 n 1).all (fun s => decide (s ≤ 1)) && (column v 11 8 n 1).all (· == 0)
  | 0x0601 => allFit v [fu 0 1 85 135, fu 1 1 5 30, (if assistKind m = 2 then fu 2 2 10 120 else fu 2 2 10 450), fu 4 2 10 2000, fu 6 1 1 100, fu 7 1 50 99]
  | 0x0602 | 0x0682 => headPageFit v
  | 0x0801 => allFit v [fu 0 2 512 2048, fu 2 2 256 4096, fu 4 1 0 6, fu 5 1 0 6, fu 6 1 4 30, fu 7 1 1 4, fu 8 1 10 80, fu 9 1 2 8, fu 11 1 0 16,
      fu 12 1 1 30, fu 13 1 0 15, fu 14 1 6 14, f0 15 1] && fieldAt v 0 2 % 64 == 0 && fieldAt v 2 2 % 8 == 0
  | 0x0802 | 0x0882 => regionFit m v
  | 0x0803 | 0x0883 => (List.range 4).all (fun i => allFit v [fs (4 + 4 * i) 1 (-127) 127, fs (5 + 4 * i) 1 (-127) 127, fs (6 + 4 * i) 1 (-127) 127, f0 (7 + 4 * i) 1])
  | 0x0A01 => imageOk v
  | 0x0A81 => allFit v [fu 0 2 0 32, f0 2 2] && (column v 4 2 (fieldAt v 0 2) 2).all (fun r => decide (r < 4096))
  | 0x0C01 => allFit v [fu 0 2 100 10000, fu 2 2 8 256, fu 4 1 1 8, fu 6 2 0 8192, fu 8 2 0 512, fu 10 2 1 1000, fu 12 1 1 50, fu 13 1 20 90,
      fu 14 1 50 95, fu 15 1 0 7, fu 16 2 0 2000, fu 18 2 0 5000]
  | 0x0C02 => let ds := column v 8 8 (fieldAt v 4 2) 4
    allFit v [fu 4 2 2 64, f0 6 2] && rising ds && ds.headD 1 == 0
  | 0x0D01 => allFit v [fu 0 1 0 1, fu 1 1 10 80, fu 2 1 20 90, fu 3 1 50 99, fu 4 1 20 90, f0 5 1, fu 6 2 0 1000]
      && decide (fieldAt v 1 1 < fieldAt v 2 1) && decide (fieldAt v 2 1 < fieldAt v 3 1)
  | 0x0D02 =>
    let n := fieldAt v 10 2
    let ends := (List.range n).map (fun i => (fieldAt v (12 + 8 * i) 4, fieldAt v (12 + 8 * i) 4 + fieldAt v (16 + 8 * i) 2))
    allFit v [fu 8 2 4 64, fu 10 2 0 8000] && (column v 16 8 n 2).all (fun t => decide (64 ≤ t) && decide (t ≤ 1023))
      && (column v 18 8 n 1).all (fun f => decide (f ≤ 1)) && (column v 19 8 n 1).all (· == 0)
      && (ends.zip (ends.drop 1)).all (fun p => decide (p.1.2 + 2 ≤ p.2.1))
  | 0x0D03 | 0x0D81 => let n := fieldAt v 4 2
    allFit v [fu 4 2 0 8000, f0 6 2] && (column v 14 8 n 2).all (fun l => decide (1 ≤ l) && decide (l ≤ 1024))
  | 0x0D82 => let n := fieldAt v 0 2
    allFit v [fu 0 2 0 4096, f0 2 2] && (column v 4 12 n 1).all (fun a => decide (a ≤ 1)) && (column v 5 12 n 3).all (· == 0)
  | 0x0E01 => allFit v [fu 0 1 5 90, fu 1 1 1 255, fu 2 1 0 1, fu 3 1 0 64, fu 4 2 250 1000, fu 6 2 60 65535]
  | 0x0F01 => allFit v [fu 0 2 0 2000, fu 2 1 1 255, f0 3 1]
  | 0x1001 => allFit v [fu 0 2 10 10000, fu 2 1 0 1, f0 3 1]
  | 0x1101 => (v.take 32).all (fun b => decide (b.toNat < 128)) && allFit v [fu 64 1 1 20, f0 65 3]
  | 0x1102 => allFit v [fu 0 2 10 1000, fu 2 2 100 10000, fu 4 2 100 10000, fu 6 1 1 16, f0 7 1] && decide (3 * fieldAt v 0 2 ≤ fieldAt v 2 2)
  | 0x1182 => if fieldAt v 3 1 = 0 then allFit v [fu 4 1 0 1, f0 5 1, fu 6 2 0 511, fu 56 2 0 512, f0 58 2]
    else if fieldAt v 3 1 ≤ 8 then allFit v [fu 8 1 2 63, fu 9 1 1 8, f0 10 2] && decide (fieldAt v 8 1 + fieldAt v 9 1 ≤ 64)
    else allFit v [fu 4 2 0 1024, f0 6 2] && (column v 9 24 (fieldAt v 4 2) 1).all (fun s => decide (s ≤ 3)) && (column v 16 24 (fieldAt v 4 2) 4).all (fun e => decide (1 ≤ e))
  | 0x1201 =>
    let es := armEntries v
    allFit v [fu 0 2 0 14, f0 2 2] && (column v 7 4 (fieldAt v 0 2) 1).all (· == 0)
      && es.all (fun e => armable.any (fun c => c.1 == e.1) && armPermits e.1 e.2) && decide ((nubList (es.map (·.1))).length = es.length)
  | 0x1301 => [0, 2, 4, 6, 8].all (thFit v) && allFit v [fu 10 1 1 120, fu 11 1 10 40, fu 12 2 20 1000, fu 14 1 5 200, fu 15 1 4 64, fu 16 2 16 256,
      fu 18 2 50 500, fu 20 2 1 100, fu 22 2 10 1000, fu 24 1 1 32, fu 25 1 1 32, fu 26 1 1 8, fu 27 1 1 16, fu 28 1 2 16, f0 29 1, fu 30 2 200 10000]
  | 0x1302 => allFit v [fu 4 4 1000 100000]
  | 0x1381 => allFit v [fu 10 1 0 3, f0 11 1]
  | 0x1401 => allFit v [fu 0 1 0 1, fu 1 1 0 1, fu 2 1 3 5, fu 3 1 1 2, fu 4 1 0 2, f0 5 1] && (fieldAt v 6 2 == 1500 || fieldAt v 6 2 == 9000)
  | 0x1402 => allFit v [fu 8 1 0 32, fu 9 1 0 128, fu 10 2 0 4094, f0 54 2]
  | _ => true

/-- A record of a known type has the length, the key and the ranges of its table (R938; FREQ_KHZ among them). -/
def recFits (m : Mach) (r : SRec) : Bool :=
  lengthOk r.ty r.val && keyOk r.ty r.val && rangesOk m r.ty r.val
    && (normTy r.ty != 0x0802 && normTy r.ty != 0x0882 || freqFit r.val)

/-- The load-time check that judges the ranges of a type (R150, R256, R306, R343, R408, R455, R509, R550, R602, R653, R699, R768, R808, R850,
R904, R951). -/
def checkOf (ty : Nat) : Nat := match normTy ty with
  | 0x0002 => 9
  | 0x0402 => 4
  | t => match t / 256 with
    | 3 => 8
    | 4 => 7
    | 6 => 9
    | 8 => 6
    | 10 => 10
    | 13 => 5
    | _ => 11

/-- The breakpoints rise in demand. -/
def risingDemand : List Breakpoint → Bool
  | [] => true
  | [_] => true
  | a :: b :: r => decide (a.demand < b.demand) && risingDemand (b :: r)

/-- What check 8 asks of a curve beyond the ranges of Table 5-4 (R213, R282, R285). DESIGN CHOICE (log entry 102): R282 does not say in which
state of rotation DEMAND_FULL is evaluated; the model takes a spindle that turns. -/
def curveSound (m : Mach) (c : Curve) : Bool :=
  decide (1 ≤ c.turnOff) && decide (c.turnOff < (c.bps.headD ⟨0, false, 0⟩).demand) && risingDemand c.bps
    && c.target true (demandFull m) == rpmFull m && decide (5000 ≤ c.target true (demandFull m))

/-- Check 8 on the value of record 0x0301 (R282, R283, R285, R306, Table 1-7, Table 5-4). -/
def curveValid (m : Mach) (v : List Byte) : Bool := lengthOk 0x0301 v && rangesOk m 0x0301 v && curveSound m (curveOfBytes v)

end Sys2Proof.Machine
end

