-- ==== Sys2Proof/Machine/OpsDsv.lean ====
section
/-! DEFINITION. Records 0x1180 to 0x1182: what the module writes and loads (spec/17 R856, R858, R886, Table 17-11). -/

namespace Sys2Proof.Machine

/-! ### Opal -/

/-- SERIAL of the identity page; spaces when there is none. -/
def hdaSerial (m : Mach) : List Byte := match hdaPage m with
  | some p => p.serial
  | none => List.replicate 24 0x20

/-- The manufactured state of the SPs, with keys (R866). -/
def manufactured (keys : Nat → BitVec 512) : Opal := { ranges := (List.range 16).map (fun i => { on := i == 0, key := keys i : LRange }) }

/-- Put keys into the ranges of SPs. -/
def Opal.withKeys (o : Opal) (ks : List (BitVec 512)) : Opal := { o with ranges := o.ranges.zipIdx.map (fun (x : LRange × Nat) => { x.1 with key := ks.getD x.2 0 }) }

/-- The keys of the ranges. -/
def Opal.keys (o : Opal) : List (BitVec 512) := o.ranges.map (·.key)

/-- The keys of a value of record 0x1180. -/
def keysOf (m : Mach) (v : List Byte) : Option (List (BitVec 512)) := match m.hda.wrapped with
  | some w => if w.keys == v then some w.opal.keys else Config.unwrapKeys v
  | none => Config.unwrapKeys v

/-- The SPs of a value of record 0x1181. -/
def spsOf (m : Mach) (v : List Byte) : Option Opal := match m.hda.wrapped with
  | some w => if w.sps == v then some w.opal else Config.unwrapSps v
  | none => Config.unwrapSps v

/-- The SPs and keys of the records in force; without a record, as manufactured (R856; log entry 59). -/
def opalInForce (m : Mach) : Opal :=
  let sps := ((recVal m 0x1181).bind (spsOf m)).getD (manufactured (fun _ => 0))
  let keys := ((recVal m 0x1180).bind (keysOf m)).getD ((List.range 16).map (Config.firstKey (hdaSerial m)))
  sps.withKeys keys

/-- LockOnReset (Table 17-1): a range whose locking is enabled is locked by a power cycle. -/
def LRange.onReset (r : LRange) : LRange := if r.lor then { r with rl := r.rl || r.rle, wl := r.wl || r.wle } else r

/-- The records of the SPs and keys in force (R856, R904). -/
def opalRecs (o : Opal) : List SRec := [⟨0x1180, Config.wrapKeys o.keys⟩, ⟨0x1181, Config.wrapSps o⟩]

/-! ### Domain and groups (Table 17-11) -/

/-- The wrapped domain key of the module. -/
def domainRec (m : Mach) : SRec :=
  let d := m.dsv
  ⟨0x1182, recKey 0xFF 0xFF 0xFF 0 ++ leBytes 1 d.joined.toNat ++ leBytes 1 0 ++ leBytes 2 d.module ++ leBytes 8 d.domain.toNat ++ Config.wrapDomain d.domKey
    ++ leBytes 2 d.peers.length ++ leBytes 2 0 ++ (d.peers.map (fun p => leBytes 2 p.num ++ leBytes 2 0 ++ leBytes 16 p.addr.toNat)).flatten⟩

/-- The definition of a group. -/
def groupRec (g : Group_) : SRec :=
  ⟨0x1182, recKey 0xFF 0xFF 0xFF (g.index + 1) ++ leBytes 4 g.gid.toNat ++ leBytes 1 g.k ++ leBytes 1 g.m ++ leBytes 2 0 ++ leBytes 4 g.c
    ++ (g.cols.map (fun (c : Nat × Nat) => leBytes 2 c.1 ++ leBytes 2 0 ++ leBytes 4 c.2)).flatten⟩

/-- One override range. -/
def Override.bytes (o : Override) : List Byte :=
  leBytes 1 o.col ++ leBytes 1 o.st.code ++ leBytes 2 o.holder ++ leBytes 4 o.first ++ leBytes 4 o.count ++ leBytes 4 o.nsid ++ leBytes 4 o.hext ++ leBytes 4 o.mark

/-- The parts of a group's override ranges, 1,024 in each. -/
def overRecs (g : Group_) : List SRec :=
  (List.range 4).filterMap (fun p =>
    let os := (g.excepts.drop (1024 * p)).take 1024
    if os.isEmpty then none
    else some ⟨0x1182, recKey 0xFF 0xFF 0xFF (16 + 4 * g.index + p) ++ leBytes 2 os.length ++ leBytes 2 0 ++ (os.map Override.bytes).flatten⟩)

/-- Every record 0x1182 of the module; none while it belongs to no domain. -/
def zgpRecs (m : Mach) : List SRec := if m.dsv.joined then domainRec m :: m.dsv.groups.flatMap (fun g => groupRec g :: overRecs g) else []

/-- The override range at an offset. -/
def overAt (v : List Byte) (o : Nat) : Override :=
  ⟨fieldAt v o 1, ColState.ofCode (fieldAt v (o + 1) 1), fieldAt v (o + 2) 2, fieldAt v (o + 4) 4, fieldAt v (o + 8) 4, fieldAt v (o + 12) 4, fieldAt v (o + 16) 4, fieldAt v (o + 20) 4⟩

/-- The value of an instance of record 0x1182. -/
def zgpVal (m : Mach) (inst : Nat) : Option (List Byte) := recKeyed m 0x1182 (recKey 0xFF 0xFF 0xFF inst)

/-- A group from its record and its override ranges (R886). -/
def loadGroup (m : Mach) (i : Nat) : Option Group_ := (zgpVal m (i + 1)).map (fun v =>
  let k := fieldAt v 8 1
  let p := fieldAt v 9 1
  { index := i, gid := BitVec.ofNat 32 (fieldAt v 4 4), k := k, m := p, c := fieldAt v 12 4
    cols := (List.range (k + p)).map (fun c => (fieldAt v (16 + 8 * c) 2, fieldAt v (20 + 8 * c) 4))
    excepts := (List.range 4).flatMap (fun q => match zgpVal m (16 + 4 * i + q) with
      | some o => (List.range (fieldAt o 4 2)).map (fun r => overAt o (8 + 24 * r))
      | none => [])
    told := 0 })

/-- The domain key of 40 wrapped bytes. -/
def domainKeyOf (m : Mach) (w : List Byte) : List Byte := match m.hda.wrapped with
  | some x => if x.domWrapped == w then x.domKey else Config.unwrapDomain w
  | none => Config.unwrapDomain w

/-- Data services take up the records in force (R856, R858, R886): keys and SPs with LockOnReset, the domain, the groups. The peers are not
yet UP and nothing is in the send log (R896); a module reset, which keeps the EPOCH, keeps their sequence numbers (log entry 71). -/
def dsvLoad (m : Mach) : Mach :=
  let o := opalInForce m
  let o := if m.dsv.lockNow then { o with ranges := o.ranges.map LRange.onReset } else o
  let m := { m with dsv.opal := o, dsv.lockNow := false, dsv.keysOk := !m.dsv.keysBad && (recVal m 0x1180).isSome && (recVal m 0x1181).isSome }
  match zgpVal m 0 with
  | none => m
  | some v =>
    { m with
      dsv.joined := fieldAt v 4 1 == 1, dsv.module := fieldAt v 6 2, dsv.domain := BitVec.ofNat 64 (fieldAt v 8 8)
      dsv.domKey := domainKeyOf m ((v.drop 16).take 40)
      dsv.peers := (List.range (fieldAt v 56 2)).map (fun i =>
        let new : Peer := { num := fieldAt v (60 + 20 * i) 2, addr := BitVec.ofNat 128 (fieldAt v (64 + 20 * i) 16) }
        match m.dsv.peers.find? (fun p => p.num == new.num) with
        | some p => { new with epoch := p.epoch, d := p.d, next := p.next }
        | none => new)
      dsv.groups := (List.range 8).filterMap (loadGroup m) }

/-- The wrapped bytes that the HDA now carries, with what they stand for. -/
def noteWrapped (m : Mach) : Mach :=
  { m with hda.wrapped := some ⟨Config.wrapKeys m.dsv.opal.keys, Config.wrapSps m.dsv.opal, m.dsv.opal, Config.wrapDomain m.dsv.domKey, m.dsv.domKey⟩ }

end Sys2Proof.Machine
end

