-- ==== Sys2Proof/Machine/OpsSettings.lean ====
section
/-! DEFINITION. The load-time checks of Table 1-7, the loading of a bank (spec/01 R60, R79 to R83), commits (R63 to R70, spec/18 R937 to R942), and what
stages 7 and 8 set up. -/

namespace Sys2Proof.Machine

/-! ### Load-time checks -/

/-- The machine as it would be with other records in force. -/
def withRecs (m : Mach) (rs : List SRec) : Mach := { m with sup.records := rs }

/-- The failure that concerns no record (R81). -/
def noRecord : Offender := (0xFFFF, noKey)

/-- The records that satisfy a condition, as offenders. -/
def offend (rs : List SRec) (p : SRec → Bool) : List Offender := (rs.filter p).map (fun r => (r.ty, srecKey r))

/-- The records whose type and key have stood before (R77, R78, R79). -/
def repeats : List SRec → List SRec → List SRec
  | _, [] => []
  | seen, r :: rs => if seen.any (sameRec r) then r :: repeats seen rs else repeats (r :: seen) rs

/-- Check 1: every record lies within the payload; no duplicate (R75, R77 to R79). -/
def check1 (past : Option Offender) (rs : List SRec) : List Offender := (repeats [] rs).map (fun r => (r.ty, srecKey r)) ++ past.toList

/-- The head that a per-head record names, if it names one (Table 1-6). -/
def recHead (r : SRec) : Option (Act × Nat) :=
  let unit := [0x0402, 0x0403, 0x0405, 0x0483, 0x0602, 0x0603, 0x0681, 0x0682, 0x0802, 0x0882].contains (normTy r.ty)
  let both := [0x0D02, 0x0D03, 0x0D81, 0x1302, 0x1381].contains r.ty
  let h := fieldAt r.val 1 1
  if !(unit || both) || decide (11 < h) then none
  else some (if unit then Act.ofNum (r.ty / 256) else Act.ofNum (fieldAt r.val 0 1), h)

/-- A head is present in the identity page. -/
def headPresent (m : Mach) (a : Act) (h : Nat) : Bool := match hdaPage m with
  | some p => p.headmap.getD (12 * a.idx + h) 0 != 0
  | none => false

/-- GEOM_SIG of the identity page; all ones when it is erased. -/
def pageSig (m : Mach) : BitVec 64 := match hdaPage m with
  | some p => p.geomSig
  | none => BitVec.allOnes 64

/-- Check 2: GEOM_SIG, and per-head records of heads that are present. -/
def check2 (m : Mach) (sig : BitVec 64) (rs : List SRec) : List Offender :=
  (if sig = pageSig m then [] else [noRecord]) ++ offend rs (fun r => match recHead r with
    | some (a, h) => !headPresent m a h
    | none => false)

/-- The data heads of both actuators. -/
def everyHead (m : Mach) : List (Act × Nat) := (dataHeads m .a0).map (fun h => (.a0, h)) ++ (dataHeads m .a1).map (fun h => (.a1, h))

/-- The regions of a head with their track records, in rising order. -/
def regionRecs (m : Mach) (a : Act) (h : Nat) : List (Nat × List Byte) := (regionsOf m a h).filterMap (fun r => (trackRec m a h r).map (fun v => (r, v)))

/-- Neighbours of a list that satisfy a condition. -/
def neighbours {α : Type} (p : α → α → Bool) (l : List α) : List α := ((l.zip (l.drop 1)).filter (fun x => p x.1 x.2)).map (·.2)

/-- Check 3: 1 to 64 regions from track 0 without gap or overlap (R324), each rate from 1.0 to 3.0 GHz. -/
def check3 (m : Mach) : List Offender :=
  offend m.sup.records (fun r => (normTy r.ty == 0x0802 || normTy r.ty == 0x0882) && !freqFit r.val)
    ++ (everyHead m).flatMap (fun x =>
      let rs := regionRecs m x.1 x.2
      let ty := srvTy x.1 0x02
      let key := fun r => recKey x.1.idx x.2 r 0xFF
      (match rs.head? with
        | none => [(ty, key 0)]
        | some (r, v) => if r = 0 ∧ fieldAt v 4 4 = 0 then [] else [(ty, key r)])
      ++ (neighbours (fun (p q : Nat × List Byte) => q.1 != p.1 + 1 || fieldAt q.2 4 4 != fieldAt p.2 4 4 + fieldAt p.2 8 4) rs).map (fun q => (ty, key q.1)))

/-- The records whose length, key or ranges fail and that a check judges. -/
def badRecs (m : Mach) (n : Nat) : List Offender :=
  offend m.sup.records (fun r => knownTy r.ty && checkOf r.ty == n && !(lengthOk r.ty r.val && keyOk r.ty r.val && rangesOk m r.ty r.val))

/-- Check 4: the pitch tables (R325, R343). -/
def check4 (m : Mach) : List Offender :=
  badRecs m 4 ++ (everyHead m).flatMap (fun x =>
    (neighbours (fun (p q : Nat × List Byte) => fieldAt q.2 4 4 != fieldAt p.2 4 4 + fieldAt p.2 8 4
        || decide (fieldAt q.2 12 4 ≤ posIn p.2 (fieldAt p.2 4 4 + fieldAt p.2 8 4 - 1))) (regionRecs m x.1 x.2)).map
      (fun q => (srvTy x.1 0x02, recKey x.1.idx x.2 q.1 0xFF)))

/-- The bands and the reserved tracks of a record 0x0D02 lie in its region (R1035). -/
def bandsInside (v t : List Byte) : Bool :=
  let lo := fieldAt t 4 4
  let hi := lo + fieldAt t 8 4
  let inside := fun first n => decide (lo ≤ first) && decide (first + n ≤ hi)
  inside (fieldAt v 4 4) (fieldAt v 8 2) && (List.range (fieldAt v 10 2)).all (fun i => inside (fieldAt v (12 + 8 * i) 4) (fieldAt v (16 + 8 * i) 2))

/-- Check 5: bands in one region each (R1035), enough usable slots in each (R615), the cellar of each head at least 1 %, rounded up. No
record declares a zone count to compare with the bands (log entry 61). -/
def check5 (m : Mach) : List Offender :=
  badRecs m 5 ++ (everyHead m).flatMap (fun x =>
    let key := fun r => recKey x.1.idx x.2 r 0xFF
    let rows := bandRows m x.1 x.2
    ((List.range 64).filter (fun r => match recKeyed m 0x0D02 (key r) with
        | none => false
        | some v => match trackRec m x.1 x.2 r with
          | none => true
          | some t => !bandsInside v t)).map (fun r => (0x0D02, key r))
      ++ (rows.zipIdx.filter (fun p => decide (bandSize m x.1 (16 * p.2 + x.2) false < 65600) || decide (bandSize m x.1 (16 * p.2 + x.2) true < 53312))).map
          (fun p => (0x0D02, key p.1.region))
      ++ (if (rows.length + 99) / 100 ≤ (rows.filter (·.cellar)).length then [] else [(0x0D02, key ((rows.head?.map (·.region)).getD 0))]))

/-- The regions of a head that lack a record. -/
def lacking (m : Mach) (ty : Act → Nat) : List Offender :=
  (everyHead m).flatMap (fun x => ((regionsOf m x.1 x.2).filter (fun r => (recKeyed m (ty x.1) (recKey x.1.idx x.2 r 0xFF)).isNone)).map
    (fun r => (ty x.1, recKey x.1.idx x.2 r 0xFF)))

/-- Check 6: each head and region has a channel table (R478, R509). -/
def check6 (m : Mach) : List Offender := badRecs m 6 ++ lacking m (fun a => chTy a 0x02)

/-- A bank of a loop is recorded and VALID (Table 7-8). -/
def bankRecorded (m : Mach) (a : Act) (l k : Nat) : Bool := match recKeyed m (srvTy a 0x07) (recKey a.idx 0xFF 0xFF (4 * l + k)) with
  | some v => decide (2 ^ 31 ≤ fieldAt v 4 4)
  | none => false

/-- Check 7: each loop has 1 to 4 banks, and the selected one exists and is VALID (R343, R408). -/
def check7 (m : Mach) : List Offender :=
  badRecs m 7 ++ [Act.a0, Act.a1].flatMap (fun a => (List.range 4).filterMap (fun l =>
    let sel := ctlSet m a 32 1 0 / 4 ^ l % 4
    if bankRecorded m a l sel then none
    else if (List.range 4).any (bankRecorded m a l) && (recVal m (srvTy a 0x06)).isSome then some (srvTy a 0x06, noKey)
    else some (srvTy a 0x07, recKey a.idx 0xFF 0xFF (4 * l + sel))))

/-- Check 8: the drive record, and the curve, the default one when record 0x0301 is absent (R213, R282, R285, R306). -/
def check8 (m : Mach) : List Offender :=
  badRecs m 8 ++ (if curveSound m (match recVal m 0x0301 with
    | some v => curveOfBytes v
    | none => Curve.default) then [] else [(0x0301, noKey)])

/-- Check 9: the head settings (R455). -/
def check9 (m : Mach) : List Offender := badRecs m 9 ++ lacking m (fun a => hifTy a 0x02)

/-- Check 10: both images are present and sound (R560, R602). -/
def check10 (m : Mach) : List Offender :=
  badRecs m 10 ++ ([0x0A01, 0x0B01].filter (fun t => (recVal m t).isNone)).map (fun t => (t, noKey))

/-- Check 11: policies and arming: ranges, both seek profiles (R699), DESTAGE_LO below DESTAGE_HI (R768), the key and SP records (R858). -/
def check11 (m : Mach) : List Offender :=
  badRecs m 11 ++ ((List.range 2).filter (fun i => (recKeyed m 0x0C02 (recKey 0xFF 0xFF 0xFF i)).isNone)).map (fun i => (0x0C02, recKey 0xFF 0xFF 0xFF i))
    ++ (if setting m 0x0E01 0 1 25 < setting m 0x0C01 14 1 75 then [] else [(0x0E01, noKey)])
    ++ offend m.sup.records (fun r => (r.ty == 0x1180 && (keysOf m r.val).isNone) || (r.ty == 0x1181 && (spsOf m r.val).isNone))

/-- The place of an offender in a payload, absent records last. -/
def offenderPlace (rs : List SRec) (x : Offender) : Nat := ((rs.zipIdx.find? (fun p => p.1.ty == x.1 && srecKey p.1 == x.2)).map (·.2)).getD rs.length

/-- Every check of Table 1-7 on an image: for each number its offenders in payload order (R80, R81). -/
def loadChecks (m : Mach) (past : Option Offender) (sig : BitVec 64) (rs : List SRec) : List (Nat × List Offender) :=
  let v := withRecs m rs
  [(1, check1 past rs), (2, check2 v sig rs), (3, check3 v), (4, check4 v), (5, check5 v), (6, check6 v), (7, check7 v), (8, check8 v), (9, check9 v),
    (10, check10 v), (11, check11 v)].map (fun c => (c.1, sortBy (offenderPlace rs) c.2))

/-- The failing checks. -/
def failing (cs : List (Nat × List Offender)) : List (Nat × Offender) := cs.filterMap (fun c => c.2.head?.map (fun x => (c.1, x)))

/-! ### Loading a bank -/

/-- A bank is unusable in content (R60). -/
def badContent (m : Mach) (b : Bank) : Bool := !(check1 b.overrun b.recs).isEmpty || b.geomSig != pageSig m

/-- The fallback to the older bank (R60), whose record 0x0101 then judges a measurement already made (R120). -/
def fallback (m : Mach) : Mach := match m.sup.bankInUse with
  | none => m
  | some k => match bankAt m k, validBank m k.other with
    | some b, some o =>
      if badContent m b && o.supported && !badContent m o then
        ifDo m.pwr.measDone (holdupCheck false) (report 0x0013 nowhere [] { m with sup.bankInUse := some k.other, sup.records := o.recs })
      else m
    | _, _ => m

/-- The heads that discarded adaptive records belong to: those they name; of a record that names none, every data head of its actuator, or of
both (R83). -/
def headsOf (m : Mach) (x : Offender) : List (Act × Nat) :=
  match recHead ⟨x.1, x.2⟩ with
  | some (a, h) => [(a, h)]
  | none =>
    if 4 ≤ x.1 / 256 ∧ x.1 / 256 ≤ 11 then (everyHead m).filter (fun y => decide (y.1 = Act.ofNum (x.1 / 256)))
    else []

/-- Stages 6 and 7 (R60, R79 to R83, R858, R951): the bank settled, every check run and reported, unknown types kept and reported, adaptive
offenders discarded, SAFE when an integrator record fails; then what the records set up. Every record of a duplicated adaptive type and key
is discarded, and a failure that concerns no record enters SAFE too (DESIGN CHOICE, log entry 102). -/
def payloadLoaded (m : Mach) : Mach :=
  if m.sup.bankInUse.isNone || m.sup.noRecords then dsvLoad (calBoot m)
  else
    let m := fallback m
    let b := m.sup.bankInUse.bind (bankAt m)
    let rs := m.sup.records
    let cs := loadChecks m (b.bind (·.overrun)) ((b.map (·.geomSig)).getD (pageSig m)) rs
    let bad := cs.flatMap (·.2)
    let adapt := bad.filter (fun x => isAdaptive x.1 && x.1 != 0xFFFF)
    let m := (failing cs).foldl (fun m c => report 0x0014 nowhere (leBytes 1 c.1 ++ leBytes 2 c.2.1 ++ c.2.2) m) m
    let m := (rs.filter (fun r => !knownTy r.ty)).foldl (fun m r => report 0x0015 nowhere (leBytes 2 r.ty ++ srecKey r) m) m
    let kept := rs.filter (fun r => !adapt.any (fun x => r.ty == x.1 && srecKey r == x.2))
    let m := { m with sup.records := kept, sup.base := kept, sup.armFailed := bad.any (fun x => x.1 == 0x1201) }
    let m := (nubList (adapt.filter (fun x => x.1 == 0x1180 || x.1 == 0x1181))).foldl (fun m x => report 0x1130 nowhere (leBytes 2 x.1) { m with dsv.keysBad := true }) m
    let m := dsvLoad (calBoot m)
    let m := (nubList (adapt.flatMap (headsOf m))).foldl (fun m x => calForce x.1 x.2 m) m
    if bad.any (fun x => !isAdaptive x.1 || x.1 == 0xFFFF) then enterSafe 0x0014 { m with sup.checksFailed := true } else m

/-! ### Commits -/

/-- Bytes that records take in a payload: each starts on a 4-byte boundary, and the last ends it (R71 to R74). -/
def payloadBytes : List SRec → Nat
  | [] => 0
  | [r] => 4 + r.val.length
  | r :: rs => (4 + r.val.length + 3) / 4 * 4 + payloadBytes rs

/-- An image: the base with stagings applied (R937, R941). -/
def applyStaged (base : List SRec) (st : List (SRec × Bool × Bool)) : List SRec :=
  st.foldl (fun rs (x : SRec × Bool × Bool) => rs.filter (fun r => !sameRec r x.1) ++ (if x.2.1 then [] else [x.1])) base

/-- The bank that the next commit writes, and its SEQ (R63). Before stage 3 has chosen a bank, the one that R59 would choose counts as in use
(DESIGN CHOICE, log entry 102). -/
def nextBank (m : Mach) : Act × BitVec 32 := match m.sup.bankInUse.or ((chooseBank m).map (·.1)) with
  | none => (.a0, 1)
  | some k => (k.other, ((bankAt m k).map (·.seq)).getD 0 + 1)

/-- Record 0x1281 with the erase of a bank added (R963). -/
def countErase (a : Act) (rs : List SRec) : List SRec :=
  let v := (recIn rs 0x1281).getD (List.replicate 8 0)
  let n := fun (b : Act) => satTo (2 ^ 32 - 1) (fieldAt v (4 * b.idx) 4 + (if a = b then 1 else 0))
  rs.filter (fun r => r.ty != 0x1281) ++ [⟨0x1281, leBytes 4 (n .a0) ++ leBytes 4 (n .a1)⟩]

/-- The image of a commit: the bank it writes, the bank's content, and its records. -/
def imageOf (m : Mach) (rs : List SRec) : Act × Bank × List SRec :=
  let n := nextBank m
  let rs := countErase n.1 rs
  (n.1, sealedBank n.2 (pageSig m) rs, rs)

/-- An image that reads back is in use from now on (R63, R942): the next commit starts from it; record 0x0003 takes effect at once. -/
def bankWritten (i : Act × Bank × List SRec) (m : Mach) : Mach :=
  let m := putBank i.1 (some i.2.1) m
  { m with
    sup.bankInUse := some i.1, sup.base := i.2.2
    sup.records := m.sup.records.filter (fun r => r.ty != 0x0003) ++ i.2.2.filter (fun r => r.ty == 0x0003)
    svc.lastCommit := 1, svc.lastCommitAt := m.sup.opSec }

/-- A commit that fails: the bank in use stays (R65). -/
def commitFailed (m : Mach) : Mach := report 0x0017 nowhere [] { m with svc.lastCommit := 2, svc.lastCommitAt := m.sup.opSec }

/-- The lifetime counters of the data heads as records 0xn81 (R448). -/
def lifeRecs (m : Mach) : List SRec :=
  (everyHead m).map (fun x =>
    let l := (m.hif.get x.1).life.getD (x.2 - 1) {}
    ⟨hifTy x.1 0x81, recKey x.1.idx x.2 0xFF 0xFF ++ leBytes 8 l.astTime.val.toNat ++ leBytes 8 l.astCharge.val.toNat ++ leBytes 8 l.wrTime.val.toNat ++ leBytes 8 l.htrEnergy.val.toNat⟩)

/-- What the next image starts from: the records of the bank in use, with what the module keeps live brought up to date, that is the lifetime
counters once stage 8 has loaded them (R448) and the records of its domain and groups (R902). A bank whose records are not in force gives
no more than itself (R63). -/
def liveBase (m : Mach) : List SRec :=
  let z := zgpRecs m
  if m.sup.noRecords then m.sup.base
  else
    let rs := if z.isEmpty then m.sup.base else m.sup.base.filter (fun r => r.ty != 0x1182) ++ z
    if m.sup.stages.getLsbD 7 then (lifeRecs m).foldl (fun rs r => rs.filter (fun x => !sameRec x r) ++ [r]) rs else rs

/-- The stagings that a commit takes in (R66): every one for a COMMIT; adaptive records alone otherwise, as integrator tables wait for a COMMIT
(R69). -/
def takenBy (req : Option Hdr) (m : Mach) : List (SRec × Bool × Bool) :=
  if req.isSome then m.svc.staged else m.svc.staged.filter (fun x => isAdaptive x.1.ty)

/-- Stagings that a commit took are gone from the staging area. -/
def unstage (taken : List (SRec × Bool × Bool)) (m : Mach) : Mach := { m with svc.staged := m.svc.staged.filter (fun x => !taken.contains x) }

/-- Start a commit (R66, R68, R69, R941). The header of the bank being written is erased first (R64). -/
def beginCommit (req : Option Hdr) (force : Bool) (m : Mach) : Mach :=
  let taken := takenBy req m
  let rs := applyStaged (liveBase m) taken
  let fails := if req.isSome && !force then failing (loadChecks m none (pageSig m) rs) else []
  match fails.head?, req with
  | some c, some h => reply h stBadParam c.1 [] m
  | _, _ =>
    let n := imageOf m rs
    { putBank n.1 none m with svc.commit := some ⟨n.1, n.2.1, n.2.2, taken, req, force⟩ }

/-- Start the commits that wait, until one writes (R66). -/
def startCommits : Nat → Mach → Mach
  | 0, m => m
  | f + 1, m => match m.svc.commit, m.svc.commitQueue with
    | none, (q, force) :: r => startCommits f (beginCommit q force { m with svc.commitQueue := r })
    | _, _ => m

/-- Ask for a commit: it starts at once, or after the one that runs (R66). -/
def askCommit (req : Option Hdr) (force : Bool) (m : Mach) : Mach :=
  let m := { m with svc.commitQueue := m.svc.commitQueue ++ [(req, force)] }
  startCommits m.svc.commitQueue.length m

/-- The module accesses the HDA NOR to commit (R49, R53). -/
def mayCommit (m : Mach) : Bool := norUsable m && !m.pwr.loss

/-- The hourly commit of adaptive tables and the one of a clean shutdown (R68): at most one an hour otherwise. -/
def adaptiveDue (m : Mach) : Bool := decide (3600 ≤ m.sup.opSec.toNat - m.svc.lastAdaptAt.toNat)

/-- The commit of adaptive tables at clean shutdown (R68, Table 4-8): it starts at once, or after the commit that runs (R66). -/
def adaptiveCommit (m : Mach) : Mach :=
  if mayCommit m && m.sup.bankInUse.isSome && !m.sup.noRecords then askCommit none false { m with svc.lastAdaptAt := m.sup.opSec } else m

/-- The steps of Table 4-8 after shutdown complete: once every commit has ended, the target is entered. -/
def shutTail (m : Mach) : Mach :=
  if m.sup.tail && m.svc.commit.isNone && m.svc.commitQueue.isEmpty then afterShutdown { m with sup.tail := false } else m

/-- A commit that R857 asks for, inside the request or event that changes records of some types: none of them while another commit runs,
which the caller waits for. Its image takes in the adaptive records staged until then (R66). `ok` tells whether the bank read back. -/
def commitNow (tys : List Nat) (rs : List SRec) (ok : Bool) (m : Mach) : Mach :=
  let taken := takenBy none m
  let n := imageOf m ((applyStaged (liveBase m) taken).filter (fun r => !tys.contains r.ty) ++ rs)
  if ok then
    let m := unstage taken (bankWritten n m)
    wearCheck { m with sup.records := m.sup.records.filter (fun r => !tys.contains r.ty) ++ rs }
  else commitFailed (putBank n.1 none m)

/-- Change records under R857: the change and its commit, or neither. `undo` is the machine to return to, with the failed commit noted;
`after` is the change. -/
def changeRecs (tys : List Nat) (recs : Mach → List SRec) (ok : Bool) (change : Mach → Mach) (m : Mach) : Mach :=
  if ok then
    let m := change m
    noteWrapped (commitNow tys (recs m) true m)
  else commitNow tys [] false m

/-- Parity extents that a replay makes STALE (R896): DSV 0x1141 by column, and a commit of record 0x1182. -/
def takeStale (m : Mach) : Mach :=
  if m.vlt.staleDue.isEmpty then m
  else
    let cols := nubList (m.vlt.staleDue.map (fun (x : BitVec 32 × Nat × Nat) => (x.1, x.2.1)))
    let m := cols.foldl (fun (m : Mach) (c : BitVec 32 × Nat) => match groupOf m c.1 with
      | none => m
      | some g =>
        let es := (m.vlt.staleDue.filter (fun (x : BitVec 32 × Nat × Nat) => x.1 == c.1 && x.2.1 == c.2)).map (fun x => x.2.2)
        report 0x1141 nowhere (leBytes 1 g.index ++ leBytes 1 c.2 ++ leBytes 4 es.length)
          (es.foldl (fun m e => changeGroup c.1 (fun g => g.edit c.2 e 1 (fun s => { s with st := .stale, mark := 0 })) [] m) m)) m
    askCommit none false { m with vlt.staleDue := [] }

/-! ### Stages 7 and 8 -/

/-- A head's charge has reached a percentage of its ASSIST_LIFE, which is not 0 (R449). -/
def lifePast (m : Mach) (a : Act) (hd pct : Nat) (l : Life) : Bool :=
  let cap := 1000000 * assistLife m a hd
  cap != 0 && decide (pct * cap ≤ 100 * l.astCharge.val.toNat)

/-- Lifetime counters resume from the last commit (R448), each with its flag (R14); a threshold that a head had crossed before is not crossed again
(R449). -/
def loadLife (a : Act) (m : Mach) : Mach :=
  m.onHif a (fun h => { h with life := h.life.zipIdx.map (fun (x : Life × Nat) =>
    match recKeyed m (hifTy a 0x81) (recKey a.idx (x.2 + 1) 0xFF 0xFF) with
    | none => x.1
    | some v =>
      let l := { x.1 with astTime := .kept (fieldAt v 4 8), astCharge := .kept (fieldAt v 12 8), wrTime := .kept (fieldAt v 20 8), htrEnergy := .kept (fieldAt v 28 8) }
      { l with warned := lifePast m a (x.2 + 1) (lifeWarn m a) l, reached := lifePast m a (x.2 + 1) 100 l }) })

/-- What stage 8 sets up for one actuator (R225, R342, R409, R467, R595). -/
def actBoot (a : Act) (arr : List (Act × BitVec 16 × List (List Byte))) (m : Mach) : Mach :=
  let m := loadStore a arr (loadChannel a (loadLife a m))
  let m := if m.sup.ucodeFail then m else resetInit a m
  (m.onSrv a (srvCtlInit m a)).onRef a (srvRefInit m a)

/-- Stage 8: the stores, channels and servo units of both actuators; the scheduler's controls (R700); the zone manager's tables (R617). -/
def mediaBoot (arr : List (Act × BitVec 16 × List (List Byte))) (m : Mach) : Mach :=
  let m := actBoot .a1 arr (actBoot .a0 arr m)
  { m with
    sch.ctrl := BitVec.ofNat 3 (setting m 0x0C01 15 1 0), spn.soften := BitVec.ofNat 5 (spnSoften m)
    zmg.maps := m.hda.rsv, zmg.mapsOk := true }

end Sys2Proof.Machine
end

