-- ==== Sys2Proof/Machine/OpsErase.lean ====
section
/-! DEFINITION. Crypto-erase (spec/17 R855, R864 to R866, R889), the making and deleting of namespaces (spec/12 R605 to R610), and admin commands that
have to wait before they end. -/

namespace Sys2Proof.Machine

/-- An admin command that may have to wait: it is fetched and decoded as any other, `start` runs once, and `f` when `ready`; until then its
context stays, and the row goes on with it (log entry 50). `k` tells the kinds of such commands apart. -/
def heldRow (c : NvCmd) (k : Nat) (start : Mach → Mach) (ready : Mach → Bool) (f : Mach → Mach) (m : Mach) : Mach :=
  if c.sqid != 0 then m
  else
    let m := begin c (fun m => start (onCtx c (fun x => { x with phase := .media, progress := k }) m)) m
    match ctxOf m c with
    | none => m
    | some x => if engineUp m && x.admin && x.phase == .media && decide (x.progress = k) && x.status.isNone && !x.aborting && ready m then f m else m

/-- No commit runs (R857 commits wait for the one that does). -/
def noCommit (m : Mach) : Bool := m.svc.commit.isNone

/-- The machine may commit to the HDA NOR now. -/
def commitOk (m : Mach) (ok : Bool) : Bool := ok && mayCommit m

/-! ### Keys and ranges -/

/-- A key whose halves differ (R855). -/
def goodKey (k : BitVec 512) : Bool := k.extractLsb' 0 256 != k.extractLsb' 256 256

/-- Give ranges new keys, the usable ones of those generated, in order (R855). -/
def rekey (keys : List (BitVec 512)) (rs : List Nat) (o : Opal) : Opal :=
  let ks := keys.filter goodKey
  { o with ranges := rs.zipIdx.foldl (fun l (x : Nat × Nat) => updAt l x.1 (fun r => { r with key := ks.getD x.2 0 })) o.ranges }

/-- The generator has given enough usable keys (R855). -/
def enoughKeys (keys : List (BitVec 512)) (n : Nat) : Bool := decide (n ≤ (keys.filter goodKey).length)

/-- The number of the range that holds an LBA (Table 17-1). -/
def rangeNoAt (m : Mach) (nsid lba : Nat) : Nat :=
  (((List.range m.dsv.opal.ranges.length).drop 1).find? (fun i => (m.dsv.opal.ranges.getD i {}).has nsid lba)).getD 0

/-- The ranges that touch a namespace (R865). -/
def rangesOfNs (m : Mach) (nsid : Nat) : List Nat := rangeNos m nsid 0 (((nsOf m nsid).map (fun n => n.size)).getD 0)

/-- New commands of the ranges are held from here on (R864 step 1). -/
def holdRanges (c : NvCmd) (rs : List Nat) (m : Mach) : Mach := { m with dsv.erasing := m.dsv.erasing ++ rs.map (fun r => (c, r)) }

/-- Commands decoded earlier that touch a range and have not completed (R864 step 2); those held are taken up after the erase. -/
def rangeBusy (m : Mach) (rs : List Nat) : Bool :=
  m.fe.ctxs.any (fun x => !x.admin && x.status.isNone && x.heldAt.isNone && (x.cmd.map (fun io => rs.any (fun r => ioInRange m r io))).getD false)

/-- The held commands are released (R864 step 6). -/
def freeRanges (c : NvCmd) (m : Mach) : Mach := releaseHeldDo { m with dsv.erasing := m.dsv.erasing.filter (fun e => e.1 != c) }

/-- The cached sectors of ranges are invalidated, in every namespace (R740, R864 step 4). -/
def dropRanges (rs : List Nat) (m : Mach) : Mach :=
  m.zmg.maps.nss.foldl (fun m n => (invalidate n.nsid (fun b => rs.contains (rangeNoAt m n.nsid b)) m).1) m

/-- The generation of new keys and their commit, with a further change of the SPs (R857, R864 steps 3 to 5): DSV 0x1121 for each range
in use, or for the one named. -/
def eraseRanges (keys : List (BitVec 512)) (rs : List Nat) (ok : Bool) (change : Opal → Opal) (m : Mach) : Mach :=
  let told := rs.filter (fun r => (m.dsv.opal.ranges.getD r {}).on || decide (rs.length = 1))
  let told := told.map (fun r => leBytes 1 r ++ leBytes 2 (m.dsv.opal.ranges.getD r {}).nsid)
  let m := dropRanges rs m
  let m := changeRecs [0x1180, 0x1181] (fun m => opalRecs m.dsv.opal) ok (fun m => { m with dsv.opal := change (rekey keys rs m.dsv.opal) }) m
  if ok then told.foldl (fun (m : Mach) (p : List Byte) => report 0x1121 nowhere p m) m else m

/-! ### Namespaces -/

/-- The tables of a namespace as at its creation (R865): zones Empty, managed locations dropped, nothing pending. -/
def emptyNs (nsid : Nat) (m : Mach) : Mach :=
  match nsOf m nsid with
  | none => m
  | some n =>
    let clear := fun (e : Nat × Zone) => if e.1 / 2 ^ 20 = nsid then (e.1, { e.2 with st := .empty, wp := 0, zrc := bump32 e.2.zrc, spares := [] }) else e
    let m := { m with zmg.maps.zones := m.zmg.maps.zones.map clear }
    let m := if n.kind = .zoned then
        let ks := n.bands.p0.map (fun p => bandKey .a0 (standIn m .a0 p)) ++ n.bands.p1.map (fun p => bandKey .a1 (standIn m .a1 p))
        { m with zmg.maps.front := ks.foldl (fun l k => assocSet 0 l k 0) m.zmg.maps.front }
      else m
    let m := if n.kind = .managed then
        onMan nsid .a1 (fun _ => { free := n.pool.p1 }) (onMan nsid .a0 (fun _ => { free := n.pool.p0 }) m)
      else m
    saveMaps (pendLeave (fun x => x.1 == nsid) m)

/-- The columns of groups that a namespace of this module holds. -/
def columnsOf (m : Mach) (nsid : Nat) : List (BitVec 32 × Nat) :=
  nubList (m.dsv.groups.flatMap (fun (g : Group_) => ((List.range g.n).filter (fun c => (g.segs c).any (fun s => s.holder == m.dsv.module && s.nsid == nsid))).map (fun c => (g.gid, c))))

/-- What R865 adds to the erase of the ranges of some namespaces, and R889. -/
def wipeNss (ids : List Nat) (m : Mach) : Mach :=
  ids.foldl (fun m i => (columnsOf m i).foldl (fun m x => markStale x.1 x.2 m) (emptyNs i m)) m

/-- The lowest free NSID (R605). -/
def freeNsid (m : Mach) : Option Nat := ((List.range 32).map (· + 1)).find? (fun i => (nsOf m i).isNone)

/-- Bands of each actuator for a size, and pool bands; none for a size that the kind does not take (Table 12-1). -/
def bandsFor (k : NsKind) (size : Nat) : Option (Pair Nat × Pair Nat) :=
  if size = 0 then none
  else match k with
  | .zoned => if size % 65536 = 0 then (let z := size / 65536; some (⟨(z + 1) / 2, z / 2⟩, ⟨0, 0⟩)) else none
  | .managed => if size % 131072 = 0 then (let u := size / 131072; some (⟨u, u⟩, ⟨(u + 38) / 39, (u + 38) / 39⟩)) else none
  | .conventional => if size % 106496 = 0 then (let u := size / 106496; some (⟨u, u⟩, ⟨0, 0⟩)) else none

/-- Create a namespace (R605 to R608): the status, its NSID and the machine. -/
def createNs (k : NsKind) (size fmt pit : Nat) (m : Mach) : NvSt × Nat × Mach :=
  if 2 < fmt then (.invalidFormat, 0, m)
  else match bandsFor k size with
    | none => (.invalidField, 0, m)
    | some (need, pool) => match freeNsid m with
      | none => (.namespaceIdUnavailable, 0, m)
      | some i =>
        let f0 := freeBands m .a0
        let f1 := freeBands m .a1
        if decide (f0.length < need.p0 + pool.p0) || decide (f1.length < need.p1 + pool.p1) then (.namespaceInsufficientCapacity, 0, m)
        else
          let n : Ns := { nsid := i, kind := k, size := size, fmt := fmt, pit := pit, att := ⟨false, false⟩
                          bands := ⟨f0.take need.p0, f1.take need.p1⟩, pool := ⟨(f0.drop need.p0).take pool.p0, (f1.drop need.p1).take pool.p1⟩ }
          let m := { m with zmg.maps.nss := m.zmg.maps.nss ++ [n] }
          let m := if k = .managed then onMan i .a1 (fun _ => { free := n.pool.p1 }) (onMan i .a0 (fun _ => { free := n.pool.p0 }) m) else m
          (.success, i, saveMaps m)

/-- Delete a namespace (R609): its cached sectors, tables, reservations and what its bands hold go; its bands are free. -/
def deleteNs (i : Nat) (m : Mach) : Mach :=
  match nsOf m i with
  | none => m
  | some n =>
    let m := (invalidate i (fun _ => true) m).1
    let m := pendLeave (fun x => x.1 == i) m
    let mine := fun (a : Act) => (n.bands.get a ++ n.pool.get a).flatMap (fun p => [bandKey a p, bandKey a (standIn m a p)])
    let keys := mine .a0 ++ mine .a1
    let ours := fun (key : Nat) => keys.contains key
    saveMaps { m with
      zmg.maps.nss := m.zmg.maps.nss.filter (fun x => x.nsid != i)
      zmg.maps.zones := m.zmg.maps.zones.filter (fun e => e.1 / 2 ^ 20 != i)
      zmg.maps.man := m.zmg.maps.man.filter (fun e => e.1 / 2 != i)
      zmg.maps.front := m.zmg.maps.front.filter (fun e => !ours e.1)
      zmg.maps.spareUsed := m.zmg.maps.spareUsed.filter (fun e => !ours e.1)
      zmg.maps.moved := m.zmg.maps.moved.filter (fun e => !ours e.1)
      hda.surface := m.hda.surface.filter (fun (e : Nat × Option (BitVec 33280)) => match e.2.bind (unscramble (keyTag e.1)) with
        | some p => p.info.nsid.toNat != i
        | none => true)
      fe.resv := m.fe.resv.filter (fun e => e.1 != i) }

/-- Commands of a namespace that have been decoded and have no result. -/
def nsBusy (m : Mach) (i : Nat) : Bool :=
  m.fe.ctxs.any (fun x => !x.admin && x.status.isNone && (x.cmd.map (fun io => (ioSpan io).1 == i)).getD false)

end Sys2Proof.Machine
end

