-- ==== Sys2Proof/Machine/Admin.lean ====
section
/-! DEFINITION. Meanings of admin commands on namespaces, identification, logs, firmware and the security protocol (spec/12 R605 to R610, R619,
spec/04 R210, R223, spec/16 Table 16-2, spec/17 R859 to R871, spec/19 R980, R981). -/

namespace Sys2Proof.Machine

/-! ### Format and sanitize (R865) -/

/-- The namespaces that an NSID names: one, or every one for the broadcast value. -/
def namedNss (m : Mach) (nsid : BitVec 32) : List Nat :=
  if nsid = 0xFFFFFFFF then m.zmg.maps.nss.map (·.nsid) else ((nsOf m nsid.toNat).map (·.nsid)).toList

/-- Namespaces take another format. -/
def setFormat (ids : List Nat) (fmt pit : Nat) (m : Mach) : Mach :=
  saveMaps { m with zmg.maps.nss := m.zmg.maps.nss.map (fun n => if ids.contains n.nsid then { n with fmt := fmt, pit := pit } else n) }

/-- The ranges that touch namespaces (R865). -/
def rangesOfAll (m : Mach) (ids : List Nat) : List Nat := nubList (ids.flatMap (rangesOfNs m))

/-- FORMAT_NVM (R606, R865): Secure Erase Settings 1 and 2 crypto-erase; without one the cached sectors and tables go (log entry 75). `keys` are the
keys generated, `ok` whether the commit reads back. -/
def execNvmeFormatNvm (c : NvCmd) (nsid : BitVec 32) (lbaf : BitVec 6) (pit ses : BitVec 3) (keys : List (BitVec 512)) (ok : Bool) (s : State) : Out :=
  s.run (fun m =>
    let ids := namedNss m nsid
    let rs := if ses = 0 then [] else rangesOfAll m ids
    heldRow c 1 (fun m =>
        if nsid != 0xFFFFFFFF && ids.isEmpty then finish c .invalidNamespace m
        else if 2 < lbaf.toNat then finish c .invalidFormat m
        else if 2 < ses.toNat || 3 < pit.toNat || (decide (lbaf = 0) && decide (pit ≠ 0)) then finish c .invalidField m
        else holdRanges c rs m)
      (fun m => !rangeBusy m rs && !ids.any (nsBusyNow m) && (decide (ses = 0) || (noCommit m && enoughKeys keys rs.length)))
      (fun m =>
        if ses = 0 then
          let m := ids.foldl (fun m i => (invalidate i (fun _ => true) m).1) m
          finish c .success (commitCtx c (setFormat ids lbaf.toNat pit.toNat (ids.foldl (fun m i => emptyNs i m) m)))
        else
          let good := commitOk m ok
          let m := eraseRanges keys rs good id m
          let m := if good then finish c .success (commitCtx c (setFormat ids lbaf.toNat pit.toNat (wipeNss ids m))) else finish c .internalError m
          freeRanges c m) m)
where
  /-- Commands of a namespace that run, those held aside. -/
  nsBusyNow (m : Mach) (i : Nat) : Bool :=
    m.fe.ctxs.any (fun x => !x.admin && x.status.isNone && x.heldAt.isNone && (x.cmd.map (fun io => (ioSpan io).1 == i)).getD false)

/-- A 32-bit pattern over a sector. -/
def patternSector (p : BitVec 32) : Sector := BitVec.ofNat 32768 (p.toNat * ((2 ^ 32768 - 1) / (2 ^ 32 - 1)))

/-- The pattern in every user slot of every band (R865). -/
def overwrite (p : BitVec 32) (m : Mach) : Mach :=
  [Act.a0, Act.a1].foldl (fun m a =>
    let conv := m.zmg.maps.nss.flatMap (fun n => if n.kind = .conventional then n.bands.get a else [])
    (allBands m a).foldl (fun (m : Mach) (b : Nat × Bool) =>
      let cv := conv.contains b.1
      (List.range (if cv then 53248 else 65536)).foldl (fun m k =>
        match bandSlot m a b.1 cv k with
        | none => m
        | some q =>
          let old := slotData m a q.head q.track q.slot
          let info : SecMeta := match old with
            | some x => x.info
            | none => { tag := tagOf q.head q.track q.slot, wseq := 0, flags := 0, nsid := 0, lba := 0, pi := 0, pbn := BitVec.ofNat 32 b.1, zrc := 0 }
          slotPut a q.head q.track q.slot ⟨patternSector p, info⟩ m) m) m) m

/-- SANITIZE (R865): Crypto Erase (4) and Overwrite (3) of every namespace; Exit Failure Mode (1) has nothing to leave; Block Erase is not
supported (log entry 75). -/
def execNvmeSanitize (c : NvCmd) (act : BitVec 3) (pattern : BitVec 32) (keys : List (BitVec 512)) (ok : Bool) (s : State) : Out := s.run (fun m =>
  let ids := m.zmg.maps.nss.map (fun n => n.nsid)
  let rs := rangesOfAll m ids
  heldRow c 2 (fun m =>
      if act = 1 then finish c .success m
      else if act != 3 && act != 4 then finish c .invalidField m
      else holdRanges c rs m)
    (fun m => !rangeBusy m rs && noCommit m && enoughKeys keys rs.length)
    (fun m =>
      let good := commitOk m ok
      let m := if act = 3 then overwrite pattern m else m
      let m := eraseRanges keys rs good id m
      let m := if good then finish c .success (commitCtx c (wipeNss ids m)) else finish c .internalError m
      freeRanges c m) m)

/-! ### Namespaces (R605 to R610) -/

/-- The kind that a creation names: by the command set, and for the NVM command set by byte 3,072 (R607, Table 12-1). -/
def kindOf (csi kind : Byte) : Option NsKind :=
  if csi = 2 then some .zoned
  else if csi = 0 then (if kind = 0 then some .managed else if kind = 1 then some .conventional else none)
  else none

/-- NAMESPACE_MANAGEMENT (R605 to R609, R835, R889). A deletion waits for commands of the namespace that have been decoded. -/
def execNvmeNamespaceManagement (c : NvCmd) (create : Bool) (nsid : BitVec 32) (csi kind : Byte) (size : BitVec 64) (fmt : BitVec 4) (pit : BitVec 3)
    (s : State) : Out := s.run (fun m =>
  let ids := namedNss m nsid
  heldRow c 3 (fun m =>
      if !m.zmg.mapsOk then finish c .namespaceNotReady m
      else if create then
        match kindOf csi kind with
        | none => finish c .invalidField m
        | some k =>
          if 3 < pit.toNat then finish c .invalidField m
          else
            let r := createNs k size.toNat fmt.toNat pit.toNat m
            if r.1 = .success then finishWith c r.2.1 [] (commitCtx c r.2.2) else finish c r.1 m
      else if ids.isEmpty && nsid != 0xFFFFFFFF then finish c .invalidNamespace m
      else if ids.any (fun i => !(columnsOf m i).isEmpty) then finish c .invalidField m
      else m)
    (fun m => !create && !ids.any (nsBusy m))
    (fun m => finish c .success (commitCtx c (ids.foldl (fun m i => deleteNs i m) m))) m)

/-- The namespace holds a parity column (R883). -/
def isParity (m : Mach) (nsid : Nat) : Bool := (columnsOf m nsid).any (fun x => match groupOf m x.1 with
  | some g => decide (g.k ≤ x.2)
  | none => false)

/-- NAMESPACE_ATTACHMENT (R610, R816, R835, R883): a controller stands for its port. -/
def execNvmeNamespaceAttachment (c : NvCmd) (nsid : BitVec 32) (attach : Bool) (ids : List (BitVec 16)) (s : State) : Out := s.run (adminRow c (fun m =>
  match nsOf m nsid.toNat with
  | none => finish c .invalidNamespace m
  | some n =>
    let port := fun (i : BitVec 16) => (m.fe.ctrls.find? (fun k => k.cntlid == i)).map (·.port)
    let ps := nubList (ids.filterMap port)
    if ids.isEmpty || ids.any (fun i => (port i).isNone) || (attach && isParity m n.nsid) then finish c .invalidField m
    else if attach && ps.any (fun p => n.att.get p) then finish c .namespaceAlreadyAttached m
    else if !attach && ps.any (fun p => !(n.att.get p)) then finish c .namespaceNotAttached m
    else
      let new := fun (x : Ns) => if x.nsid = n.nsid then { x with att := ps.foldl (fun q p => q.upd p (fun _ => attach)) x.att } else x
      finish c .success (commitCtx c (saveMaps { m with zmg.maps.nss := m.zmg.maps.nss.map new }))))

/-! ### Identify -/

/-- Put bytes into a data structure at an offset. -/
def overlay (off : Nat) (bs : List Byte) (l : List Byte) : List Byte := l.take off ++ bs ++ l.drop (off + bs.length)

/-- A 4 KiB data structure with fields at offsets, over what the spec leaves open (log entry 73). -/
def identPage (cns nsid csi : Nat) (fields : List (Nat × List Byte)) : List Byte :=
  fields.foldl (fun l f => overlay f.1 f.2 l) ((Config.identBase cns nsid csi ++ List.replicate 4096 0).take 4096)

/-- One power state descriptor of Table 4-4: centiwatts, non-operational, latencies in µs. -/
def powerState (cw : Nat) (nops : Bool) (en ex : Nat) : List Byte :=
  leBytes 2 cw ++ [0#8] ++ leBytes 1 (2 * nops.toNat) ++ leBytes 4 en ++ leBytes 4 ex

/-- Identify Controller (R210, R249, R605, R620, R814, Tables 4-4, 16-2, 16-3). -/
def identCtrl (m : Mach) (c : NvCmd) : List Byte := identPage 1 0 0 [
  (0, leBytes 2 Config.vid.toNat), (4, (m.id.serial ++ List.replicate 20 0x20).take 20), (64, (m.sup.fwRev ++ List.replicate 8 0x20).take 8), (77, [8#8]),
  (78, leBytes 2 c.cntlid.toNat), (88, leBytes 4 (1000000 * (shutLimit m + 2))), (263, [4#8]), (328, leBytes 4 5), (516, leBytes 4 32), (525, [0#8]),
  (2048, powerState 1150 false 0 0), (2080, powerState 900 false 1000 1000), (2112, powerState 720 true 1000 1), (2144, powerState 510 true 300000 600000),
  (2176, powerState 230 true 2000000 6000000), (3072, leBytes 2 128)]

/-- The byte of Identify Namespace that tells the kind (R607). -/
def NsKind.byte : NsKind → Nat
  | .conventional => 1
  | _ => 0

/-- Identify Namespace (R606, R607, R867, Table 12-1). -/
def identNs (n : Ns) : List Byte := identPage 0 n.nsid 0 [
  (0, leBytes 8 n.size), (8, leBytes 8 n.size), (25, [2#8]), (26, leBytes 1 n.fmt), (29, leBytes 1 n.pit),
  (128, leBytes 2 0 ++ [12#8]), (132, leBytes 2 8 ++ [12#8]), (136, leBytes 2 16 ++ [12#8]), (3072, leBytes 1 n.kind.byte)]

/-- Identify Namespace of the Zoned Namespace command set (R619, Table 12-4): OZCS with Read Across Zone Boundaries, MAR, MOR, zone sizes. -/
def identZns (n : Ns) : List Byte := identPage 5 n.nsid 2 ([(0, leBytes 2 0), (2, leBytes 2 1), (4, leBytes 4 255), (8, leBytes 4 255)]
  ++ (List.range 3).map (fun i => (2816 + 16 * i, leBytes 8 65536 ++ [0#8])))

/-- A namespace list from an NSID on. -/
def nsList (ids : List Nat) (after : Nat) : List Byte :=
  let l := (sortBy id (ids.filter (fun i => decide (after < i)))).take 1024
  (l.map (leBytes 4)).flatten ++ List.replicate (4096 - 4 * l.length) 0

/-- IDENTIFY (R605, R607, R619, R620). -/
def execNvmeIdentify (c : NvCmd) (cns : Byte) (nsid : BitVec 32) (csi : Byte) (s : State) : Out := s.run (adminRow c (fun m =>
  let seen := fun (i : Nat) => (nsOf m i).filter (fun n => n.att.get c.port)
  let valid := decide (1 ≤ nsid.toNat) && decide (nsid.toNat ≤ 32)
  let zeros : List Byte := List.replicate 4096 0
  match cns.toNat with
  | 0x00 => if !valid then finish c .invalidNamespace m else finishWith c 0 (((seen nsid.toNat).map identNs).getD zeros) m
  | 0x01 => finishWith c 0 (identCtrl m c) m
  | 0x02 => finishWith c 0 (nsList ((m.zmg.maps.nss.filter (fun n => n.att.get c.port)).map (fun n => n.nsid)) nsid.toNat) m
  | 0x05 =>
    if !valid then finish c .invalidNamespace m
    else match seen nsid.toNat with
      | none => finishWith c 0 zeros m
      | some n => if csi = 2 && decide (n.kind = .zoned) then finishWith c 0 (identZns n) m
        else if csi = 0 then finishWith c 0 (identPage 5 n.nsid 0 []) m
        else finish c .invalidField m
  | 0x06 => if csi = 2 then finishWith c 0 (identPage 6 0 2 [(0, [8#8])]) m else if csi = 0 then finishWith c 0 (identPage 6 0 0 []) m else finish c .invalidField m
  | 0x10 => finishWith c 0 (nsList (m.zmg.maps.nss.map (fun n => n.nsid)) nsid.toNat) m
  | 0x11 => if !valid then finish c .invalidNamespace m else finishWith c 0 (((nsOf m nsid.toNat).map identNs).getD zeros) m
  | _ => finish c .invalidField m))

/-! ### Logs and features -/

/-- One entry of the Persistent Event Log (R980): a Vendor Specific Event of type 0xDE, its timestamp OPSEC × 1,000, origin 000b, and the record; the
rest of the entry's header as NVMe Base 2.0 gives it (log entry 73). -/
def logEntry (r : EvRec) : List Byte :=
  [0xDE#8, 1#8, 21#8, 0#8] ++ leBytes 2 0 ++ leBytes 6 (r.opsec.toNat * 1000) ++ leBytes 2 0 ++ leBytes 4 0 ++ leBytes 2 0 ++ leBytes 2 0 ++ leBytes 2 32
    ++ r.bytes

/-- The Persistent Event Log (R980). -/
def eventLog (m : Mach) : List Byte :=
  let es := m.evr.rising.filter (fun r => r.sev != .info)
  Config.eventLogHeader es.length ++ (es.map logEntry).flatten

/-- Log pages that NVMe Base 2.0 and its command sets define and whose content the spec leaves to them (log entry 73). -/
def standardLogs : List Nat := [0x01, 0x02, 0x03, 0x05, 0x06, 0x80, 0x81, 0xBF]

/-- A standard page: the SMART page tells the power cycles at byte 112 and the whole hours of operating time at byte 128 (R22; log entry 73). -/
def standardLog (m : Mach) (lid : Nat) : List Byte :=
  let p := Config.logPage lid
  if lid = 2 then overlay 112 (leBytes 16 m.sup.pcycle.toNat ++ leBytes 16 (m.sup.opSec.toNat / 3600)) (p ++ List.replicate (512 - p.length) 0#8) else p

/-- GET_LOG_PAGE (R980): dwords of a page from an offset. -/
def execNvmeGetLogPage (c : NvCmd) (lid : Byte) (offset : BitVec 64) (numd : BitVec 32) (s : State) : Out := s.run (adminRow c (fun m =>
  let part := fun (l : List Byte) => ((l.drop offset.toNat) ++ List.replicate (4 * (numd.toNat + 1)) 0).take (4 * (numd.toNat + 1))
  if lid = 0x0D then finishWith c 0 (part (eventLog m)) m
  else if standardLogs.contains lid.toNat then finishWith c 0 (part (standardLog m lid.toNat)) m
  else finish c .invalidLogPage m))

/-- SET_FEATURES_TIMESTAMP (R23, R981). -/
def execNvmeSetFeaturesTimestamp (c : NvCmd) (s : State) : Out := s.run (adminRow c (finish c .invalidField))

/-- DEVICE_SELF_TEST (R241): short, extended, or an abort of one; the spec states no test (log entry 76). -/
def execNvmeDeviceSelfTest (c : NvCmd) (stc : BitVec 4) (s : State) : Out := s.run (adminRow c (fun m =>
  if stc = 1 || stc = 2 || stc = 15 then finish c .success m else finish c .invalidField m))

/-! ### Firmware (R222 to R224, R870, R871) -/

/-- FIRMWARE_IMAGE_DOWNLOAD: a piece of the image at an offset in dwords. -/
def execNvmeFirmwareImageDownload (c : NvCmd) (offset : BitVec 32) (bytes : List Byte) (s : State) : Out := s.run (adminRow c (fun m =>
  if bytes.length % 4 != 0 || bytes.isEmpty then finish c .invalidField m
  else
    let o := 4 * offset.toNat
    let l := m.sup.fwBuf ++ List.replicate (o - m.sup.fwBuf.length) 0#8
    finish c .success { m with sup.fwBuf := overlay o bytes l }))

/-- The slot that a Firmware Commit names: 1 or 2; 0 leaves the choice to the module, which takes the one that is not active (log entry 74). -/
def fwTarget (m : Mach) (slot : BitVec 3) : Option Act := match slot.toNat with
  | 0 => some m.sup.fwActive.other
  | 1 => some .a0
  | 2 => some .a1
  | _ => none

/-- Put the downloaded image into a slot when it verifies (R870, R871): DSV 0x1110 or 0x1111 otherwise. -/
def fillSlot (a : Act) (m : Mach) : Mach × Bool :=
  let f := Config.parseFw m.sup.fwBuf
  if !f.sigOk || m.id.revoked.getLsbD f.key.toNat then (report 0x1110 nowhere (leBytes 1 f.key.toNat ++ leBytes 1 (a.idx + 1)) m, false)
  else if f.svn.toNat < m.id.minSvn.toNat then (report 0x1111 nowhere (leBytes 1 f.svn.toNat ++ leBytes 1 m.id.minSvn.toNat) m, false)
  else ({ m with sup.fw := m.sup.fw.upd a (fun _ => some f), sup.fwBuf := [] }, true)

/-- FIRMWARE_COMMIT (R224, R835, R871): actions 0 and 1 fill a slot, 1 and 2 activate it for the next reset. -/
def execNvmeFirmwareCommit (c : NvCmd) (slot : BitVec 3) (action : BitVec 3) (s : State) : Out := s.run (adminRow c (fun m =>
  if 2 < action.toNat then finish c .invalidField m
  else match fwTarget m slot with
    | none => finish c .invalidFirmwareSlot m
    | some a =>
      if action = 2 then
        if (m.sup.fw.get a).isSome then finish c .success (commitCtx c { m with sup.fwActive := a }) else finish c .invalidFirmwareSlot m
      else
        let r := fillSlot a m
        if !r.2 then finish c .invalidFirmwareImage r.1
        else finish c .success (commitCtx c (if action = 1 then { r.1 with sup.fwActive := a } else r.1))))

end Sys2Proof.Machine
end

