-- ==== Sys2Proof/Machine/Boot.lean ====
section
/-! DEFINITION. Meanings of the power-up stages, of the mode events and of the clean shutdown (spec/04, spec/01, spec/20 R997).
An event whose stated condition does not hold changes nothing (log entry 5). -/

namespace Sys2Proof.Machine

/-- The head bytes of one actuator in HEADMAP agree with R11, R13, R41 and its HEADS count: the reference head first, then
data heads without a gap, then absent numbers. -/
def headmapOk (heads : Nat) (row : List Byte) : Bool :=
  decide (2 ≤ heads) && decide (heads ≤ 12) && row == (1 :: List.replicate (heads - 1) 2 ++ List.replicate (12 - heads) 0)

/-- The identity page is valid (R50, R87). -/
def IdPage.valid (p : IdPage) : Bool :=
  p.intact && p.layout == 1 && decide (1 ≤ p.platters.toNat) && decide (p.platters.toNat ≤ 16)
    && (p.assist == 1 || p.assist == 2) && decide (300 ≤ p.capTb.toNat) && decide (p.capTb.toNat ≤ 720)
    && headmapOk p.heads.p0.toNat (p.headmap.take 12) && headmapOk p.heads.p1.toNat (p.headmap.drop 12)

/-! ### Power-on reset -/

/-- POWER_ON_RESET (R177, R971): the first supply to the always-on domain; a valid staging copy of the event store is written to its sector first. -/
def execPowerOnReset (hda : Option Hda) (s : State) : Out := s.run (fun m => evrReload (poweredOn hda m))

/-- Report a bring-up failure and enter SAFE with its code (R234). -/
def bringUpFail (code : Nat) (m : Mach) : Mach := enterSafe code (report code nowhere [] m)

/-- IDENTITY_CHECK: stage 1 (R49, R50, R53, R87). -/
def execIdentityCheck (s : State) : Out := s.run (fun m =>
  if stageDone m 1 then m
  else
    let m := markStage 1 m
    if !m.hda.strapOk then bringUpFail 0x0010 m
    else if !m.hda.norOk then bringUpFail 0x0011 m
    else match m.hda.page with
      | some p => if p.valid then m else bringUpFail 0x0016 m
      | none => bringUpFail 0x0016 m)

/-- The revision of a firmware slot. -/
def slotRev (m : Mach) (x : Act) : List Byte := match m.sup.fw.get x with
  | some f => f.rev
  | none => List.replicate 8 0

/-- DSV.BOOT tells of the image that runs (Table 17-9). -/
def runSlot (a : Act) (m : Mach) : Mach := match m.sup.fw.get a with
  | some f => { m with dsv.svn := f.svn, dsv.keySlot := f.key }
  | none => m

/-- FIRMWARE_SLOT_SELECT: stage 2 (R222 to R224). -/
def execFirmwareSlotSelect (s : State) : Out := s.run (fun m =>
  if !stageDone m 1 || stageDone m 2 then m
  else
    let m := markStage 2 m
    let x := m.sup.fwActive
    let m := { m with dsv.svn := 0, dsv.keySlot := 0 }
    if fwVerifies m x then runSlot x { m with sup.fwSlot := BitVec.ofNat 2 (x.idx + 1), sup.fwRev := slotRev m x }
    else
      if fwVerifies m x.other then
        runSlot x.other { report 0x0022 nowhere (leBytes 1 (x.idx + 1)) m with sup.fwSlot := BitVec.ofNat 2 (x.other.idx + 1), sup.fwActive := x.other, sup.fwRev := slotRev m x.other }
      else bringUpFail 0x0023 { m with sup.fwSlot := 3 })

/-- Read the last-shutdown slots (R89 to R91, R94, R99): S, a CLEAN slot resolves the record, another module's CLEAN slot is an
exchange. -/
def readSlots (m : Mach) : Mach :=
  match newerSlot m.hda with
  | none => { m with sup.slotSeq := 0 }
  | some x =>
    let m := { m with sup.slotSeq := x.seq }
    match x.state with
    | .clean =>
      let m := { m with sup.resolved := true }
      if x.module = m.id.serial then m else report 0x0018 nowhere [] m
    | _ => m

/-- Select a bank (R59, R61, R62). -/
def selectBank (m : Mach) : Mach :=
  match chooseBank m with
  | none => bringUpFail 0x0012 { m with sup.bankInUse := none, sup.noRecords := true, sup.records := [] }
  | some (k, b) =>
    let m := { m with sup.bankInUse := some k, sup.records := [], sup.noRecords := true }
    if b.supported then { m with sup.records := b.recs, sup.noRecords := false } else bringUpFail 0x0012 m

/-- The sequence stops after stage 3 when PWR_DIS is asserted (R997) or POWERUP_MODE is STANDBY, unless a SET_MODE or a release
of PWR_DIS names the mode to bring up (R218, R219). -/
def stopsAfter3 (m : Mach) : Bool :=
  m.pins.pwrDis || (m.sup.afterReset.isNone && m.sup.mode != .standby && powerupMode m == .standby)

/-- SETTINGS_BANK_SELECT: stage 3 (R59 to R62, R89 to R91, R99, R218, R997). -/
def execSettingsBankSelect (s : State) : Out := s.run (fun m =>
  if !stageDone m 2 || stageDone m 3 || !m.pwr.llcOn then m
  else
    let m := markStage 3 m
    let m := ifDo (norUsable m) (fun m => selectBank (readSlots m)) m
    if stopsAfter3 m && m.sup.mode != .safe then powerDownToStandby (if m.pins.pwrDis then 7 else 10) m else m)

/-- DRAM_TRAINING_COMPLETE: stage 4 (R218, R1039). -/
def execDramTrainingComplete (s : State) : Out := s.run (fun m =>
  if !stageDone m 3 || stageDone m 4 || !m.pwr.llcOn then m else dramInit (markStage 4 m))

/-- PAYLOAD_READ_COMPLETE: stages 6 and 7 (R60, R75, R79 to R83): the bank in use is settled and every check of Table 1-7 runs. -/
def execPayloadReadComplete (s : State) : Out := s.run (fun m =>
  if !stageDone m 4 || stageDone m 6 then m
  else payloadLoaded (markStage 7 (markStage 6 m)))

/-- MICROCODE_LOAD: stage 8 (R225, R226). `arrivals` gives, for blocks of a sequencer that a transit changed, the bytes that arrived at the read and
at each further one; every other block arrives as the image holds it. A block that stays rejected reports SUP 0x0024; SAFE follows after stage 9. -/
def execMicrocodeLoad (arrivals : List (Act × BitVec 16 × List (List Byte))) (s : State) : Out := s.run (fun m =>
  if !stageDone m 7 || stageDone m 8 then m else mediaBoot arrivals (markStage 8 m))

/-- ENGINE_BOOT: stage 10 (R216): the active engine starts only after BULKCAP has completed or failed. -/
def execEngineBoot (s : State) : Out := s.run (fun m =>
  if !m.pwr.measDone || !stageDone m 4 || stageDone m 10 then m
  else feBoot (releaseIfReset (.fe (activeEngine m)) (markStage 10 m)))

/-- The mode that bring-up runs toward: one named by SET_MODE or by R244, else POWERUP_MODE (R218, R219). -/
def bootTarget (m : Mach) : Mode :=
  match m.sup.afterReset with
  | some t => t
  | none => if m.sup.mode == .standby && m.sup.trans then m.sup.target else powerupMode m

/-- SPIN_UP_START (R106, R216): stage 7 has passed and BULKCAP has completed or failed; the demand is that of the mode brought up. -/
def execSpinUpStart (s : State) : Out := s.run (fun m =>
  if !stageDone m 7 || !m.pwr.measDone || m.sup.mode == .safe || stageDone m 11 || m.pwr.loss then m
  else setDemand (demandOf m (bootTarget m)) m)

/-- Enter the first mode of bring-up, then on toward the target (Table 4-2, R206): IDLE_LOW or IDLE_READY, and IDLE_READY while another module's
loss is unresolved (R232); SAFE and SERVICE at once, unless dirty lines are to be destaged first (Table 4-3). -/
def bootMode (m : Mach) : Mach :=
  let t := if m.sup.foreign && bootTarget m == .idleLow then .idleReady else bootTarget m
  let row := if m.sup.mode == .standby && m.sup.trans then m.sup.transCause.toNat else if m.sup.afterReset.isSome then 6 else 10
  let m := { m with sup.afterReset := none }
  if t == .safe && !owesDestage m then safeEntered (changeMode .safe row m)
  else if t == .service && !owesDestage m then changeMode .service row m
  else
    let m := changeMode (if t == .idleLow then .idleLow else .idleReady) row m
    if t == .standby then startShutdown .setMode m else beginMode t row m

/-- CONTROLLER_READY: stage 11 (R217, R227): replay and engine boot are done; the time since power-on reset in ms. PWR_DIS
asserted from stage 4 on now starts the clean shutdown (R997). -/
def execControllerReady (t : BitVec 16) (s : State) : Out := s.run (fun m =>
  if !stageDone m 9 || !stageDone m 10 || stageDone m 11 then m
  else
    let m := wearCheck (svnRaise (markStage 11 { m with sup.ctrlReady := true, sup.ctrlT := t }))
    let m := controllersReady m
    let m := if m.sup.mode == .off || m.sup.mode == .standby then bootMode m else { m with sup.afterReset := none }
    ifDo m.pins.pwrDis (startShutdown .pwrDis) m)

/-- MEDIA_READY (R228, R229): heads in FOLLOW and forced calibrations complete; stage 12 with both actuators, and its time in
10 ms units; held commands are released. -/
def execMediaReady (a : Act) (t : BitVec 16) (s : State) : Out := s.run (fun m =>
  if (m.srv.get a).st != .follow || !forcedCalsDone m a || (m.sup.actReady.get a) then m
  else
    let m := { m with sup.actReady := m.sup.actReady.upd a (fun _ => true) }
    let m := if m.sup.actReady.p0 && m.sup.actReady.p1 && stageDone m 11 && !stageDone m 12 then
        markStage 12 { m with sup.mediaT := t } else m
    releaseHeldDo (modeAdvance m))

/-- LAST_SHUTDOWN_RESOLVE (R93, R95, R98): a resolved record is erased and slot 0 programmed RUNNING, before heads load; not in STANDBY (R218), and
after a completed shutdown only with the return to operation. -/
def execLastShutdownResolve (s : State) : Out := s.run (fun m =>
  if !m.sup.resolved || m.sup.opened || m.sup.foreign || !norUsable m || !mayConvert m || shutOver m || m.sup.shut == .unloading then m
  else modeAdvance (loadWanted (openRecord m)))

/-- ACTIVE_IDLE_TIMEOUT (Table 4-2): no media command outstanding for 10 ms. -/
def execActiveIdleTimeout (s : State) : Out := s.run (fun m =>
  if m.sup.mode == .active && !m.sup.trans && !mediaOutstanding m then changeMode .idleFly 2 m else m)

/-- APST_TRANSITION (R200, R201, Table 4-4): only while the host has enabled it, from IDLE_FLY or ACTIVE. -/
def execApstTransition (ps : BitVec 3) (s : State) : Out := s.run (fun m =>
  if m.sup.apstEn && fliesHeads m.sup.mode && !mediaOutstanding m && decide (ps.toNat ≤ 4) && m.sup.shut == .none then
    beginMode (psMode ps.toNat) 5 (psTo ps m)
  else m)

/-- PWR_DIS_ASSERT (R245, R997): asserted for 1 ms; a clean shutdown starts in modes 2 to 7. In STANDBY the module stays. -/
def execPwrDisAssert (s : State) : Out := s.run (fun m =>
  if m.pins.pwrDis then m
  else
    let m := report 0x0028 nowhere (leBytes 1 m.sup.mode.code) { m with pins.pwrDis := true }
    match m.sup.mode with
    | .off | .standby => m
    | _ => if stageDone m 11 then startShutdown .pwrDis m else m)

/-- PWR_DIS_RELEASE (R204, R253, R274, Table 4-2): HALTED clears; from STANDBY toward POWERUP_MODE by the stage of LLC start; during a shutdown it
takes effect at completion. -/
def execPwrDisRelease (s : State) : Out := s.run (fun m =>
  let m := spnResume { m with pins.pwrDis := false, spn.halted := false }
  if m.sup.mode == .standby && !m.sup.trans && powerupMode m != .standby then leaveStandby (powerupMode m) 8 m else m)

/-- SHUTDOWN_DESTAGE_DONE (R247, R895): held commands have completed, no dirty line is left and no parity update is under way. -/
def execShutdownDestageDone (s : State) : Out := s.run (fun m =>
  if m.sup.shut == .draining && !mediaOutstanding m && decide (dirtySectors m = 0) && (parityUnderWay m).isEmpty then shutUnload m else m)

/-- SHUT_LIMIT_EXPIRY (R247, R250, R895): dirty lines, or parity updates, that remain are written as a vault image. -/
def execShutLimitExpiry (s : State) : Out := s.run (fun m =>
  if m.sup.shut != .draining then m
  else if decide (dirtySectors m = 0) && (parityUnderWay m).isEmpty then shutUnload m
  else
    let dirty := dirtySectors m
    let m := vaultShutdown { m with sup.shut := .vaulting }
    report 0x0027 nowhere (leBytes 2 (sectorsMiB dirty) ++ leBytes 4 (newestVseq m).toNat) m)

/-- Every controller that was told to shut down reports its shutdown complete (R249). -/
def shutReported (m : Mach) : Mach :=
  { m with fe.ctrls := m.fe.ctrls.map (fun k => if k.shutting then { k with shutting := false, shutDone := true, rdy := false } else k) }

/-- The slot that closes the cycle (R95, R96, R250): CLEAN, or LOST with the VSEQ of the image, which leaves the record to be resolved by a replay. A
record that is not open, unresolved among them, is left as it stands: no slot is programmed (DESIGN CHOICE, log entry 102). -/
def shutSlot (m : Mach) : Mach :=
  if !m.sup.opened || !norUsable m then m
  else match m.sup.shutVseq with
    | some v => { closeRecord .lost v m with sup.resolved := false }
    | none => closeRecord .clean 0 m

/-- SHUTDOWN_COMPLETE (R96, R247 to R251, R254): heads parked; slot 1 is programmed, the life counters are kept, shutdown complete is reported and
CTRL_READY clears; then the adaptive tables are committed (R68), and the target is entered once they are. -/
def execShutdownComplete (ms : BitVec 32) (s : State) : Out := s.run (fun m =>
  if m.sup.shut != .unloading || !parked m then m
  else
    let m := shutSlot m
    let m := report 0x0026 nowhere (leBytes 2 m.sup.destaged.toNat ++ leBytes 4 ms.toNat) m
    let m := shutReported { persistLife m with
      sup.shut := if m.sup.shutVseq.isSome then .completeVaulted else .complete, sup.ctrlReady := false, sup.tail := true }
    shutTail (adaptiveCommit (shutTarget m)))

end Sys2Proof.Machine
end

