-- ==== Sys2Proof/Machine/OpsClean.lean ====
section
/-! DEFINITION. Shared operations of porch cleaning (spec/12 R639, R640) and of the porch scan (R642). -/

namespace Sys2Proof.Machine

/-- Cleaning may run on an actuator (R672, R673): it is owed, or nothing of classes 0 to 4 waits; its heads serve. -/
def cleanMay (m : Mach) (a : Act) : Bool :=
  m.sup.actReady.get a && !m.pwr.loss && fliesHeads m.sup.mode
    && ((m.sch.act.get a).cleanOwed || !(m.sch.act.get a).queue.any (fun e => decide (e.cls ≤ 4)))

/-- Copy the live sectors of a logical band to F in order from a slot on (R639 step 1): a sector without a live location is written as zeros
and keeps none. -/
def cleanCopy (a : Act) (n : Ns) (l f k0 : Nat) (m : Mach) : Mach :=
  let m := (List.range (65536 - k0)).foldl (fun m i =>
    let k := k0 + i
    let lba := bandLba .managed a l k
    match bandSlot m a f false k with
    | none => m
    | some q => match livePlace m n lba with
      | some (p, j) => match bandSlot m a p false j with
        | some src => copySlot a src q f m
        | none => m
      | none =>
        let m := slotPut a q.head q.track q.slot ⟨0, secMeta m a q.head q.track q.slot n lba f k 0⟩ m
        onMan n.nsid a (fun x => { x with live := setLive lba (some .dead) x.live }) m) m
  { m with zmg.maps.front := assocSet 0 m.zmg.maps.front (bandKey a f) 65536 }

/-- Steps 1 and 2 of R639: a band is chosen (R640), a free pool band, or the rewrite in progress, is written and verified. -/
def cleanStart (a : Act) (n : Ns) (m : Mach) : Mach :=
  let mm := manOf m n.nsid a
  if mm.cleaning.isSome || mm.journal.isSome || !cleanMay m a then m
  else match cleanNext m n a with
    | none => m
    | some l =>
      let rw : Option (Nat × Nat) := match mm.rewrite with
        | some w => if w.band == l && frontOf m a w.pbn == w.frontier then some (w.pbn, w.frontier) else none
        | none => none
      let pick : Option (Nat × Nat × Mach) := match rw with
        | some (f, k) => some (f, k, m)
        | none => match mm.free with
          | f :: r => some (f, 0, onMan n.nsid a (fun x => { x with free := r }) m)
          | [] => none
      match pick with
      | none => m
      | some (f, k, m) =>
        let m := cleanCopy a n l f k { m with zmg.maps.wseq := m.zmg.maps.wseq.upd a (· + 1) }
        { onMan n.nsid a (fun x => { x with cleaning := some (l, f) }) m with zmg.cleaning := m.zmg.cleaning.upd a (fun _ => true) }

/-- Step 3 of R639: the journal names L, F and the replaced band, in both copies. -/
def cleanJournal (a : Act) (n : Ns) (m : Mach) : Mach :=
  let mm := manOf m n.nsid a
  match mm.cleaning, mm.journal with
  | some (l, f), none => saveMaps (onMan n.nsid a (fun x => { x with journal := some (l, f, assoc 0 x.map l) }) m)
  | _, _ => m

/-- Step 4 of R639. -/
def cleanRemap (a : Act) (n : Ns) (m : Mach) : Mach := judgePorch a (releasePorch n.nsid a 64 (remapCleaned n.nsid a m))

/-- Sectors of a porch band that were written since the extent map was last saved, in log order (R642): the band's own lap, by WSEQ. -/
def porchWritten (m : Mach) (a : Act) (nsid pbn : Nat) (since : BitVec 32) : List (Nat × Nat × BitVec 32) :=
  (List.range 65536).filterMap (fun k => (bandSlot m a pbn false k).bind (fun p =>
    (slotData m a p.head p.track p.slot).bind (fun (x : Payload) =>
      if x.info.flags.getLsbD 0 && x.info.nsid.toNat == nsid && (x.info.wseq == since || newer x.info.wseq since) then some (k, x.info.lba.toNat, x.info.wseq) else none)))

/-- Scan the porch band at the tail of the log and rebuild its extents (R642): the number of extents recovered, and the machine. -/
def scanPorch (a : Act) (n : Ns) (m : Mach) : Mach × Nat :=
  match (manOf m n.nsid a).porch.getLast? with
  | none => (m, 0)
  | some (p, _) =>
    let ws := porchWritten m a n.nsid p (m.zmg.maps.wseq.get a)
    let m := ws.foldl (fun m w =>
      onMan n.nsid a (fun x => { x with live := setLive w.2.1 (some (.porch p w.1)) x.live, porch := x.porch.dropLast ++ [(p, w.1 + 1)] })
        { m with zmg.maps.front := assocSet 0 m.zmg.maps.front (bandKey a p) (w.1 + 1)
                 zmg.maps.wseq := m.zmg.maps.wseq.upd a (fun s => if newer w.2.2 s then w.2.2 else s) }) m
    (m, extentsOf (ws.map (fun w => (w.2.1, Loc.porch p w.1))) none)

end Sys2Proof.Machine
end

