-- ==== Sys2Proof/Machine/Cache.lean ====
section
/-! DEFINITION. Meanings of the cache's and the DRAM's commands and events (spec/14). -/

namespace Sys2Proof.Machine

/-! ### Register words (Table 14-10) -/

/-- BCM.STATUS. -/
def bcmStatusReg (m : Mach) : Reg :=
  let b := m.bcm
  packReg [⟨31, 1, b.missWaitCnt.ovf.toNat⟩, ⟨30, 1, b.deadlineCnt.ovf.toNat⟩, ⟨29, 1, b.arrCorr.ovf.toNat⟩, ⟨28, 1, b.dramCorr.ovf.toNat⟩,
    ⟨27, 1, b.atticHitCnt.ovf.toNat⟩, ⟨26, 1, b.mergeCnt.ovf.toNat⟩, ⟨25, 1, b.missCnt.ovf.toNat⟩, ⟨24, 1, b.hitCnt.ovf.toNat⟩,
    ⟨9, 1, (decide (128 ≤ missUsed m .a1)).toNat⟩, ⟨8, 1, (decide (128 ≤ missUsed m .a0)).toNat⟩,
    ⟨7, 1, (b.frames.any (fun e => e.2.poison != 0)).toNat⟩, ⟨6, 1, (!b.writeWait.isEmpty && decide (budget m ≤ dirtyCount m)).toNat⟩,
    ⟨5, 1, b.forcedWt.toNat⟩, ⟨4, 1, b.blocked.toNat⟩, ⟨3, 1, b.draining.toNat⟩, ⟨2, 1, b.retireApplied.toNat⟩, ⟨1, 1, b.checksInit.toNat⟩, ⟨0, 1, b.trained.toNat⟩]

/-- BCM.MODE. -/
def bcmModeReg (m : Mach) : Reg := packReg [⟨4, 3, m.bcm.target.code⟩, ⟨3, 1, m.bcm.draining.toNat⟩, ⟨0, 3, m.bcm.mode.code⟩]
/-- BCM.LINES. -/
def bcmLinesReg (m : Mach) : Reg :=
  packReg [⟨16, 16, (m.bcm.frames.filter (fun e => e.2.lock)).length⟩, ⟨0, 16, (m.bcm.frames.filter (fun e => e.2.retired)).length⟩]
/-- BCM.MISS. -/
def bcmMissReg (m : Mach) : Reg := packReg [⟨8, 8, missUsed m .a1⟩, ⟨0, 8, missUsed m .a0⟩]
/-- BCM.ERRADDR_HI. -/
def bcmErrHiReg (m : Mach) : Reg := match m.bcm.errAddr with
  | some (arr, ad) => packReg [⟨31, 1, 1⟩, ⟨27, 4, arr.toNat⟩, ⟨0, 1, ad.toNat / 2 ^ 32⟩]
  | none => 0
/-- BCM.ECCTEST. -/
def bcmEccReg (m : Mach) : Reg :=
  packReg [⟨31, 1, m.bcm.test.toNat⟩, ⟨24, 1, m.bcm.testTag.toNat⟩, ⟨9, 1, m.bcm.testRw.toNat⟩, ⟨8, 1, m.bcm.testDone.toNat⟩, ⟨0, 8, m.bcm.testCheck.toNat⟩]
/-- BCM.GRANTSEL. -/
def bcmGrantReg (m : Mach) : Reg :=
  packReg [⟨8, 1, (m.bcm.grants.getD m.bcm.grantSel.toNat .zero).ovf.toNat⟩, ⟨0, 4, m.bcm.grantSel.toNat⟩]

/-! ### Dirty data and the attic -/

/-- SECTOR_ENTER_CACHE (R731, R625, R658): waiting sectors enter while the count is below the budget. -/
def execSectorEnterCache (now : BitVec 48) (s : State) : Out := s.run (fun m => if frozen m then m else flow (clockTo now.toNat m))

/-- DESTAGE_REQUEST (R732): threshold, age or an empty queue. -/
def execDestageRequest (a : Act) (now : BitVec 48) (s : State) : Out := s.run (fun m =>
  let m := clockTo now.toNat m
  if frozen m || !destageDue m a then m
  else match destagePick m a with
    | some k => askDestage k m
    | none => m)

/-- A line enters the attic, the oldest leaving a full one (R726). -/
def atticPut (l : Line) (m : Mach) : Mach :=
  let q := if m.bcm.attic.length < 1024 then m.bcm.attic else m.bcm.attic.drop 1
  { m with bcm.attic := q ++ [l] }

/-- A recalled line moves into the victim frame of its set; the victim enters the attic in its place (R727). -/
def atticRecall (ns line : Nat) (m : Mach) : Mach :=
  match m.bcm.attic.find? (fun l => l.ns == ns && l.line == line), victimOf m (setOf ns line) false with
  | some l, some k =>
    let v := frameAt m k
    let keep := v.valid != 0 && !v.spec && !v.transient
    let m := { m with bcm.attic := m.bcm.attic.filterMap (fun x => if x == l then (if keep then some { v with lock := false, pin := false } else none) else some x) }
    touch k (onFrame k (fun _ => { l with spec := false }) m)
  | _, _ => m

/-- ATTIC_MOVE_COMPLETE (R726, R727, R729): the oldest move completes. -/
def execAtticMoveComplete (s : State) : Out := s.run (fun m =>
  match m.bcm.moves with
  | [] => m
  | x :: r =>
    let m := { m with bcm.moves := r }
    match x with
    | .evict l => if (frameOf m l.ns l.line).isSome then m else atticPut l m
    | .recall ns line => missKick (atticRecall ns line m))

/-- CACHE_DRAIN_COMPLETE (R736 to R738). -/
def execCacheDrainComplete (s : State) : Out := s.run (fun m => drainCheck (drainDone m))

/-! ### Errors and the scrubber -/

/-- An uncorrectable error in a unit of G_FAB (R748 to R750, R779): BCM 0x0E11; a data word poisons its line, a tag row loses its frame, a word of
the tables leaves its structures out (`rows`, by Table 12-3); the vault sequence runs before the reset. -/
def fabUncorrectable (arr ad : Nat) (rows : BitVec 8) (m : Mach) : Mach :=
  let m := if arr = 5 then m else report 0x0E11 nowhere (leBytes 1 arr ++ leBytes 5 ad) m
  if arr = 0 then
    if ad < 6442450944 then
      fabSequence 0 (onFrame (ad / 32768) (fun l => if l.valid == 0 then l else { l with poison := l.poison ||| l.valid }) m)
    else fabSequence rows m
  else if arr = 1 then
    let m := report 0x0E12 nowhere (leBytes 2 (ad / 16) ++ leBytes 1 (ad % 16)) m
    fabSequence 0 (onFrame ad (fun l => if l.retired then l else {}) m)
  else if arr = 5 then fabSequence 0 (report 0x1040 nowhere (leBytes 2 ad) m)
  else fabSequence 0 m

/-- The tag row of a frame (Table 14-3). -/
def tagRow (l : Line) : BitVec 88 :=
  BitVec.ofNat 88 (l.ns % 32 * 2 ^ 83 + l.line % 2 ^ 32 * 2 ^ 51 + l.valid.toNat * 2 ^ 43 + l.dirty.toNat * 2 ^ 35 + l.redirty.toNat * 2 ^ 27 + l.poison.toNat * 2 ^ 19
    + l.lock.toNat * 2 ^ 18 + l.spec.toNat * 2 ^ 17 + l.pin.toNat * 2 ^ 16 + l.fill.toNat * 2 ^ 15 + l.dstg.toNat * 2 ^ 14 + l.retired.toNat * 2 ^ 13)

/-- A 64-bit word of the visible DRAM as stored: of a cached line, of the attic, or elsewhere (Table 14-1). -/
def dramWord (m : Mach) (w : Nat) : BitVec 64 :=
  let sec := fun (l : Line) => ((l.secs.getD (w / 512 % 8) none).map (fun s => s.data.extractLsb' (64 * (w % 512)) 64)).getD 0
  if w < 805306368 then sec (frameAt m (w / 4096))
  else if w < 809500672 then sec ((m.bcm.attic.getD (w / 4096 - 196608) {}))
  else assoc 0#64 m.bcm.words w

/-- A sector's word changes. -/
def putWord (w : Nat) (v : BitVec 64) (d : Sector) : Sector :=
  BitVec.ofNat 32768 (d.toNat - (d.extractLsb' (64 * (w % 512)) 64).toNat * 2 ^ (64 * (w % 512)) + v.toNat * 2 ^ (64 * (w % 512)))

/-- Store a word in the DRAM. -/
def storeWord (w : Nat) (v : BitVec 64) (m : Mach) : Mach :=
  let upd := fun (l : Line) => { l with secs := updAt l.secs (w / 512 % 8) (fun s => s.map (fun x => { x with data := putWord w v x.data })) }
  if w < 805306368 then (if (frameAt m (w / 4096)).secs.isEmpty then m else onFrame (w / 4096) upd m)
  else if w < 809500672 then { m with bcm.attic := updAt m.bcm.attic (w / 4096 - 196608) upd }
  else { m with bcm.words := assocSet 0#64 m.bcm.words w v }

/-- The fields of a tag row as its bits spell them (Table 14-3). -/
def tagTo (d : BitVec 88) (l : Line) : Line :=
  { l with
    ns := (d.extractLsb' 83 5).toNat, line := (d.extractLsb' 51 32).toNat, valid := d.extractLsb' 43 8, dirty := d.extractLsb' 35 8, redirty := d.extractLsb' 27 8
    poison := d.extractLsb' 19 8, lock := d.getLsbD 18, spec := d.getLsbD 17, pin := d.getLsbD 16, fill := d.getLsbD 15, dstg := d.getLsbD 14, retired := d.getLsbD 13
    secs := if l.secs.isEmpty then List.replicate 8 none else l.secs }

/-- What the check bits of a word make of it (R703, R760): a word whose check bits a test gave is judged by them
while it still holds what the test wrote. -/
def scrubFind (m : Mach) (arr ad : Nat) (find : EccFind) : EccFind :=
  let judged := fun (r : Option (BitVec 88 × Bool)) => match r with
    | none => EccFind.uncorrectable
    | some (_, true) => .corrected
    | some (_, false) => .clean
  if arr = 0 then match m.bcm.testWords.find? (fun w => w.1 == ad / 8) with
    | some (w, d, c) => if dramWord m w == d then judged (Config.secded (d.zeroExtend 88) c) else find
    | none => find
  else if arr = 1 then match m.bcm.testTags.find? (fun w => w.1 == ad) with
    | some (k, d, c) => if tagRow (frameAt m k) == d then judged (Config.secded d c) else find
    | none => find
  else find

/-- A corrected word is written back (R751): its test check bits go. -/
def writeBackWord (arr ad : Nat) (m : Mach) : Mach :=
  if arr = 0 then
    match m.bcm.testWords.find? (fun w => w.1 == ad / 8) with
    | some (k, d, c) =>
      let v := ((Config.secded (d.zeroExtend 88) c).map (fun r => r.1.truncate 64)).getD d
      let m := { m with bcm.testWords := m.bcm.testWords.filter (fun w => w.1 != k) }
      if dramWord m k == d then storeWord k v m else m
    | none => m
  else if arr = 1 then
    match m.bcm.testTags.find? (fun w => w.1 == ad) with
    | some (k, d, c) =>
      let v := ((Config.secded d c).map (fun r => r.1)).getD d
      let m := { m with bcm.testTags := m.bcm.testTags.filter (fun w => w.1 != k) }
      if tagRow (frameAt m k) == d then onFrame k (tagTo v) m else m
    | none => m
  else m

/-- A corrected error (R751 to R754, R841). The scrubber visits a page once a lap and a word of it once: errors of one word at two visits, or of
the page in two laps on end, are those of R752. -/
def correctedAt (arr ad : Nat) (m : Mach) : Mach :=
  let m := writeBackWord arr ad { m with bcm.errAddr := some (BitVec.ofNat 4 arr, BitVec.ofNat 33 ad) }
  if arr = 0 then
    let page := ad / 4096
    let m := { m with bcm.dramCorr := m.bcm.dramCorr.inc }
    let m := if m.bcm.cePages.contains page then m else report 0x0E10 nowhere (leBytes 4 page) { m with bcm.cePages := m.bcm.cePages ++ [page] }
    let again := m.bcm.scrubCe.contains (ad / 8) || (m.bcm.lastPages.contains page && !m.bcm.lapPages.contains page)
    let m := { m with bcm.lapPages := if m.bcm.lapPages.contains page then m.bcm.lapPages else m.bcm.lapPages ++ [page]
                      bcm.scrubCe := if m.bcm.scrubCe.contains (ad / 8) then m.bcm.scrubCe else m.bcm.scrubCe ++ [ad / 8] }
    if again then persistentPage page m else m
  else if arr = 5 then
    let m := { m with fe.ctxCorr := m.fe.ctxCorr.inc }
    if m.bcm.rowCe.contains ad then contextRow ad m else { m with bcm.rowCe := m.bcm.rowCe ++ [ad] }
  else { m with bcm.arrCorr := m.bcm.arrCorr.inc }

/-- A scrub visit finds a word clean. -/
def cleanAt (arr ad : Nat) (m : Mach) : Mach :=
  if arr = 0 then { m with bcm.scrubCe := m.bcm.scrubCe.filter (· != ad / 8) }
  else if arr = 5 then { m with bcm.rowCe := m.bcm.rowCe.filter (· != ad) }
  else m

/-- A complete lap of an array (R758, R759). -/
def scrubLap (arr us : Nat) (m : Mach) : Mach :=
  let m := { m with bcm.laps := updAt m.bcm.laps arr (fun _ => BitVec.ofNat 32 (satTo 4294967295 us)) }
  let m := if arr = 0 then { m with bcm.lastPages := m.bcm.lapPages, bcm.lapPages := [] } else m
  if arr = 0 && decide (1000000 * bcmSet m 6 2 3600 < us) then report 0x0E40 nowhere (leBytes 4 (us / 1000000)) m else m

/-- DRAM_SCRUB (R703, R748 to R754, R758, R759, R841): one protected word of array 0 to 6 of BCM.SCRUBSEL is read, at a DRAM address, tag row,
set or row, with the structures of Table 12-3 that it holds; `lap` when it ends a lap. -/
def execDramScrub (arr : BitVec 4) (ad : BitVec 33) (rows : BitVec 8) (find : EccFind) (lap : Option (BitVec 48)) (s : State) : Out := s.run (fun m =>
  if 6 < arr.toNat || !m.bcm.trained then m
  else
    let done := fun (m : Mach) => match lap with
      | some us => scrubLap arr.toNat us.toNat m
      | none => m
    match scrubFind m arr.toNat ad.toNat find with
    | .clean => done (cleanAt arr.toNat ad.toNat m)
    | .corrected => done (correctedAt arr.toNat ad.toNat m)
    | .uncorrectable => fabUncorrectable arr.toNat ad.toNat rows (done m))

/-! ### Check-bit test mode (R760 to R762) -/

/-- The stored bits of a tag row: those that a test gave, else the fields with generated check bits. -/
def tagBits (m : Mach) (r : Nat) : BitVec 88 × BitVec 8 := match m.bcm.testTags.find? (fun w => w.1 == r) with
  | some (_, d, c) => (d, c)
  | none => (tagRow (frameAt m r), Config.check8 (tagRow (frameAt m r)))

/-- The stored bits of a DRAM word. -/
def wordBits (m : Mach) (w : Nat) : BitVec 64 × BitVec 8 := match m.bcm.testWords.find? (fun x => x.1 == w) with
  | some (_, d, c) => (d, c)
  | none => (dramWord m w, Config.check8 ((dramWord m w).zeroExtend 88))

/-- Give a tag row bits of a test. -/
def putTagBits (r : Nat) (d : BitVec 88) (c : BitVec 8) (m : Mach) : Mach :=
  { m with bcm.testTags := m.bcm.testTags.filter (fun (w : Nat × BitVec 88 × BitVec 8) => w.1 != r) ++ [(r, d, c)] }

/-- Give a DRAM word bits of a test. -/
def putWordBits (w : Nat) (d : BitVec 64) (c : BitVec 8) (m : Mach) : Mach :=
  { m with bcm.testWords := m.bcm.testWords.filter (fun (x : Nat × BitVec 64 × BitVec 8) => x.1 != w) ++ [(w, d, c)] }

/-- Bytes of the visible DRAM (Table 14-1). -/
def visibleBytes : Nat := 7516192768
/-- Tag rows (R709). -/
def tagRows : Nat := 196608

/-- The write of R760: TESTDATA and CHECK at TESTADDR. -/
def ecctestPut (m : Mach) : Mach :=
  let c := m.bcm.testCheck
  let m := { m with bcm.testDone := true }
  if m.bcm.testTag then
    let r := m.bcm.testAddr.toNat % 2 ^ 32
    if tagRows ≤ r then m
    else
      let m := onFrame r (tagTo m.bcm.testData) m
      putTagBits r (tagRow (frameAt m r)) c m
  else
    let w := m.bcm.testAddr.toNat / 8
    if visibleBytes ≤ m.bcm.testAddr.toNat then m
    else
      let m := storeWord w (m.bcm.testData.truncate 64) m
      putWordBits w (dramWord m w) c m

/-- The read of R761: the stored bits, uncorrected. -/
def ecctestGet (tag : Bool) (m : Mach) : Mach :=
  if tag then
    let b := tagBits m (m.bcm.testAddr.toNat % 2 ^ 32)
    { m with bcm.testData := b.1, bcm.testCheck := b.2, bcm.testDone := true }
  else
    let b := wordBits m (m.bcm.testAddr.toNat / 8)
    { m with bcm.testData := b.1.zeroExtend 88, bcm.testCheck := b.2, bcm.testDone := true }

/-- A write of BCM.ECCTEST (R760 to R762, Table 14-10): its RWS fields are taken in SERVICE alone; a GO with RW at 1 reads in every mode. -/
def ecctestAccess (reg : Reg) (m : Mach) : Mach :=
  let m := if m.sup.mode == .service then
      { m with bcm.test := bit reg 31, bcm.testTag := bit reg 24, bcm.testRw := bit reg 9, bcm.testCheck := reg.extractLsb' 0 8 } else m
  if !bit reg 10 then m
  else if bit reg 9 then ecctestGet (bit reg 24) m
  else if m.sup.mode == .service && m.bcm.test then ecctestPut m
  else m

/-- ECCTEST_WRITE (R760, R762): a write of ECCTEST with GO 1 and RW 0. -/
def execEcctestWrite (reg : BitVec 32) (s : State) : Out := s.run (fun m => if bit reg 10 && !bit reg 9 then ecctestAccess reg m else m)

/-- ECCTEST_READ (R761): a write of ECCTEST with GO 1 and RW 1. -/
def execEcctestRead (reg : BitVec 32) (s : State) : Out := s.run (fun m => if bit reg 10 && bit reg 9 then ecctestAccess reg m else m)

/-! ### The arbiter -/

/-- The leaves of a group (Table 14-5). -/
def groupLeaves : Nat → List Nat
  | 0 => [0, 1, 2]
  | 1 => [3, 4]
  | 2 => [5, 6]
  | _ => [7, 8, 9, 10]

/-- The group of a leaf. -/
def leafGroup (l : Nat) : Nat := if l < 3 then 0 else if l < 5 then 1 else if l < 7 then 2 else 3

/-- Leaves of a group that request. -/
def asking (req : BitVec 11) (g : Nat) : List Nat := (groupLeaves g).filter (fun l => req.getLsbD l)

/-- The next requesting leaf of a group after the one granted last (R763). -/
def nextLeaf (req : BitVec 11) (g last : Nat) : Option Nat :=
  let ls := asking req g
  match ls.find? (fun l => decide (last < l)) with
  | some l => some l
  | none => ls.head?

/-- A leaf is granted. -/
def grantLeaf (l : Nat) (m : Mach) : Mach :=
  { m with bcm.grants := updAt m.bcm.grants l Counter.inc, bcm.lastLeaf := updAt m.bcm.lastLeaf (leafGroup l) (fun _ => l), bcm.grantNo := (m.bcm.grantNo + 1) % 64 }

/-- One grant by credit (R764). -/
def creditGrant (req : BitVec 11) (m : Mach) : Mach :=
  let gs := (List.range 4).filter (fun g => !(asking req g).isEmpty)
  let w : List Nat := (m.bcm.weights.zipIdx).map (fun (p : Nat × Nat) => if gs.contains p.2 && p.1 == 0 then 1 else p.1)
  let cr := (m.bcm.credits.zipIdx).map (fun p => if gs.contains p.2 then p.1 + (w.getD p.2 0 : Int) else p.1)
  match gs.foldl (fun (b : Option Nat) g => match b with
      | none => some g
      | some x => if cr.getD x 0 < cr.getD g 0 then some g else some x) none with
  | none => m
  | some g =>
    let sum : Int := ((gs.map (fun h => w.getD h 0)).sum : Nat)
    let m := { m with bcm.weights := w, bcm.credits := updAt cr g (fun c => c - sum) }
    match nextLeaf req g (m.bcm.lastLeaf.getD g 0) with
    | some l => grantLeaf l m
    | none => m

/-- ARBITER_GRANT (R763, R764, R766): the leaves that request, and how long each media leaf has waited, ns. Every 64 grants, and at the first
grant after a release of G_FAB, the weights are taken anew. -/
def execArbiterGrant (req : BitVec 11) (w0 w1 w2 : BitVec 32) (s : State) : Out := s.run (fun m =>
  if req = 0 then m
  else
    let m := if m.bcm.grantNo = 0 then { m with bcm.weights := (List.range 4).map (fun g => (asking req g).length), bcm.credits := [0, 0, 0, 0] } else m
    let dl := bcmSet m 4 2 1000
    let late := ([(0, w0.toNat), (1, w1.toNat), (2, w2.toNat)].filter (fun p => req.getLsbD p.1 && decide (dl ≤ p.2)))
    match leastBy (fun (p : Nat × Nat) => 2 ^ 32 - p.2) late with
    | some p => grantLeaf p.1 { m with bcm.deadlineCnt := m.bcm.deadlineCnt.inc }
    | none => creditGrant req m)

/-- MEDIA_DEADLINE_MISS (R765). -/
def execMediaDeadlineMiss (leaf : BitVec 4) (ns : BitVec 32) (s : State) : Out := s.run (fun m =>
  if leaf.toNat < 3 && decide (2000 < ns.toNat) then report 0x0E41 nowhere (leBytes 1 leaf.toNat ++ leBytes 4 ns.toNat) m else m)

/-! ### Requests (Table 14-7) -/

/-- The range of a request: NSID, first LBA, LBAs. -/
def rangeArg (h : Hdr) : Nat × Nat × Nat := (h.p0.toNat, h.p1.toNat + 2 ^ 32 * h.p2.toNat, h.p3.toNat % 2 ^ 31)

/-- A range lies in a namespace that exists. -/
def rangeOk (m : Mach) (h : Hdr) : Bool := match nsOf m (rangeArg h).1 with
  | some n => decide ((rangeArg h).2.1 + (rangeArg h).2.2 ≤ n.size)
  | none => false

/-- The lines that touch a range, as many as could be locked and one more. -/
def rangeLines (h : Hdr) : List Nat :=
  let l0 := (rangeArg h).2.1 / 8
  let c := if (rangeArg h).2.2 = 0 then 0 else ((rangeArg h).2.1 + (rangeArg h).2.2 - 1) / 8 + 1 - l0
  (List.range (min c 49153)).map (l0 + ·)

/-- CACHE_SET_MODE 0x0801 (R736 to R739). -/
def execCacheSetMode (h : Hdr) (s : State) : Out := s.run (service 0x0801 h lvHost
  (fun m => [(m.sup.mode == .service || m.bcm.forcedWt, stWrongMode), reserved [h.p1, h.p2, h.p3], (decide (2 < h.p0.toNat), stBadParam)])
  (fun m => match CacheMode.ofCode h.p0.toNat with
    | some x => flow (cacheTarget x 1 (some h) m)
    | none => m))

/-- CACHE_STATUS 0x0802 (R767): at most 5,000 pinned sectors. -/
def execCacheStatus (h : Hdr) (s : State) : Out := s.run (service 0x0802 h lvHost
  (fun _ => [reserved [h.p0, h.p1, h.p2, h.p3]])
  (fun m =>
    let pins := m.bcm.frames.flatMap (fun e => if e.2.pin then
      ((List.range 8).filter (fun i => e.2.dirty.getLsbD i)).map (fun i => leBytes 4 (e.2.ns + 1) ++ leBytes 8 (8 * e.2.line + i)) else [])
    reply h stOk 0 (regBytes [bcmModeReg m, BitVec.ofNat 32 (dirtyCount m), BitVec.ofNat 32 (budget m), BitVec.ofNat 32 (pinnedCount m),
      bcmLinesReg m, bcmMissReg m, BitVec.ofNat 32 m.bcm.attic.length] ++ (pins.take 5000).flatten) m))

/-- The first line of a list that would be the fifth locked frame of its set (R744). -/
def lockOver (m : Mach) (ns : Nat) (ls : List Nat) : Option Nat :=
  let count := fun set => ((List.range 16).filter (fun w => (frameAt m (16 * set + w)).lock)).length
  (ls.foldl (fun (acc : Option Nat × List (Nat × Nat)) line => match acc.1 with
    | some _ => acc
    | none =>
      let have_ := match frameOf m ns line with
        | some k => (frameAt m k).lock
        | none => false
      if have_ then acc
      else
        let st := setOf ns line
        let n := assoc (count st) acc.2 st
        if 4 ≤ n then (some line, acc.2) else (none, assocSet 0 acc.2 st (n + 1))) (none, [])).1

/-- CACHE_LOCK_RANGE 0x0803 (R744 to R746). -/
def execCacheLockRange (h : Hdr) (s : State) : Out := s.run (service 0x0803 h lvHost
  (fun m => [(!rangeOk m h, stBadParam), (m.bcm.lockReq.isSome, stBusy)])
  (fun m =>
    let ns := h.p0.toNat - 1
    match lockOver m ns (rangeLines h) with
    | some line => reply h stBadParam (8 * line) [] m
    | none => lockStep { m with bcm.lockReq := some ⟨h, 0, bit h.p3 31, (rangeLines h).map (fun l => (ns, l)), []⟩ }))

/-- CACHE_UNLOCK_RANGE 0x0804 (R747). -/
def execCacheUnlockRange (h : Hdr) (s : State) : Out := s.run (service 0x0804 h lvHost
  (fun m => [(!rangeOk m h, stBadParam), (bit h.p3 31, stBadParam), (m.bcm.lockReq.isSome, stBusy)])
  (fun m =>
    let r := rangeArg h
    let hit := fun (l : Line) => l.lock && l.ns + 1 == r.1 && decide (r.2.2 ≠ 0) && decide (r.2.1 / 8 ≤ l.line) && decide (l.line ≤ (r.2.1 + r.2.2 - 1) / 8)
    let ks := (m.bcm.frames.filter (fun e => hit e.2)).map (·.1)
    let m := ks.foldl (fun m k => retireClean k (onFrame k (fun l =>
      let l := { l with lock := false, ghost := false }
      if l.isEmpty && !l.retiring then {} else l) m)) m
    missKick (reply h stOk ks.length [] m)))

/-- CACHE_INVALIDATE_RANGE 0x0805 (R740 to R743). -/
def execCacheInvalidateRange (h : Hdr) (s : State) : Out := s.run (service 0x0805 h lvMaint
  (fun m => [(!rangeOk m h, stBadParam), (bit h.p3 31, stBadParam)])
  (fun m =>
    let r := rangeArg h
    let x := invalidate r.1 (fun b => decide (r.2.1 ≤ b) && decide (b < r.2.1 + r.2.2)) m
    flow (missKick (reply h stOk x.2 [] x.1))))

/-- DRAM_RETIRE_PAGE 0x0905 (R756). -/
def execDramRetirePage (h : Hdr) (s : State) : Out := s.run (service 0x0905 h lvMaint
  (fun m => [reserved [h.p1, h.p2, h.p3], (decide (visiblePages ≤ h.p0.toNat) || m.bcm.retPages.any (fun p => p.1 == h.p0.toNat), stBadParam)])
  (fun m =>
    let r := remapPage h.p0.toNat m
    reply h (if r.2 then stOk else stHwFault) 0 [] r.1))

end Sys2Proof.Machine
end

