-- ==== Sys2Proof/Machine/Calibration.lean ====
section
/-! DEFINITION. The commands of calibration (spec/10_calibration.md). -/

namespace Sys2Proof.Machine

/-- CAL_TEMPERATURE_CHECK (R514, R515): the means of one second's readings, of both HDA sensors and both channel dies in 0.1 °C, are
compared with every baseline; an actuator whose sensor is faulty uses the other (R452). -/
def execCalTemperatureCheck (hda0 hda1 die0 die1 : BitVec 16) (s : State) : Out := s.run (fun m =>
  calEvaluate .a1 false (calEvaluate .a0 false
    { m with
      cal.hdaMean := ⟨some (if m.sup.sensFault.getLsbD 0 then hda1 else hda0), some (if m.sup.sensFault.getLsbD 1 then hda0 else hda1)⟩
      cal.dieTemp := ⟨die0, die1⟩ }))

/-- Start a slice; work of the scheduler that is only speculative gives way (R679). -/
def openSlice (a : Act) (m : Mach) : Mach :=
  let m := sliceStart a m
  if calHolds m a then specStop a m else m

/-- CAL_SLICE_START (R525): the media queue has been empty for IDLE_MS. -/
def execCalSliceStart (a : Act) (s : State) : Out := s.run (fun m =>
  if (m.cal.act.get a).gap || !mediaIdle m a then m else openSlice a m)

/-- CAL_DEFER_EXPIRY (R526): preemption begins with CAL 0x1323 and a slice. -/
def beginPreempt (a : Act) (m : Mach) : Mach :=
  if (m.cal.act.get a).preempt then m
  else match (calCands m a).head? with
    | none => m
    | some j => openSlice a (report 0x1323 (onAct a) (leBytes 1 a.idx ++ leBytes 1 j.kind) (m.onCal a (fun c => { c with preempt := true })))

/-- CAL_DEFER_EXPIRY (R526): a due kind has not started within DEFER_S. -/
def execCalDeferExpiry (a : Act) (s : State) : Out := s.run (fun m =>
  if calHolds m a then m else beginPreempt a m)

/-- CAL_GAP_EXPIRY (R526): the gap of host service ends and the next slice starts. -/
def execCalGapExpiry (a : Act) (s : State) : Out := s.run (fun m =>
  if (m.cal.act.get a).gap then openSlice a m else m)

/-- What a step's measurement does to the run (R531, R539, R540). -/
def calApplyMeas (a : Act) (r : CalRun) (x : CalMeas) (temp : BitVec 16) (m : Mach) : Mach :=
  match x with
  | .align => if r.job.kind = 4 then alignEnd a r temp m else m
  | .inhibited =>
    if r.job.kind = 1 || r.job.kind = 2 then
      if r.repeated then preemptEnd a (calAbandon a 3 m) else onRun a (fun r => { r with repeated := true }) m
    else m
  | x => match calJudge m a r.job x with
    | none => m
    | some (v, mt, w) =>
      let sl := match x with
        | .skew _ l => l
        | _ => []
      tapStep a { r with repeated := false } v mt w sl temp m

/-- CAL_STEP (R524, R529, R531): a step of the run in progress has been measured; `us` is the slice time that it took, its seek and
its pattern included, and `temp` the mean temperature of the second. A slice ends when its next step, of at most one revolution, would
not fit, and with its run. -/
def execCalStep (a : Act) (us : Nat) (x : CalMeas) (temp : BitVec 16) (s : State) : Out := s.run (fun m =>
  match (m.cal.act.get a).run with
  | none => m
  | some r =>
    if !r.inSlice then m
    else
      let r := { r with sliceUs := r.sliceUs + us, totalUs := r.totalUs + us, steps := BitVec.ofNat 8 (satTo 255 (r.steps.toNat + 1)) }
      let m := onRun a (fun _ => r) m
      let m := if 1000 * runMax m < r.totalUs then calAbandon a 4 m else calApplyMeas a r x temp m
      let excepts := match (m.cal.act.get a).run with
        | none => true
        | some q => decide (1000 * sliceMs m < q.sliceUs + (60000000 + rpmFull m - 1) / rpmFull m)
      let m := ifDo (m.cal.act.get a).run.isNone (fun m => releaseHeldDo (modeAdvance m)) m
      if excepts then sliceEnd a (mediaIdle m a) (headWaited m a r.job.head) m else m)

/-! ### Requests -/

/-- The heads that CAL_RUN names on an actuator. -/
def namedHeads (m : Mach) (h : Hdr) (a : Act) : List Nat :=
  if h.p1 = 0xFF then calHeads m a h.p0.toNat else (calHeads m a h.p0.toNat).filter (· == h.p1.toNat)

/-- The runs that CAL_RUN names on an actuator. -/
def namedRuns (m : Mach) (h : Hdr) (a : Act) : List (Nat × Nat) :=
  (namedHeads m h a).flatMap (fun dh =>
    ((calRegions m h.p0.toNat dh).filter (fun r => h.p2 == 0xFF || (h.p0 != 3 && h.p2.toNat == r) || (h.p0 == 3 && h.p2 == 0))).map (fun r => (dh, r)))

/-- The same run is in progress. -/
def sameRun (m : Mach) (h : Hdr) (a : Act) : Bool := match (m.cal.act.get a).run with
  | some r => r.job.kind == h.p0.toNat && (namedRuns m h a).contains (r.job.dh, r.job.region)
  | none => false

/-- Queue an entry on an actuator and make its runs due (Table 10-5). -/
def queueRuns (h : Hdr) (a : Act) (m : Mach) : Mach :=
  let l := namedRuns m h a
  if l.isEmpty then m
  else
    let m := m.onCal a (fun c => { c with queue := c.queue ++ [⟨h, h.p0.toNat, bit h.p3 0, l⟩] })
    (namedHeads m h a).foldl (fun m dh =>
      let k := calKey h.p0.toNat dh
      let d := assoc {} m.cal.due k
      let rs := (l.filter (fun x => x.1 == dh)).map (·.2)
      let left := d.left ++ rs.filter (fun r => !d.left.contains r)
      { m with cal.due := assocSet {} m.cal.due k ⟨left, d.full || left == calRegions m h.p0.toNat dh⟩ }) m

/-- CAL_RUN (R124, R549): BULKCAP starts a measurement; other kinds are queued, at most 16 entries an actuator. -/
def execCalRun (h : Hdr) (s : State) : Out := s.run (service 0x0401 h (if bit h.p3 0 then lvMaint else lvHost)
  (fun m => [(m.sup.mode != .idleFly && m.sup.mode != .active && m.sup.mode != .service, stWrongMode), reserved [h.p3 &&& ~~~1#32],
    (decide (5 < h.p0.toNat), stBadParam),
    (decide (h.p0.toNat < 5) && (namedRuns m h .a0 ++ namedRuns m h .a1).isEmpty, stBadParam),
    (decide (h.p0 = 5) && (m.pwr.measuring || m.pwr.measByRun), stBusy),
    (decide (h.p0.toNat < 5) && (sameRun m h .a0 || sameRun m h .a1
      || (!(namedRuns m h .a0).isEmpty && decide (16 ≤ (m.cal.act.get .a0).queue.length))
      || (!(namedRuns m h .a1).isEmpty && decide (16 ≤ (m.cal.act.get .a1).queue.length))), stBusy)])
  (fun m =>
    let m := { m with cal.reqs := m.cal.reqs ++ [(h, stOk)] }
    if h.p0 = 5 then { m with pwr.measByRun := true, pwr.measTries := 0 }
    else
      let m := queueRuns h .a1 (queueRuns h .a0 m)
      if bit h.p3 0 then
        let go := fun a m => if calHolds m a || (namedRuns m h a).isEmpty then m else beginPreempt a m
        go .a1 (go .a0 m)
      else m))

/-- DUE0 to DUE4 (Table 10-11). -/
def dueReg (m : Mach) (k : Nat) : Reg :=
  BitVec.ofNat 32 (((List.range 22).filter (fun dh => !(assoc {} m.cal.due (calKey k dh)).left.isEmpty)).foldl (fun x dh => x + 2 ^ dh) 0)

/-- STALE (R530). -/
def staleReg (m : Mach) : Reg :=
  let b := fun a => match (m.cal.act.get a).run with
    | some r => if r.job.kind = 3 then 0 else 2 ^ r.job.dh
    | none => 0
  BitVec.ofNat 32 (b .a0 + b .a1)

/-- ACTn (Table 10-11). -/
def calActReg (m : Mach) (a : Act) : Reg := match (m.cal.act.get a).run with
  | none => 0
  | some r => packReg [⟨31, 1, 1⟩, ⟨30, 1, r.job.forced.toNat⟩, ⟨27, 3, r.job.kind⟩, ⟨23, 4, r.job.head⟩, ⟨17, 6, r.job.region⟩,
      ⟨8, 8, r.steps.toNat⟩, ⟨0, 8, r.slices.toNat⟩]

/-- CAL_STATUS (R549): the due registers, STALE, ACT0, ACT1 and the values of record 0x1381 by kind and head. -/
def execCalStatus (h : Hdr) (s : State) : Out := s.run (service 0x0402 h lvHost
  (fun _ => [reserved [h.p0, h.p1, h.p2, h.p3]])
  (fun m => reply h stOk 0
    (regBytes ((List.range 5).map (dueReg m) ++ [staleReg m, calActReg m .a0, calActReg m .a1])
      ++ ((List.range 5).flatMap (fun k => (List.range (if k = 3 then 2 else 22)).flatMap (fun dh =>
          (assoc {} m.cal.base (calKey k dh)).bytes)))) m))

/-- CAL_SET_TRIGGER (R549): the threshold of a kind until the next module reset. -/
def execCalSetTrigger (h : Hdr) (s : State) : Out := s.run (service 0x0403 h lvMaint
  (fun _ => [reserved [h.p2, h.p3], (decide (4 < h.p0.toNat) || !(h.p1 == 0 || (decide (10 ≤ h.p1.toNat) && decide (h.p1.toNat ≤ 200))), stBadParam)])
  (fun m => reply h stOk 0 [] { m with cal.trigger := assocSet 1000 m.cal.trigger h.p0.toNat h.p1.toNat }))

end Sys2Proof.Machine
end

