-- ==== Sys2Proof/Machine/Channel.lean ====
section
/-! DEFINITION. Meanings of the read/write channel's events and requests (spec/09_read_write_channel.md). An event whose stated condition
does not hold changes nothing (log entry 5). -/

namespace Sys2Proof.Machine

/-- The candidate of a window that is chosen: at most `tol` mismatches, within the window, the fewest mismatches and of equals
the earliest (R479 to R481). A candidate is its offset in bits and its mismatches. -/
def chooseMark (win tol : Nat) (cs : List (Int × Nat)) : Option Int :=
  let ok := cs.filter (fun c => decide (c.1.natAbs ≤ win) && decide (c.2 ≤ tol))
  (ok.foldl (fun b c => match b with
    | none => some c
    | some x => if c.2 < x.2 || (c.2 == x.2 && decide (c.1 < x.1)) then some c else some x) (none : Option (Int × Nat))).map (·.1)

/-- The sync decision of Table 9-7 at a ladder step: burgee candidates are offsets from the point that the found pennant implies, or
from the point that the expected pennant position implies (R480). -/
def syncDecide (step pnTol bgTol : Nat) (pn bg : List (Int × Nat)) : SyncKind × Int :=
  let w := syncWindows step
  match chooseMark w.1 (syncTol step pnTol) pn with
  | some _ =>
    match chooseMark w.2 (syncTol step bgTol) bg with
    | some 0 => (.both, 0)
    | some d => (.slip, d)
    | none => (.pennantOnly, 0)
  | none =>
    match chooseMark (w.1 + w.2) (syncTol step bgTol) bg with
    | some _ => (.byBurgee, 0)
    | none => (.miss, 0)

/-- Count a sync decision (Table 9-12). -/
def Chan.countSync (c : Chan) : SyncKind → Chan
  | .byBurgee => { c with burgeeCnt := c.burgeeCnt.inc, replay := true }
  | .slip => { c with slipCnt := c.slipCnt.inc }
  | .miss => { c with missCnt := c.missCnt.inc }
  | _ => c

/-- Give the first unframed read sector its framing. -/
def frameFirst (k : SyncKind × Int) : List Sec → List Sec
  | [] => []
  | x :: xs => if !x.write && x.sync.isNone && x.result.isNone then { x with sync := some k } :: xs else x :: frameFirst k xs

/-- SYNC_DECISION (R479 to R485): the candidates of both windows, for the sector whose gate is open. -/
def execSyncDecision (a : Act) (pn bg : List (Int × Nat)) (s : State) : Out := s.run (fun m =>
  let c := m.ch.get a
  if !c.secs.any (fun x => !x.write && x.sync.isNone && x.result.isNone) then m
  else
    let k := syncDecide c.step.toNat c.pnTol.toNat c.bgTol.toNat pn bg
    m.onCh a (fun c => { c.countSync k.1 with secs := frameFirst k c.secs, acq := false, tracking := true }))

/-- What the decode of one sector yields: DEC, STEP, SYNC, SLIP, iterations of the deciding decode, all iterations, bits corrected. -/
structure Verdict where
  dec : Nat
  step : Nat
  sync : Nat
  slip : Int
  iters : Nat
  allIters : Nat
  flips : Nat
  /-- the decode on the fly failed -/
  flyFailed : Bool
  deriving DecidableEq, Repr

/-- Judge a framed sector (R487, R488, R494): on the fly, then, unless it is a verify read, ladder steps 1 and 2 where enabled and where
they apply. A decode that ends with a zero syndrome gives the codeword on the media, whose CRC then decides. A re-read that succeeds in these steps keeps its own step number as STEP (log entry 34). -/
def judgeSector (mask : Nat) (x : Sec) (k : SyncKind × Int) (found : Option Payload) (g : SecSignal) : Verdict :=
  let tagDec : Nat := match found with
    | some p => if p.info.tag = x.tag then decOk else decTag
    | none => decFail
  let v (dec step : Nat) (sync : SyncKind) (slip : Int) (d : Decode) (all : Nat) : Verdict :=
    ⟨dec, step, sync.code, slip, d.iters, all, d.flips, !(g.fly.ok && found.isSome)⟩
  if g.fly.ok && found.isSome then v tagDec x.step k.1 k.2 g.fly g.fly.iters
  else
    let ext := !x.verify && mask % 2 == 1
    let all := g.fly.iters + (if ext then g.ext.iters else 0)
    if ext && g.ext.ok && found.isSome then v tagDec (max 1 x.step) k.1 k.2 g.ext all
    else if !x.verify && mask / 2 % 2 == 1 && k.1 == .pennantOnly then
      match g.sweep with
      | some (d, r) =>
        if r.ok && found.isSome && decide (d ≠ 0) && decide (d.natAbs ≤ 4) then v tagDec (max 2 x.step) .slip d r (all + r.iters)
        else v decFail x.step k.1 k.2 g.fly (all + r.iters)
      | none => v decFail x.step k.1 k.2 g.fly all
    else v decFail x.step k.1 k.2 g.fly all

/-- The clamp of ±1.999 in Q1.14 (R459): the value kept, and whether the clamp acted. -/
def clampTap (x : Int) : BitVec 16 × Bool :=
  let y := clampInt (-32751) 32751 x
  (BitVec.ofInt 16 y, decide (y ≠ x))

/-- Adaptation from a decoded sector (R458, R459, R497): frozen at steps 6 to 8; the index of the first coefficient that was clamped. -/
def Chan.adaptFrom (c : Chan) (g : SecSignal) : Chan × Option Nat :=
  if 6 ≤ c.step.toNat then (c, none)
  else
    let eq := if c.adapt.getLsbD 0 then ((g.eq.take 32).zipIdx.map (fun p => clampTap (if !c.r1En && decide (16 ≤ p.2) then 0 else p.1))) else []
    let tg := if c.adapt.getLsbD 1 then [clampTap g.target.1, clampTap g.target.2] else []
    let taps := eq.map (·.1)
    let c := { c with eqTaps := taps ++ c.eqTaps.drop taps.length }
    let c := match tg with
      | [x, y] => { c with g1 := x.1, g2 := y.1 }
      | _ => c
    let c := if c.adapt.getLsbD 2 then { c with np := g.np.take 64 ++ c.np.drop (g.np.take 64).length } else c
    let bad := (eq.zipIdx.filter (·.1.2)).map (·.2) ++ (tg.zipIdx.filter (·.1.2)).map (fun p => 32 + p.2)
    (c, bad.head?)

/-- Add a decode to the metrics of its head and region (R506). -/
def Chan.measure (c : Chan) (x : Sec) (v : Verdict) (mse : Nat) : Chan :=
  let k := rtKey x.head x.region
  let q := assoc {} c.mets k
  let q : Met := ⟨if v.dec = decOk then q.secs.inc else q.secs, q.iters.add v.allIters, q.mse + mse⟩
  { c with mets := assocSet {} c.mets k q }

/-- Give the oldest undelivered read sector its result (R491). -/
def deliverFirst (w : Reg) (pl : Option Payload) : List Sec → List Sec
  | [] => []
  | x :: xs => if x.result.isNone then { x with result := some w, data := pl, store := none } :: xs else x :: deliverFirst w pl xs

/-- A decoded sector is delivered and counted (R458, R459, R491, R506). -/
def sectorTake (a : Act) (x : Sec) (v : Verdict) (w : Reg) (found : Option Payload) (g : SecSignal) (m : Mach) : Mach :=
  m.onCh a (fun c =>
    let c := c.measure x v g.mse
    { c with
      secs := deliverFirst w (if v.dec == decOk then found else none) c.secs
      lastSec := w, trLost := g.trLost, phErr := g.phErr, fofs := g.fofs, gains := g.gains
      secCnt := if v.dec == decOk then c.secCnt.inc else c.secCnt
      failCnt := if v.flyFailed then c.failCnt.inc else c.failCnt
      corrBits := if v.dec == decOk then c.corrBits.add v.flips else c.corrBits })

/-- The findings of a decoded sector (R487 to R498, Table 9-16). -/
def sectorReports (a : Act) (x : Sec) (v : Verdict) (w : Reg) (found : Option Payload) (g : SecSignal) (m : Mach) : Mach :=
  let loc := secLoc x.track.toNat x.slot.toNat
  let at_ := onHead a x.head
  let good := v.dec == decOk
  let m := ifDo (v.dec == decTag) (report (actCode 0x0822 a) at_
    (leBytes 4 x.tag.toNat ++ leBytes 4 (((found.map (fun (p : Payload) => p.info.tag)).getD 0).toNat))) m
  let m := ifDo (g.trLost && !good) (report (actCode 0x0831 a) at_ (loc ++ leBytes 2 g.phErr.toNat)) m
  let m := ifDo (good && decide (3 ≤ v.step) && !x.verify) (report (actCode 0x0821 a) at_ (loc ++ leBytes 1 v.step)) m
  ifDo (x.verify && (!good || v.sync != SyncKind.both.code || decide (verifyIter m a < v.allIters)))
    (report (actCode 0x0824 a) at_ (loc ++ leBytes 4 w.toNat)) m

/-- The channel adapts on a good sector; a coefficient at its limit is told once (R464). -/
def sectorAdapt (a : Act) (x : Sec) (g : SecSignal) (m : Mach) : Mach :=
  let r := (m.ch.get a).adaptFrom g
  let m := m.onCh a (fun _ => r.1)
  match r.2 with
  | none => m
  | some i =>
    if (m.ch.get a).clampReported then m
    else report (actCode 0x0830 a) (onHead a x.head) (leBytes 1 x.region ++ leBytes 1 i) (m.onCh a (fun c => { c with clampReported := true }))

/-- What the codeword of a sector decodes to under the TAG that the sequencer supplied (R473, R487). -/
def readBack (m : Mach) (a : Act) (x : Sec) : Option Payload :=
  (assoc none m.hda.surface (surfKey a x.head x.track.toNat x.slot.toNat)).bind (unscramble x.tag)

/-- A decode within its caps. -/
def capDecode (d : Decode) (n : Nat) : Decode := { d with iters := min d.iters n }

/-- The decodes within the caps in force (R488, R494): passes times iterations per pass, on the fly, extended, and on the fly again for the sweep. -/
def capSignal (g : SecSignal) (c : Chan) : SecSignal :=
  let fly := c.det.toNat * c.iter.toNat
  { g with fly := capDecode g.fly fly, ext := capDecode g.ext (c.detExt.toNat * c.iterExt.toNat), sweep := g.sweep.map (fun p => (p.1, capDecode p.2 fly)) }

/-- SECTOR_RESULT (R458, R459, R464, R487 to R498, R506): the oldest sector without a result, a read that has been framed, is decoded;
`g` is what the decoder and the signal path found. -/
def sectorResult (a : Act) (g : SecSignal) (m : Mach) : Mach :=
  match (m.ch.get a).secs.find? (·.result.isNone) with
  | none => m
  | some x =>
    if x.write || x.store.isNone then m
    else match x.sync with
    | none => m
    | some k =>
      let found := readBack m a x
      let g := capSignal g (m.ch.get a)
      let v : Verdict := if k.1 == .miss then ⟨decFail, x.step, SyncKind.miss.code, 0, 0, 0, 0, true⟩
        else judgeSector (ladderMask m a) x k found g
      let w := secWord v.step v.dec v.sync v.slip v.iters v.flips
      let m := sectorReports a x v w found g (sectorTake a x v w found g m)
      if v.dec == decOk then sectorAdapt a x g m else m

/-- SECTOR_RESULT. -/
def execSectorResult (a : Act) (g : SecSignal) (s : State) : Out := s.run (sectorResult a g)

/-- CAPTURE_TRIGGER (R507): the pending capture completes with both buffers, reader 0 first, and the trigger's bit position. -/
def execCaptureTrigger (a : Act) (bitPos : Reg) (samples : List Byte) (s : State) : Out := s.run (fun m =>
  match (m.ch.get a).capture with
  | none => m
  | some h =>
    let data := (samples ++ List.replicate 8192 0).take 8192
    reply h stOk bitPos.toNat data (m.onCh a (fun c => { c with capture := none, capDone := true, samples := data })))

/-- A channel, sequencer or actuator number. -/
def actNum (r : Reg) : Option Act := if r = 0 then some .a0 else if r = 1 then some .a1 else none

/-- ITER_MEAN, 0.01 units (Table 9-15). -/
def Met.iterMean (q : Met) : Nat := if q.secs.val = 0 then 0 else satTo 65535 (100 * q.iters.val.toNat / q.secs.val.toNat)

/-- The SNR estimate (R506). -/
def Met.snr (q : Met) : BitVec 16 := if q.secs.val = 0 then 0 else Config.snrOf q.mse q.secs.val.toNat

/-- The metrics that a reply gives for a head and region: those held from before its calibration while one holds the head (R508). -/
def metOf (m : Mach) (a : Act) (h r : Nat) : Met :=
  let c := m.ch.get a
  if calHeld m a h then assoc (assoc {} c.mets (rtKey h r)) c.held (rtKey h r) else assoc {} c.mets (rtKey h r)

/-- The 24 bytes per region of CH_GET_METRICS (Table 18-6). -/
def metBytes (q : Met) : List Byte :=
  leBytes 8 q.secs.val.toNat ++ leBytes 8 q.iters.val.toNat ++ leBytes 2 q.snr.toNat ++ leBytes 2 q.iterMean ++ leBytes 4 0

/-- The regions of a head that the channel's table holds. -/
def chRegions (m : Mach) (a : Act) (h : Nat) : List Nat := (List.range 64).filter (fun r => !(assoc [] (m.ch.get a).ram (rtKey h r)).isEmpty)

/-- CH_GET_METRICS (R506, R508, Table 18-6). -/
def execChGetMetrics (h : Hdr) (s : State) : Out := s.run (service 0x0701 h lvHost
  (fun m => [reserved [h.p3], ((actNum h.p0).isNone || !decide (1 ≤ h.p1.toNat ∧ h.p1.toNat ≤ 11) || !(decide (h.p2.toNat < 64) || h.p2 == 0xFF)
    || !dataHead m ((actNum h.p0).getD .a0) h.p1.toNat, stBadParam)])
  (fun m =>
    let a := (actNum h.p0).getD .a0
    let c := m.ch.get a
    let hd := h.p1.toNat
    let cnts := [c.secCnt, c.burgeeCnt, c.slipCnt, c.missCnt, c.failCnt, c.unrecCnt, c.corrBits, c.ramCorr]
    let regs := if h.p2 = 0xFF then chRegions m a hd else [h.p2.toNat]
    reply h (if calHeld m a hd then stStale else stOk) 0
      ((cnts.map (fun x => leBytes 8 x.val.toNat)).flatten ++ (regs.map (fun r => metBytes (metOf m a hd r))).flatten) m))

/-- CH_CAPTURE (R507, Table 18-6). -/
def execChCapture (h : Hdr) (s : State) : Out := s.run (service 0x0702 h lvMaint
  (fun m => [reserved [h.p3], ((actNum h.p0).isNone || decide (2 < h.p1.toNat) || decide (65535 < h.p2.toNat), stBadParam),
    ((m.ch.get ((actNum h.p0).getD .a0)).capture.isSome, stBusy)])
  (fun m => m.onCh ((actNum h.p0).getD .a0) (fun c => { c with
    capture := some h, capTrig := BitVec.ofNat 2 h.p1.toNat, capTick := BitVec.ofNat 16 h.p2.toNat, capDone := false })))

end Sys2Proof.Machine
end

