-- ==== Sys2Proof/Machine/Clock.lean ====
section
/-! DEFINITION. Meanings of the clock unit's events and of crossings and islands (spec/03_clocks_resets_crossings.md). -/

namespace Sys2Proof.Machine

/-- The event of a channel clock's loss of lock (R161). -/
def lolCode : Act → Nat
  | .a0 => 0x0203
  | .a1 => 0x0204

/-- A loss of lock of CLK_CHn (R161, Table 3-6): write-unsafe on its actuator, its event, LOLCNT. The parameter is the frequency that the clock
delivers, a settling one not yet (DESIGN CHOICE, log entry 102). -/
def chLost (a : Act) (m : Mach) : Mach :=
  let m := { m with clk.chLock := m.clk.chLock.upd a (fun _ => false), clk.lolCnt := m.clk.lolCnt.inc }
  let m := m.onHif a (fun h => { h with wusClk := true })
  refreshInhibit a (report (lolCode a) (onAct a) (leBytes 3 (m.clk.freqKhz.get a).toNat) m)

/-- CLK_CHn itself loses lock; a clock already unlocked has none to lose. -/
def chLoss (a : Act) (m : Mach) : Mach := if m.clk.chLock.get a then chLost a m else m

/-- The root PLL loses lock (R160, R161): holdover, CLK 0x0201, and a loss of lock of both channel clocks whatever their state. -/
def rootLoss (m : Mach) : Mach :=
  if m.clk.rootLock then
    let m := { m with clk.rootLock := false, clk.holdover := true, clk.lolCnt := m.clk.lolCnt.inc }
    chLost .a1 (chLost .a0 (report 0x0201 nowhere [] m))
  else m

/-- ROOT_PLL_LOSS_OF_LOCK (R160, R161). -/
def execRootPllLossOfLock (s : State) : Out := s.runCut rootLoss

/-- ROOT_PLL_RELOCK (R160, R163): with its reference usable; the holdover duration in µs. -/
def execRootPllRelock (us : BitVec 32) (s : State) : Out := s.run (fun m =>
  if m.clk.holdover && m.clk.xtalOk then
    report 0x0205 nowhere (leBytes 4 us.toNat) { m with clk.rootLock := true, clk.holdover := false }
  else m)

/-- CRYSTAL_STOP (R162): CLK_AON on the internal oscillator; the root PLL loses its reference. -/
def execCrystalStop (s : State) : Out := s.runCut (fun m =>
  if m.clk.xtalOk then rootLoss (report 0x0202 nowhere [] { m with clk.xtalOk := false, clk.aonSrc := true }) else m)

/-- CRYSTAL_RETURN (R163). -/
def execCrystalReturn (s : State) : Out := s.run (fun m => { m with clk.xtalOk := true, clk.aonSrc := false })

/-- CH_PLL_LOSS_OF_LOCK (R161). -/
def execChPllLossOfLock (a : Act) (s : State) : Out := s.runCut (chLoss a)

/-- CH_PLL_RELOCK (R163): with the root locked; write-unsafe is released. -/
def execChPllRelock (a : Act) (s : State) : Out := s.run (fun m =>
  if m.clk.rootLock then
    refreshInhibit a ({ m with clk.chLock := m.clk.chLock.upd a (fun _ => true) }.onHif a (fun h => { h with wusClk := false }))
  else m)

/-- FREQ_KHZ_WRITE (R157 to R159): a value in range settles and replaces a pending one; any other is ignored. -/
def execFreqKhzWrite (a : Act) (khz : BitVec 22) (s : State) : Out := s.run (fun m => writeFreq a khz.toNat m)

/-- FREQ_SETTLED (R157): the synthesizer switches at a clock edge. -/
def execFreqSettled (a : Act) (s : State) : Out := s.run (fun m =>
  match m.clk.freqPend.get a with
  | some k => { m with clk.freqKhz := m.clk.freqKhz.upd a (fun _ => k), clk.freqPend := m.clk.freqPend.upd a (fun _ => none) }
  | none => m)

/-- Binary to Gray code. -/
def toGray (b : BitVec 8) : BitVec 8 := b ^^^ (b >>> 1)

/-- Gray code to binary, by the loop of spec/03 with at most eight rounds. -/
def fromGray (g : BitVec 8) : BitVec 8 := loop 8 g (g >>> 1)
where
  /-- b := b xor s; s := s shifted right by 1, while s is not 0 -/
  loop : Nat → BitVec 8 → BitVec 8 → BitVec 8
    | 0, b, _ => b
    | f + 1, b, s => if s = 0 then b else loop f (b ^^^ s) (s >>> 1)

/-- The largest number of events that one transfer can carry (R173, R174, Table 3-3): floor(L ÷ T) + 1; 125 where a PHY clock, whose period the spec
does not give, is the source. -/
def Crossing.most (c : Crossing) : Nat := match c.src, c.dst with
  | .core, .aon => 125
  | .core, _ => 12
  | .fab, .aon => 49
  | .srv, .aon => 26
  | .srv, _ => 5
  | .ch _, .srv => 5
  | .ch _, _ => 3
  | _, _ => 125

/-- READY as a crossing's ends see it (R191, R193). -/
def Crossing.ready (m : Mach) (c : Crossing) : Bool := !c.busy && !c.torn && !inReset m c.owner

/-- One transfer of a crossing (R167 to R175): a request is launched with its bundle unless one is in flight, whose bundle stands; events count at
the source meanwhile. With the acknowledge seen the destination has sampled the bundle, delivered (new − last) mod 256 events by the Gray code it
captured, and kept new. -/
def Crossing.transfer (c : Crossing) (n : Byte) (data : BitVec 64) (acked : Bool) : Crossing :=
  let count := c.count + n
  let bundle := if c.busy then c.bundle else data
  if acked then
    let new := fromGray (toGray count)
    { c with count := count, bundle := bundle, taken := bundle, delta := new - c.last, last := new, busy := false }
  else { c with count := count, bundle := bundle, busy := true }

/-- CROSSING_TRANSFER (R169, R171 to R174, R191, R195): a torn island, or one whose owner is in reset, passes nothing; more events than the rate of
the source admits cannot come. -/
def execCrossingTransfer (num : BitVec 16) (events : Byte) (data : BitVec 64) (acked : Bool) (s : State) : Out := s.run (fun m =>
  { m with clk.crossings := m.clk.crossings.map (fun c =>
      if c.num == num && !c.torn && !inReset m c.owner && decide ((c.count - c.last).toNat + events.toNat ≤ c.most) then c.transfer events data acked else c) })

/-- The functions of JTAG that may be used: boundary scan in every mode, every other one in SERVICE alone (R239). -/
def jtagServes (m : Mach) (boundaryScan : Bool) : Bool := boundaryScan || m.sup.mode == .service

/-- Numbers of the islands in the two feed-forward paths, which are no crossings (R194, log entry 11). -/
def ffNum (a : Act) : BitVec 16 := BitVec.ofNat 16 (15 + a.idx)

/-- An island owned by a group is torn: its group's bit, and CLK 0x0210 with the group bit and the number. -/
def tornAt (g : Group) (num : BitVec 16) (m : Mach) : Mach :=
  report 0x0210 nowhere (leBytes 1 g.bitNo ++ leBytes 2 num.toNat) { m with clk.torn := m.clk.torn ||| groupBit g }

/-- ISLAND_TORN (R193, R195, R239): JTAG drives the reset controls, which it can in SERVICE; the island's owner sees its reset asserted, and a
transfer in flight is discarded. Idle values are held and traffic is blocked, in the feed-forward path as well. That RSTSTAT and the owner's other
islands do not change is this model's choice (DESIGN CHOICE, log entry 102). -/
def execIslandTorn (num : BitVec 16) (s : State) : Out := s.run (fun m =>
  if !jtagServes m false then m
  else match m.clk.crossings.find? (fun c => c.num == num && !c.torn) with
  | some c =>
    tornAt c.owner num { m with
      clk.xdrop := m.clk.xdrop.add c.busy.toNat
      clk.crossings := m.clk.crossings.map (fun x => if x.num == num then { x.reset with torn := true } else x) }
  | none => match [Act.a0, .a1].find? (fun a => ffNum a == num && !(m.clk.ffTorn.get a)) with
    | some a => tornAt (.act a) num { m with clk.ffTorn := m.clk.ffTorn.upd a (fun _ => true) }
    | none => m)

/-- GROUP_RESET_RELEASE (R192, R196, R268, R423, R557): a group and its islands leave reset together. G_SPN comes out of reset in
COAST, which takes up a rotor that turns (R220); an actuator checks its preamp and its sequencer runs its initialisation. -/
def execGroupResetRelease (g : Group) (speed : BitVec 24) (s : State) : Out := s.run (fun m =>
  let held := match g with
    | .port p => m.pins.perst.get p
    | _ => false
  if !inReset m g || held || unsupplied m g then m
  else
    let m := releaseReset g m
    groupReply g.bitNo (match g with
    | .aon | .fab => m
    | .spn =>
      let m := spnGo .coast .floating m
      spnResume { m with spn.speed := speed, spn.flyOk := flyOkAt m.spn.targetRpm.toNat speed.toNat }
    | .fe e => feReleased e m
    | .port p => portReleased p m
    | .act a => actReleased a m))

end Sys2Proof.Machine
end

