-- ==== Sys2Proof/Machine/Head.lean ====
section
/-! DEFINITION. Meanings of the head interface's events and of the HDA sensors (spec/08_heads_and_assist.md). An event whose stated
condition does not hold changes nothing (log entry 5). -/

namespace Sys2Proof.Machine

/-- HEAD_BUS_FRAME (R413 to R416): a frame and the bus answers to its sendings; a missing answer is an acceptance. -/
def execHeadBusFrame (a : Act) (f : Frame) (acks : List Ack) (s : State) : Out := s.runCut (fun m =>
  if inReset m (.act a) then m else sendFrame a f acks false m)

/-- The poll's frame: registers 0x03 to 0x06 of the global page (R418). -/
def pollFrame : Frame := ⟨false, 15, 3, [], 4⟩

/-- Assist over-current (R443): the selected head's latch and event 0x32, once while the latch stands; both gates stay low for it. -/
def assistOver (a : Act) (m : Mach) : Mach :=
  let h := m.hif.get a
  if h.astFault.getLsbD h.selHead.toNat then m
  else
    let m := spoilWrite a m
    let m := m.onHif a (fun x => { x with astFault := x.astFault ||| BitVec.ofNat 12 (2 ^ h.selHead.toNat), agate := false, wgate := false, gateReq := x.gateReq.cut })
    refreshInhibit a (report (actCode 0x0632 a) (onHead a h.selHead.toNat) (leBytes 1 h.selHead.toNat ++ leBytes 2 h.imeas.toNat) m)

/-- The STATUS bits that the preamp sets of its own (R421): AST_OT when TEMP reaches its OT_LIMIT, AST_OC when the measured assist current in mA exceeds
ILIM × 0.1 mA. -/
def ownCutoff (m : Mach) (a : Act) : BitVec 8 :=
  let p := m.pre.get a
  (if decide (4 * (p.otLimit.toNat : Int) ≤ p.temp.toInt) then 0x40#8 else 0) |||
    (if p.ilim.toNat * 1023 < 10 * p.astMeas.toNat * assistFull m then 0x20#8 else 0)

/-- What the bits of a STATUS that was read call for (R441, R443). -/
def statusActs (a : Act) (st : BitVec 8) (m : Mach) : Mach :=
  ifDo (st.getLsbD 5) (assistOver a) (ifDo (st.getLsbD 6) (assistCutoff a (m.pre.get a).temp) m)

/-- TELEMETRY_POLL (R417, R418, R421, R441, R443, R1033): what the preamp measures and sets in STATUS, and the frame that reads it. A poll abandoned for a
frame of higher priority reads nothing. -/
def execTelemetryPoll (a : Act) (status : BitVec 8) (temp vmeas : BitVec 16) (imeas : BitVec 10) (abandoned : Bool) (acks : List Ack) (s : State) : Out := s.runCut (fun m =>
  if inReset m (.act a) || abandoned then m
  else
    let m := m.onPre a (fun p => { p with temp := temp, astMeas := imeas.zeroExtend 16, astVmeas := vmeas })
    let m := m.onPre a (fun p => { p with status := p.status ||| status ||| ownCutoff m a })
    let ok := (frameTries m a pollFrame acks).getLast?.getD .silent == .accepted
    let m := sendFrame a pollFrame acks false m
    if !ok then m
    else
      let st := (m.pre.get a).status
      let m := m.onHif a (fun h => { h with paStatus := st, paTemp := temp, vmeas := vmeas, imeas := imeas })
      statusActs a st (if decide (4 * (otLimit m a : Int) ≤ temp.toInt) then assistCutoff a temp m else m))

/-- HBCTL_GO (R419): in SERVICE with the sequencer halted one single-word frame; otherwise ignored and ACK reads 0b00. -/
def hbctlGo (a : Act) (acks : List Ack) (m : Mach) : Mach :=
  let h := m.hif.get a
  if m.sup.mode != .service || !cfxHalted m a then m.onHif a (fun h => { h with hbAck := 0 })
  else
    let f : Frame := ⟨!h.hbRw, h.hbPage.toNat, h.hbAddr.toNat, if h.hbRw then [] else [h.hbData], 1⟩
    let last := (frameTries m a f acks).getLast?.getD .silent
    let m := sendFrame a f acks false m
    m.onHif a (fun x => { x with
      hbDone := true, hbAck := BitVec.ofNat 2 last.code
      hbData := if h.hbRw && last == .accepted then (m.pre.get a).getReg h.hbPage.toNat h.hbAddr.toNat else x.hbData })

/-- HBCTL_GO. -/
def execHbctlGo (a : Act) (acks : List Ack) (s : State) : Out := s.run (fun m => if inReset m (.act a) then m else hbctlGo a acks m)

/-- HEATER_READY (R429): HTR_SETTLE after the change. -/
def execHeaterReady (a : Act) (s : State) : Out := s.run (fun m =>
  if inReset m (.act a) then m else m.onHif a (fun h => { h with heaterReady := true }))

/-- WUS_N_ASSERT (R432, R433, R438, R441, R443): write inhibit; STATUS is read, reported as event 0x20 and its bits cleared. -/
def execWusNAssert (a : Act) (status : BitVec 8) (s : State) : Out := s.runCut (fun m =>
  if inReset m (.act a) then m
  else
  let m := m.onPre a (fun p => { p with status := p.status ||| status })
  let m := refreshInhibit a (m.onHif a (fun h => { h with wusIn := true }))
  let st := (m.pre.get a).status
  let m := sendFrame a ⟨false, 15, 3, [], 1⟩ [] false m
  let m := report (actCode 0x0620 a) (onHead a (m.hif.get a).selHead.toNat) (leBytes 1 st.toNat) m
  sendFrame a (globalWrite 3 (st.zeroExtend 16)) [] false (statusActs a st m))

/-- ASSIST_OT_END (R442): TEMP has stayed at or below OT_LIMIT − OT_HYST for 100 ms. -/
def execAssistOtEnd (a : Act) (temp : BitVec 16) (s : State) : Out := s.run (fun m =>
  if !(m.hif.get a).otCut || decide (4 * ((otLimit m a : Int) - otHyst m a) < temp.toInt) then m
  else
    let m := sendFrame a (globalWrite 2 ((m.pre.get a).ctrl ||| 0x0002#16)) [] false m
    let m := m.onHif a (fun h => { h with otCut := false })
    refreshInhibit a (report (actCode 0x0631 a) (onHead a (m.hif.get a).selHead.toNat) (leBytes 2 temp.toNat) m))

/-- Clear latches of HIFn.ASTFAULT (R444). -/
def clearAstFault (a : Act) (mask : BitVec 12) (m : Mach) : Mach :=
  refreshInhibit a (m.onHif a (fun h => { h with astFault := h.astFault &&& ~~~mask }))

/-- ASTFAULT_CLEAR (R444, Table 8-10): bits 11 to 1 are write-1-to-clear. -/
def execAstfaultClear (a : Act) (mask : BitVec 12) (s : State) : Out := s.run (clearAstFault a (mask &&& 0xFFE#12))

/-- One limit of record 0x0002 (R453): a change of side is reported with 1 for leaving and 0 for returning. -/
def sensorLimit (bit code : Nat) (out : Bool) (pre post : List Byte) (m : Mach) : Mach :=
  if m.sup.sensOut.getLsbD bit == out then m
  else report code nowhere (pre ++ leBytes 1 out.toNat ++ post)
    { m with sup.sensOut := m.sup.sensOut ^^^ BitVec.ofNat 4 (2 ^ bit) }

/-- A sensor input, in 0.1 mV, outside its electrical range of 0.10 to 1.70 V (R1011). -/
def sensorBad (v : BitVec 16) : Bool := decide (v.toNat < 1000) || decide (17000 < v.toNat)

/-- A linear sensor's reading: 0 at 0.18 V and `full` at 1.62 V (R1009, R1010); below 0.18 V it reads 0 (DESIGN CHOICE, log entry 104). -/
def linearReading (full : Nat) (v : BitVec 16) : BitVec 16 := BitVec.ofNat 16 ((v.toNat - 1800) * full / 14400)

/-- SUP.SENSSTAT.FAULT of four sensor inputs (R452, Table 8-11). -/
def sensorFaults (v0 v1 vp vh : BitVec 16) : BitVec 4 :=
  BitVec.ofNat 4 ((sensorBad v0).toNat + 2 * (sensorBad v1).toNat + 4 * (sensorBad vp).toNat + 8 * (sensorBad vh).toNat)

/-- The readings of a sample: the thermistors by their law (R1008, log entry 104), pressure in 0.1 kPa, humidity in 0.1 % (R450), the module's own
temperatures (Table 20-13), and the sensors at fault. -/
def takeReadings (v0 v1 vp vh pfc core : BitVec 16) (m : Mach) : Mach :=
  { m with
    sup.hdaTemp := ⟨Config.ntcTemp v0, Config.ntcTemp v1⟩, sup.press := linearReading 2000 vp, sup.humid := linearReading 1000 vh
    sup.modTempPfc := pfc, sup.modTempCore := core, sup.sensFault := sensorFaults v0 v1 vp vh }

/-- SENSOR_SAMPLE (R450 to R453, R1008 to R1011, Table 20-13): the inputs of the four J5 sensors in 0.1 mV, with the module's own temperatures.
A sensor at fault has no limits to leave. -/
def execSensorSample (v0 v1 vp vh pfc core : BitVec 16) (s : State) : Out := s.run (fun m =>
  let was := m.sup.sensFault
  let m := takeReadings v0 v1 vp vh pfc core m
  let faults := m.sup.sensFault
  let m := (List.range 4).foldl (fun m i => ifDo ((faults &&& ~~~was).getLsbD i) (report 0x0033 nowhere (leBytes 1 i)) m) m
  let t := m.sup.hdaTemp
  let p := m.sup.press
  let h := m.sup.humid
  let hot := fun (t : BitVec 16) => decide (t.toInt < settingS m 0x0002 0 2 50) || decide (settingS m 0x0002 2 2 650 < t.toInt)
  let low := decide (p.toNat < setting m 0x0002 4 2 850)
  let damp := decide (setting m 0x0002 6 2 900 < h.toNat)
  let m := if faults.getLsbD 0 then m else sensorLimit 0 0x0030 (hot t.p0) [] (leBytes 1 0 ++ leBytes 2 t.p0.toNat) m
  let m := if faults.getLsbD 1 then m else sensorLimit 1 0x0030 (hot t.p1) [] (leBytes 1 1 ++ leBytes 2 t.p1.toNat) m
  let m := if faults.getLsbD 2 then m else sensorLimit 2 0x0031 low [] (leBytes 2 p.toNat) m
  if faults.getLsbD 3 then m else sensorLimit 3 0x0032 damp [] (leBytes 2 h.toNat) m)

/-- WUS_N_RELEASE (R432, R435): the source ends. -/
def execWusNRelease (a : Act) (s : State) : Out := s.run (fun m => refreshInhibit a (m.onHif a (fun h => { h with wusIn := false })))

end Sys2Proof.Machine
end

