-- ==== Sys2Proof/Machine/Nvme.lean ====
section
/-! DEFINITION. Meanings of the NVMe I/O commands (spec/12, spec/13, spec/14, spec/16, spec/17). A command row carries its submission queue
entry: it is fetched when SUBMISSION_FETCH has not fetched it, decoded, and run as far as it can be (log entry 50). -/

namespace Sys2Proof.Machine

/-- An I/O command comes from an I/O submission queue. -/
def ioOnly (c : NvCmd) (x : IoCmd) (m : Mach) : Mach := if c.sqid == 0 then m else ioRow c x m

/-- READ (R630, R635, R686, R710 to R722, R869). -/
def execNvmeRead (c : NvCmd) (nsid : BitVec 32) (lba : BitVec 64) (n : BitVec 17) (prot : Prot) (s : State) : Out :=
  s.run (ioOnly c (.read nsid.toNat lba.toNat n.toNat prot))

/-- WRITE (R624, R625, R686, R711, R731, R861, R869). -/
def execNvmeWrite (c : NvCmd) (nsid : BitVec 32) (lba : BitVec 64) (prot : Prot) (data : List (Sector × BitVec 128)) (s : State) : Out :=
  s.run (ioOnly c (.write nsid.toNat lba.toNat data.length prot data))

/-- ZONE_APPEND (R619, R624): the completion returns the LBA. -/
def execNvmeZoneAppend (c : NvCmd) (nsid : BitVec 32) (lba : BitVec 64) (prot : Prot) (data : List (Sector × BitVec 128)) (s : State) : Out :=
  s.run (ioOnly c (.append nsid.toNat lba.toNat data.length prot data))

/-- OPEN_ZONE (R620 to R623, R631). -/
def execNvmeOpenZone (c : NvCmd) (nsid : BitVec 32) (lba : BitVec 64) (all : Bool) (s : State) : Out :=
  s.run (ioOnly c (.zoneOpen nsid.toNat lba.toNat all))

/-- CLOSE_ZONE (R623, R631). -/
def execNvmeCloseZone (c : NvCmd) (nsid : BitVec 32) (lba : BitVec 64) (all : Bool) (s : State) : Out :=
  s.run (ioOnly c (.zoneClose nsid.toNat lba.toNat all))

/-- FINISH_ZONE (R623, R629, R631). -/
def execNvmeFinishZone (c : NvCmd) (nsid : BitVec 32) (lba : BitVec 64) (all : Bool) (s : State) : Out :=
  s.run (ioOnly c (.zoneFinish nsid.toNat lba.toNat all))

/-- RESET_ZONE (R623, R628, R631, R743). -/
def execNvmeResetZone (c : NvCmd) (nsid : BitVec 32) (lba : BitVec 64) (all : Bool) (s : State) : Out :=
  s.run (ioOnly c (.zoneReset nsid.toNat lba.toNat all))

/-- ZONE_MANAGEMENT_RECEIVE: Report Zones (R619). -/
def execNvmeZoneManagementReceive (c : NvCmd) (nsid : BitVec 32) (lba : BitVec 64) (s : State) : Out :=
  s.run (ioOnly c (.zoneReport nsid.toNat lba.toNat))

/-- DATASET_MANAGEMENT with Deallocate (R635, R740, R743): up to 256 ranges, each a first LBA and a count. -/
def execNvmeDatasetManagement (c : NvCmd) (nsid : BitVec 32) (ranges : List (BitVec 64 × BitVec 32)) (s : State) : Out :=
  s.run (ioOnly c (.deallocate nsid.toNat ((ranges.take 256).map (fun r => (r.1.toNat, r.2.toNat)))))

/-- WRITE_ZEROES (R861, R1038). -/
def execNvmeWriteZeroes (c : NvCmd) (nsid : BitVec 32) (lba : BitVec 64) (n : BitVec 17) (prot : Prot) (s : State) : Out :=
  s.run (ioOnly c (.writeZeroes nsid.toNat lba.toNat n.toNat prot))

/-- COMPARE (R1038). -/
def execNvmeCompare (c : NvCmd) (nsid : BitVec 32) (lba : BitVec 64) (prot : Prot) (data : List (Sector × BitVec 128)) (s : State) : Out :=
  s.run (ioOnly c (.compare nsid.toNat lba.toNat data.length prot data))

/-- VERIFY (R1038). -/
def execNvmeVerify (c : NvCmd) (nsid : BitVec 32) (lba : BitVec 64) (n : BitVec 17) (prot : Prot) (s : State) : Out :=
  s.run (ioOnly c (.verify nsid.toNat lba.toNat n.toNat prot))

/-- FLUSH (R818): every write that its controller completed before has ended its media phase, in each mode at the latest with its
completion (R686); the Flush completes at once. -/
def execNvmeFlush (c : NvCmd) (nsid : BitVec 32) (s : State) : Out := s.run (ioOnly c (.flush nsid.toNat))

/-- ABORT (R684, R685, R825): bit 0 of Dword 0 is 0 when the abort won. -/
def execNvmeAbort (c : NvCmd) (sqid cid : BitVec 16) (s : State) : Out := s.run (fun m =>
  if c.sqid != 0 then m
  else begin c (fun m =>
    let r := abortLookup ⟨c.port, c.cntlid, sqid, cid⟩ m
    finishWith c (if r.2 then 0 else 1) [] r.1) m)

/-- The commands that have been held for MEDIA_HOLD seconds and still wait for the media (R229, R230). -/
def heldTooLong (m : Mach) : List Ctx :=
  let lim := 1000000 * setting m 0x0001 3 1 20
  m.fe.ctxs.filter (fun x => x.status.isNone && (match x.heldAt with
    | some t => decide (t + lim ≤ m.sch.now)
    | none => false) && (x.cmd.bind (fun io => (nsOf m (ioSpan io).1).map (fun n => mediaWaits m n io))).getD true)

/-- MEDIA_HOLD_EXPIRY (R230): commands held for MEDIA_HOLD seconds complete with Namespace Not Ready; SUP 0x0025 once per power cycle,
with the actuators that are not ready and the last stage completed. -/
def execMediaHoldExpiry (now : BitVec 48) (s : State) : Out := s.run (fun m =>
  let m := clockTo now.toNat m
  let cs := heldTooLong m
  if cs.isEmpty then m
  else
    let m := cs.foldl (fun m x => finish x.id .namespaceNotReady m) m
    if m.sup.holdReported then m
    else report 0x0025 nowhere (leBytes 1 ((!m.sup.actReady.p0).toNat + 2 * (!m.sup.actReady.p1).toNat) ++ leBytes 1 (stagesInOrder m.sup.stages)) { m with sup.holdReported := true })

end Sys2Proof.Machine
end

