-- ==== Sys2Proof/Machine/OpsOpal.lean ====
section
/-! DEFINITION. Shared operations of Opal (spec/17 R859 to R866): credentials, authorities, sessions, and methods. TCG Storage gives the statuses and
the access control that the spec leaves to it (log entry 60). -/

namespace Sys2Proof.Machine

/-! Statuses of TCG Storage Core. -/
/-- SUCCESS. -/
def tcgOk : Nat := 0x00
/-- NOT_AUTHORIZED. -/
def tcgNotAuth : Nat := 0x01
/-- SP_BUSY. -/
def tcgBusy : Nat := 0x03
/-- INVALID_PARAMETER. -/
def tcgParam : Nat := 0x0C
/-- AUTHORITY_LOCKED_OUT. -/
def tcgLocked : Nat := 0x12
/-- FAIL. -/
def tcgFail : Nat := 0x3F

/-! Authorities by number: SID 0, Admin1 of the Admin SP 1, PSID 2, Admin1 to Admin4 of the Locking SP 3 to 6, User1 to User16 7 to 22. -/
/-- An authority of the Locking SP. -/
def ofLocking (a : Nat) : Bool := decide (3 ≤ a) && decide (a ≤ 22)
/-- An authority of the Admin SP. -/
def ofAdmin (a : Nat) : Bool := decide (a ≤ 2)
/-- An Admin of the Locking SP. -/
def isLockAdmin (a : Nat) : Bool := decide (3 ≤ a) && decide (a ≤ 6)

/-- MSID of record 0x1101. -/
def msidOf (m : Mach) : Option (List Byte) := (recVal m 0x1101).map (·.take 32)
/-- PSID_HASH. -/
def psidHash (m : Mach) : Option (List Byte) := (recVal m 0x1101).map (fun v => (v.drop 32).take 32)
/-- TRY_LIMIT (Table 17-7). -/
def tryLimit (m : Mach) : Nat := setting m 0x1101 64 1 5

/-- The authority may be used: SID, PSID and the Locking SP's Admin1 always, the others once enabled. -/
def authOn (m : Mach) (a : Nat) : Bool := a == 0 || a == 2 || a == 3 || m.dsv.opal.enabled.contains a

/-- The credential of an authority: as set, else as manufactured (R866): the MSID for SID and Admin1 of the Admin SP, otherwise empty. -/
def pinOf (m : Mach) (a : Nat) : Option (List Byte) := match m.dsv.opal.pins.find? (fun x => x.1 == a) with
  | some x => some x.2
  | none => if a ≤ 1 then msidOf m else some []

/-- A proof shows the credential. -/
def provesPin (m : Mach) (a : Nat) (proof : List Byte) : Bool :=
  if a = 2 then psidHash m == some (leBytes 32 (Config.sha256 proof).toNat) else pinOf m a == some proof

/-- The session of the command's controller with an SP. -/
def sessOf (m : Mach) (c : NvCmd) : Option OpalSess := m.dsv.sess.filter (fun x => x.cntlid == c.cntlid)

/-- A session has proven an authority that satisfies a condition. -/
def provedIn (m : Mach) (c : NvCmd) (locking : Bool) (p : Nat → Bool) : Bool :=
  (sessOf m c).any (fun x => x.locking == locking && x.auths.any p)

/-- Leave a response for Security Receive, and complete the command that carried the method (R859). -/
def answer (c : NvCmd) (st : Nat) (data : List Byte) (m : Mach) : Mach :=
  finish c .success { m with dsv.resp := m.dsv.resp.filter (fun x => x.1 != c.cntlid) ++ [(c.cntlid, Config.opalPacket st data)] }

/-- A method that changes records 0x1180 and 0x1181 (R857): the change with its commit, or FAIL and no change. -/
def opalChange (c : NvCmd) (ok : Bool) (f : Opal → Opal) (m : Mach) : Mach :=
  let good := commitOk m ok
  let m := changeRecs [0x1180, 0x1181] (fun m => opalRecs m.dsv.opal) good (fun m => { m with dsv.opal := f m.dsv.opal }) m
  if good then answer c tcgOk [] (commitCtx c m) else answer c tcgFail [] m

/-- Change one range. -/
def Opal.onRange (o : Opal) (n : Nat) (f : LRange → LRange) : Opal := { o with ranges := updAt o.ranges n f }

/-- Two ranges of one namespace overlap. -/
def LRange.meets (r : LRange) (nsid start len : Nat) : Bool :=
  r.on && r.nsid == nsid && decide (r.start < start + len) && decide (start < r.start + r.len)

/-- A range may lie there (Table 17-1): within its one namespace, beside the others; the Global Range has no place of its own. -/
def placeOk (m : Mach) (n nsid start len : Nat) : Bool :=
  n != 0 && (len == 0 || ((nsOf m nsid).any (fun x => decide (start + len ≤ x.size))
    && ((List.range m.dsv.opal.ranges.length).drop 1).all (fun i => i == n || !(m.dsv.opal.ranges.getD i {}).meets nsid start len)))

/-- Who may do a Set (R859): the Locking SP's Admins; for lock states also those that the range names; in the Admin SP, the SID for credentials and
Enabled of its authorities. -/
def maySet (m : Mach) (c : NvCmd) : OpalSet → Bool
  | .place _ _ _ _ => provedIn m c true isLockAdmin
  | .locks n rle wle _ _ lor => provedIn m c true isLockAdmin
      || (rle.isNone && wle.isNone && lor.isNone && provedIn m c true (fun a => m.dsv.opal.ace.contains (n.toNat, a)))
  | .pin a _ => if ofAdmin a.toNat then provedIn m c false (fun x => x == 0) else provedIn m c true isLockAdmin
  | .enabled a _ => if ofAdmin a.toNat then provedIn m c false (fun x => x == 0) else provedIn m c true isLockAdmin
  | .lockers _ _ => provedIn m c true isLockAdmin
  | .store _ _ => provedIn m c true isLockAdmin

/-- A Set names what there is (Table 17-1). -/
def setValid (m : Mach) : OpalSet → Bool
  | .place n i s l => placeOk m n.toNat i.toNat s.toNat l.toNat
  | .locks _ _ _ _ _ _ => true
  | .pin a v => decide (a.toNat ≤ 22) && a != 2 && decide (v.length ≤ 32)
  | .enabled a _ => decide (a.toNat ≤ 22) && a != 0 && a != 2 && a != 3
  | .lockers _ us => us.all (fun a => ofLocking a.toNat)
  | .store o bs => decide (o.toNat + bs.length ≤ 131072)

/-- What a Set makes of the SPs. -/
def applySet (x : OpalSet) (o : Opal) : Opal := match x with
  | .place n i s l => o.onRange n.toNat (fun r => { r with on := decide (l ≠ 0), nsid := if l = 0 then 0 else i.toNat, start := s.toNat, len := l.toNat })
  | .locks n rle wle rl wl lor => o.onRange n.toNat (fun r => { r with
      rle := rle.getD r.rle, wle := wle.getD r.wle, rl := rl.getD r.rl, wl := wl.getD r.wl, lor := lor.getD r.lor })
  | .pin a v => { o with pins := o.pins.filter (fun p => p.1 != a.toNat) ++ [(a.toNat, v)] }
  | .enabled a b => { o with enabled := o.enabled.filter (· != a.toNat) ++ (if b then [a.toNat] else []) }
  | .lockers n us => { o with ace := o.ace.filter (fun e => e.1 != n.toNat) ++ us.map (fun u => (n.toNat, u.toNat)) }
  | .store off bs => { o with store := bs.zipIdx.foldl (fun l (b : Byte × Nat) => assocSet 0 l (off.toNat + b.2) b.1) o.store }

/-- Who may do a Get (R859): anyone the MSID; the Locking SP's Admins its tables and the DataStore; the SID the Admin SP's counts. -/
def mayGet (m : Mach) (c : NvCmd) : OpalGet → Bool
  | .msid => (sessOf m c).isSome
  | .range _ => provedIn m c true (fun _ => true)
  | .lockers _ => provedIn m c true isLockAdmin
  | .store _ _ => provedIn m c true isLockAdmin
  | .tries a => if ofAdmin a.toNat then provedIn m c false (fun x => x == 0) else provedIn m c true isLockAdmin
  | .enabled a => if ofAdmin a.toNat then provedIn m c false (fun x => x == 0) else provedIn m c true isLockAdmin

/-- What a Get returns, as the values that the packet carries (log entry 60). -/
def getValue (m : Mach) : OpalGet → List Byte
  | .msid => (msidOf m).getD []
  | .range n =>
    let r := m.dsv.opal.ranges.getD n.toNat {}
    leBytes 4 r.nsid ++ leBytes 8 r.start ++ leBytes 8 r.len ++ leBytes 1 r.rle.toNat ++ leBytes 1 r.wle.toNat ++ leBytes 1 r.rl.toNat ++ leBytes 1 r.wl.toNat
      ++ leBytes 1 r.lor.toNat
  | .tries a => leBytes 1 (assoc 0 m.dsv.tries a.toNat) ++ leBytes 1 (tryLimit m)
  | .enabled a => leBytes 1 (authOn m a.toNat).toNat
  | .lockers n => (m.dsv.opal.ace.filter (fun e => e.1 == n.toNat)).map (fun e => BitVec.ofNat 8 e.2)
  | .store o l => (List.range l.toNat).map (fun i => assoc 0 m.dsv.opal.store (o.toNat + i))

/-- A Revert, a PSID Revert or a RevertSP (R866): every key anew, the SPs as manufactured, then R865 on every namespace; the session ends. -/
def revertRow (c : NvCmd) (k kind : Nat) (keys : List (BitVec 512)) (ok : Bool) (may : Mach → Bool) (m : Mach) : Mach :=
  let all := List.range 16
  let ids := m.zmg.maps.nss.map (fun n => n.nsid)
  heldRow c k (fun m => if may m then holdRanges c all m else answer c tcgNotAuth [] m)
    (fun m => !rangeBusy m all && noCommit m && enoughKeys keys 16)
    (fun m =>
      let good := commitOk m ok
      let m := eraseRanges keys all good (fun o => manufactured (fun i => (o.ranges.getD i {}).key)) m
      let m := if good then
          answer c tcgOk [] (commitCtx c (report 0x1122 nowhere (leBytes 1 kind) { wipeNss ids m with dsv.sess := none }))
        else answer c tcgFail [] m
      freeRanges c m) m

/-- GenKey or Erase on a range (R864). -/
def rekeyRow (c : NvCmd) (k : Nat) (range : Nat) (keys : List (BitVec 512)) (ok : Bool) (m : Mach) : Mach :=
  heldRow c k (fun m => if !provedIn m c true isLockAdmin then answer c tcgNotAuth [] m else holdRanges c [range] m)
    (fun m => !rangeBusy m [range] && noCommit m && enoughKeys keys 1)
    (fun m =>
      let good := commitOk m ok
      let m := eraseRanges keys [range] good id m
      freeRanges c (if good then answer c tcgOk [] (commitCtx c m) else answer c tcgFail [] m)) m

end Sys2Proof.Machine
end

