-- ==== Sys2Proof/Machine/Opal.lean ====
section
/-! DEFINITION. Meanings of Security Send, Security Receive and the Opal methods (spec/17 R859 to R866). A method travels in a Security Send command of
the controller, which completes once the method has ended; its response waits for Security Receive. -/

namespace Sys2Proof.Machine

/-- SECURITY_SEND (R859): protocol 0x01 with what begins or ends a session; the methods have their own rows. -/
def execNvmeSecuritySend (c : NvCmd) (proto : Byte) (msg : SecMsg) (s : State) : Out := s.run (adminRow c (fun m =>
  if proto != 0x01 then finish c .invalidField m
  else match msg with
    | .start locking =>
      if m.dsv.sess.isSome then answer c tcgBusy [] m
      else if locking && !m.dsv.opal.active then answer c tcgParam [] m
      else answer c tcgOk [] { m with dsv.sess := some ⟨c.cntlid, locking, []⟩ }
    | .stop => if (sessOf m c).isNone then answer c tcgParam [] m else answer c tcgOk [] { m with dsv.sess := none }
    | .other _ => finish c .invalidField m))

/-- SECURITY_RECEIVE (R859): the response of the controller's last method, once. -/
def execNvmeSecurityReceive (c : NvCmd) (proto : Byte) (s : State) : Out := s.run (adminRow c (fun m =>
  if proto != 0x01 then finish c .invalidField m
  else match m.dsv.resp.find? (fun x => x.1 == c.cntlid) with
    | some r => finishWith c 0 r.2 { m with dsv.resp := m.dsv.resp.filter (fun x => x.1 != c.cntlid) }
    | none => finishWith c 0 (Config.opalPacket tcgOk []) m))

/-- ACTIVATE (R859, R857): the SID activates the Locking SP; its Admin1 takes the SID's credential. -/
def execOpalActivate (c : NvCmd) (ok : Bool) (s : State) : Out := s.run (heldRow c 10 (fun m =>
    if !provedIn m c false (fun a => a == 0) then answer c tcgNotAuth [] m
    else if m.dsv.opal.active then answer c tcgOk [] m else m)
  noCommit
  (fun m => opalChange c ok (fun o => { o with active := true, pins := o.pins.filter (fun p => p.1 != 3) ++ [(3, (pinOf m 0).getD [])] }) m))

/-- REVERT (R866): by the SID, or by the PSID. -/
def execOpalRevert (c : NvCmd) (keys : List (BitVec 512)) (ok : Bool) (s : State) : Out := s.run (fun m =>
  let psid := !provedIn m c false (fun a => a == 0)
  revertRow c (if psid then 12 else 11) (if psid then 2 else 1) keys ok (fun m => provedIn m c false (fun a => a == 0 || a == 2)) m)

/-- REVERTSP (R866): an Admin of the Locking SP, or the SID in the Admin SP. -/
def execOpalRevertsp (c : NvCmd) (keys : List (BitVec 512)) (ok : Bool) (s : State) : Out := s.run (fun m =>
  revertRow c 13 1 keys ok (fun m => provedIn m c true isLockAdmin || provedIn m c false (fun a => a == 0)) m)

/-- GENKEY (R855, R857, R864). -/
def execOpalGenkey (c : NvCmd) (range : BitVec 4) (keys : List (BitVec 512)) (ok : Bool) (s : State) : Out := s.run (rekeyRow c 14 range.toNat keys ok)

/-- ERASE (R855, R857, R864). -/
def execOpalErase (c : NvCmd) (range : BitVec 4) (keys : List (BitVec 512)) (ok : Bool) (s : State) : Out := s.run (rekeyRow c 15 range.toNat keys ok)

/-- GET (R859). -/
def execOpalGet (c : NvCmd) (what : OpalGet) (s : State) : Out := s.run (adminRow c (fun m =>
  if mayGet m c what then answer c tcgOk (getValue m what) m else answer c tcgNotAuth [] m))

/-- SET (R857, R860, R863): it takes effect for commands decoded afterwards; dirty sectors stay. -/
def execOpalSet (c : NvCmd) (what : OpalSet) (ok : Bool) (s : State) : Out := s.run (heldRow c 16 (fun m =>
    if !maySet m c what then answer c tcgNotAuth [] m else if !setValid m what then answer c tcgParam [] m else m)
  noCommit
  (opalChange c ok (applySet what)))

/-- AUTHENTICATE (R862, Table 17-1): a wrong proof counts; at TRY_LIMIT DSV 0x1120, and no further try until the next power cycle. -/
def execOpalAuthenticate (c : NvCmd) (auth : BitVec 5) (proof : List Byte) (s : State) : Out := s.run (adminRow c (fun m =>
  let a := auth.toNat
  match sessOf m c with
  | none => answer c tcgNotAuth [] m
  | some x =>
    if !(if x.locking then ofLocking a else ofAdmin a) || !authOn m a then answer c tcgParam [] m
    else
      let n := assoc 0 m.dsv.tries a
      if tryLimit m ≤ n then answer c tcgLocked [] m
      else if provesPin m a proof then
        answer c tcgOk [] { m with dsv.sess := some { x with auths := nubList (x.auths ++ [a]) }, dsv.tries := assocSet 0 m.dsv.tries a 0 }
      else
        let m := { m with dsv.tries := assocSet 0 m.dsv.tries a (n + 1) }
        let m := if n + 1 = tryLimit m then report 0x1120 nowhere (leBytes 1 a) m else m
        answer c tcgNotAuth [] m))

/-- Bytes from the module's random bit generator (R855): free values. -/
def randomBytes : Nat → Mach → List Byte × Mach
  | 0, m => ([], m)
  | n + 1, m => let r := randomBytes n (drew m)
    ((freshVal m).extractLsb' 0 8 :: r.1, r.2)

/-- RANDOM (R859). -/
def execOpalRandom (c : NvCmd) (count : BitVec 16) (s : State) : Out := s.run (adminRow c (fun m =>
  if (sessOf m c).isNone then answer c tcgNotAuth [] m
  else let r := randomBytes count.toNat m
    answer c tcgOk r.1 r.2))

end Sys2Proof.Machine
end

