-- ==== Sys2Proof/Machine/Pins.lean ====
section
/-! DEFINITION. Meanings of the events on pins and on the clock of seconds (spec/20 R999 to R1004, R1019, spec/00 R22), and of the NVMe power
features (spec/04 R201, R208, R210). -/

namespace Sys2Proof.Machine

/-- I3C_DYNAMIC_ADDRESS (R1000, R1002): the port runs I3C, and MGT_ALERT_N stays released. -/
def execI3cDynamicAddress (addr : BitVec 7) (s : State) : Out := s.run (fun m => { m with pins.mgt := .i3c addr, pins.mgtAlert := false })

/-- RSTDAA (R999, R1000): the port is an SMBus target again. -/
def execRstdaa (s : State) : Out := s.run (fun m => { m with pins.mgt := .smbus, pins.ibi := false })

/-- ACT_LED_HOLD_EXPIRY (R1004): 50 ms after the last media operation ended, with none in flight on either actuator. -/
def execActLedHoldExpiry (s : State) : Out := s.run (fun m =>
  if cfxHalted m .a0 && cfxHalted m .a1 then { m with pins.actLed := false } else m)

/-- VBULK_60V_CROSSING (R1019): the indicator follows VBULK alone. -/
def execVbulk60vCrossing (vbulk : BitVec 16) (s : State) : Out := s.run (setVbulk vbulk)

/-- One second of operating time: 40 bits, saturating (R22). -/
def tickSeconds (t : BitVec 40) : BitVec 40 := BitVec.ofNat 40 (satTo (2 ^ 40 - 1) (t.toNat + 1))

/-- The line counts of a port after a second; FECCORR stays 0 in PCIe (Table 16-13). -/
def portSecond (x : SecondMeas) (p : Act) (q : Port) : Port :=
  { q with errCnt := q.errCnt.add (x.errs.get p).toNat, fecCorr := if q.eth then q.fecCorr.add (x.fec.get p).toNat else q.fecCorr }

/-- What a second leaves in the power unit's registers and the ports' counters (Tables 2-9 and 16-13, R1030), with the operating time (R22). -/
def secondCounts (x : SecondMeas) (m : Mach) : Mach :=
  { m with
    sup.opSec := tickSeconds m.sup.opSec, pwr.pin := x.pin, pwr.imot := x.imot, pwr.energy := m.pwr.energy.add x.energy.toNat
    prt := (m.prt.upd .a0 (portSecond x .a0)).upd .a1 (portSecond x .a1) }

/-- OPERATING_TIME_TICK (R22): one second with the always-on domain powered, with what was measured and counted in it (log entry 5). Heaters
count their energy (R447), VMOT is measured (R138), and the vault's protection has held or not for a further second (R796). -/
def execOperatingTimeTick (x : SecondMeas) (s : State) : Out := s.run (fun m => protectionTick (addHeat .a1 (addHeat .a0 (vmotSeen x.vmot x.heatUs (secondCounts x m)))))

/-- SET_FEATURES_APST (R201). -/
def execSetFeaturesApst (c : NvCmd) (enable : Bool) (s : State) : Out := s.run (adminRow c (fun m =>
  finish c .success { m with sup.apstEn := enable }))

/-- A power state is taken (R208, R210, Tables 4-2 and 4-4): modes 2 to 5 change to its mode; the heads that already follow stay loaded. -/
def takePowerState (ps : Nat) (m : Mach) : Mach :=
  let m := psTo (BitVec.ofNat 3 ps) { m with sup.lastOpPs := if ps ≤ 1 then BitVec.ofNat 3 ps else m.sup.lastOpPs }
  let t := psMode ps
  let may := m.sup.mode == .idleLow || m.sup.mode == .idleReady || fliesHeads m.sup.mode
  let shut := m.sup.shut != .none && m.sup.shut != .complete && m.sup.shut != .completeVaulted
  let going := m.sup.trans && (m.sup.target == .standby || m.sup.target == .safe || m.sup.target == .service)
  if !may || shut || going then m
  else if m.sup.trans then (if m.sup.target == t || (t == .idleFly && m.sup.target == .active) then m else beginMode t 4 (abortModes m))
  else if m.sup.mode == t || (t == .idleFly && m.sup.mode == .active) then m
  else beginMode t 4 m

/-- SET_FEATURES_POWER_MANAGEMENT (R210, Tables 4-2 and 4-4): one of the five power states. -/
def execSetFeaturesPowerManagement (c : NvCmd) (ps : BitVec 5) (s : State) : Out := s.run (adminRow c (fun m =>
  if 4 < ps.toNat then finish c .invalidField m else takePowerState ps.toNat (finish c .success m)))

end Sys2Proof.Machine
end

