-- ==== Sys2Proof/Machine/Ports.lean ====
section
/-! DEFINITION. Meanings of the commands of the ports and of the front end (spec/16). An event whose stated condition does not hold changes
nothing (log entry 5). -/

namespace Sys2Proof.Machine

/-! ### Contexts and completions -/

/-- SUBMISSION_FETCH (R821, R833): a PCIe controller's submission entry. -/
def execSubmissionFetch (c : NvCmd) (s : State) : Out := s.run (fun m =>
  if ((ctrlOf m c).map (fun k => k.tcp)).getD true then m else fetch c m)

/-- CAPSULE_RECEIVE (R821, R833): a command capsule of an association. -/
def execCapsuleReceive (c : NvCmd) (s : State) : Out := s.run (fun m =>
  if ((ctrlOf m c).map (fun k => k.tcp)).getD false then fetch c m else m)

/-- COMPLETION_POST (R821, R823, R824, R826, R770, R837). -/
def execCompletionPost (c : NvCmd) (s : State) : Out := s.run (post c)

/-- COMPLETION_QUEUE_HEAD_DOORBELL (R826, R833): the host has taken entries of a completion queue. -/
def execCompletionQueueHeadDoorbell (p : Act) (cntlid qid taken : BitVec 16) (s : State) : Out := s.run (fun m =>
  if frozen m then m
  else if m.fe.tko.isSome then onPrt p (fun x => { x with heldHeads := x.heldHeads ++ [(cntlid, qid, taken)] }) m
  else cqFree p cntlid qid taken m)

/-- ASYNCHRONOUS_EVENT_REQUEST (R913): held until a notice is posted. -/
def execAsynchronousEventRequest (c : NvCmd) (s : State) : Out := s.run (adminRow c (fun m =>
  match (ctrlOf m c).map (fun k => k.notices) with
  | some (d :: r) => finish c .success (onCtx c (fun x => { x with dw := d }) (onCtrl c.port c.cntlid (fun k => { k with notices := r }) m))
  | _ => onCtrl c.port c.cntlid (fun k => { k with aers := k.aers ++ [c] }) m))

/-- CREATE_IO_QUEUE (R817, Table 16-3). -/
def execCreateIoQueue (c : NvCmd) (cq : Bool) (qid size cqid : BitVec 16) (prio : Prio) (s : State) : Out := s.run (adminRow c (fun m =>
  match ctrlOf m c with
  | none => finish c .invalidField m
  | some k =>
    if k.tcp then finish c .invalidField m
    else if qid == 0 || decide (64 < qid.toNat) || k.queues.any (fun q => q.cq == cq && q.qid == qid) then finish c .invalidQueueId m
    else if decide (size.toNat < 2) || decide (4096 < size.toNat) then finish c .invalidQueueSize m
    else if !cq && !k.queues.any (fun q => q.cq && q.qid == cqid) then finish c .completionQueueInvalid m
    else finish c .success (onCtrl c.port c.cntlid (fun k => { k with queues := k.queues ++ [⟨cq, qid, size.toNat, cqid, prio, 0⟩] }) m)))

/-- DELETE_IO_QUEUE (R817): a submission queue's commands end with it. -/
def execDeleteIoQueue (c : NvCmd) (cq : Bool) (qid : BitVec 16) (s : State) : Out := s.run (adminRow c (fun m =>
  match ctrlOf m c with
  | none => finish c .invalidField m
  | some k =>
    if k.tcp then finish c .invalidField m
    else if !k.queues.any (fun q => q.cq == cq && q.qid == qid) then finish c .invalidQueueId m
    else if cq && k.queues.any (fun q => !q.cq && q.cqid == qid) then finish c .invalidQueueDeletion m
    else
      let m := if cq then m else endCtxs (fun x => x.cntlid == c.cntlid && decide (x.port = c.port) && x.sqid == qid) m
      finish c .success (onCtrl c.port c.cntlid (fun k => { k with queues := k.queues.filter (fun q => !(q.cq == cq && q.qid == qid)) }) m)))

/-! ### Reservations -/

/-- RESERVATION_REGISTER (R816, Table 16-2): 0 registers, 1 unregisters, 2 replaces; CPTPL 2 and 3 change persistence. -/
def execReservationRegister (c : NvCmd) (nsid : BitVec 32) (act : BitVec 3) (ignore : Bool) (cptpl : BitVec 2) (cur new : BitVec 64) (s : State) : Out :=
  s.run (resvRow c nsid.toNat (fun r me m =>
    if 2 < act.toNat then finish c .invalidField m
    else match resvRegister r me act.toNat ignore cptpl.toNat cur new with
      | none => finish c .reservationConflict m
      | some r => finish c .success (commitCtx c (putResv nsid.toNat r m))))

/-- RESERVATION_ACQUIRE: 0 acquires, 1 preempts, 2 preempts and aborts the commands of the hosts preempted. -/
def execReservationAcquire (c : NvCmd) (nsid : BitVec 32) (act rtype : BitVec 8) (cur pre : BitVec 64) (s : State) : Out :=
  s.run (resvRow c nsid.toNat (fun r me m =>
    if 2 < act.toNat || rtype.toNat < 1 || 6 < rtype.toNat then finish c .invalidField m
    else match resvAcquire r me act.toNat rtype.toNat cur pre with
      | none => finish c .reservationConflict m
      | some (r, out) =>
        let m := putResv nsid.toNat r m
        let m := if act = 2 then
            (m.fe.ctxs.filter (fun x => !x.admin && x.status.isNone && x.id != c && out.contains (hostOf m x.id)
              && ((x.cmd.map (fun io => (ioSpan io).1 == nsid.toNat)).getD false))).foldl (fun m x => abortWins x.id m) m
          else m
        finish c .success (commitCtx c m)))

/-- RESERVATION_RELEASE: 0 releases, 1 clears. -/
def execReservationRelease (c : NvCmd) (nsid : BitVec 32) (act rtype : BitVec 8) (cur : BitVec 64) (s : State) : Out :=
  s.run (resvRow c nsid.toNat (fun r me m =>
    if 1 < act.toNat then finish c .invalidField m
    else match resvRelease r me act.toNat rtype.toNat cur with
      | none => finish c .reservationConflict m
      | some (_, false) => finish c .invalidField m
      | some (r, true) => finish c .success (commitCtx c (putResv nsid.toNat r m))))

/-! ### Controllers and associations -/

/-- CONTROLLER_ENABLE (R227, R248): CC.EN set; after a shutdown for notifications CTRL_READY sets and slot 0 is reopened. -/
def execControllerEnable (p : Act) (cntlid : BitVec 16) (cfg : HostCfg) (s : State) : Out := s.run (fun m =>
  match m.fe.ctrls.find? (fun k => k.cntlid == cntlid && decide (k.port = p)) with
  | none => m
  | some k =>
    if k.en || !(m.prt.get p).up || frozen m then m
    else
      let m := onCtrl p cntlid (fun k => { k with en := true, shutDone := false, shutting := false, host := if k.tcp then k.host else cfg.host
                                                  vendorAen := cfg.vendorAen, zoneAen := cfg.zoneAen, dulbe := cfg.dulbe.map (fun n => n.toNat) }) m
      controllersReady (reopen m))

/-- CONTROLLER_DISABLE (R844, R845): the controller's commands end without a completion; CSTS.RDY clears. -/
def execControllerDisable (p : Act) (cntlid : BitVec 16) (s : State) : Out := s.run (fun m =>
  if m.fe.ctrls.any (fun k => k.cntlid == cntlid && decide (k.port = p) && k.en) then
    onCtrl p cntlid (fun k => k.disabled) (endController p cntlid m)
  else m)

/-- Every controller of the subsystem whose port link is up has been told to shut down (R245). -/
def allNotified (m : Mach) : Bool :=
  (m.fe.ctrls.filter (fun k => (m.prt.get k.port).up)).all (fun k => k.shutting || k.shutDone)

/-- SHUTDOWN_NOTIFICATION (R245, R246, R248): the controller stops taking commands and reports its shutdown complete when it holds none; the last of
all whose links are up starts a clean shutdown. A shutdown that another trigger began goes on toward its own target, and reports every controller's
with its own. -/
def execShutdownNotification (p : Act) (cntlid : BitVec 16) (s : State) : Out := s.run (fun m =>
  match m.fe.ctrls.find? (fun k => k.cntlid == cntlid && decide (k.port = p)) with
  | none => m
  | some k =>
    if !k.en || k.shutting || k.shutDone || !(m.prt.get p).up || frozen m then m
    else
      let m := onCtrl p cntlid (fun k => { k with shutting := true }) m
      if allNotified m && !shutRuns m then startShutdown .notify { m with sup.afterReset := none } else shutCheck m)

/-- KEEP_ALIVE (R847): the timer runs anew. -/
def execNvmeKeepAlive (c : NvCmd) (s : State) : Out := s.run (adminRow c (fun m =>
  finish c .success (onCtrl c.port c.cntlid (fun k => { k with kaAt := m.sch.now }) m)))

/-- KEEP_ALIVE_TIMEOUT (R848): an association ends with its connections. -/
def execKeepAliveTimeout (p : Act) (cntlid : BitVec 16) (s : State) : Out := s.run (fun m =>
  if m.fe.ctrls.any (fun k => k.cntlid == cntlid && decide (k.port = p) && k.tcp) then
    let m := endController p cntlid m
    report 0x1420 nowhere (leBytes 1 p.idx ++ leBytes 2 cntlid.toNat) { m with fe.ctrls := m.fe.ctrls.filter (fun k => !(k.cntlid == cntlid && decide (k.port = p))) }
  else m)

/-- CONNECT (R815, R819, Table 16-3): with queue 0 a new association, otherwise an I/O queue of one. -/
def execNvmeConnect (c : NvCmd) (size : BitVec 16) (host : BitVec 128) (s : State) : Out := s.run (fun m =>
  if !(m.prt.get c.port).eth || !(m.prt.get c.port).up || frozen m || !engineUp m || !(m.sup.ctrlReady || shutIdle m) then m
  else if c.sqid == 0 then
    bareRun c (fun m =>
      if 128 < size.toNat then finish c .connectInvalidParams (refuseConnect c.port 1 m)
      else if 16 ≤ assocs m c.port then finish c .controllerBusy (refuseConnect c.port 2 m)
      else if 256 ≤ connections m then finish c .controllerBusy (refuseConnect c.port 3 m)
      else
        let id := freeCntlid m
        let m := reopen { m with fe.ctrls := m.fe.ctrls ++ [{ port := c.port, cntlid := id, tcp := true, conns := 1, host := host, kaAt := m.sch.now : Ctrlr }] }
        finish c .success (onCtx c (fun x => { x with dw := id.zeroExtend 64 }) m)) m
  else match ctrlOf m c with
    | none => bareRun c (finish c .connectInvalidParams) m
    | some k =>
      if !k.tcp || !k.rdy then bareRun c (finish c .connectInvalidParams) m
      else bareRun c (fun m =>
        if k.queues.any (fun q => q.qid == c.sqid) then finish c .connectInvalidParams m
        else if 16 ≤ k.queues.length then finish c .connectInvalidParams (refuseConnect c.port 0 m)
        else if 128 < size.toNat then finish c .connectInvalidParams (refuseConnect c.port 1 m)
        else if 256 ≤ connections m then finish c .controllerBusy (refuseConnect c.port 3 m)
        else finish c .success (onCtrl c.port c.cntlid (fun k => { k with conns := k.conns + 1, queues := k.queues ++ [⟨false, c.sqid, size.toNat, c.sqid, .medium, 0⟩] }) m)) m)

/-! ### The engine pair -/

/-- WATCHDOG_REFRESH (R828). -/
def execWatchdogRefresh (s : State) : Out := s.run (fun m => if engineUp m then { m with fe.wdtFed := true } else m)

/-- WATCHDOG_EXPIRY (R828, R830 to R832, R838): WDT_MS have passed since the last refresh; FE 0x1020, and the armed response. -/
def execWatchdogExpiry (s : State) : Out := s.run (fun m =>
  if !engineUp m || m.pwr.loss then m
  else
    let m := report 0x1020 nowhere (leBytes 1 m.fe.active.idx) { m with fe.wdtFed := false }
    if armed m 0x1020 == 9 && standbySound m then startTakeover 3 m.fe.active.other none m else m)

/-- FENCE_CONFIRMED (R832, R837): what the old engine had queued has left; the standby is powered. -/
def execFenceConfirmed (overlap : BitVec 9) (s : State) : Out := s.run (fun m => match m.fe.tko with
  | none => m
  | some t => if decide (t.trigger = 5) || m.fe.fenced then m
    else { m with fe.fenced := true, fe.overlap := overlap, fe.powered := m.fe.powered.upd t.new (fun _ => true) })

/-- TAKEOVER_COMPLETE (R831, R832, R834, R836 to R838). -/
def execTakeoverComplete (gap : BitVec 16) (s : State) : Out := s.run (takeoverDone gap)

/-! ### Registers (Tables 16-14, 16-15) -/

/-- FE.STATUS. -/
def feStatusReg (m : Mach) : Reg := packReg [⟨31, 1, m.fe.ctxCorr.ovf.toNat⟩, ⟨30, 1, m.fe.ctxFull.ovf.toNat⟩, ⟨29, 1, m.fe.tkoCnt.ovf.toNat⟩,
  ⟨15, 1, m.fe.faulty.p1.toNat⟩, ⟨14, 1, m.fe.faulty.p0.toNat⟩, ⟨13, 1, m.fe.powered.p1.toNat⟩, ⟨12, 1, m.fe.powered.p0.toNat⟩, ⟨11, 1, m.fe.active.idx⟩,
  ⟨10, 1, m.fe.tko.isSome.toNat⟩, ⟨9, 1, m.fe.fenced.toNat⟩]
/-- FE.CTX. -/
def feCtxReg (m : Mach) : Reg := packReg [⟨19, 9, connections m⟩, ⟨12, 7, rsvUsed m⟩, ⟨0, 12, ioUsed m⟩]
/-- FE.LASTTKO. -/
def feLasttkoReg (m : Mach) : Reg := packReg [⟨29, 3, m.fe.lastTrigger.toNat⟩, ⟨20, 9, m.fe.overlap.toNat⟩, ⟨0, 16, m.fe.gapUs.toNat⟩]
/-- FE.SPARE. -/
def feSpareReg (m : Mach) : Reg := packReg [⟨8, 7, m.fe.rowRemap.length⟩, ⟨0, 7, spareRows - m.fe.rowRemap.length⟩]
/-- PRT.STATUSp. -/
def prtStatusReg (m : Mach) (p : Act) : Reg :=
  let x := m.prt.get p
  packReg [⟨31, 1, x.fecCorr.ovf.toNat⟩, ⟨30, 1, x.errCnt.ovf.toNat⟩, ⟨29, 1, x.linkDn.ovf.toNat⟩, ⟨28, 1, x.postCnt.ovf.toNat⟩, ⟨11, 5, assocs m p⟩,
    ⟨10, 1, x.pll.toNat⟩, ⟨9, 1, x.up.toNat⟩, ⟨8, 1, x.degraded.toNat⟩, ⟨6, 2, x.eth.toNat⟩, ⟨5, 1, (m.pins.perst.get p).toNat⟩,
    ⟨4, 1, (m.fe.ctrls.any (fun k => decide (k.port = p) && !k.tcp && k.en)).toNat⟩, ⟨3, 1, x.held.toNat⟩]
/-- PRT.LINKp. -/
def prtLinkReg (x : Port) : Reg := packReg [⟨16, 16, x.mtu.toNat⟩, ⟨8, 1, x.fec.toNat⟩, ⟨4, 4, x.speed.toNat⟩, ⟨0, 4, x.width.toNat⟩]

/-- FE_STATUS (Table 16-8). -/
def execFeStatus (h : Hdr) (s : State) : Out := s.run (service 0x0C01 h lvHost (fun _ => [reserved [h.p0, h.p1, h.p2, h.p3]]) (fun m =>
  reply h stOk 0 (regBytes [feStatusReg m, feCtxReg m, feLasttkoReg m, feSpareReg m, m.fe.tkoCnt.lo, m.fe.tkoCnt.hi]) m))

/-- FE_TAKEOVER (R832, R838 to R840, Table 16-8): its reply follows the resumption of posting. -/
def execFeTakeover (h : Hdr) (s : State) : Out := s.run (service 0x0C02 h lvMaint
  (fun m => [(decide (m.sup.mode = Mode.standby) || !stageDone m 10, stWrongMode), reserved [h.p0, h.p1, h.p2, h.p3]])
  (fun m =>
    if !standbySound m then reply h stNotPresent 0 [] (report 0x1021 nowhere (leBytes 1 m.fe.active.other.idx) m)
    else if m.fe.tko.isSome || !m.fe.posting then reply h stBusy 0 [] m
    else startTakeover (match h.who with
      | .nvme _ => 2
      | _ => 1) m.fe.active.other (some h) m))

/-! ### Ports and links -/

/-- PERST_ASSERT (R844, R845, R1043 cause 1): G_PORTx is held in reset. -/
def execPerstAssert (p : Act) (s : State) : Out := s.run (fun m =>
  if m.pins.perst.get p then m
  else flow (portHeld p 1 (assertReset (.port p) { m with pins.perst := m.pins.perst.upd p (fun _ => true) })))

/-- PERST_RELEASE (R185, R846): the group leaves reset, which ends a request merged with it; training starts. -/
def execPerstRelease (p : Act) (s : State) : Out := s.run (fun m =>
  if m.pins.perst.get p then
    let m := { m with pins.perst := m.pins.perst.upd p (fun _ => false) }
    if unsupplied m (.port p) then m else groupReply (Group.bitNo (.port p)) (portReleased p (releaseIfReset (.port p) m))
  else m)

/-- A rate and width that a port's personality and record 0x1401 admit (Tables 16-1, 16-10). -/
def linkFits (m : Mach) (p : Act) (speed width : Nat) : Bool :=
  if (m.prt.get p).eth then width == 1 && (match setting m 0x1401 4 1 0 with
    | 1 => speed == 9
    | 2 => speed == 8
    | _ => speed == 8 || speed == 9)
  else decide (1 ≤ speed) && decide (speed ≤ setting m 0x1401 2 1 5) && decide (1 ≤ width) && decide (width ≤ setting m 0x1401 3 1 2)

/-- LINK_UP (R812, R813, R846, Table 16-1). The recovery image brings up port A alone (spec/04 R223). -/
def execLinkUp (p : Act) (speed width : BitVec 4) (s : State) : Out := s.run (fun m =>
  let x := m.prt.get p
  if x.up || x.linkDis || inReset m (.port p) || m.pins.perst.get p || !m.pwr.llcOn || frozen m || !linkFits m p speed.toNat width.toNat
      || (decide (p = .a1) && m.sup.fwSlot == 3) then m
  else
    let low := if x.eth then speed != 9 else !(speed == 5 && width == 2)
    let m := onPrt p (fun x => { x with up := true, pll := true, degraded := low, speed := speed, width := width, fec := x.eth && speed == 9
                                        mtu := if x.eth then BitVec.ofNat 16 (setting m 0x1401 6 2 1500) else 0 }) m
    let ps := leBytes 1 p.idx ++ leBytes 1 speed.toNat ++ leBytes 1 width.toNat
    let m := report 0x1401 nowhere ps m
    if low then report 0x1410 nowhere ps m else m)

/-- LINK_DOWN (R847, R1043 cause 2): lost at the physical or link layer; associations are kept. -/
def execLinkDown (p : Act) (s : State) : Out := s.run (linkDownAt p 2)

/-- PHY_PLL_LOSS (R813, R1043 cause 3). -/
def execPhyPllLoss (p : Act) (s : State) : Out := s.run (fun m =>
  if !(m.prt.get p).pll then m
  else report 0x1411 nowhere (leBytes 1 p.idx) (linkDownAt p 3 (onPrt p (fun x => { x with pll := false }) m)))

/-- PHY_PLL_RELOCK (R813): the PLL locks again; the link retrains, which LINK_UP ends. -/
def execPhyPllRelock (p : Act) (s : State) : Out := s.run (fun m =>
  if inReset m (.port p) || !m.pwr.llcOn then m else onPrt p (fun x => { x with pll := true }) m)

end Sys2Proof.Machine
end

