-- ==== Sys2Proof/Machine/Power.lean ====
section
/-! DEFINITION. Meanings of the power unit's events (spec/02_power_unit.md, spec/15 R773 to R775). An event whose stated
condition does not hold changes nothing (log entry 5). -/

namespace Sys2Proof.Machine

/-- The power-loss sequence has ended and the input has not yet returned (R774, R1016). -/
def lossEnded (m : Mach) : Bool := m.pwr.loss && m.pwr.discharge

/-- The power-cycle count advances and saturates (R15). -/
def countCycle (m : Mach) : Mach := { m with sup.pcycle := BitVec.ofNat 32 (satTo (2 ^ 32 - 1) (m.sup.pcycle.toNat + 1)) }

/-- After the sequence, with the input present: every group but G_AON is reset and the power-up sequence starts (R115). -/
def lossRestart (m : Mach) : Mach :=
  let cycle := fun (c : SrvCtl) => { c with rroLoaded := false }
  let m := moduleReset ((countCycle m).onSrv .a0 cycle |>.onSrv .a1 cycle)
  { m with pwr.loss := false, pwr.discharge := false, pwr.detArmed := false, pwr.llcOn := false, pwr.vmotOutEn := false
           sup.holdReported := false, spn.splitReported := false }

/-- INPUT_KIND_CLASSIFY (R101, Table 2-7): the class and the measures of an input that is present. -/
def execInputKindClassify (dc : Bool) (vinPk freq : BitVec 16) (s : State) : Out := s.run (fun m =>
  if vinPk.toNat < 700 then m
  else { m with
    pwr.kind := if dc then .dc else .ac, pwr.inputOk := true, pwr.vinPk := vinPk, pwr.freq := if dc then 0 else freq
    pwr.excursion := m.pwr.excursion && inputOutside (if dc then .dc else .ac) vinPk.toNat })

/-- PFC_START (R102, R104): the input reaches the start threshold. When a power-loss sequence has ended, the returning input
runs the power-up sequence again (R115). The peak back at 400 V or less lets the stage switch again. -/
def execPfcStart (vinPk : BitVec 16) (s : State) : Out := s.run (fun m =>
  if !m.pwr.inputOk || !inputAtLeast m.pwr.kind vinPk.toNat 75 105 || m.pwr.pfcOn || m.pwr.measuring || !mayConvert m then m
  else
    let m := ifDo (lossEnded m) lossRestart m
    if 4000 < vinPk.toNat then { m with pwr.vinPk := vinPk, pwr.discharge := false }
    else { m with pwr.vinPk := vinPk, pwr.pfcOn := true, pwr.pfcHeldOv := false, pwr.discharge := false })

/-- A measured rectified peak; with the PFC stage stopped for over-voltage the bulk rail follows it (R104). -/
def vinSeen (vinPk : BitVec 16) (m : Mach) : Mach :=
  let m := { m with pwr.vinPk := vinPk }
  if m.pwr.pfcHeldOv then setVbulk vinPk m else m

/-- INPUT_OUT_OF_RANGE (R103): PWR 0x0102 once per excursion. A measure within the range ends the excursion, and so does one below the start
threshold, of which the spec says nothing (DESIGN CHOICE, log entry 102). -/
def execInputOutOfRange (vinPk freq : BitVec 16) (s : State) : Out := s.run (fun m =>
  let m := vinSeen vinPk { m with pwr.freq := if m.pwr.kind = .dc then 0 else freq }
  if inputOutside m.pwr.kind vinPk.toNat then
    if m.pwr.excursion then m
    else report 0x0102 nowhere (leBytes 2 vinPk.toNat ++ leBytes 2 m.pwr.freq.toNat) { m with pwr.excursion := true }
  else { m with pwr.excursion := false })

/-- INPUT_OVERVOLTAGE (R104, R1046): the peak exceeds 400 V; the PFC stage stops, VBULK follows the peak. -/
def execInputOvervoltage (vinPk : BitVec 16) (s : State) : Out := s.run (fun m =>
  if vinPk.toNat ≤ 4000 then m
  else if m.pwr.pfcHeldOv then vinSeen vinPk m
  else report 0x0103 nowhere (leBytes 2 vinPk.toNat) (vinSeen vinPk { m with pwr.pfcOn := false, pwr.pfcHeldOv := true }))

/-- PRECHARGE_BYPASS (R108, R109): VBULK is within 20 V of the rectified peak. -/
def execPrechargeBypass (vbulk : BitVec 16) (s : State) : Out := s.run (fun m =>
  let m := setVbulk vbulk m
  if m.pwr.inputOk && decide (m.pwr.vinPk.toNat ≤ vbulk.toNat + 200) then { m with pwr.bypass := true } else m)

/-- LLC_START (R105, R112): VBULK stands at 390 V, regulated, or above it with the PFC stage stopped under R104; the LLC stage
starts with its VMOT output and arms the detection. -/
def execLlcStart (vbulk vmot : BitVec 16) (s : State) : Out := s.run (fun m =>
  let m := setVbulk vbulk m
  if m.pwr.llcOn || m.pwr.loss || !mayConvert m || !m.pwr.inputOk then m
  else if regulated m vbulk.toNat || (m.pwr.pfcHeldOv && decide (3900 < vbulk.toNat)) then
    { m with pwr.llcOn := true, pwr.detArmed := true, pwr.vmotOutEn := !m.pwr.ovpActive, pwr.vmot := vmot }
  else m)

/-- INPUT_ABSENT_TIMEOUT (R102, R110 to R112): for 12 ms the rectified input has stayed at or below a peak. Below 70 VAC or 98 VDC the PFC stage
stops. Below 70 V rectified the input is absent: armed detection asserts power loss, with cause 3 when VBULK is below 330 V within the same 2 µs
(R117); disarmed, the bulk discharges (R112, R1016). -/
def execInputAbsentTimeout (vinPk vbulk : BitVec 16) (s : State) : Out := s.run (fun m =>
  if !m.pwr.inputOk || inputAtLeast m.pwr.kind vinPk.toNat 70 98 then m
  else if 700 ≤ vinPk.toNat then setVbulk vbulk { m with pwr.vinPk := vinPk, pwr.excursion := false, pwr.pfcOn := false, pwr.pfcHeldOv := false }
  else
    let m := setVbulk vbulk { m with pwr.inputOk := false, pwr.kind := .none, pwr.vinPk := vinPk, pwr.freq := 0, pwr.excursion := false }
    let m := if m.pwr.detArmed || m.pwr.loss then assertLoss (if vbulk.toNat < 3300 then 3 else 1) m else { m with pwr.discharge := true }
    { m with pwr.pfcOn := false, pwr.pfcHeldOv := false })

/-- VBULK_BELOW_330 (R111). -/
def execVbulkBelow330 (vbulk : BitVec 16) (s : State) : Out := s.run (fun m =>
  if 3300 ≤ vbulk.toNat then m else assertLoss 2 (setVbulk vbulk m))

/-- INPUT_DROPOUT (R116): an interruption shorter than 12 ms, in units of 0.1 ms. -/
def execInputDropout (dur : BitVec 16) (s : State) : Out := s.run (fun m =>
  if m.pwr.inputOk && decide (dur.toNat < 120) then
    report 0x0105 nowhere (leBytes 4 dur.toNat) { m with pwr.dropCnt := m.pwr.dropCnt.inc }
  else m)

/-- VBULK_BELOW_180 (spec/02 hold-up, R112, R775): the LLC stage stops; an image without a programmed header stays invalid. -/
def execVbulkBelow180 (vbulk : BitVec 16) (s : State) : Out := s.run (fun m =>
  if 1800 < vbulk.toNat then m
  else vaultBulkGone { setVbulk vbulk m with pwr.llcOn := false, pwr.detArmed := false, pwr.vmotOutEn := false })

/-- POWER_LOSS_SEQUENCE_END (R114, R115, R773, R774): the header has been read back and both retracts are complete. With the
input present the module restarts; otherwise the LLC stage goes off, every group but G_AON is held in reset, and the bulk
discharges (R1016). -/
def execPowerLossSequenceEnd (s : State) : Out := s.run (fun m =>
  if !m.pwr.loss || m.pwr.discharge || !vaultSeqDone m || !parked m then m
  else
    let m := vaultSeqEnd m
    if m.pwr.inputOk then lossRestart m
    else { moduleReset m with pwr.llcOn := false, pwr.detArmed := false, pwr.vmotOutEn := false, pwr.discharge := true })

/-- BULKCAP_START (R126, R1032, R1046): with VBULK regulated for 50 ms the PFC stage pauses. -/
def execBulkcapStart (vbulk : BitVec 16) (s : State) : Out := s.run (fun m =>
  let m := setVbulk vbulk m
  if bulkWanted m && !m.pwr.measuring && !m.pwr.loss && regulated m vbulk.toNat then
    { m with pwr.measuring := true, pwr.pfcOn := false }
  else m)

/-- BULKCAP_COMPLETE (R126, R131): VBULK has fallen to 370 V; the integrated charge in µC. -/
def execBulkcapComplete (charge : BitVec 16) (s : State) : Out := s.run (fun m =>
  if m.pwr.measuring then bulkComplete charge.toNat m else m)

/-- BULKCAP_ABANDON (R129, R130, R1046): a running attempt ends, or one that could not begin in 400 ms. -/
def execBulkcapAbandon (why : AbandonReason) (s : State) : Out := s.run (fun m =>
  if m.pwr.measuring || (bulkWanted m && why == .overtime) then bulkAbandon why m else m)

/-- BRAKE_CHOPPER_GATE (R132, R138, R139, R141): VMOT at 27.0 V, `us` after the thermal model's last update; a withheld, disabled or faulted chopper
is not gated. -/
def execBrakeChopperGate (vmot : BitVec 16) (us : BitVec 20) (s : State) : Out := s.run (fun m =>
  let m := vmotSeen vmot us m
  if 2700 ≤ vmot.toNat && m.pwr.chopEn && !m.pwr.withheld && !m.pwr.chopFault then chopVmotTest { m with pwr.chopGated := true } else m)

/-- BRAKE_CHOPPER_RELEASE (R132, R138): VMOT at 26.0 V. -/
def execBrakeChopperRelease (vmot : BitVec 16) (us : BitVec 20) (s : State) : Out := s.run (fun m =>
  let m := vmotSeen vmot us m
  if vmot.toNat ≤ 2600 then { m with pwr.chopGated := false } else m)

/-- CHOPPER_FAULT (R141 to R143, R146, R290): with the chopper gated, VMOT past 28.0 V, or a current sense in mA below 1 A for 20 µs. The mode
stays (R145). -/
def execChopperFault (vmot sense : BitVec 16) (us : BitVec 20) (s : State) : Out := s.run (fun m =>
  let m := vmotSeen vmot us m
  if m.pwr.chopGated && decide (sense.toNat < 1000) then chopFails 2 m else m)

/-- CHOPPER_WITHHOLD (R138 to R140, R290): the thermal model reaches 30.0 J. -/
def execChopperWithhold (vmot : BitVec 16) (us : BitVec 20) (s : State) : Out := s.run (vmotSeen vmot us)

/-- CHOPPER_UNWITHHOLD (R138, R139): the model falls below 15.0 J. -/
def execChopperUnwithhold (vmot : BitVec 16) (us : BitVec 20) (s : State) : Out := s.run (fun m => vmotSeen vmot us m)

/-- VMOT_OVP_TRIP (R133 to R135, R268, R269): VMOT at 30.0 V; the bridge floats, the output switch opens, VAUX and VAON stay.
In ACCEL and RUN it is a loss of the rotor with cause 5, in any other turning state the unit coasts. -/
def execVmotOvpTrip (vmot : BitVec 16) (us : BitVec 20) (s : State) : Out := s.run (fun m =>
  let m := vmotSeen vmot us m
  if vmot.toNat < 3000 || m.pwr.ovpActive then m
  else
    let m := report 0x0121 nowhere (leBytes 2 vmot.toNat) { m with pwr.ovpActive := true, pwr.vmotOutEn := false }
    if m.spn.st.driven then loseRotor 5 m else spnCoast m)

/-- VMOT_OVP_RELEASE (R136, R269): VMOT at 25.0 V; the output switch closes, the bridge returns to the spindle unit, whose drive resumes. -/
def execVmotOvpRelease (vmot : BitVec 16) (us : BitVec 20) (s : State) : Out := s.run (fun m =>
  let m := vmotSeen vmot us m
  if 2500 < vmot.toNat || !m.pwr.ovpActive then m
  else spnReleased { m with pwr.ovpActive := false, pwr.vmotOutEn := m.pwr.llcOn })

/-- FAULT_CLR (R147, Table 2-10): a write of 1 in SERVICE re-arms the chopper. -/
def execFaultClr (s : State) : Out := s.run (fun m =>
  if m.sup.mode == .service then { m with pwr.chopFault := false } else m)

/-- RAIL_FAULT (R152, Table 2-11): a rail out of tolerance for more than 1 ms, by its number, what it supplies and its voltage. -/
def execRailFault (num : Byte) (rail : Rail) (volt : BitVec 16) (s : State) : Out := s.run (fun m =>
  let m := report 0x0130 nowhere (num :: leBytes 2 volt.toNat) m
  match rail with
  | .vmot => m
  | .vaux => { m with pwr.railRestart := true }
  | .vaon => { m with pwr.aonRestart := true }
  | .load g => { m with pwr.railPending := m.pwr.railPending ||| groupBit g })

/-- The group of a rail that is back is reset (R152, R177, Table 3-5). The always-on domain is reset by a power-on reset alone. -/
def railReset (g : Group) (m : Mach) : Mach := match g with
  | .aon => evrReload (poweredOn none m)
  | g => resetOwner g m

/-- RAIL_RECOVERY_RESET (R152): the rail is back within tolerance. A point-of-load rail resets its group; VAUX, which supplies every group but G_AON,
and VAON, which supplies that one and thereby restarts all, begin the power-up sequence again. -/
def execRailRecoveryReset (rail : Rail) (s : State) : Out := s.run (fun m =>
  match rail with
  | .vmot => m
  | .vaux => if m.pwr.railRestart then moduleReset { m with pwr.railRestart := false } else m
  | .vaon => if m.pwr.aonRestart then railReset .aon m else m
  | .load g =>
    if m.pwr.railPending.getLsbD g.bitNo then railReset g { m with pwr.railPending := m.pwr.railPending &&& ~~~(groupBit g) } else m)

/-- LIFE_COUNTER_PERSIST (R1030). -/
def execLifeCounterPersist (s : State) : Out := s.run persistLife

end Sys2Proof.Machine
end

