-- ==== Sys2Proof/Machine/Recorder.lean ====
section
/-! DEFINITION. Meanings of the recorder's and of the arming table's commands (spec/19 R949 to R955, R965 to R984). -/

namespace Sys2Proof.Machine

/-- EVENT_REPORT (R965 to R967, R973, R974): a condition's report with its place and parameters. -/
def execEventReport (code : BitVec 16) (act head : Byte) (zone : BitVec 24) (params : List Byte) (s : State) : Out :=
  s.run (report code.toNat ⟨act, head, zone⟩ params)

/-- EVENT_NOR_PROGRAM (R970, R972): the oldest new record is programmed into its erased slot. -/
def execEventNorProgram (ok : Bool) (s : State) : Out := s.run (fun m =>
  match (m.evr.held.filter (fun e => e.nor.isNone)).getLast? with
  | none => m
  | some x =>
    let m := if ok then { m with evr.held := m.evr.held.map (fun e => if e.slot == x.slot then e.saved else e) } else m
    norWritten ok x.sector m)

/-- A sector may be rewritten: 10 s after the last, when a held record of it changed (R970). -/
def mayRewrite (m : Mach) (sector : Nat) : Bool :=
  m.evr.held.any (fun e => e.sector == sector && e.stale) && (match m.evr.rewriteAt with
    | some t => decide (t.toNat + 10 ≤ m.sup.opSec.toNat)
    | none => true)

/-- EVENT_SECTOR_REWRITE (R964, R970 to R972): the sector's content goes to the staging sector, then to the target; cut short, the copy stays
valid. -/
def execEventSectorRewrite (sector : BitVec 7) (out : NorOutcome) (s : State) : Out := s.run (fun m =>
  let n := sector.toNat
  if !mayRewrite m n then m
  else
    let m := { m with evr.rewriteAt := some m.sup.opSec }
    let here := m.evr.held.filter (fun e => e.sector == n)
    match out with
    | .failed => norWritten false n m
    | .cut => { m with evr := { m.evr.erase [n] with
        staging := some (n, here.map (·.saved)), held := m.evr.held.map (fun e => if e.sector == n then { e with nor := none } else e) } }
    | .done =>
      wearCheck (norWritten true n { m with evr := { m.evr.erase [n, 129] with
        staging := none, held := m.evr.held.map (fun e => if e.sector == n then e.saved else e) } }))

/-- EVR_READ (R977). -/
def execEvrRead (h : Hdr) (s : State) : Out := s.run (service 0x0301 h lvHost
  (fun _ => [reserved [h.p2, h.p3], (decide (h.p1.toNat < 1) || decide (2048 < h.p1.toNat), stBadParam)])
  (fun m => reply h stOk m.evr.newest.toNat ((m.evr.readFrom h.p0 h.p1.toNat).flatMap (·.bytes)) m))

/-- EVR_STATUS (R978). -/
def execEvrStatus (h : Hdr) (s : State) : Out := s.run (service 0x0302 h lvHost
  (fun _ => [reserved [h.p0, h.p1, h.p2, h.p3]])
  (fun m =>
    let e := m.evr
    reply h stOk 0 (regBytes [evrStatusReg e, e.newest, e.oldest, evrHeld01Reg e, evrHeld23Reg e]
      ++ leBytes 8 e.drop0.val.toNat ++ leBytes 8 e.drop1.val.toNat ++ leBytes 8 e.drop2.val.toNat ++ leBytes 8 e.drop3.val.toNat
      ++ leBytes 8 e.recCnt.val.toNat) (alertServed h m)))

/-- EVR_CHALLENGE (R982). -/
def execEvrChallenge (h : Hdr) (s : State) : Out := s.run (service 0x0303 h lvHost
  (fun _ => [reserved [h.p0, h.p1, h.p2, h.p3]])
  (fun m =>
    let r := giveChallenge h.who true lvMaint m
    reply h stOk 0 r.2 r.1))

/-- EVR_CLEAR (R921, R924, R983, R984). -/
def execEvrClear (h : Hdr) (proof : List Byte) (s : State) : Out := s.run (service 0x0304 h lvHost
  (fun _ => [reserved [h.p0, h.p1, h.p2, h.p3], (decide (proof.length ≠ 32), stBadLength)])
  (fun m =>
    if lockedOut m h.who then reply h stNotAuth 1 [] m
    else
      let good := match challengeFor m h.who true lvMaint, maintHash m with
        | some c, some k => proof == leBytes 32 (Config.hmacSha256 k c.bytes).toNat
        | _, _ => false
      let m := dropChallenge h.who true lvMaint m
      if good then reply h stOk m.evr.held.length [] (evrClear h.who m)
      else reply h stNotAuth 0 [] (proofFailed h.who lvMaint m)))

/-- EVR_SET_POLICY (R975). -/
def execEvrSetPolicy (h : Hdr) (s : State) : Out := s.run (service 0x0305 h lvMaint
  (fun _ => [reserved [h.p1, h.p2, h.p3], (decide (1 < h.p0.toNat), stBadParam)])
  (fun m => reply h stOk 0 [] (report 0x1202 nowhere (leBytes 1 h.p0.toNat) { m with evr.ixd3 := h.p0 == 1 })))

/-- ARM_READ (R955). -/
def execArmRead (h : Hdr) (s : State) : Out := s.run (service 0x0901 h lvHost
  (fun _ => [reserved [h.p1, h.p2, h.p3], (h.p0 != 0xFFFF && (eventInfo h.p0.toNat).isNone, stBadParam)])
  (fun m => reply h stOk 0 (if h.p0 == 0xFFFF then armable.flatMap (fun x => armEntry m x.1) else armEntry m h.p0.toNat) m))

/-- ARM_WRITE (R952): the arming in force changes until the next module reset. -/
def execArmWrite (h : Hdr) (s : State) : Out := s.run (service 0x0902 h lvMaint
  (fun _ => [reserved [h.p2, h.p3], ((eventInfo h.p0.toNat).isNone || !armPermits h.p0.toNat h.p1.toNat, stBadParam)])
  (fun m =>
    let old := armed m h.p0.toNat
    let m := { m with evr.arming := m.evr.arming.filter (fun (x : Nat × Nat) => x.1 != h.p0.toNat) ++ [(h.p0.toNat, h.p1.toNat)] }
    reply h stOk 0 [] (report 0x1220 nowhere (leBytes 2 h.p0.toNat ++ leBytes 1 old ++ leBytes 1 h.p1.toNat) m)))

end Sys2Proof.Machine
end

