-- ==== Sys2Proof/Machine/Scheduler.lean ====
section
/-! DEFINITION. Meanings of the media scheduler's events (spec/13_media_scheduler.md). An event whose stated condition does not hold changes
nothing (log entry 5); `now` is CLK_FAB time in µs. -/

namespace Sys2Proof.Machine

/-! ### Registers (Table 13-7) -/

/-- Two bits, one per actuator. -/
def bits2 (f : Act → Bool) : Nat := (f .a0).toNat + 2 * (f .a1).toNat

/-- SCH.STATUS. -/
def schStatusReg (m : Mach) : Reg := packReg [
  ⟨31, 1, m.sch.abortCnt.ovf.toNat⟩, ⟨30, 1, m.sch.missRevCnt.ovf.toNat⟩, ⟨29, 1, m.sch.raHitCnt.ovf.toNat⟩, ⟨28, 1, m.sch.specStopCnt.ovf.toNat⟩,
  ⟨27, 1, m.sch.ageCapCnt.ovf.toNat⟩, ⟨26, 1, m.sch.dispCnt.ovf.toNat⟩,
  ⟨16, 2, bits2 (fun a => (m.sch.act.get a).cleanOwed)⟩
  , ⟨14, 2, bits2 (fun a => (queued m a).any (fun e => decide (e.cls ≤ 5) && decide (ageCap m ≤ ageOf m e)))⟩
  , ⟨13, 1, m.spn.anchored.toNat⟩, ⟨12, 1, (m.sup.nvmePs == 1).toNat⟩, ⟨10, 2, bits2 (fun a => (m.sch.act.get a).promoted)⟩
  , ⟨8, 2, bits2 (fun a => (m.sch.act.get a).flight.any (fun e => e.origin == .preSeek))⟩
  , ⟨6, 2, bits2 (fun a => (m.sch.act.get a).flight.any (fun e => e.origin.isSpec && e.origin != .preSeek))⟩
  , ⟨4, 2, bits2 (fun a => (queued m a).any (fun e => calHeld m a e.head))⟩
  , ⟨2, 2, bits2 (fun a => decide (1024 ≤ (queued m a).length))⟩
  , ⟨0, 2, bits2 (fun a => !(m.sch.act.get a).flight.isEmpty)⟩]

/-- SCH.QUEUEn. -/
def schQueueReg (m : Mach) (a : Act) : Reg :=
  let q := queued m a
  packReg [⟨16, 16, satTo 65535 ((q.map (ageOf m)).foldl max 0 / 1000)⟩, ⟨11, 5, (m.sch.streams.filter (fun t => decide (t.act = a) && decide (streamMin m ≤ t.count))).length⟩,
    ⟨0, 11, q.length⟩]
/-- SCH.SPECn. -/
def schSpecReg (m : Mach) (a : Act) : Reg := packReg [⟨16, 16, specLines m a⟩, ⟨0, 16, (m.sch.act.get a).cleanPct.toNat⟩]
/-- SCH.PREDn. -/
def schPredReg (m : Mach) (a : Act) : Reg := packReg [⟨16, 16, (m.sch.act.get a).meas.toNat⟩, ⟨0, 16, (m.sch.act.get a).pred.toNat⟩]

/-! ### Events -/

/-- QUEUE_ENTRY (R654 to R656, R667, R679): the first run that waits enters the queue; the choice is made again. -/
def execQueueEntry (a : Act) (now : BitVec 48) (s : State) : Out := s.run (fun m => queueEnter a (clockTo now.toNat m))

/-- SPECULATION_START (Table 13-2, R678, R683): 0 read-ahead, 1 pre-seek, 2 pre-read; each unless SCH.CTRL disables it. -/
def execSpeculationStart (a : Act) (now : BitVec 48) (kind : BitVec 2) (s : State) : Out := s.run (fun m =>
  let m := clockTo now.toNat m
  if !specAllowed m a then m
  else match kind.toNat with
    | 0 => if m.sch.ctrl.getLsbD 0 then m else readAhead a m
    | 1 => if m.sch.ctrl.getLsbD 2 then m else preSeek a m
    | 2 => if m.sch.ctrl.getLsbD 1 then m else preRead a m
    | _ => m)

/-- OPERATION_COMPLETE (R666, R669, R670, R1036): the completion is taken with the measured access in µs. -/
def execOperationComplete (a : Act) (now : BitVec 48) (meas : BitVec 32) (s : State) : Out := s.run (fun m =>
  flow (completeOp a meas.toNat (clockTo now.toNat m)))

/-- AGE_CAP_DOUBLE (R661): entries that have waited 2 × AGE_CAP, each once. -/
def execAgeCapDouble (a : Act) (now : BitVec 48) (s : State) : Out := s.run (fun m =>
  let m := clockTo now.toNat m
  let late := fun (e : Entry) => decide (e.cls ≤ 5) && !e.aged && decide (2 * ageCap m ≤ ageOf m e)
  let es := (queued m a).filter late
  let m := es.foldl (fun m e => report 0x0C11 (onHead a e.head) (leBytes 1 a.idx ++ leBytes 1 e.cls ++ leBytes 4 (ageOf m e / 1000)) m) m
  let seen := fun (e : Entry) => if late e then { e with aged := true } else e
  onSch a (fun x => { x with queue := x.queue.map seen, box := x.box.map seen }) m)

/-- CLEANING_WINDOW (R672 to R674): the media-busy and class 5 times of the 100 ms window, µs. -/
def execCleaningWindow (a : Act) (now : BitVec 48) (busy clean : BitVec 32) (s : State) : Out := s.run (fun m =>
  let m := clockTo now.toNat m
  let hard := m.zmg.force.get a || m.zmg.full.get a
  let share := if hard then schSet m 13 1 50 else schSet m 12 1 10
  let below := decide (100 * clean.toNat < share * busy.toNat)
  placeNext a (onSch a (fun x => { x with
    cleanPct := BitVec.ofNat 16 (if busy = 0 then 0 else satTo 65535 (10000 * clean.toNat / busy.toNat))
    busyPct := (busy.toNat + 999) / 1000
    cleanOwed := !(cleanWanted m a).isEmpty && below
    unmet := if hard && below then x.unmet + 1 else 0 }) m))

/-- CLEAN_STARVED (R674): 10 s with the share unmet in every one of its hundred windows. -/
def execCleanStarved (a : Act) (s : State) : Out := s.run (fun m =>
  let x := m.sch.act.get a
  if (m.zmg.force.get a || m.zmg.full.get a) && decide (100 ≤ x.unmet) then
    report 0x0C20 (onAct a) (leBytes 1 a.idx ++ leBytes 2 x.cleanPct.toNat) m
  else m)

/-- PS1_DUTY_UPDATE (R692): PWR.PIN in mW. -/
def execPs1DutyUpdate (pin : BitVec 24) (s : State) : Out := s.run (fun m =>
  if m.sup.nvmePs != 1 then m
  else
    let d := m.sch.duty
    let d := if 9000 < pin.toNat then max 20 (d - 5) else if pin.toNat < 8500 then min 100 (d + 5) else d
    placeNext .a1 (placeNext .a0 { m with pwr.pin := pin, sch.duty := d }))

/-- PS1_CAP_FAIL (R693): the cap has not held for 1 s with the duty at 20 %. -/
def execPs1CapFail (pin : BitVec 24) (s : State) : Out := s.run (fun m =>
  if m.sup.nvmePs == 1 && m.sch.duty == 20 && decide (9000 < pin.toNat) then
    report 0x0C21 nowhere (leBytes 3 pin.toNat) { m with pwr.pin := pin }
  else m)

end Sys2Proof.Machine
end

