-- ==== Sys2Proof/Machine/Flags.lean ====
section
/-! DEFINITION. The status words of the supervisor, the power unit, the clock unit, data services and calibration (Tables 4-11 to 4-13, 2-7, 3-7, 17-9,
10-11, 18-13, 8-11), and the clearing of sticky event bits. The status words of the other blocks stand beside their commands. -/

namespace Sys2Proof.Machine

/-- SUP.MODE (Table 4-11). -/
def supModeReg (m : Mach) : Reg := packReg [⟨24, 8, m.sup.safeCause.toNat / 256⟩, ⟨16, 8, m.sup.demand.toNat⟩, ⟨11, 1, m.sup.apstEn.toNat⟩,
  ⟨8, 3, m.sup.nvmePs.toNat⟩, ⟨7, 1, m.sup.trans.toNat⟩, ⟨4, 3, m.sup.target.code⟩, ⟨0, 3, m.sup.mode.code⟩]

/-- SUP.BOOT (Table 4-12). -/
def supBootReg (m : Mach) : Reg := packReg [⟨31, 1, (m.sup.actReady.p0 && m.sup.actReady.p1).toNat⟩, ⟨30, 1, m.sup.ctrlReady.toNat⟩,
  ⟨29, 1, m.sup.actReady.p1.toNat⟩, ⟨28, 1, m.sup.actReady.p0.toNat⟩, ⟨24, 4, stagesInOrder m.sup.stages⟩, ⟨22, 2, m.sup.fwSlot.toNat⟩,
  ⟨21, 1, (decide (m.sup.bankInUse = some .a1)).toNat⟩, ⟨20, 1, m.sup.replayed.toNat⟩, ⟨19, 1, m.sup.capRetry.toNat⟩]

/-- SUP.BOOTTIME (Table 4-13). -/
def supBoottimeReg (m : Mach) : Reg := packReg [⟨16, 16, m.sup.mediaT.toNat⟩, ⟨0, 16, m.sup.ctrlT.toNat⟩]

/-- SUP.SHUT (Table 4-13). -/
def supShutReg (m : Mach) : Reg := packReg [⟨16, 16, m.sup.destaged.toNat⟩, ⟨0, 3, m.sup.shut.code⟩]

/-- SUP.SAFECAUSE (Table 4-13). -/
def supSafecauseReg (m : Mach) : Reg := packReg [⟨0, 16, m.sup.safeCause.toNat⟩]

/-- SUP.SVCSTAT (Table 18-13). -/
def svcstatReg (m : Mach) : Reg := packReg [⟨31, 1, m.svc.uartErr.ovf.toNat⟩, ⟨30, 1, m.svc.replyDrop.ovf.toNat⟩, ⟨29, 1, m.svc.authFail.ovf.toNat⟩,
  ⟨16, 6, m.svc.out.length⟩, ⟨8, 4, m.svc.sessions.length⟩, ⟨2, 1, (stagedAny m).toNat⟩, ⟨1, 1, (!m.svc.lockouts.isEmpty).toNat⟩,
  ⟨0, 1, (decide (m.sup.mode = Mode.service)).toNat⟩]

/-- The pin MOD_READY of J2 (R998): high exactly while SUP.BOOT.CTRL_READY is 1. -/
def modReady (m : Mach) : Bool := m.sup.ctrlReady

/-- The pin FAULT_LED_N of J2 is low (R1003): in SAFE mode, while VLT.STATUS.UNRESOLVED is 1, and while the recovery image (slot 3) runs. -/
def faultLed (m : Mach) : Bool := m.sup.mode == .safe || m.vlt.unresolved || m.sup.fwSlot == 3

/-- SUP.HDATEMP (Table 8-11). -/
def hdatempReg (m : Mach) : Reg := packReg [⟨16, 16, m.sup.hdaTemp.p1.toNat⟩, ⟨0, 16, m.sup.hdaTemp.p0.toNat⟩]
/-- SUP.HDAENV (Table 8-11). -/
def hdaenvReg (m : Mach) : Reg := packReg [⟨16, 16, m.sup.humid.toNat⟩, ⟨0, 16, m.sup.press.toNat⟩]
/-- SUP.SENSSTAT (Table 8-11, R452): an actuator uses the other temperature while its own is faulty. -/
def sensstatReg (m : Mach) : Reg := packReg [⟨4, 2, m.sup.sensFault.toNat⟩, ⟨0, 4, m.sup.sensFault.toNat⟩]
/-- SUP.MODTEMP (Table 20-13). -/
def modtempReg (m : Mach) : Reg := packReg [⟨16, 16, m.sup.modTempPfc.toNat⟩, ⟨0, 16, m.sup.modTempCore.toNat⟩]

/-- PWR.STATUS (Table 2-7). -/
def pwrStatusReg (p : Pwr) : Reg := packReg [⟨15, 1, p.dropCnt.ovf.toNat⟩, ⟨14, 1, p.lossCnt.ovf.toNat⟩, ⟨13, 1, p.energy.ovf.toNat⟩,
  ⟨12, 1, p.measValid.toNat⟩, ⟨11, 1, p.holdupOk.toNat⟩, ⟨10, 1, p.ovpActive.toNat⟩, ⟨9, 1, p.chopFault.toNat⟩, ⟨8, 1, p.vmotOutEn.toNat⟩,
  ⟨7, 1, p.llcOn.toNat⟩, ⟨6, 1, p.loss.toNat⟩, ⟨5, 1, p.bulkOk.toNat⟩, ⟨4, 1, p.pfcOn.toNat⟩, ⟨3, 1, p.bypass.toNat⟩, ⟨2, 1, p.inputOk.toNat⟩,
  ⟨0, 2, p.kind.code⟩]

/-- CLK.STATUS (Table 3-7). -/
def clkStatusReg (k : Clk) : Reg := packReg [⟨7, 1, k.xdrop.ovf.toNat⟩, ⟨6, 1, k.lolCnt.ovf.toNat⟩, ⟨5, 1, k.chLock.p1.toNat⟩, ⟨4, 1, k.chLock.p0.toNat⟩,
  ⟨3, 1, k.holdover.toNat⟩, ⟨2, 1, k.rootLock.toNat⟩, ⟨1, 1, k.aonSrc.toNat⟩, ⟨0, 1, k.xtalOk.toNat⟩]

/-- R864 or R865 is in progress: its command has not ended. -/
def erasingNow (m : Mach) : Bool := m.dsv.erasing.any (fun (e : NvCmd × Nat) => m.fe.ctxs.any (fun x => x.id == e.1 && x.status.isNone))

/-- DSV.STATUS (Table 17-9). -/
def dsvStatusReg (m : Mach) : Reg := packReg [⟨31, 1, m.dsv.zgpAuth.ovf.toNat⟩, ⟨30, 1, m.dsv.zgpDup.ovf.toNat⟩, ⟨29, 1, m.dsv.zgpTx.ovf.toNat⟩,
  ⟨28, 1, m.dsv.piErr.ovf.toNat⟩, ⟨3, 1, m.dsv.keysOk.toNat⟩, ⟨2, 1, m.dsv.opal.active.toNat⟩, ⟨1, 1, (erasingNow m).toNat⟩,
  ⟨0, 1, (!m.dsv.rebuilds.isEmpty).toNat⟩]

/-- CAL.STATUS (Table 10-11). -/
def calStatusReg (m : Mach) : Reg := packReg [⟨3, 1, m.cal.failCnt.ovf.toNat⟩, ⟨2, 1, m.cal.runCnt.ovf.toNat⟩, ⟨1, 1, m.cal.act.p1.preempt.toNat⟩,
  ⟨0, 1, m.cal.act.p0.preempt.toNat⟩]

end Sys2Proof.Machine
end

