-- ==== Sys2Proof/Machine/OpsCarry.lean ====
section
/-! DEFINITION. How requests travel (spec/18 R905 to R918): their bytes, the acceptance checks, the three transports. -/

namespace Sys2Proof.Machine

/-! ### The bytes of requests and replies -/

/-- The opcodes of Table 18-6. -/
def knownOpcodes : List Nat := [
  0x0101, 0x0102, 0x0103, 0x0104, 0x0105, 0x0106, 0x0107, 0x0108, 0x0201, 0x0202, 0x0203, 0x0204, 0x0301, 0x0302, 0x0303, 0x0304, 0x0305,
  0x0401, 0x0402, 0x0403, 0x0501, 0x0502, 0x0503, 0x0504, 0x0505, 0x0506, 0x0507, 0x0601, 0x0602, 0x0603, 0x0701, 0x0702, 0x0703, 0x0704,
  0x0801, 0x0802, 0x0803, 0x0804, 0x0805, 0x0901, 0x0902, 0x0903, 0x0904, 0x0905, 0x0A01, 0x0A02, 0x0A03, 0x0B01, 0x0B02, 0x0B03, 0x0B04,
  0x0C01, 0x0C02, 0x0D01, 0x0D02, 0x0E01, 0x0E02, 0x0E03]

/-- The opcodes that take a payload. -/
def payloadOpcodes : List Nat := [0x0107, 0x0202, 0x0304, 0x0502, 0x0603, 0x0703, 0x0A02, 0x0B01, 0x0B02]

/-- The header of Table 18-1, but for OPCODE, FLAGS, VERSION and PLEN. -/
def reqHdr (who : Transport) (bs : List Byte) : Hdr :=
  let w := fun (off : Nat) => (BitVec.ofNat 32 (fieldAt bs off 4) : Reg)
  ⟨who, w 4, (fieldAt bs 2 1) % 2 == 1, w 12, w 16, w 20, w 24, w 28⟩

/-- PLEN of a request. -/
def reqPlen (bs : List Byte) : Nat := fieldAt bs 8 4

/-- A reply as its bytes (Table 18-2). -/
def replyBytes (op : BitVec 16) (tag : Reg) (r : Reply) : List Byte :=
  leBytes 2 op.toNat ++ leBytes 2 r.status ++ leBytes 4 tag.toNat ++ leBytes 4 r.detail.toNat ++ leBytes 4 r.data.length ++ r.data

/-- Take a request (R914, R926): steps 1 to 5 of Table 18-4, then step 6; the machine and the acceptance status. -/
def takeRequest (who : Transport) (lenOk : Bool) (bs : List Byte) (m : Mach) : Mach × Nat :=
  let h := reqHdr who bs
  let op := fieldAt bs 0 2
  let no := fun (st : Nat) => (refuse h st m, st)
  if !lenOk || decide (bs.length < 32) || decide (65536 < reqPlen bs) then no stBadLength
  else if fieldAt bs 3 1 != 2 then no stBadVersion
  else if tagHeld m who h.tag then no stDupTag
  else if rsvFull m then no stBusy
  else if 2 ≤ fieldAt bs 2 1 then no stBadParam
  else
    let m := accept h op (reqPlen bs != 0 && !payloadOpcodes.contains op) m
    (if knownOpcodes.contains op then m else reply h stBadOpcode 0 [] m, 0)

/-! ### NVMe (Table 18-3) -/

/-- Bytes of an NVMe transfer of a number of dwords. -/
def dwords (n : Nat) (bs : List Byte) : List Byte := (bs ++ List.replicate (4 * n - bs.length) 0).take (4 * n)

/-- The length of a 0xC5 command agrees with PLEN, padded to dwords (R905, Table 18-3). -/
def nvmeLenOk (numd : Nat) (bs : List Byte) : Bool := numd == (32 + reqPlen bs + 3) / 4

/-- A request ends with the retrieval of its reply (R908). -/
def dropReq (who : Transport) (tag : Reg) (m : Mach) : Mach := { m with svc.out := m.svc.out.filter (fun o => !o.names who tag) }

/-- The outcome of a 0xC6 command (Table 18-3): Dword 0 and the bytes transferred, or Invalid Field. -/
def retrieve (who : Transport) (numd : Nat) (tag : Reg) (m : Mach) : Option (Nat × List Byte) × Mach :=
  match m.svc.out.find? (fun o => o.names who tag) with
  | none => (some (2, []), m)
  | some o => match o.reply with
    | none => (some (0, []), m)
    | some r => if 4 * numd < 16 + r.data.length then (none, m) else (some (1, replyBytes o.opcode tag r), dropReq who tag m)

/-! ### The service UART (R918) -/

/-- One bit of the CRC-16. -/
def crcBit (c : BitVec 16) : BitVec 16 := if c.getLsbD 15 then (c <<< 1) ^^^ 0x1021#16 else c <<< 1

/-- One byte of the CRC-16, most significant bit first. -/
def crcByte (c : BitVec 16) (b : Byte) : BitVec 16 := (List.range 8).foldl (fun x _ => crcBit x) (c ^^^ (b.zeroExtend 16 <<< 8))

/-- The CRC-16 of R918: polynomial 0x1021, initial value 0xFFFF, no reflection, no final XOR. -/
def uartCrc (bs : List Byte) : BitVec 16 := bs.foldl crcByte 0xFFFF#16

/-- A frame that is discarded counts in UARTERRCNT. -/
def uartError (m : Mach) : Mach := { m with svc.uartErr := m.svc.uartErr.inc }

/-- Serve the complete frames of the bytes received, at most `n`. A LEN out of range leaves no frame boundary: what has been received goes with
it (log entry 65). -/
def uartServe : Nat → Mach → Mach
  | 0, m => m
  | n + 1, m =>
    let b := m.svc.uartBuf
    let len := fieldAt b 0 4
    if b.length < 4 then m
    else if decide (len < 16) || decide (65568 < len) then uartError { m with svc.uartBuf := [] }
    else if b.length < len + 6 then m
    else
      let msg := (b.drop 4).take len
      let good := uartCrc (b.take (4 + len)) == BitVec.ofNat 16 (fieldAt b (4 + len) 2)
      let m := { m with svc.uartBuf := b.drop (len + 6) }
      uartServe n (if good then (takeRequest .uart (msg.length == 32 + reqPlen msg) msg m).1 else uartError m)

end Sys2Proof.Machine
end

