-- ==== Sys2Proof/Machine/Sequencer.lean ====
section
/-! DEFINITION. Meanings of the Cafax disk sequencer's words, events and requests (spec/11_disk_sequencer.md). A word executes when it is
the word at PC of a sequencer that runs and does not stall; an event whose stated condition does not hold changes nothing (log entry 5). -/

namespace Sys2Proof.Machine

/-! ### Registers (Table 11-15) -/

/-- CFXn.STATUS. -/
def cfxStatusReg (c : Cfx) : Reg := packReg [
  ⟨26, 1, c.corrCnt.ovf.toNat⟩, ⟨25, 1, c.trapCnt.ovf.toNat⟩, ⟨24, 1, c.opCnt.ovf.toNat⟩,
  ⟨16, 8, ((List.range 32).filter (fun k => !c.sparesUsed.getLsbD k)).length⟩, ⟨12, 3, c.run.code⟩, ⟨8, 4, c.opIdx.toNat⟩,
  ⟨7, 1, c.anchored.toNat⟩, ⟨6, 1, c.mailbox.isSome.toNat⟩, ⟨5, 1, c.irq.toNat⟩, ⟨0, 5, c.gates.toNat⟩]
/-- CFXn.PC. -/
def cfxPcReg (c : Cfx) : Reg := packReg [⟨28, 3, c.stack.length⟩, ⟨12, 12, (c.stack.headD 0).toNat⟩, ⟨0, 12, c.pc.toNat⟩]
/-- CFXn.TPOS. -/
def cfxTposReg (c : Cfx) : Reg := packReg [⟨24, 7, c.field.toNat⟩, ⟨0, 24, c.tpos.toNat⟩]
/-- CFXn.OPSTAT. -/
def cfxOpstatReg (c : Cfx) : Reg := packReg [⟨24, 8, c.statCode.toNat⟩, ⟨20, 4, c.endKind.toNat⟩, ⟨16, 4, c.endOp.toNat⟩, ⟨0, 11, c.endFailed.toNat⟩]
/-- CFXn.TRAPINFO. -/
def cfxTrapReg (c : Cfx) : Reg := packReg [⟨16, 8, c.trapCode.toNat⟩, ⟨0, 12, c.trapAddr.toNat⟩]
/-- CFXn.MARK. -/
def cfxMarkReg (c : Cfx) : Reg := packReg [⟨24, 8, c.markCode.toNat⟩, ⟨0, 24, c.markTpos.toNat⟩]
/-- CFXn.REMAPk. -/
def remapReg (r : Remap) : Reg := packReg [⟨31, 1, r.valid.toNat⟩, ⟨0, 12, r.row.toNat⟩]
/-- CFXn.DISPATCHk. -/
def dispatchReg (e : Option (BitVec 12)) : Reg := packReg [⟨31, 1, e.isSome.toNat⟩, ⟨0, 12, (e.getD 0).toNat⟩]
/-- The check bits of a row as a read returns them (R600). -/
def Row.checkBits (r : Row) : BitVec 7 := r.chk.getD (Config.check7 r.data)

/-! ### Fetching and ending words -/

/-- The store row that serves an address, after the remap registers (R551, R593). -/
def Cfx.physRow (c : Cfx) (addr : Nat) : Nat :=
  match (c.remaps.zipIdx.find? (fun p => p.1.valid && p.1.row.toNat == addr)) with
  | some p => 4096 + p.2
  | none => addr

/-- A row read through SECDED (R590, R591): data and whether a bit was corrected. -/
def Row.read (r : Row) : Option (BitVec 32 × Bool) := match r.chk with
  | none => some (r.data, false)
  | some k => Config.secded39 r.data k

/-- An opcode of Table 11-7. -/
def knownOpcode (op : Nat) : Bool := decide (op ≤ 0x0A) || decide (0x10 ≤ op ∧ op ≤ 0x13) || op == 0x18 || decide (0x20 ≤ op ∧ op ≤ 0x2B)

/-- The opcode of a word (Table 11-6). -/
def wOp (w : BitVec 32) : Nat := field w 26 6
/-- CL + 1, the ticks of a word (R554). -/
def wTicks (w : BitVec 32) : Nat := field w 22 4 + 1
/-- IMM22. -/
def wImm (w : BitVec 32) : Nat := field w 0 22
/-- REG. -/
def wReg (w : BitVec 32) : Nat := field w 19 3
/-- SRC. -/
def wSrc (w : BitVec 32) : Bool := bit w 18
/-- IMM18. -/
def wImm18 (w : BitVec 32) : Nat := field w 0 18
/-- A jump target in the low 12 bits. -/
def wTarget (w : BitVec 32) : BitVec 12 := w.truncate 12
/-- SEL. -/
def wSel (w : BitVec 32) : Nat := field w 16 5
/-- SENSE. -/
def wSense (w : BitVec 32) : Bool := bit w 21
/-- V of HEAD, REGION and SYNC (R566). -/
def wValue (c : Cfx) (w : BitVec 32) : Nat := if wSrc w then (c.reg (wReg w)).toNat else wImm18 w

/-- A store error that cannot be corrected (R591): event 0x10 and a reset of G_ACTn after retract. -/
def storeFail (a : Act) (row : Nat) (m : Mach) : Mach :=
  requestActReset a (report (actCode 0x0A10 a) (atHead m a) (leBytes 2 row) m)

/-- At a word boundary a stop request passes control to entry 15 once both sector gates are closed (R586). -/
def wordBoundary (a : Act) (m : Mach) : Mach :=
  let c := m.cfx.get a
  if c.flag fABORT && c.run == .stopping && !c.stopRun && !c.gate gRG && !c.gate gWG then
    match c.dispatch.getD 15 none with
    | some e => m.onCfx a (fun c => { c with pc := e, stack := [], stopRun := true })
    | none => m
  else m

/-- A word ends: its ticks pass and the next word starts (R554). -/
def wordEnd (a : Act) (ticks : Nat) (next : BitVec 12) (m : Mach) : Mach :=
  wordBoundary a ((elapse a ticks m).onCfx a (fun c => { c with pc := next, stall := none, stallTicks := 0 }))

/-- A word that ends in sequence. -/
def wordNext (a : Act) (w : BitVec 32) (m : Mach) : Mach := wordEnd a (wTicks w) ((m.cfx.get a).pc + 1) m

/-- A word that ends after a change of the sequencer's own state. -/
def wordDo (a : Act) (w : BitVec 32) (f : Cfx → Cfx) (m : Mach) : Mach := wordNext a w (m.onCfx a f)

/-- A word that jumps or not. -/
def wordJump (a : Act) (w : BitVec 32) (taken : Bool) (target : BitVec 12) (m : Mach) : Mach :=
  wordEnd a (wTicks w) (if taken then target else (m.cfx.get a).pc + 1) m

/-- A word stalls after its first tick (R555). -/
def wordStall (a : Act) (st : Stall) (w : BitVec 32) (m : Mach) : Mach :=
  (elapse a (wTicks w) m).onCfx a (fun c => { c with stall := some st, stallTicks := wTicks w })

/-- The sequencer executes a word: it runs an operation, no word stalls, no trap waits. -/
def cfxReady (c : Cfx) : Bool := (c.run == .running || c.run == .stopping) && c.stall.isNone && !c.trapWait && c.op.isSome

/-- Fetch the word at PC (R590, R591) and execute it when `pick` takes its opcode. -/
def execWord (a : Act) (pick : Nat → Bool) (act : BitVec 32 → Mach → Mach) (m : Mach) : Mach :=
  let c := m.cfx.get a
  if !cfxReady c then m
  else
    let k := c.physRow c.pc.toNat
    match (c.row k).read with
    | none => storeFail a k m
    | some (w, fixed) =>
      if pick (wOp w) then act w (if fixed then m.onCfx a (fun c => { c with corrCnt := c.corrCnt.inc }) else m) else m

/-! ### Control words -/

/-- NOP. -/
def execCfxNop (a : Act) (s : State) : Out := s.run (execWord a (· == 0x00) (wordNext a))

/-- WAIT (Table 11-7). -/
def execCfxWait (a : Act) (s : State) : Out := s.run (execWord a (· == 0x01) (fun w =>
  wordStall a (.wait (wTicks w + wImm w)) w))

/-- A level that WAITEV and JCC can test (R1037): flags, and the events ONTRK_R, ONTRK_W, HREADY and RESULT. -/
def cfxLevel (m : Mach) (a : Act) (sel : Nat) : Bool :=
  if sel < 24 then (m.cfx.get a).flag sel
  else if sel = 25 then (m.srv.get a).onTrackR
  else if sel = 26 then (m.srv.get a).onTrackW
  else if sel = 29 then (m.hif.get a).heaterReady
  else if sel = 30 then ((m.ch.get a).secs.head?.bind (·.result)).isSome
  else false

/-- SEL names a level (R1037). -/
def isLevel (sel : Nat) : Bool := decide (sel < 24) || sel == 25 || sel == 26 || sel == 29 || sel == 30

/-- Ticks from the present TPOS to C4 (R570). -/
def toC4 (m : Mach) (a : Act) : Nat :=
  let t := tpr m a
  if t = 0 then 0 else (((m.cfx.get a).reg 4).toNat + t - (m.cfx.get a).tpos.toNat % t) % t

/-- The position C4 has just passed (R570): (TPOS − C4) mod TPR is below 1,024. -/
def c4Passed (m : Mach) (a : Act) : Bool :=
  let t := tpr m a
  t != 0 && decide (((m.cfx.get a).tpos.toNat + t - ((m.cfx.get a).reg 4).toNat % t) % t < 1024)

/-- WAITEV (R569, R570, R1037). -/
def execCfxWaitev (a : Act) (s : State) : Out := s.run (execWord a (· == 0x02) (fun w m =>
  let sel := wSel w
  let m := m.onCfx a (·.put fTMO false)
  if sel = 31 || (sel = 24 && !wSense w) then cfxTrap a 0x07 m
  else if sel = 24 then
    if (m.cfx.get a).anchored && c4Passed m a then wordJump a w true (wTarget w) (m.onCfx a (·.put fLATE true))
    else if (m.cfx.get a).anchored && decide (toC4 m a ≤ wTicks w) then wordNext a w m
    else wordStall a (.event true 24 (wTarget w)) w m
  else if isLevel sel && cfxLevel m a sel == wSense w then wordNext a w m
  else wordStall a (.event (wSense w) sel (wTarget w)) w m))

/-- JMP. -/
def execCfxJmp (a : Act) (s : State) : Out := s.run (execWord a (· == 0x03) (fun w => wordJump a w true (wTarget w)))

/-- JCC. -/
def execCfxJcc (a : Act) (s : State) : Out := s.run (execWord a (· == 0x04) (fun w m =>
  if 24 ≤ wSel w then cfxTrap a 0x07 m else wordJump a w ((m.cfx.get a).flag (wSel w) == wSense w) (wTarget w) m))

/-- CALL. -/
def execCfxCall (a : Act) (s : State) : Out := s.run (execWord a (· == 0x05) (fun w m =>
  if 4 ≤ (m.cfx.get a).stack.length then cfxTrap a 0x05 m
  else wordJump a w true (wTarget w) (m.onCfx a (fun c => { c with stack := (c.pc + 1) :: c.stack }))))

/-- RET. -/
def execCfxRet (a : Act) (s : State) : Out := s.run (execWord a (· == 0x06) (fun w m =>
  match (m.cfx.get a).stack with
  | [] => cfxTrap a 0x06 m
  | x :: xs => wordJump a w true x (m.onCfx a (fun c => { c with stack := xs }))))

/-- DECJNZ. -/
def execCfxDecjnz (a : Act) (s : State) : Out := s.run (execWord a (· == 0x07) (fun w m =>
  let v := (m.cfx.get a).reg (wReg w) - 1
  wordJump a w (v != 0) (wTarget w) (m.onCfx a (fun c => (c.setReg (wReg w) v).put fZ (v == 0)))))

/-- TRAP (R585): the code of the word; a reserved opcode, which no other word executes, traps 0x07 (R568). -/
def execCfxTrap (a : Act) (s : State) : Out := s.run (execWord a (fun op => op == 0x08 || !knownOpcode op) (fun w m =>
  cfxTrap a (if wOp w = 0x08 then field w 0 8 else 0x07) m))

/-- HALT (R583, R587): trap 0x04 with WG open; otherwise the gates fall and the operation ends, ABORTED when reached through STOP_RUN. -/
def execCfxHalt (a : Act) (s : State) : Out := s.run (execWord a (· == 0x09) (fun _ m =>
  let c := m.cfx.get a
  if c.gate gWG then cfxTrap a 0x04 m
  else
    let m := lowerBoost a (ifDo (c.gate gAG) (lowerAssist a) (lowerRead a m))
    endOp a (if c.stopRun then 2 else 0) m))

/-- IRQ. -/
def execCfxIrq (a : Act) (s : State) : Out := s.run (execWord a (· == 0x0A) (fun w m =>
  let m := report (actCode 0x0A21 a) (atHead m a) (leBytes 1 (field w 0 8) ++ leBytes 2 (m.cfx.get a).pc.toNat) m
  wordDo a w (fun c => { c with irq := true }) m))

/-! ### Register words -/

/-- A parameter or live value of LOADC (R559). -/
def cfxParam (m : Mach) (a : Act) (i : Nat) : BitVec 24 :=
  if i < 8 then (((m.cfx.get a).op.map (·.param i)).getD 0)
  else if i = 8 then (m.hif.get a).leadTicks.zeroExtend 24
  else if i = 9 then BitVec.ofNat 24 (tpr m a)
  else if i = 10 then (m.cfx.get a).tpos
  else if i = 11 then (m.srv.get a).tgtTrack.zeroExtend 24
  else 0

/-- LOADC. -/
def execCfxLoadc (a : Act) (s : State) : Out := s.run (execWord a (· == 0x10) (fun w m =>
  let v := if wSrc w then cfxParam m a (field w 0 4) else BitVec.ofNat 24 (wImm18 w)
  wordDo a w (·.setReg (wReg w) v) m))

/-- The sum of ADDC modulo 2^24, or modulo TPR with WRAP (Table 11-7). -/
def addcValue (x v : Int) (wrap : Bool) (t : Nat) : BitVec 24 :=
  if wrap && t != 0 then BitVec.ofNat 24 ((x + v) % (t : Int)).toNat else BitVec.ofInt 24 (x + v)

/-- ADDC. -/
def execCfxAddc (a : Act) (s : State) : Out := s.run (execWord a (· == 0x11) (fun w m =>
  let c := m.cfx.get a
  let x : Int := (c.reg (wReg w)).toNat
  let y : Int := (c.reg (field w 0 3)).toNat
  let r := if wSrc w then addcValue x (if bit w 3 then -y else y) (bit w 4) (tpr m a)
    else addcValue x (BitVec.ofNat 18 (wImm18 w)).toInt false 0
  wordDo a w (fun c => ((c.setReg (wReg w) r).put fZ (r == 0)).put fLT (r.getLsbD 23)) m))

/-- CMPC. -/
def execCfxCmpc (a : Act) (s : State) : Out := s.run (execWord a (· == 0x12) (fun w m =>
  let c := m.cfx.get a
  let x := (c.reg (wReg w)).toNat
  let y := if wSrc w then (c.reg (field w 0 3)).toNat else wImm18 w
  wordDo a w (fun c => (c.put fZ (x == y)).put fLT (decide (x < y))) m))

/-- SETF. -/
def execCfxSetf (a : Act) (s : State) : Out := s.run (execWord a (· == 0x13) (fun w =>
  wordDo a w (fun c => (List.range 6).foldl (fun c k => if bit w (8 + k) then c.put (18 + k) (bit w k) else c) c)))

/-! ### Gates -/

/-- What a GATE that opens a sector gate meets first (R579). -/
inductive GateStop where
  | none
  /-- neither gate opens -/
  | stopped
  | trap (code : Nat)
  /-- LATE, and the descriptor is FAILED -/
  | cold
  deriving DecidableEq, Repr

/-- Judge the opening of RG or WG in the order of R579; `rg` and `wg` are gates that the word opens, `sector` says that one of them
is a sector gate. -/
def gateStop (m : Mach) (a : Act) (rg wg sector : Bool) : GateStop :=
  let c := m.cfx.get a
  if !rg && !wg then .none
  else if sector && (c.flag fABORT || c.flag fPLOSS) then .stopped
  else if (rg && wg) || (rg && c.gate gWG) || (wg && c.gate gRG) then .trap 0x02
  else if !sector then .none
  else if c.cur.isNone then .trap 0x0A
  else if wg && ((c.op.map (fun o => (o.param 3).getLsbD 0)).getD false) && !c.flag fPRDY then .trap 0x03
  else if !(m.hif.get a).heaterReady then .cold
  else .none

/-- Mark a descriptor. -/
def Cfx.onDesc (c : Cfx) (i : Nat) (f : Desc → Desc) : Cfx := { c with op := c.op.map (fun o => { o with descs := updAt o.descs i f }) }

/-- The sector that an opening gate starts (R576): the current descriptor, split index C5; a read takes a free store slot, and without one
its result is OVERRUN at once with event 0x23 (R490). -/
def openSector (a : Act) (write : Bool) (m : Mach) : Mach :=
  let c := m.cfx.get a
  let i := c.cur.getD 0
  let o := c.op.getD ⟨0, [], [], false⟩
  let track := (m.srv.get a).tgtTrack.toNat
  let slot := ((o.descs[i]?).map (·.slot)).getD 0
  let hd := (m.hif.get a).selHead.toNat
  let ch := m.ch.get a
  let store := if write then some 0 else ch.freeSlot
  let tag := BitVec.ofNat 64 ((o.param 0).toNat + 2 ^ 24 * slot.toNat + 2 ^ 40 * hd)
  let x : Sec := { desc := i, write := write, verify := o.op == 2, track := BitVec.ofNat 24 track, slot := slot, head := hd, region := ch.region.toNat
                   s := (c.reg 5).truncate 16, step := ch.step.toNat, store := store, sync := none, payload := if write then c.payload else none
                   tag := tag, data := none
                   result := if store.isSome then none else some (secWord ch.step.toNat decOverrun 0 0 0 0) }
  let m := m.onCh a (fun ch => { ch with secs := ch.secs ++ [x], read := ch.read || !write, write := ch.write || write, acq := !write, tracking := false, split := false, trLost := false
                                         age := 0, gap := splitSlot (if write then 24 else 0) (preBits m a) (fieldAt ch.active 8 2) ((c.reg 5).toNat % 65536) })
  if store.isSome then m
  else report (actCode 0x0823 a) (onHead a hd) (secLoc track slot.toNat) m

/-- Set a COUNT timer. -/
def Cfx.setTimer (c : Cfx) (i : Nat) (t : Option Nat) : Cfx := { c with timers := updAt c.timers i (fun _ => t) }

/-- The heater boost, assist and read gates that a GATE drives, with its COUNT (R578). -/
def driveGates (a : Act) (w : BitVec 32) (rgOpen : Bool) (m : Mach) : Mach :=
  let mask := fun i => bit w (17 + i)
  let level := fun i => bit w (12 + i)
  let count := if field w 0 12 = 0 then none else some (field w 0 12)
  let m := if mask gHB then setBoost a (level gHB) ((m.onCfx a (·.setGate gHB (level gHB))).onCfx a (·.setTimer 0 count)) else m
  let m := if mask gAG then
      (if level gAG then openAssist a (m.onCfx a (·.setGate gAG true)) else lowerAssist a m).onCfx a (·.setTimer 1 count) else m
  let m := if mask gSG then m.onCfx a (·.setGate gSG (level gSG)) else m
  if mask gRG && level gRG && rgOpen then
    let m := m.onCfx a (·.setGate gRG true)
    if (m.cfx.get a).gate gSG then openSector a false (m.onCfx a (·.setTimer 2 none))
    else (m.onCh a (fun ch => { ch with read := true })).onCfx a (·.setTimer 2 count)
  else m

/-- Close WG within a sector: the result is INHIBITED (R504, R579). -/
def cutWrite (a : Act) (m : Mach) : Mach :=
  lowerWrite a ((spoilWrite a m).onCh a (fun x => x.endLast (secWord x.step.toNat decInhibited 0 0 0 0) none))

/-- GATE (R576 to R579, R431, R436, R493). -/
def gateWord (a : Act) (w : BitVec 32) (m : Mach) : Mach :=
  let c := m.cfx.get a
  let mask := fun i => bit w (17 + i)
  let level := fun i => bit w (12 + i)
  let rg := mask gRG && level gRG && !c.gate gRG
  let wg := mask gWG && level gWG && !c.gate gWG
  let sector := wg || (rg && (if mask gSG then level gSG else c.gate gSG))
  match gateStop m a rg wg sector with
  | .trap k => cfxTrap a k m
  | st =>
    let opens := st == .none
    let m := if st == .cold then m.onCfx a (fun c => ((c.put fLATE true).onDesc (c.cur.getD 0) (fun d => { d with failed := true }))) else m
    let m := if mask gRG && !level gRG && c.gate gRG then (lowerRead a m).onCfx a (·.setTimer 2 none) else m
    let m := if mask gWG && !level gWG && c.gate gWG then cutWrite a m else m
    let m := driveGates a w (opens && rg) m
    let m := if wg && opens then openWrite a (openSector a true (m.onCfx a (fun c => (c.setGate gWG true).put fPSHORT false))) else m
    wordNext a w m

/-- GATE. -/
def execCfxGate (a : Act) (s : State) : Out := s.run (execWord a (· == 0x18) (gateWord a))

/-! ### Words that wait -/

/-- Start a selection (R416, R425 to R430, R468, R563): frames, the region load, the channel rate. A head that is absent or 0 sets
HFAIL and selects nothing. -/
def startSelect (a : Act) (h r : Nat) (withSel : Bool) (acks1 acks2 : List Ack) (m : Mach) : Mach :=
  let m := m.onCfx a (·.put fHFAIL false)
  if !dataHead m a h then m.onCfx a (·.put fHFAIL true)
  else
    let khz := fieldAt (assoc [] (m.ch.get a).ram (rtKey h r)) 4 4
    let old := (m.hif.get a).selHead.toNat
    let oldKhz := ((m.clk.freqPend.get a).getD (m.clk.freqKhz.get a)).toNat
    let m := selectRegion a h r withSel acks1 acks2 khz m
    let m := m.onCh a (·.request h r)
    let m := writeFreq a khz m
    let m := if old ≠ h || khz ≠ oldKhz then m.onCfx a (fun c => { c with anchored := false }) else m
    m.onCfx a (fun c => { c.put fHFAIL (m.hif.get a).selFailed with sel := some (h, r) })

/-- HEAD: V[3:0] head, V[9:4] region; held while WGATE is high (R427). -/
def execCfxHead (a : Act) (acks1 acks2 : List Ack) (s : State) : Out := s.run (execWord a (· == 0x20) (fun w m =>
  if (m.hif.get a).wgate then m
  else
    let v := wValue (m.cfx.get a) w
    wordStall a .select w (startSelect a (v % 16) (v / 16 % 64) true acks1 acks2 m)))

/-- REGION: V[5:0] region, for the selected head, by the page frame alone (R425); held while WGATE is high (R427). -/
def execCfxRegion (a : Act) (acks : List Ack) (s : State) : Out := s.run (execWord a (· == 0x21) (fun w m =>
  if (m.hif.get a).wgate then m
  else wordStall a .select w (startSelect a (m.hif.get a).selHead.toNat (wValue (m.cfx.get a) w % 64) false acks [] m)))

/-- The servo already follows the track with the selected head (R571). -/
def following (m : Mach) (a : Act) (h t : Nat) : Bool :=
  let c := m.srv.get a
  c.st == .follow && c.head.toNat == h && c.tgtTrack.toNat == t

/-- ONTRACK (R571): the seek is requested, SFAIL clears; with NOWAIT the word ends. -/
def execCfxOntrack (a : Act) (s : State) : Out := s.run (execWord a (· == 0x22) (fun w m =>
  let h := (m.hif.get a).selHead.toNat
  let t := ((m.cfx.get a).reg (wReg w)).toNat
  let m := m.onCfx a (·.put fSFAIL false)
  let m := if following m a h t then m
    else seekSettled a (seekTo a h t (m.onSrv a (fun c => { c with seekFailed := false })))
  if bit w 1 then wordNext a w m else wordStall a (.onTrack (bit w 0)) w m))

/-- The step a SYNC names is not usable (R572): beyond 8, masked, or readers 0 and 1 apart where reader 1 is not in use. -/
def syncSkips (m : Mach) (a : Act) (v : Nat) : Bool :=
  decide (8 < v) || (decide (1 ≤ v) && ladderMask m a / 2 ^ (v - 1) % 2 == 0) || ((v == 6 || v == 7) && !(m.ch.get a).r1En)

/-- SYNC (R572). -/
def execCfxSync (a : Act) (s : State) : Out := s.run (execWord a (· == 0x23) (fun w m =>
  let v := wValue (m.cfx.get a) w % 16
  if syncSkips m a v then wordDo a w (·.put fSKIP true) m
  else
    let m := (m.onCfx a (·.put fSKIP false)).onCh a (fun c => { c with step := BitVec.ofNat 4 v })
    let m := if v = 8 then setBoost a true (m.onCfx a (·.setGate gHB true)) else lowerBoost a m
    wordNext a w m))

/-- Take the next result into a count register (R573): bits 31 to 8; DOK, INH, NORES; the result becomes the latest. -/
def takeResult (a : Act) (reg : Nat) (x : Sec) (w : Reg) (m : Mach) : Mach :=
  let m := m.onCh a (fun c => { c with secs := c.secs.drop 1, lastSec := w })
  m.onCfx a (fun c =>
    let c := c.setReg reg (BitVec.ofNat 24 (w.toNat / 256))
    let c := ((c.put fDOK (secDec w == decOk || secDec w == decWritten)).put fINH (secDec w == decInhibited)).put fNORES false
    { c.onDesc x.desc (fun d => { d with taken := true }) with latest := some (x.desc, w, x.data) })

/-- DECRES (R573). -/
def execCfxDecres (a : Act) (s : State) : Out := s.run (execWord a (· == 0x25) (fun w m =>
  match (m.ch.get a).secs with
  | [] => wordDo a w (·.put fNORES true) m
  | x :: _ =>
    match x.result with
    | some r => wordNext a w (takeResult a (wReg w) x r m)
    | none => if bit w 0 then wordDo a w (·.put fNORES true) m else wordStall a (.result (wReg w)) w m))

/-- XFER (R574): a second XFER for the same result has no effect. -/
def execCfxXfer (a : Act) (s : State) : Out := s.run (execWord a (· == 0x24) (fun w m =>
  match (m.cfx.get a).latest with
  | none => wordNext a w m
  | some (i, r, pl) =>
    let use := (((m.cfx.get a).op.bind (fun o => o.descs[i]?)).map (·.use)).getD .internal
    let m := m.onCfx a (fun c => { c with latest := none })
    if secDec r == decOk then
      wordDo a w (·.onDesc i (fun d => { d with failed := false })) (match pl with
        | some p => xferRead a use p m
        | none => m)
    else if secDec r == decWritten then wordDo a w (·.onDesc i (fun d => { d with failed := false })) (xferWrite a use m)
    else wordDo a w (·.onDesc i (fun d => { d with failed := true })) m))

/-- The next descriptor of the scan in force (R575). -/
def Cfx.scanNext (c : Cfx) : Option (Nat × Desc) :=
  match c.op with
  | none => none
  | some o => (o.descs.zipIdx.find? (fun p => decide (c.scanAt ≤ p.2) && (!c.scanFailed || p.1.failed))).map (fun p => (p.2, p.1))

/-- Load the next descriptor (R575): C4, C5, C6, DEF and LAST, and for a write its payload; with none left Z sets and there is no
current descriptor. A START not below TPR traps 0x09. -/
def fetchNext (a : Act) (m : Mach) : Mach × Bool :=
  let c := m.cfx.get a
  match c.scanNext with
  | none => (m.onCfx a (fun c => { (((c.put fZ true).put fDEF false).put fLAST false).put fPRDY false with cur := none, payload := none }), true)
  | some (i, d) =>
    if tpr m a ≤ d.start.toNat then (m, false)
    else
      let o := c.op.getD ⟨0, [], [], false⟩
      let pl := if (o.param 3).getLsbD 0 then payloadFor m a (o.param 0).toNat d else none
      (m.onCfx a (fun c =>
        let c := ((c.setReg 4 d.start).setReg 5 (d.s.zeroExtend 24)).setReg 6 (BitVec.ofNat 24 i)
        let c := (((c.put fZ false).put fDEF d.defect).put fLAST d.last).put fPRDY pl.isSome
        { c with cur := some i, scanAt := i + 1, payload := pl }), true)

/-- FETCH (R575). -/
def execCfxFetch (a : Act) (s : State) : Out := s.run (execWord a (· == 0x26) (fun w m =>
  let md := field w 0 2
  if md = 2 then cfxTrap a 0x07 m
  else
    let m := if md = 0 then m else m.onCfx a (fun c => { c with scanAt := 0, scanFailed := md == 3 })
    let r := fetchNext a m
    if r.2 then wordNext a w r.1 else cfxTrap a 0x09 r.1))

/-- SKIPDEF (Table 11-7). -/
def execCfxSkipdef (a : Act) (s : State) : Out := s.run (execWord a (· == 0x27) (fun w m =>
  if (m.cfx.get a).flag fDEF then
    let r := fetchNext a m
    if r.2 then wordJump a w true (wTarget w) r.1 else cfxTrap a 0x09 r.1
  else wordNext a w m))

/-- ALIGN (R580). -/
def execCfxAlign (a : Act) (s : State) : Out := s.run (execWord a (· == 0x28) (fun w => wordStall a (.field (bit w 0)) w))

/-- PREHEAT (R581): AG rises at the first tick. -/
def execCfxPreheat (a : Act) (s : State) : Out := s.run (execWord a (· == 0x29) (fun w m =>
  wordStall a .preheat w (openAssist a (m.onCfx a (·.setGate gAG true)))))

/-- MARK. -/
def execCfxMark (a : Act) (s : State) : Out := s.run (execWord a (· == 0x2A) (fun w =>
  wordDo a w (fun c => { c with markCode := BitVec.ofNat 8 (field w 0 8), markTpos := c.tpos })))

/-- STAT (R582). -/
def execCfxStat (a : Act) (s : State) : Out := s.run (execWord a (· == 0x2B) (fun w =>
  wordDo a w (fun c => { c with statCode := BitVec.ofNat 8 (field w 0 8), statVal := c.reg (wReg w) })))

/-! ### Ends of stalls -/

/-- The end condition of a stalling word (R555, R569 to R573, R580, R581, R1037) after its ticks have passed; occurrences and fields are
what the event itself states. -/
def stallOver (m : Mach) (a : Act) (ticks : Nat) : Stall → Bool
  | .wait n => decide (n ≤ ticks)
  | .event sense sel _ =>
    if sel = 24 then (m.cfx.get a).anchored
    else if isLevel sel then cfxLevel m a sel == sense else true
  | .select => (m.clk.freqPend.get a).isNone
  | .onTrack w => (m.cfx.get a).flag fSFAIL || (if w then (m.srv.get a).onTrackW else (m.srv.get a).onTrackR)
  | .result _ => match (m.ch.get a).secs with
    | [] => true
    | x :: _ => x.result.isSome
  | .field _ => true
  | .preheat => decide ((m.hif.get a).leadTicks.toNat ≤ max ticks (m.hif.get a).agTicks) && (m.hif.get a).heaterReady

/-- A measured field joins the accumulation of an ALIGN_MAP run when its track lies within ±2 of the target, whatever its error (R540). -/
def fieldAccepted (m : Mach) (a : Act) (t : BitVec 24) : Bool :=
  decide (((t.toNat : Int) - ((m.srv.get a).tgtTrack.toNat : Int)).natAbs ≤ 2)

/-- What a stalling word does as it ends: DECRES takes its result, ALIGN sets AFOUND and records, WAITEV counts C7 down. -/
def stallAct (a : Act) (ticks : Nat) (found : Option (BitVec 7 × BitVec 24 × BitVec 24)) (m : Mach) : Stall → Mach
  | .result reg => match (m.ch.get a).secs with
    | x :: _ => match x.result with
      | some r => takeResult a reg x r m
      | none => m
    | [] => m.onCfx a (·.put fNORES true)
  | .field record => m.onCfx a (fun c => { c.put fAFOUND found.isSome with
      fieldAcc := match record, found with
        | true, some (k, t, e) => if fieldAccepted m a t then c.fieldAcc ++ [(k.toNat, e.toInt)] else c.fieldAcc
        | _, _ => c.fieldAcc })
  | .event _ _ _ => m.onCfx a (fun c => c.setReg 7 (c.reg 7 - BitVec.ofNat 24 ticks))
  | _ => m

/-- STALL_END (R555, R556): `ticks` have passed since the sequencer's ticks were last counted; `found` is the alignment field that an
ALIGN saw: its number, its track t′ and its error. ATPOS needs the ticks that take TPOS to C4; a WAITEV with a time limit must not have reached it (R569). -/
def execStallEnd (a : Act) (ticks : BitVec 24) (found : Option (BitVec 7 × BitVec 24 × BitVec 24)) (s : State) : Out := s.run (fun m =>
  let c := m.cfx.get a
  match c.stall with
  | none => m
  | some st =>
    let total := c.stallTicks + ticks.toNat
    let stop := c.flag fABORT && !c.stopRun || c.flag fPLOSS
    let limit := match st with
      | .event _ _ _ => c.reg 7 != 0 && decide ((c.reg 7).toNat ≤ total)
      | _ => false
    let short := match st with
      | .event _ 24 _ => decide (ticks.toNat < toC4 m a)
      | _ => false
    if stop then wordEnd a ticks.toNat (c.pc + 1) (match st with
      | .event _ _ _ => if c.reg 7 = 0 then m else m.onCfx a (fun c => c.setReg 7 (BitVec.ofNat 24 ((c.reg 7).toNat - total)))
      | _ => m)
    else if limit || short || !stallOver m a total st then m
    else
      let timed := match st with
        | .event _ _ _ => c.reg 7 != 0
        | _ => false
      wordEnd a ticks.toNat (c.pc + 1) (stallAct a (if timed then total else 0) found m st))

/-- WAITEV_TIMEOUT (R569): C7 has reached zero before the event. -/
def execWaitevTimeout (a : Act) (s : State) : Out := s.run (fun m =>
  let c := m.cfx.get a
  match c.stall with
  | some (.event _ _ target) =>
    if c.reg 7 = 0 then m
    else wordEnd a ((c.reg 7).toNat - c.stallTicks) target (m.onCfx a (fun c => (c.setReg 7 0).put fTMO true))
  | _ => m)

/-- TPOS_ANCHOR (R562): the mark of a field of the selected head is found, `ticks` after the last count. -/
def execTposAnchor (a : Act) (fieldNo : BitVec 7) (ticks : BitVec 24) (s : State) : Out := s.run (fun m =>
  if inReset m (.act a) then m
  else (timePasses a ticks.toNat m).onCfx a (fun c => { c with tpos := BitVec.ofNat 24 (fieldBase m a fieldNo.toNat), field := fieldNo, anchored := true }))

/-- GATE_COUNT_EXPIRY (R578): the shortest COUNT that runs has passed, and its gates take the complement of their level. -/
def execGateCountExpiry (a : Act) (s : State) : Out := s.run (fun m =>
  match ((m.cfx.get a).timers.filterMap id).min? with
  | none => m
  | some n =>
    let m := timePasses a n m
    let c := m.cfx.get a
    let on := fun i => c.timers.getD i none == some 0
    let m := m.onCfx a (fun c => { c with timers := c.timers.map (fun x => if x == some 0 then none else x) })
    let m := if on 0 then setBoost a (!c.gate gHB) (m.onCfx a (·.setGate gHB (!c.gate gHB))) else m
    let m := if on 1 then (if c.gate gAG then lowerAssist a m else openAssist a (m.onCfx a (·.setGate gAG true))) else m
    if on 2 then (if c.gate gRG then lowerRead a m else (m.onCfx a (·.setGate gRG true)).onCh a (fun ch => { ch with read := true })) else m)

/-- SECTOR_GATE_CLOSE (R577, R585, R588): after `ticks` the postamble ends and the sector gate closes; a trap that waited for it halts the sequencer, a
power loss that waited for it starts the retract. -/
def execSectorGateClose (a : Act) (ticks : BitVec 24) (s : State) : Out := s.run (fun m =>
  let c := m.cfx.get a
  if c.gate gWG then
    let m := endWrite a (timePasses a ticks.toNat m)
    let m := if c.trapWait then endOp a 1 (ifDo ((m.cfx.get a).gate gAG) (lowerAssist a) m) else m
    if c.flag fPLOSS then retract a 1 (ifDo ((m.cfx.get a).gate gAG) (lowerAssist a) m) else m
  else if c.gate gRG && c.gate gSG then
    ((timePasses a ticks.toNat m).onCh a (·.gatesClosed)).onCfx a (fun c => (c.setGate gRG false).setGate gSG false)
  else m)

/-! ### Operations and the store -/

/-- OPERATION_DISPATCH (R558, R567): a halted sequencer that is not held takes the mailbox. -/
def execOperationDispatch (a : Act) (ticks : BitVec 24) (s : State) : Out := s.run (fun m =>
  let c := m.cfx.get a
  if c.run != .halted || c.hold || c.flag fPLOSS || c.ended.isSome || inReset m (.act a) || !loaded m a then m
  else match c.mailbox with
  | none => m
  | some o => match c.dispatch.getD o.op none with
    | none => m
    | some e =>
      let m := elapse a ticks.toNat { m with pins.actLed := true }
      opTaken a (m.onCfx a (fun c => { c with
        run := .running, pc := e, opIdx := BitVec.ofNat 4 o.op, op := some o, mailbox := none, cur := none, latest := none, payload := none
        scanAt := 0, scanFailed := false, stall := none, stopRun := false, statCode := 0, fieldAcc := []
        flags := c.flags &&& 0x028003#24 })))

/-- ABORT_REQUEST (R586). -/
def execAbortRequest (a : Act) (s : State) : Out := s.run (cfxAbort a)

/-- OP_TMO_EXPIRY (R589): trap 0x08, not after PLOSS. -/
def execOpTmoExpiry (a : Act) (s : State) : Out := s.run (fun m =>
  let c := m.cfx.get a
  if c.op.isNone || c.run == .halted || c.trapWait || c.flag fPLOSS then m else cfxTrap a 0x08 m)

/-- The remap record of the rows in service (R593, R602). -/
def remapRecord (a : Act) (c : Cfx) : SRec :=
  let rows := (c.remaps.filter (·.valid)).map (·.row.toNat)
  ⟨cfxTy a 0x81, leBytes 2 rows.length ++ leBytes 2 0 ++ (rows.map (leBytes 2)).flatten⟩

/-- Copy a row into a free spare and remap it (R593, R594): a spare row that fails hands its store row to another spare. -/
def remapRow (a : Act) (row : Nat) (m : Mach) : Mach :=
  let c := m.cfx.get a
  match (List.range 32).find? (fun k => !c.sparesUsed.getLsbD k) with
  | none =>
    let m := report (actCode 0x0A11 a) (atHead m a) (leBytes 2 row ++ leBytes 1 0xFF) m
    report (actCode 0x0A13 a) (atHead m a) (leBytes 2 row) m
  | some k =>
    let target := if 4096 ≤ row then (c.remaps.getD (row - 4096) ⟨false, 0⟩).row else BitVec.ofNat 12 row
    let m := m.onCfx a (fun c =>
      let rs := if 4096 ≤ row then updAt c.remaps (row - 4096) (fun _ => ⟨false, 0⟩) else c.remaps
      { c.setRow (4096 + k) ⟨(c.row row).data, none⟩ with
        remaps := updAt rs k (fun _ => ⟨true, target⟩), sparesUsed := c.sparesUsed ||| BitVec.ofNat 32 (2 ^ k) })
    report (actCode 0x0A11 a) (atHead m a) (leBytes 2 row ++ leBytes 1 k) (stageOwn (remapRecord a (m.cfx.get a)) m)

/-- A scrub visit that corrects a row: it is written back, counted, and at the second consecutive visit raises condition 0x11 (R592,
R593). -/
def scrubCorrected (a : Act) (row : Nat) (d : BitVec 32) (m : Mach) : Mach :=
  let again := (m.cfx.get a).scrubCe.contains row
  let m := m.onCfx a (fun c => { c.setRow row ⟨d, none⟩ with
    corrCnt := c.corrCnt.inc, scrubCe := if again then c.scrubCe.filter (· != row) else row :: c.scrubCe })
  if !again then m
  else if armed m (actCode 0x0A11 a) = 3 then remapRow a row m
  else report (actCode 0x0A11 a) (atHead m a) (leBytes 2 row ++ leBytes 1 0xFF) m

/-- An uncorrectable error in the region table RAM (R470). -/
def regionRamFail (a : Act) (h r : Byte) (m : Mach) : Mach := requestActReset a (report (actCode 0x0810 a) (onHead a h.toNat) [h, r] m)

/-- An uncorrectable error in a servo table (R404). -/
def servoRamFail (a : Act) (arr : Byte) (row : BitVec 16) (m : Mach) : Mach :=
  requestActReset a (report (actCode 0x045C a) (onAct a) ([arr] ++ leBytes 2 row.toNat) m)

/-- A scrub visit of a store row: a row with check bits of a test write is judged by its own content (R591 to R594). -/
def scrubRow (a : Act) (r : Nat) (find : EccFind) (m : Mach) : Mach :=
  let x := (m.cfx.get a).row r
  match x.chk with
  | some _ => match x.read with
    | some (d, true) => scrubCorrected a r d m
    | some (_, false) => m.onCfx a (fun c => { c with scrubCe := c.scrubCe.filter (· != r) })
    | none => storeFail a r m
  | none => match find with
    | .clean => m.onCfx a (fun c => { c with scrubCe := c.scrubCe.filter (· != r) })
    | .corrected => scrubCorrected a r x.data m
    | .uncorrectable => storeFail a r m

/-- STORE_SCRUB (R591 to R594): one row is read. `lap` is the duration of the lap that the last spare row completes. A visit of the region
table RAM counts what it corrects in RAMCORR (R466, R470), one of a servo table resets the group on an uncorrectable error (R404). -/
def execStoreScrub (a : Act) (site : ScrubSite) (find : EccFind) (lap : BitVec 16) (s : State) : Out := s.run (fun m =>
  if inReset m (.act a) then m
  else match site with
  | .store row =>
    let r := row.toNat
    if 4128 ≤ r then m
    else scrubRow a r find (if r = 4127 then m.onCfx a (fun c => { c with lapUs := lap }) else m)
  | .region h r =>
    if 12 ≤ h.toNat || 64 ≤ r.toNat then m
    else match find with
    | .clean => m
    | .corrected => m.onCh a (fun c => { c with ramCorr := c.ramCorr.inc })
    | .uncorrectable => regionRamFail a h r m
  | .servo arr row => match find with
    | .uncorrectable => servoRamFail a arr row m
    | .clean | .corrected => m)

/-- A write to STOREDATA (R599, R601): in SERVICE, with the actuator in OPEN and the sequencer halted. -/
def storeDataWrite (a : Act) (d : BitVec 32) (m : Mach) : Mach :=
  let c := m.cfx.get a
  if m.sup.mode != .service || (m.srv.get a).st != .opened || !cfxHalted m a || decide (4128 ≤ c.rowSel.toNat) then m
  else m.onCfx a (·.setRow c.rowSel.toNat ⟨d, if c.test then some c.chk else none⟩)

/-- STOREDATA_WRITE. -/
def execStoredataWrite (a : Act) (d : BitVec 32) (s : State) : Out := s.run (storeDataWrite a d)

/-- CFX_LOAD (R603, Table 11-12). -/
def execCfxLoad (h : Hdr) (image : List Byte) (s : State) : Out := s.run (service 0x0703 h lvMaint
  (fun m => [(m.sup.mode != .service, stWrongMode), ((m.srv.get ((actNum h.p0).getD .a0)).st != .opened, stLoopClosed),
    reserved [h.p1, h.p2, h.p3], ((actNum h.p0).isNone || !imageOk image, stBadParam)])
  (fun m =>
    let a := (actNum h.p0).getD .a0
    let m := m.onCfx a (fun c => { c with hold := true, loadReq := some (h, image) })
    if cfxHalted m a then finishLoad a m else m))

/-- CFX_STATUS (R603, Table 18-6). -/
def execCfxStatus (h : Hdr) (s : State) : Out := s.run (service 0x0704 h lvHost
  (fun _ => [reserved [h.p1, h.p2, h.p3], ((actNum h.p0).isNone, stBadParam)])
  (fun m =>
    let c := m.cfx.get ((actNum h.p0).getD .a0)
    reply h stOk 0 (regBytes [cfxStatusReg c, cfxPcReg c, c.flags.zeroExtend 32, cfxOpstatReg c, cfxTrapReg c, c.lapUs.zeroExtend 32, cfxMarkReg c]
      ++ leBytes 4 c.version.toNat ++ ((c.remaps.filter (·.valid)).map (fun r => leBytes 2 r.row.toNat)).flatten) m))

end Sys2Proof.Machine
end

