-- ==== Sys2Proof/Machine/Vault.lean ====
section
/-! DEFINITION. Meanings of the vault's commands and events (spec/15), and of stage 9. -/

namespace Sys2Proof.Machine

/-! ### Register words (Table 15-9) -/

/-- VLT.STATUS; the causes read 0 until stage 9 has looked at the vault (log entry 77). -/
def vltStatusReg (m : Mach) : Reg :=
  let v := m.vlt
  packReg [⟨31, 1, v.eraseCnt.ovf.toNat⟩, ⟨30, 1, v.pfailCnt.ovf.toNat⟩, ⟨29, 1, v.replayCnt.ovf.toNat⟩, ⟨28, 1, v.writeCnt.ovf.toNat⟩,
    ⟨20, 1, (protects m).toNat⟩, ⟨16, 4, if m.sup.stages.getLsbD 8 then (unprotected m).toNat % 16 else 0⟩, ⟨7, 1, v.rateOk.toNat⟩, ⟨6, 1, v.dirOk.toNat⟩, ⟨5, 1, (!(foreignImages m).isEmpty).toNat⟩,
    ⟨4, 1, v.unresolved.toNat⟩, ⟨3, 1, v.imp.isSome.toNat⟩, ⟨2, 1, v.replaying.isSome.toNat⟩, ⟨1, 1, v.writing.isSome.toNat⟩, ⟨0, 1, v.replayed.toNat⟩]

/-- The newest image in the vault. -/
def newestKept (m : Mach) : Option VImage := newestImage (m.vlt.images.filter (·.valid))

/-- VLT.NEWEST. -/
def vltNewestReg (m : Mach) : Reg := ((newestKept m).map (·.seq)).getD 0
/-- VLT.IMGINFO. -/
def vltImgReg (m : Mach) : Reg := match newestKept m with
  | some i => packReg [⟨24, 8, i.cause.toNat⟩, ⟨23, 1, i.index.toNat⟩, ⟨22, 1, i.consumed.toNat⟩, ⟨0, 21, i.entries.length⟩]
  | none => 0
/-- VLT.BLOCKS, 0 until stage 9 (log entry 77). -/
def vltBlocksReg (m : Mach) : Reg := if !m.sup.stages.getLsbD 8 then 0 else packReg [⟨16, 16, goodBlocks m⟩, ⟨0, 16, readyBlocks m⟩]
/-- VLT.SPARE, 0 until stage 9 (log entry 77). -/
def vltSpareReg (m : Mach) : Reg := if !m.sup.stages.getLsbD 8 then 0 else packReg [⟨16, 16, vaultBlocks m + 8⟩, ⟨0, 16, vaultSpare m⟩]
/-- VLT.LASTRUN. -/
def vltLastReg (m : Mach) : Reg := packReg [⟨16, 16, m.vlt.lastMs.toNat⟩, ⟨0, 16, m.vlt.lastMib.toNat⟩]
/-- VLT.RATE. -/
def vltRateReg (m : Mach) : Reg := packReg [⟨16, 16, m.vlt.testRate.toNat⟩, ⟨0, 16, m.vlt.writeRate.toNat⟩]

/-! ### Images -/

/-- VAULT_HEADER_PROGRAM (R773, R775, R778, R780, R788): the body is written; microseconds to the start of the header program, milliseconds to its
end, the body rate, and whether the header reads back. A fabric error goes on to the module reset, a vaulted shutdown to its unloading. -/
def execVaultHeaderProgram (us : BitVec 32) (ms rate : BitVec 16) (ok : Bool) (s : State) : Out := s.run (fun m =>
  match m.vlt.writing with
  | none => m
  | some w =>
    let m := vaultHeader us.toNat ms.toNat rate.toNat ok m
    if m.pwr.loss then m
    else if w.thenReset then spnModuleReset { m with vlt.seqDone := false }
    else if m.sup.shut == .vaulting then shutUnload { m with vlt.seqDone := false } else m)

/-- PAGE_PROGRAM_FAIL (R786). -/
def execPageProgramFail (die : BitVec 1) (plane : BitVec 2) (block : BitVec 11) (s : State) : Out := s.run (fun m =>
  if m.vlt.writing.isSome && isPool (2048 * die.toNat + block.toNat) then programFail die.toNat plane.toNat block.toNat m else m)

/-- Images all of whose blocks have been erased leave the vault. -/
def forgetImages (m : Mach) : Mach :=
  { m with vlt.images := m.vlt.images.filter (fun i => !i.consumed || i.blocks.any (fun b => m.vlt.spent.contains b)) }

/-- VAULT_BLOCK_ERASE (R785, R786): in idle time, the waiting block with the lowest erase count; a failing one is retired without VLT 0x0F20. -/
def execVaultBlockErase (ok : Bool) (s : State) : Out := s.run (fun m =>
  if frozen m || m.vlt.writing.isSome then m
  else match leastBy (fun b => assoc 0 m.vlt.erases b) m.vlt.spent with
    | none => m
    | some b =>
      let m := { m with vlt.spent := m.vlt.spent.filter (· != b) }
      if ok then
        wearCheck (forgetImages { m with vlt.erases := assocSet 0 m.vlt.erases b (assoc 0 m.vlt.erases b + 1), vlt.eraseCnt := m.vlt.eraseCnt.inc })
      else forgetImages (retireBlock b m))

/-! ### Protection -/

/-- PROTECTION_LOST (R793 to R795): from stage 9 on. -/
def execProtectionLost (s : State) : Out := s.run (fun m => if m.sup.stages.getLsbD 8 then protectionLost m else m)

/-- PROTECTION_RETURN (R796). -/
def execProtectionReturn (s : State) : Out := s.run protectionReturn

/-! ### Replay -/

/-- Stage 9 is complete (R217); a microcode block that stayed bad leads to SAFE now (R226). -/
def stage9 (m : Mach) : Mach :=
  if m.vlt.replaying.isSome then m else ucodeSafe (markStage 9 m)

/-- VAULT_REPLAY (R217, R797 to R802, R896): stage 9. `dir` says whether the vault directory reads, `n` how many directory entries are applied before
the command ends; further commands go on with the same image. Without a usable identity page no image belongs to the HDA. -/
def execVaultReplay (dir : Bool) (n : BitVec 17) (s : State) : Out := s.run (fun m =>
  if !stageDone m 8 || stageDone m 9 || m.pwr.loss then m
  else match m.vlt.replaying with
    | some (seq, k) => match m.vlt.images.find? (fun i => i.seq == seq) with
      | some i => stage9 (takeStale (replaySome i k n.toNat m))
      | none => stage9 { m with vlt.replaying := none }
    | none =>
      let m := { m with vlt.dirOk := dir }
      if !norUsable m then stage9 m
      else stage9 (takeStale (replayDecide (newerSlot m.hda) n.toNat m)))

/-! ### Requests (Table 15-5) -/

/-- VAULT_STATUS 0x0A01. -/
def execVaultStatus (h : Hdr) (s : State) : Out := s.run (service 0x0A01 h lvHost
  (fun _ => [reserved [h.p0, h.p1, h.p2, h.p3]])
  (fun m => reply h stOk 0 (regBytes [vltStatusReg m, vltBlocksReg m, vltSpareReg m, vltLastReg m, vltRateReg m] ++ ((keptImages m).map imageHeader).flatten) m))

/-- EXPORT (VAULT_DISPOSE 0x0A02, P0 1). -/
def execVaultExport (h : Hdr) (s : State) : Out := s.run (service 0x0A02 h lvMaint
  (fun m => [(h.p0 != 1 || h.p3 != 0, stBadParam), (!(keptImages m).any (fun i => i.seq == h.p2), stNotPresent),
    ((keptImages m).any (fun i => i.seq == h.p2 && decide (imageLen i ≤ 65536 * h.p1.toNat)), stBadParam)])
  (fun m => match (keptImages m).find? (fun i => i.seq == h.p2) with
    | some i => reply h stOk 0 (imageChunk i h.p1.toNat) m
    | none => m))

/-- DISCARD (P0 2; R804). -/
def execVaultDiscard (h : Hdr) (s : State) : Out := s.run (service 0x0A02 h lvMaint
  (fun m => [(h.p0 != 2 || h.p1 != 0 || h.p3 != 0, stBadParam), (!(keptImages m).any (fun i => i.seq == h.p2), stNotPresent),
    (!(foreignImages m).any (fun i => i.seq == h.p2), stBadParam)])
  (fun m => reply h stOk 0 [] (report 0x0F43 nowhere (leBytes 1 2 ++ leBytes 4 h.p2.toNat) (consume (fun i => i.seq == h.p2 && !ownHda m i) m))))

/-- ACCEPT_LOSS (P0 3; R803): the held commands proceed as the mode requires. -/
def execVaultAcceptLoss (h : Hdr) (s : State) : Out := s.run (service 0x0A02 h lvMaint
  (fun m => [(!m.vlt.unresolved, stWrongMode), (h.p0 != 3 || h.p1 != 0 || h.p2 != 0 || h.p3 != 0, stBadParam)])
  (fun m => reply h stOk 0 [] (modeAdvance (resolveLoss 3 0 m))))

/-- The imported image is checked, replayed and consumed, and the record is resolved (R788, R800, R803); a failed check keeps nothing. -/
def importEnd (h : Hdr) (bs : List Byte) (m : Mach) : Mach :=
  match imageFrom bs with
  | none => reply h stBadParam 0 [] m
  | some i =>
    if !ownHda m i then reply h stBadParam 0 [] m
    else
      let m := replayMaps i (i.entries.foldl (fun m e => replayEntry e m) m)
      let m := { m with vlt.replayed := true, vlt.replayCnt := m.vlt.replayCnt.inc, sup.replayed := true }
      reply h stOk 0 [] (modeAdvance (resolveLoss 4 i.seq m))

/-- IMPORT (P0 4; R803, R805): chunks in rising order, P3[0] the last. -/
def execVaultImport (h : Hdr) (chunk : List Byte) (s : State) : Out := s.run (service 0x0A02 h lvMaint
  (fun m => [(!m.vlt.unresolved, stWrongMode), (h.p0 != 4 || h.p2 != 0 || decide (1 < h.p3.toNat), stBadParam),
    (decide (65536 < chunk.length) || (!bit h.p3 0 && chunk.length != 65536), stBadLength), (!(foreignImages m).isEmpty, stBusy)])
  (fun m =>
    let got := m.vlt.imp.getD []
    let blocks := m.vlt.impBlocks ++ (if m.vlt.impBlocks.length * 32 ≤ got.length then takeReady m 1 else [])
    if h.p1.toNat != got.length || decide (blocks.length * 32 ≤ got.length) then reply h stBadParam 0 [] (importOver m)
    else
      let m := { m with vlt.imp := some (got ++ [chunk]), vlt.impBlocks := blocks }
      if bit h.p3 0 then importEnd h (got ++ [chunk]).flatten (importOver m) else reply h stOk 0 [] m))

/-- VAULT_TEST 0x0A03 (R786, R805, R807): the measured rate in MB/s, and the blocks whose programs fail, as die, plane and block. The detail
gives the rate in its low half and the failures in its high half (log entry 56). -/
def execVaultTest (h : Hdr) (rate : BitVec 16) (fails : List (BitVec 1 × BitVec 2 × BitVec 11)) (s : State) : Out := s.run (service 0x0A03 h lvMaint
  (fun m => [reserved [h.p0, h.p1, h.p2, h.p3], (m.vlt.imp.isSome || m.vlt.writing.isSome, stBusy)])
  (fun m =>
    let used := takeReady m (vaultBlocks m)
    let m := fails.foldl (fun m f => programFail f.1.toNat f.2.1.toNat f.2.2.toNat m) m
    let ok := used.filter (fun b => !m.vlt.bad.contains b)
    let m := { m with vlt.testRate := rate, vlt.rateOk := decide (640 ≤ rate.toNat), vlt.eraseCnt := m.vlt.eraseCnt.add ok.length
                      vlt.erases := ok.foldl (fun e b => assocSet 0 e b (assoc 0 e b + 1)) m.vlt.erases }
    let m := if rate.toNat < 640 then report 0x0F60 nowhere (leBytes 2 rate.toNat ++ leBytes 4 fails.length) m else m
    reply h stOk (rate.toNat + 65536 * (fails.length % 65536)) [] (wearCheck m)))

end Sys2Proof.Machine
end

