-- ==== Sys2Proof/Machine/Zones.lean ====
section
/-! DEFINITION. Meanings of the zone manager's events (spec/12_zones_and_translation.md). An event whose stated condition does not hold
changes nothing (log entry 5). -/

namespace Sys2Proof.Machine

/-! ### Registers (Table 12-11) -/

/-- ZMG.STATUS. -/
def zmgStatusReg (m : Mach) : Reg :=
  let two := fun (p : Pair Bool) => p.p0.toNat + 2 * p.p1.toNat
  let pin := fun (a : Act) => m.zmg.pins.any (fun p => match nsOf m p.1 with
    | some n => decide (lbaAct n.kind p.2 = a)
    | none => false)
  packReg [
    ⟨31, 1, m.zmg.unrecCnt.ovf.toNat⟩, ⟨30, 1, m.zmg.porchWr.ovf.toNat⟩, ⟨29, 1, m.zmg.cleanCnt.ovf.toNat⟩, ⟨28, 1, m.zmg.substCnt.ovf.toNat⟩,
    ⟨27, 1, m.zmg.reallocCnt.ovf.toNat⟩, ⟨15, 1, m.zmg.mapsOk.toNat⟩, ⟨14, 1, m.zmg.rebuilt.toNat⟩, ⟨12, 2, two m.zmg.cleaning⟩,
    ⟨10, 2, two m.zmg.full⟩, ⟨8, 2, two m.zmg.force⟩, ⟨6, 2, (pin .a0).toNat + 2 * (pin .a1).toNat⟩, ⟨0, 6, m.zmg.maps.nss.length⟩]

/-- ZMG.ZONESn. -/
def zmgZonesReg (m : Mach) (a : Act) : Reg :=
  packReg [⟨16, 16, (zonesWith m a (fun z => z == .readOnly || z == .offline)).length⟩, ⟨8, 8, activeCount m a⟩, ⟨0, 8, openCount m a⟩]
/-- ZMG.CELLAR. -/
def zmgCellarReg (m : Mach) : Reg := packReg [⟨16, 16, (cellarFree m .a1).length⟩, ⟨0, 16, (cellarFree m .a0).length⟩]
/-- ZMG.PORCHn. -/
def zmgPorchReg (m : Mach) (a : Act) : Reg := packReg [⟨16, 16, porchExtents m a / 1024⟩, ⟨0, 16, satTo 65535 (porchFill m a)⟩]

/-! ### Events -/

/-- DESTAGE_RUN (R633, R637, R643): the first request of the cache for an actuator is routed and its runs are offered. -/
def execDestageRun (a : Act) (now : BitVec 48) (s : State) : Out := s.run (fun m => routeRequest a (clockTo now.toNat m))

/-- DIRECT_REWRITE_TIMEOUT (R638): no run has continued the rewrite for 2 s. -/
def execDirectRewriteTimeout (a : Act) (nsid : BitVec 6) (s : State) : Out := s.run (fun m =>
  onMan nsid.toNat a (fun x => { x with rewrite := x.rewrite.map (fun w => { w with closed := true }) }) m)

/-- CLEANING (R639, R640, R672, R673): 0 copies and verifies a band, 1 journals it, 2 remaps it (log entry 47). -/
def execCleaning (a : Act) (nsid : BitVec 6) (phase : BitVec 2) (s : State) : Out := s.run (fun m =>
  match (nsOf m nsid.toNat).filter (fun n => decide (n.kind = .managed)) with
  | none => m
  | some n => match phase.toNat with
    | 0 => cleanStart a n m
    | 1 => cleanJournal a n m
    | 2 => cleanRemap a n m
    | _ => m)

/-- CLEANING_JOURNAL_COMPLETE (R639): a cleaning journaled before a loss is completed. -/
def execCleaningJournalComplete (a : Act) (nsid : BitVec 6) (s : State) : Out := s.run (fun m =>
  match (nsOf m nsid.toNat).filter (fun n => decide (n.kind = .managed)) with
  | some n => if m.zmg.mapsOk then cleanRemap a n m else m
  | none => m)

/-- PORCH_SCAN (R642): after an unclean loss, before the actuator is media-ready; its duration in ms. -/
def execPorchScan (a : Act) (nsid : BitVec 6) (ms : BitVec 32) (s : State) : Out := s.run (fun m =>
  match (nsOf m nsid.toNat).filter (fun n => decide (n.kind = .managed)) with
  | none => m
  | some n =>
    if m.sup.actReady.get a || !m.zmg.mapsOk then m
    else
      let r := scanPorch a n m
      let m := report 0x0D42 (onAct a) (leBytes 4 r.2 ++ leBytes 4 ms.toNat) { r.1 with zmg.rebuilt := true }
      judgePorch a (saveMaps m))

/-- TRACK_VERIFY (R644): the first track that may be verified is offered as a VERIFY_RUN; with VERIFY 0 none waits. -/
def execTrackVerify (a : Act) (now : BitVec 48) (s : State) : Out := s.run (fun m =>
  offerVerify a (judgeVerify (clockTo now.toNat m)))

/-- RESERVED_COPY_REPAIR (R617): one copy of a structure fails and is rewritten from the other, or both fail, the
structures are no longer loaded and the module enters SAFE.
`str` is the row of Table 12-3, `a` and `head` name the failed copy. -/
def execReservedCopyRepair (a : Act) (head : BitVec 4) (str : Byte) (both : Bool) (s : State) : Out := s.run (fun m =>
  if both then enterSafe 0x0D11 (report 0x0D11 (onAct a) [str] { m with zmg.mapsOk := false })
  else report 0x0D10 (onHead a head.toNat) (str :: leBytes 1 head.toNat) m)

end Sys2Proof.Machine
end

