-- ==== Sys2Proof/Machine/Service.lean ====
section
/-! DEFINITION. Meanings of the transports of service requests and of the module, session and diagnostic requests (spec/18, spec/04 R202 to R206, R244,
spec/03 R182 to R185). An event whose stated condition does not hold changes nothing (log entry 5). -/

namespace Sys2Proof.Machine

/-! ### Transports -/

/-- SERVICE_REQUEST_SUBMIT, 0xC5 (R912, R914, Table 18-3): the acceptance status stands in Dword 0; READY joins it at posting. -/
def execServiceRequestSubmit (c : NvCmd) (numd : BitVec 32) (bytes : List Byte) (s : State) : Out := s.run (adminRow c (fun m =>
  let bs := dwords numd.toNat bytes
  let r := takeRequest (.nvme c.cntlid) (nvmeLenOk numd.toNat bs) bs m
  finishWith c r.2 [] (onCtx c (fun x => { x with svcTag := if r.2 = 0 then some (reqHdr (.nvme c.cntlid) bs).tag else none }) r.1)))

/-- SERVICE_REPLY_RETRIEVE, 0xC6 (R908, R912, R916, Table 18-3). -/
def execServiceReplyRetrieve (c : NvCmd) (numd tag : BitVec 32) (s : State) : Out := s.run (adminRow c (fun m =>
  let r := retrieve (.nvme c.cntlid) numd.toNat tag m
  match r.1 with
  | none => finish c .invalidField r.2
  | some (dw, bs) => finishWith c dw bs r.2))

/-- MCTP_REQUEST (R917): a message of type 0x7E with the Request bit, the vendor identity and message code 0x01; another one is not a request. -/
def execMctpRequest (vid : BitVec 16) (code : Byte) (request : Bool) (bytes : List Byte) (s : State) : Out := s.run (fun m =>
  if vid == Config.vid && code == 0x01 && request then (takeRequest .mctp (bytes.length == 32 + reqPlen bytes) bytes m).1 else m)

/-- UART_FRAME (R918, R239): bytes received on J6, served in SERVICE alone. -/
def execUartFrame (bytes : List Byte) (s : State) : Out := s.run (fun m =>
  if m.sup.mode == .service then uartServe (m.svc.uartBuf.length + bytes.length) { m with svc.uartBuf := m.svc.uartBuf ++ bytes } else m)

/-- UART_BYTE_GAP_TIMEOUT (R918): 10 ms without a byte end a frame that has begun. -/
def execUartByteGapTimeout (s : State) : Out := s.run (fun m =>
  if m.svc.uartBuf.isEmpty then m else uartError { m with svc.uartBuf := [] })

/-- REPLY_DISCARD (R915): a reply ready for 60 s and not retrieved. -/
def execReplyDiscard (cntlid : BitVec 16) (tag : BitVec 32) (s : State) : Out := s.run (fun m =>
  match m.svc.out.find? (fun o => o.names (.nvme cntlid) tag && o.reply.isSome && decide (o.readyAt.toNat + 60 ≤ m.sup.opSec.toNat)) with
  | none => m
  | some o => report 0x0042 nowhere (leBytes 2 cntlid.toNat ++ leBytes 4 tag.toNat ++ leBytes 2 o.opcode.toNat)
      (dropReq (.nvme cntlid) tag { m with svc.replyDrop := m.svc.replyDrop.inc }))

/-! ### Sessions (R919 to R924) -/

/-- FACTORY is closed to AUTH_CHALLENGE and AUTH_OPEN outside SERVICE while record 0x0003 is in force (R922). -/
def factoryBarred (m : Mach) (level : Nat) : Bool := level == lvFactory && m.sup.mode != .service && (maintHash m).isSome

/-- AUTH_CHALLENGE (R920). -/
def execAuthChallenge (h : Hdr) (s : State) : Out := s.run (service 0x0106 h lvHost
  (fun m => [(factoryBarred m h.p0.toNat, stWrongMode), reserved [h.p1, h.p2, h.p3], (h.p0 != 1 && h.p0 != 2, stBadParam)])
  (fun m =>
    let r := giveChallenge h.who false h.p0.toNat m
    reply h stOk 0 r.2 r.1))

/-- A session reference: the first of a free value and its successors that is not 0 and not in use (R920). -/
def newRef (m : Mach) : Reg :=
  let x : Reg := (freshVal m).truncate 32
  (((List.range 10).map (fun i => x + BitVec.ofNat 32 i)).find? (fun r => r != 0 && !m.svc.sessions.any (fun y => y.ref == r))).getD 1

/-- A correct proof of R920: HMAC-SHA-256 over the challenge and the authority byte. -/
def proofGood (m : Mach) (who : Transport) (level : Nat) (proof : List Byte) : Bool :=
  match challengeFor m who false level, credKey m level with
  | some c, some k => proof == leBytes 32 (Config.hmacSha256 k (c.bytes ++ leBytes 1 level)).toNat
  | _, _ => false

/-- AUTH_OPEN (R920 to R924): the challenge is used whatever the outcome. -/
def execAuthOpen (h : Hdr) (proof : List Byte) (s : State) : Out := s.run (service 0x0107 h lvHost
  (fun m => [(factoryBarred m h.p0.toNat, stWrongMode), reserved [h.p1, h.p2, h.p3], (h.p0 != 1 && h.p0 != 2, stBadParam), (decide (proof.length ≠ 32), stBadLength)])
  (fun m =>
    if lockedOut m h.who then reply h stNotAuth 1 [] m
    else
      let level := h.p0.toNat
      let good := proofGood m h.who level proof
      let m := dropChallenge h.who false level m
      if !good then reply h stNotAuth 0 [] (proofFailed h.who level m)
      else if 8 ≤ m.svc.sessions.length then reply h stBusy 0 [] m
      else
        let r := newRef m
        let m := drew m
        reply h stOk 0 (leBytes 4 r.toNat) { m with svc.sessions := m.svc.sessions ++ [⟨r, level, h.who, m.sup.opSec⟩] }))

/-- AUTH_CLOSE (R923). -/
def execAuthClose (h : Hdr) (s : State) : Out := s.run (service 0x0108 h lvHost
  (fun m => [reserved [h.p1, h.p2, h.p3], (!m.svc.sessions.any (fun x => x.ref == h.p0 && x.who == h.who), stBadParam)])
  (fun m => reply h stOk 0 [] { m with svc.sessions := m.svc.sessions.filter (fun x => x.ref != h.p0) }))

/-- SESSION_IDLE_CLOSE (R923): 600 s without a request. -/
def execSessionIdleClose (ref : BitVec 32) (s : State) : Out := s.run (fun m =>
  { m with svc.sessions := m.svc.sessions.filter (fun x => !(x.ref == ref && decide (x.lastUse.toNat + 600 ≤ m.sup.opSec.toNat))) })

/-- AUTH_LOCKOUT_END (R924): 60 s have passed. -/
def execAuthLockoutEnd (who : Transport) (s : State) : Out := s.run (fun m =>
  { m with svc.lockouts := m.svc.lockouts.filter (fun l => !(l.1 == who && decide (l.2.toNat + 60 ≤ m.sup.opSec.toNat))) })

/-! ### The module -/

/-- The code of a variant (Table 18-7). -/
def Variant_code : Variant → Nat
  | .u0 => 0 | .u1 => 1 | .s0 => 2

/-- The IPv6 link-local address of a MAC: fe80::/64 with the modified EUI-64 (R814). -/
def linkLocal (x : BitVec 48) : BitVec 128 :=
  BitVec.ofNat 128 (0xFE80 * 2 ^ 112 + ((x ^^^ 0x0200_0000_0000#48).toNat / 2 ^ 24) * 2 ^ 40 + 0xFFFE * 2 ^ 24 + x.toNat % 2 ^ 24)

/-- SERIAL, GEOM_SIG and CAP_TB of the identity page (Table 18-7): an erased page reads all ones there and has no serial; one that the module
cannot read leaves GEOM_SIG and CAP_TB open, free values (log entry 66). -/
def pageFields (m : Mach) : List Byte × List Byte × List Byte :=
  if !norUsable m then (List.replicate 24 0x20#8, leBytes 8 (freshVal m).toNat, leBytes 2 (freshVal (drew m)).toNat)
  else match m.hda.page with
    | some p => (p.serial, leBytes 8 p.geomSig.toNat, leBytes 2 p.capTb.toNat)
    | none => (List.replicate 24 0x20#8, List.replicate 8 0xFF#8, List.replicate 2 0xFF#8)

/-- The 128 bytes of Table 18-7; its multi-byte fields, the addresses among them, are little-endian (R27). -/
def identity (m : Mach) : List Byte :=
  let f := pageFields m
  let ll := fun (p : Act) (x : BitVec 48) => leBytes 16 (if (m.prt.get p).eth then (linkLocal x).toNat else 0)
  leBytes 1 (Variant_code m.id.variant) ++ leBytes 1 m.sup.fwSlot.toNat ++ List.replicate 2 0#8 ++ m.id.serial ++ m.sup.fwRev ++ f.1 ++ f.2.1
    ++ leBytes 1 m.prt.p0.eth.toNat ++ leBytes 1 m.prt.p1.eth.toNat ++ List.replicate 2 0#8 ++ leBytes 6 m.id.macA.toNat ++ leBytes 6 m.id.macB.toNat
    ++ ll .a0 m.id.macA ++ ll .a1 m.id.macB ++ f.2.2 ++ List.replicate 18 0#8

/-- IDENTIFY_MODULE (Table 18-7). -/
def execIdentifyModule (h : Hdr) (s : State) : Out := s.run (service 0x0101 h lvHost (fun _ => [reserved [h.p0, h.p1, h.p2, h.p3]])
  (fun m => reply h stOk 0 (identity m) (if norUsable m then m else drew (drew m))))

/-- GET_MODE. -/
def execGetMode (h : Hdr) (s : State) : Out := s.run (service 0x0102 h lvHost (fun _ => [reserved [h.p0, h.p1, h.p2, h.p3]])
  (fun m => reply h stOk 0 (regBytes [supModeReg m, supBootReg m, supBoottimeReg m, supShutReg m, supSafecauseReg m]) m))

/-- GET_HEALTH (R979, R1001). -/
def execGetHealth (h : Hdr) (s : State) : Out := s.run (service 0x0105 h lvHost (fun _ => [reserved [h.p0, h.p1, h.p2, h.p3]])
  (fun m => reply h stOk 0 (regBytes [supModeReg m, supBootReg m, pwrStatusReg m.pwr, vltStatusReg m, bcmStatusReg m, zmgStatusReg m, zmgCellarReg m,
    feStatusReg m, dsvStatusReg m, calStatusReg m] ++ m.evr.summary) (alertServed h m)))

/-! ### SET_MODE -/

/-- The target that a SET_MODE names: ACTIVE is treated as IDLE_FLY (Table 4-3). -/
def modeTarget (p0 : Reg) : Option Mode := match Mode.ofCode p0.toNat with
  | some .off => none
  | some .active => some .idleFly
  | x => x

/-- The authority that a target asks for (Table 4-3); a target not listed fails by its parameter alone. -/
def modeLevel (p0 : Reg) : Nat := match modeTarget p0 with
  | some .safe | some .service => lvMaint
  | _ => lvHost

/-- The modes from which a target is reached (Table 4-3). -/
def modeFrom (md : Mode) (t : Mode) : Bool := match t with
  | .standby => md != .off && md != .standby && md != .safe
  | .service => md != .off && md != .service
  | _ => md != .off && md != .safe

/-- A SET_MODE is not permitted in the mode or state in force (R204, R205, R223, Table 4-3). -/
def modeBarred (m : Mach) (h : Hdr) : Bool := match modeTarget h.p0 with
  | none => false
  | some t => (m.pins.pwrDis && t != .standby) || !modeFrom m.sup.mode t || (m.sup.mode == .standby && h.who != .mctp)
      || (t == .service && m.sup.fwSlot == 3)

/-- A clean shutdown toward STANDBY for an earlier SET_MODE ends where it stands, without STANDBY (R206); a record that it has closed is opened
again (R98). -/
def shutCancel (m : Mach) : Mach :=
  controllersReady { resolveAgain m with sup.shutTrigger := none, sup.trans := false, sup.ctrlReady := true }

/-- The shutdown that runs can be left for another target at once: it was asked for by SET_MODE and has written no image (R206). -/
def shutLeavable (m : Mach) : Bool :=
  m.sup.shutTrigger == some .setMode && (m.sup.shut == .draining || m.sup.shut == .unloading || (m.sup.shut == .complete && standbyWaits m)) && m.sup.shutVseq.isNone

/-- The way out of STANDBY toward a target: begun, or, under way, turned toward it (R206, R219). -/
def standbyLeft (t : Mode) (m : Mach) : Mach :=
  if m.sup.trans then { m with sup.target := t, sup.transCause := 6 } else leaveStandby t 6 m

/-- A module that a completed shutdown for notifications has left up returns to operation, toward modes whose heads fly (R98). -/
def operateAgain (t : Mode) (m : Mach) : Mach := if shutOver m && fliesHeads t then resolveAgain m else m

/-- A target is taken (R202 to R206, R219, R244, Table 4-3). A shutdown that cannot be left is followed by the target. -/
def takeTarget (t : Mode) (m : Mach) : Mach :=
  if t == .standby then
    if m.sup.mode == .service && m.sup.serviceDirty then spnModuleReset { m with sup.afterReset := some t }
    else startShutdown .setMode { m with sup.afterReset := none }
  else if m.sup.mode == .standby then standbyLeft t m
  else if shutRuns m && !shutLeavable m then { m with sup.afterReset := some t }
  else
    let m := if shutRuns m then shutCancel m else operateAgain t { m with sup.tail := false }
    if m.sup.mode == .service && m.sup.serviceDirty then spnModuleReset { m with sup.afterReset := some t }
    else if m.sup.mode == t && !m.sup.trans then answerModes t m
    else beginMode t 6 m

/-- SET_MODE (R202 to R206, R244, R274, Table 4-3): its reply follows entry into the target; to STANDBY over a host port it precedes the shutdown
(R203). -/
def execSetMode (h : Hdr) (s : State) : Out := s.run (service 0x0103 h (modeLevel h.p0)
  (fun m => [(modeBarred m h, stWrongMode), ((modeTarget h.p0).isNone, stBadParam), reserved [h.p1, h.p2, h.p3]])
  (fun m => match modeTarget h.p0 with
    | none => m
    | some t =>
      let m := abortModes m
      let m := if t != .standby && t != .safe then spnResume { m with spn.halted := false } else m
      let host := match h.who with
        | .nvme _ => true
        | _ => false
      let m := if t == .standby && host then reply h stOk 0 [] m else { m with sup.modeReqs := [(h, t)] }
      takeTarget t m))

/-! ### RESET_GROUP -/

/-- A request is carried by a port. -/
def carriedBy (m : Mach) (h : Hdr) (p : Act) : Bool := match h.who with
  | .nvme id => m.fe.ctrls.any (fun k => k.cntlid == id && decide (k.port = p))
  | _ => false

/-- Wait for the end of a group's reset (R185). -/
def awaitReset (h : Hdr) (n : Nat) (m : Mach) : Mach := { m with sup.resetReqs := m.sup.resetReqs ++ [(h, n)] }

/-- A port's group is reset. -/
def resetPort (p : Act) (m : Mach) : Mach := if inReset m (.port p) then m else flow (portReset p (assertReset (.port p) m))

/-- RESET_GROUP (R179, R181 to R185, R204, R929): the whole module is not reset out of STANDBY (log entry 81). -/
def execResetGroup (h : Hdr) (s : State) : Out := s.run (service 0x0104 h lvMaint
  (fun m => [(h.p0.toNat == 3 + m.fe.active.idx || (h.p0 == 0xFF && m.sup.mode == .standby), stWrongMode), reserved [h.p1, h.p2, h.p3],
    (h.p0 != 0xFF && (decide (h.p0.toNat < 3) || decide (8 < h.p0.toNat)), stBadParam)])
  (fun m => match h.p0.toNat with
    | 5 => if carriedBy m h .a0 then resetPort .a0 (reply h stOk 0 [] m) else resetPort .a0 (awaitReset h 5 m)
    | 6 => if carriedBy m h .a1 then resetPort .a1 (reply h stOk 0 [] m) else resetPort .a1 (awaitReset h 6 m)
    | 7 => requestActReset .a0 (awaitReset h 7 m)
    | 8 => requestActReset .a1 (awaitReset h 8 m)
    | 255 => awaitReset h 255 (startShutdown .resetGroup { m with sup.afterReset := none })
    | _ => reply h stOk 0 [] m))

/-! ### Diagnostics -/

/-- One entry of DIAG_CROSS_STATUS. -/
def crossBytes (m : Mach) (c : Crossing) : List Byte :=
  leBytes 2 c.num.toNat ++ leBytes 1 c.owner.bitNo ++ leBytes 1 c.depth ++ [c.count, c.last] ++ leBytes 1 (c.torn.toNat + 2 * (inReset m c.owner).toNat) ++ [0#8]

/-- DIAG_CROSS_STATUS. -/
def execDiagCrossStatus (h : Hdr) (s : State) : Out := s.run (service 0x0E03 h lvHost (fun _ => [reserved [h.p0, h.p1, h.p2, h.p3]])
  (fun m => reply h stOk 0 (m.clk.crossings.flatMap (crossBytes m)) m))

/-- A line that keeps a memory test from its frame (R935). -/
def Line.busyForTest (l : Line) : Bool := l.dirty != 0 || l.poison != 0 || l.lock || l.fill

/-- A region of DIAG_MEMTEST covers a DRAM word (Table 14-1). -/
def inRegion (r w : Nat) : Bool := match r with
  | 0 => decide (w < 805306368)
  | 1 => decide (805306368 ≤ w) && decide (w < 809500672)
  | _ => true

/-- A memory test may not start (R935). -/
def memtestBusy (m : Mach) (r : Nat) : Bool :=
  (r != 1 && m.bcm.frames.any (fun e => e.2.busyForTest)) || (r != 0 && m.bcm.attic.any (fun l => l.busyForTest))

/-- The clean lines of a region are invalidated. -/
def memtestClear (r : Nat) (m : Mach) : Mach :=
  { m with
    bcm.frames := if r = 1 then m.bcm.frames else m.bcm.frames.filterMap (fun (e : Nat × Line) => if e.2.retired then some (e.1, { retired := true : Line }) else none)
    bcm.attic := if r = 0 then m.bcm.attic else []
    bcm.moves := [] }

/-- A stretch is rewritten with its corrected content: a word whose stored bits SECDED mends has generated check bits again. -/
def memtestMend (r : Nat) (m : Mach) : Mach :=
  (m.bcm.testWords.filter (fun w => inRegion r w.1)).foldl (fun (m : Mach) (w : Nat × BitVec 64 × BitVec 8) => match Config.secded (w.2.1.zeroExtend 88) w.2.2 with
    | some (d, _) => storeWord w.1 (d.truncate 64) { m with bcm.testWords := m.bcm.testWords.filter (fun x => x.1 != w.1) }
    | none => m) m

/-- DIAG_MEMTEST (R935): the errors that the test finds, and the first failing address. -/
def execDiagMemtest (h : Hdr) (errors first : BitVec 64) (s : State) : Out := s.run (service 0x0E01 h lvMaint
  (fun m => [(m.sup.mode != .service, stWrongMode), reserved [h.p3], (decide (2 < h.p0.toNat) || decide (2 < h.p1.toNat), stBadParam)])
  (fun m =>
    if memtestBusy m h.p0.toNat then reply h stBusy 0 [] m
    else reply h stOk 0 (leBytes 8 errors.toNat ++ leBytes 8 (if errors = 0 then BitVec.allOnes 64 else first).toNat)
      (memtestMend h.p0.toNat (memtestClear h.p0.toNat m))))

/-- The named bits as a mask: the first, and the second unless it is 0xFF. -/
def injectMask (p3 : Reg) : Nat :=
  let b0 := field p3 0 8
  let b1 := field p3 8 8
  if b1 = 0xFF then 2 ^ b0 else Nat.xor (2 ^ b0) (2 ^ b1)

/-- Data and check bits of a target of DIAG_ECC_INJECT. -/
def injectWidth (target : Nat) (check : Bool) : Nat := match target, check with
  | 0, false => 64
  | 0, true => 8
  | 1, false => 88
  | 1, true => 8
  | _, false => 32
  | _, true => 7

/-- The parameters of DIAG_ECC_INJECT name a target, an address or row that it has, and bits of its word. -/
def injectOk (h : Hdr) : Bool :=
  let w := injectWidth h.p0.toNat (bit h.p3 16)
  let addr := h.p1.toNat + 2 ^ 32 * h.p2.toNat
  decide (h.p0.toNat ≤ 3) && field h.p3 17 15 == 0 && decide (field h.p3 0 8 < w) && (field h.p3 8 8 == 0xFF || decide (field h.p3 8 8 < w))
    && (match h.p0.toNat with
        | 0 => decide (addr < visibleBytes) && addr % 8 == 0
        | 1 => decide (addr < tagRows)
        | _ => decide (addr < 4128))

/-- Flip bits of a control-store row. -/
def injectRow (a : Act) (r : Nat) (check : Bool) (mask : Nat) (m : Mach) : Mach := m.onCfx a (fun c =>
  let x := c.row r
  c.setRow r (if check then ⟨x.data, some (x.checkBits ^^^ BitVec.ofNat 7 mask)⟩ else ⟨x.data ^^^ BitVec.ofNat 32 mask, some x.checkBits⟩))

/-- DIAG_ECC_INJECT (R936): the named bits of the stored word are flipped; nothing else changes. -/
def execDiagEccInject (h : Hdr) (s : State) : Out := s.run (service 0x0E02 h lvMaint
  (fun m => [(m.sup.mode != .service, stWrongMode), (!injectOk h, stBadParam)])
  (fun m =>
    let mask := injectMask h.p3
    let chk := bit h.p3 16
    let addr := h.p1.toNat + 2 ^ 32 * h.p2.toNat
    reply h stOk 0 [] (match h.p0.toNat with
      | 0 =>
        let b := wordBits m (addr / 8)
        if chk then putWordBits (addr / 8) b.1 (b.2 ^^^ BitVec.ofNat 8 mask) m else putWordBits (addr / 8) (b.1 ^^^ BitVec.ofNat 64 mask) b.2 m
      | 1 =>
        let b := tagBits m addr
        if chk then putTagBits addr b.1 (b.2 ^^^ BitVec.ofNat 8 mask) m else putTagBits addr (b.1 ^^^ BitVec.ofNat 88 mask) b.2 m
      | 2 => injectRow .a0 addr chk mask m
      | _ => injectRow .a1 addr chk mask m)))

end Sys2Proof.Machine
end

