-- ==== Sys2Proof/Machine/Servo.lean ====
section
/-! DEFINITION. Meanings of the servo control engine's events and requests (spec/07_servo_control.md). An event whose stated condition
does not hold changes nothing (log entry 5). -/

namespace Sys2Proof.Machine

/-! ### The position cycle -/

/-- PES taken modulo 2^32 into the signed range and clipped to ±2^23 (R352). -/
def pesOf (target sample : Int) : Int := clampInt (-8388608) 8388608 ((target - sample + 2147483648) % 4294967296 - 2147483648)

/-- The position sample (R347): the word of the latest valid window of the cycle, advanced by the velocity over the 250 ns of each window since. -/
def positionSample (c : SrvCtl) : Int :=
  match c.cycWord with
  | some w => (w.toNat : Int) + (c.vEst * c.cycAge).tdiv 4
  | none => c.xEst

/-- An entry of the selected head's repetitive-controller table (R388). -/
def rroAt (c : SrvCtl) (head b : Nat) : Int := assoc 0 c.rro (1024 * head + b % 1024)

/-- The reference target in force (R351, R391): the table acts in SETTLE and FOLLOW. -/
def cycleTarget (m : Mach) (a : Act) (angle : Nat) : Int :=
  let c := m.srv.get a
  let t := if c.st == .settle || c.st == .follow then rroAt c c.head.toNat (angle / 64 + c.lead.toNat) else 0
  targetOf m a c.head.toNat c.tgtTrack.toNat angle + t

/-- The entries of a trajectory table: DTG, VREF, IFF (Table 7-7). -/
def trajOf (m : Mach) (a : Act) (set : Bool) : List (Nat × Nat × Int) :=
  match recKeyed m (srvTy a 0x09) (recKey a.idx 0xFF 0xFF set.toNat) with
  | some v => (List.range (fieldAt v 4 2)).map (fun i => (fieldAt v (8 + 12 * i) 4, fieldAt v (12 + 12 * i) 4, fieldAtS v (16 + 12 * i) 2))
  | none => []

/-- VREF and IFF at a distance: linear between entries, the last entry's values beyond it (R369). -/
def trajAt (d : Nat) : List (Nat × Nat × Int) → Int × Int
  | [] => (0, 0)
  | [(_, v, i)] => (v, i)
  | (x, v, i) :: (y, w, j) :: r =>
    if d < y then (lerp v w ((d : Int) - x) ((y : Int) - x), lerp i j ((d : Int) - x) ((y : Int) - x))
    else trajAt d ((y, w, j) :: r)
where
  /-- linear interpolation, truncated -/
  lerp (p q num den : Int) : Int := if den = 0 then p else p + ((q - p) * num).tdiv den

/-- The seek set-point before feed-forward (R369). -/
def seekSetpoint (m : Mach) (a : Act) (target : Int) : Int :=
  let c := m.srv.get a
  let dtg := target - c.xEst
  let sg := dtg.sign
  let t := trajAt dtg.natAbs (trajOf m a c.trajNow)
  let i := t.2 + ((kvGain m a : Int) * (t.1 - 256 * (c.vEst * sg))).tdiv 2560
  let lim : Int := iSeekMax m a
  sg * clampInt (-lim) lim i

/-- A feed-forward filter: its state and output (R395 to R397). -/
def feedForward (c : SrvCtl) (base : Nat) (on : Bool) (u : Int) (s : Comp) : Comp × Int :=
  if on then
    let q := runBiquad c base (toAcc u) s
    (q, loopOut (c.word base) q.yLast 32767)
  else (s, 0)

/-- The other actuator's set-point as the feed-forward sees it: 0 through an island that is in reset or torn (R194, R195, R395). -/
def otherSetpoint (m : Mach) (a : Act) : Int :=
  match (m.srv.get a.other).st with
  | .opened | .retract => 0
  | _ => if inReset m (.act a.other) || m.clk.ffTorn.get a.other then 0 else (m.srv.get a.other).isp

/-- The microactuator's update (R358, R393): active in SETTLE and FOLLOW with MA_EN. -/
def microUpdate (m : Mach) (a : Act) (c : SrvCtl) : SrvCtl :=
  if c.maEn && (c.st == .settle || c.st == .follow) then
    let base := bankBase 3 (c.bankOf .micro)
    let q := runBiquad c base (toAcc c.pes) (c.primed .micro base (toAcc c.pes) c.cMa)
    { c.due .micro false with cMa := q, vma := loopOut (c.word base) q.yLast (maVmax m a), maActive := true }
  else { c with vma := 0, maActive := false, cMa := {} }

/-- The position compensator's set-point before feed-forward (R354 to R358). -/
def positionUpdate (m : Mach) (a : Act) (c : SrvCtl) : SrvCtl :=
  let base := bankBase 1 (c.bankOf .position)
  let x := toAcc (c.pes + ((maStroke m a : Int) * c.vma).tdiv 1000)
  let q := runPosition c base x (c.primed .position base x c.cPos)
  { c.due .position false with cPos := q, ispBase := loopOut (c.word base) q.yLast 32767 }

/-- The clamp of the set-point (R359). -/
def clampOf (m : Mach) (a : Act) (c : SrvCtl) : Int :=
  match c.st with
  | .seek => iSeekMax m a
  | .hold => linMax m a
  | _ => if c.pwm then iSeekMax m a else linMax m a

/-- The set-point of SEEK before feed-forward: on the ramp by the back-EMF velocity, whose law the spec leaves open, else by the trajectory (R369, R376,
R378). -/
def seekBase (m : Mach) (a : Act) (target : Int) : Int :=
  let c := m.srv.get a
  if c.bemfRef = 0 then seekSetpoint m a target else clampInt (-(iSeekMax m a : Int)) (iSeekMax m a) (Config.bemfLoop c.bemfRef c.imeas)

/-- Compute the set-point of a cycle (R353, R354, R358, R369, R379, R395 to R397): the position compensator takes the microactuator voltage in force,
which the cycle then renews. -/
def computeSetpoint (m : Mach) (a : Act) (target vib : Int) (c : SrvCtl) : SrvCtl :=
  match c.st with
  | .opened | .retract => c
  | .hold => { c with ispBase := c.holdI, isp := clampInt (-(linMax m a : Int)) (linMax m a) c.holdI, sat := false }
  | _ =>
    let c := if c.st == .seek then { c with ispBase := seekBase m a target } else positionUpdate m a c
    let c := microUpdate m a c
    let x := feedForward c 0x2000 c.xffEn (otherSetpoint m a) c.cXff
    let r := feedForward c 0x2040 c.rvffEn vib c.cRvff
    let sum := c.ispBase + x.2 + r.2
    let lim := clampOf m a c
    { c with cXff := x.1, cRvff := r.1, xffActive := c.xffEn, rvffActive := c.rvffEn, isp := clampInt (-lim) lim sum, sat := decide (lim < sum.natAbs) }

/-- The set-point hand-off (R348, R350): a phase beyond 187 keeps the previous set-point, counts and reports event 0x59; two in a
row are write-unsafe, released after 64 clean cycles. -/
def handOff (a : Act) (phase : Nat) (old : SrvCtl) (m : Mach) : Mach :=
  if phase ≤ 187 then
    m.onSrv a (fun c => { c with
      spLast := BitVec.ofNat 8 phase, spMax := if c.spMax.toNat < phase then BitVec.ofNat 8 phase else c.spMax
      ovrRun := 0, ovrClean := c.ovrClean + 1, wusOvr := c.wusOvr && decide (c.ovrClean + 1 < 64) })
  else
    let m := m.onSrv a (fun c => { c with
      spLast := BitVec.ofNat 8 phase, spMax := if c.spMax.toNat < phase then BitVec.ofNat 8 phase else c.spMax
      isp := old.isp, ispBase := old.ispBase
      ovrRun := c.ovrRun + 1, ovrClean := 0, ovrCnt := c.ovrCnt.inc, wusOvr := c.wusOvr || decide (1 ≤ c.ovrRun) })
    report (actCode 0x0459 a) (onHead a (m.srv.get a).head.toNat) (leBytes 1 phase) m

/-- The microactuator's saturation count (R394). -/
def microSat (a : Act) (m : Mach) : Mach :=
  let c := m.srv.get a
  let at_ := c.maActive && decide ((maVmax m a : Int) ≤ c.vma.natAbs)
  let n := if at_ then c.maRun + 1 else 0
  let m := m.onSrv a (fun c => { c with maRun := n })
  if n = 100 then report (actCode 0x0457 a) (onHead a c.head.toNat) (leBytes 2 (twosComp 2 c.vma)) m else m

/-- The driver conditions of the cycle (R360). -/
def driverClean (c : SrvCtl) : SrvCtl :=
  let n := if c.drvBad then 0 else c.drvClean + 1
  { c with drvBad := false, drvClean := n, wusDrv := c.wusDrv && decide (n < 64) }

/-- Update the table entry of the previous bin from the means of three bins, each a sum over a number of samples (R389): the exact result is truncated
toward zero and clipped. -/
def learnBin (c : SrvCtl) (b : Nat) (mean : Option (Int × Nat)) : SrvCtl :=
  match c.m2, c.m1, mean with
  | some x, some y, some z =>
    let k := 1024 * c.head.toNat + (b + 1023) % 1024
    let den : Int := x.2 * y.2 * z.2 * 4 * 2 ^ c.learnN.toNat
    let num : Int := x.1 * y.2 * z.2 + 2 * y.1 * x.2 * z.2 + z.1 * x.2 * y.2
    let lim : Int := c.rroLimit.toNat
    { c with rro := assocSet 0 c.rro k (clampInt (-lim) lim ((assoc 0 c.rro k * den + num).tdiv den)) }
  | _, _, _ => c

/-- The end of a bin and the sample of the present one (R388 to R390); bins that do not follow one another are no neighbours. -/
def rroSample (learn : Bool) (b : Nat) (c : SrvCtl) : SrvCtl :=
  let c := if b = c.bin then c
    else
      let mean := if c.binBad || c.binCnt = 0 then none else some (c.binSum, c.binCnt)
      let c := if learn then learnBin c c.bin mean else c
      let next := learn && decide (b = (c.bin + 1) % 1024)
      { c with bin := b, m2 := if next then c.m1 else none, m1 := if next then mean else none, binSum := 0, binCnt := 0, binBad := false, switched := c.switched && decide (c.bin < b) }
  { c with binSum := c.binSum + c.pes, binCnt := c.binCnt + 1, rroLearn := learn }

/-- Learning conditions (R390). -/
def learning (m : Mach) (a : Act) : Bool :=
  let c := m.srv.get a
  let r := m.srvRef.get a
  c.st == .follow && r.indexValid && r.markOk && !c.freeze && !c.switched

/-- The first entry to FOLLOW of a power cycle reads the tables back (R392): a table of a head whose check fails starts from zero with
event 0x5A. -/
def loadRro (a : Act) (bad : BitVec 12) (m : Mach) : Mach :=
  if (m.srv.get a).rroLoaded then m
  else
    let m := m.onSrv a (fun c => { c with rroLoaded := true, rro := c.rroSaved.filter (fun e => !bad.getLsbD (e.1 / 1024)) })
    ((List.range 12).filter (fun h => bad.getLsbD h && dataHead m a h)).foldl
      (fun m h => report (actCode 0x045A a) (onHead a h) (leBytes 1 h) m) m

/-- Entry to FOLLOW (R367, R376, R392, R407); after a load, commands for heads with no forced calibration to run are released (R231). -/
def enterFollow (a : Act) (bad : BitVec 12) (m : Mach) : Mach :=
  let load := (m.srv.get a).loadTry != 0
  let m := m.onSrv a (fun c => { c.enter .follow with phase := .track, loadTry := 0, loadFailed := false })
  let m := answerClose a stOk (loadRro a bad m)
  modeAdvance (seekSettled a (ifDo load (fun m => releaseHeldDo (calOnLoad a m)) m))

/-- SETTLE to FOLLOW (R367): |PES| within SETTLE_LIMIT for SETTLE_N samples. -/
def settleTest (a : Act) (bad : BitVec 12) (m : Mach) : Mach :=
  let c := m.srv.get a
  if c.st != .settle then m
  else
    let n := if c.pes.natAbs ≤ settleLimit m a then c.settleRun + 1 else 0
    let m := m.onSrv a (fun c => { c with settleRun := n, pesMax := if c.pesMax < c.pes.natAbs then c.pes.natAbs else c.pesMax })
    if settleN m a ≤ n then enterFollow a bad m else m

/-- The end of a SEEK's way (R367, R369, R376, R378): once the reference is acquired a load leaves the back-EMF velocity for the trajectory; within
SETTLE_WIN of the target the unit settles, and an unload, at the outermost track, goes up the ramp. -/
def seekTest (a : Act) (target : Int) (m : Mach) : Mach :=
  let c := m.srv.get a
  if c.st == .seek && (m.srvRef.get a).acquired && (m.srvRef.get a).indexValid then
    let near := decide ((target - c.xEst).natAbs ≤ settleWin m a)
    if c.phase == .unload then (if near then m.onSrv a (fun c => { c with bemfRef := -(loadBemf m a : Int) }) else m)
    else if near then enterSettle a m
    else m.onSrv a (fun c => { c with bemfRef := 0 })
  else m

/-- The on-track signals (R320, R335, R368) and what they release (R402, R403); ON_TRACK_W is judged without the write-unsafe of R403
that it is to release (log entry 17). -/
def onTrack (a : Act) (m : Mach) : Mach :=
  let c := m.srv.get a
  let r := m.srvRef.get a
  let run := if c.pes.natAbs ≤ writeLimit m a then c.writeRun + 1 else 0
  let fol := c.st == .follow && r.indexValid
  let quiet := !writeUnsafe (m.onSrv a (fun c => { c with wusOff := false })) a
  let w := fol && r.alignTrust && !c.pwm && quiet && decide (writeN m a ≤ run)
  let m := m.onSrv a (fun c => { c with
    writeRun := run, onTrackR := fol && decide (c.pes.natAbs ≤ readLimit m a), onTrackW := w
    wusOff := c.wusOff && !w, shockWi := c.shockWi && !(c.shockHeld && w), shockHeld := c.shockHeld && !w })
  refreshInhibit a m

/-- Off-track during a write (R403). -/
def offTrackTest (a : Act) (m : Mach) : Mach :=
  let c := m.srv.get a
  if (m.hif.get a).wgate && decide (writeLimit m a < c.pes.natAbs) && !c.wusOff then
    let m := m.onSrv a (fun c => { c with wusOff := true, offTrkCnt := c.offTrkCnt.inc, onTrackW := false })
    refreshInhibit a (report (actCode 0x0453 a) (onHead a c.head.toNat) (leBytes 4 (twosComp 4 c.pes) ++ leBytes 3 c.tgtTrack.toNat) m)
  else m

/-- POSITION_CYCLE (R345 to R350, R351 to R359, R366 to R369, R388 to R397, R403): the phase at which the set-point was written, the
two accelerometer channels, whose difference is the vibration input (R396), the angle after the mark in 1/65,536 revolution, and the heads whose saved table fails its check when the tables are
read back at this cycle. -/
def execPositionCycle (a : Act) (phase : BitVec 8) (acc0 acc1 : Int) (angle : BitVec 16) (rroBad : BitVec 12) (s : State) : Out := s.runCut (fun m =>
  match (m.srv.get a).st with
  | .opened | .retract => m
  | _ =>
    if inReset m (.act a) then m
    else
      let old := m.srv.get a
      let target := cycleTarget m a angle.toNat
      let m := m.onSrv a (fun c => { c with angle := angle, pes := pesOf target (positionSample c) })
      let m := m.onSrv a (computeSetpoint m a target (acc0 - acc1))
      let m := handOff a phase.toNat old m
      let m := microSat a (m.onSrv a driverClean)
      let m := m.onSrv a (rroSample (learning m a) (angle.toNat / 64))
      let m := onTrack a (offTrackTest a m)
      let m := settleTest a rroBad (seekTest a target m)
      m.onSrv a (fun c => { c with cycWord := none, cycAge := 0 }))

/-! ### The current loop -/

/-- CURRENT_LOOP_SAMPLE (R346, R359, R360): the measured current, and whether the driver's limit acts. In linear mode the clamp keeps the set-point within
LIN_MAX, so that one which the clamp has cut counts as exceeding it (DEDUCED, log entry 103). -/
def execCurrentLoopSample (a : Act) (imeas : Int) (limited : Bool) (s : State) : Out := s.runCut (fun m =>
  match (m.srv.get a).st with
  | .opened | .retract => m.onSrv a (fun c => { c with imeas := imeas })
  | _ =>
    let m := m.onSrv a (fun c =>
      let base := bankBase 0 (c.bankOf .current)
      let x := toAcc (c.isp - imeas)
      let q := runBiquad c base x (c.primed .current base x c.cCur)
      let small := decide (c.isp.natAbs ≤ linMax m a) && !(c.sat && !c.pwm)
      let n := if small then c.linRun + 1 else 0
      let mode := match c.st with
        | .seek => true
        | .hold => false
        | _ => if small then c.pwm && decide (n < 16) else true
      let far := decide (3000 < (imeas - c.isp).natAbs)
      { c.due .current false with
        imeas := imeas, cCur := q, drive := loopOut (c.word base) q.yLast 32767, linRun := n, pwm := mode
        drvRun := if far then c.drvRun + 1 else 0 })
    let c := m.srv.get a
    if limited || decide (8 ≤ c.drvRun) then
      let m := m.onSrv a (fun c => { c with drvBad := true, drvClean := 0 })
      if c.wusDrv then m
      else
        let m := report (actCode 0x0458 a) (onHead a c.head.toNat) (leBytes 2 (twosComp 2 c.imeas) ++ leBytes 2 (twosComp 2 c.isp))
          (m.onSrv a (fun c => { c with wusDrv := true }))
        refreshInhibit a m
    else m)

/-- BANK_SELECT (R363 to R366, R407): the pending selection of a loop takes effect at its sample boundary, and the loop's next sample starts from the
preset; the position loop's in SEEK or HOLD at the entry of R365. A waiting request is answered. -/
def execBankSelect (a : Act) (l : Loop) (s : State) : Out := s.run (fun m =>
  let c := m.srv.get a
  match c.bankPend.getD l.idx none with
  | none => m
  | some k =>
    let m := m.onSrv a (fun c =>
      { c.due l true with banksel := updAt c.banksel l.idx (fun _ => k), bankPend := updAt c.bankPend l.idx (fun _ => none) })
    let done := c.bankReqs.filter (fun q => q.2 == l.idx)
    let m := m.onSrv a (fun c => { c with bankReqs := c.bankReqs.filter (fun q => q.2 != l.idx) })
    done.foldl (fun m q => reply q.1 stOk 0 [] m) m)

/-! ### Seeks, load, unload, HOLD -/

/-- SEEK_TIMEOUT (R372): event 0x51, seek failure, and SETTLE on the nearest data track. -/
def execSeekTimeout (a : Act) (s : State) : Out := s.run (fun m =>
  let c := m.srv.get a
  if c.st != .seek || c.phase == .unload || !(m.srvRef.get a).acquired then m
  else
    let dtg := (targetOf m a c.head.toNat c.tgtTrack.toNat c.angle.toNat - c.xEst).natAbs
    let m := report (actCode 0x0451 a) (onHead a c.head.toNat) (leBytes 3 c.tgtTrack.toNat ++ leBytes 4 dtg) m
    let t := nearestTrack m a c.head.toNat (c.xEst + offsetAt m a c.head.toNat c.tgtTrack.toNat c.angle.toNat)
    seekSettled a (enterSettle a (m.onSrv a (fun c => { c with seekFailed := true, tgtTrack := BitVec.ofNat 21 t }))))

/-- SETTLE_TIMEOUT (R373): event 0x52 once; the unit stays in SETTLE. -/
def execSettleTimeout (a : Act) (s : State) : Out := s.run (fun m =>
  let c := m.srv.get a
  if c.st == .settle && !c.settleLate then
    report (actCode 0x0452 a) (onHead a c.head.toNat) (leBytes 4 c.pesMax) (m.onSrv a (fun c => { c with settleLate := true }))
  else m)

/-- LOAD_ATTEMPT_FAIL (R377): reason 1 acquisition failed, 2 no amplitude; the unit unloads and tries again, or reports event 0x50. -/
def execLoadAttemptFail (a : Act) (reason : BitVec 8) (s : State) : Out := s.run (fun m =>
  let c := m.srv.get a
  if c.st != .seek || c.phase != .load || (m.srvRef.get a).acquired || (reason != 1 && reason != 2) then m
  else
    let again := decide (c.loadTry ≤ loadRetry m a)
    let m := m.onSrv a (fun c => { c with phase := .unload, bemfRef := -(loadBemf m a : Int), loadReason := reason, loadAgain := again, loadFailed := !again })
    if again then m
    else answerClose a stHwFault (report (actCode 0x0450 a) (onHead a c.head.toNat) (leBytes 1 c.loadTry ++ leBytes 1 reason.toNat) m))

/-- Heads wanted again after they have reached the ramp (R207, R377). -/
def afterOpen (a : Act) (m : Mach) : Mach :=
  let c := m.srv.get a
  if c.loadAgain then
    loadTo a c.tgtHead.toNat c.tgtTrack.toNat (m.onSrv a (fun c => { c with loadTry := c.loadTry + 1 }))
  else modeAdvance (if c.loadFailed || c.reload then m else loadWanted m)

/-- UNLOAD_COMPLETE (R378): the heads are at rest on the ramp. -/
def execUnloadComplete (a : Act) (s : State) : Out := s.run (fun m =>
  if (m.srv.get a).st == .seek && (m.srv.get a).phase == .unload then
    afterOpen a (moduleResetAfterRetract (enterOpen a m))
  else m)

/-- HOLD_END (R365, R380, R381): 0 at the request's end, 1 at HOLD_TMAX, 2 when the position leaves the window; FOLLOW on the nearest
data track by a preset with the HOLD current. A waiting seek then starts. -/
def execHoldEnd (a : Act) (why : BitVec 8) (s : State) : Out := s.run (fun m =>
  let c := m.srv.get a
  if c.st != .hold || decide (2 < why.toNat) then m
  else
    let t := nearestTrack m a c.head.toNat (c.xEst + offsetAt m a c.head.toNat c.tgtTrack.toNat c.angle.toNat)
    let m := m.onSrv a (fun c => { (c.enter .follow).takeOver c.holdI with tgtTrack := BitVec.ofNat 21 t, tgtHead := c.head })
    let m := ifDo (why != 0) (report (actCode 0x045B a) (onHead a c.head.toNat) (leBytes 1 why.toNat)) m
    let m := answerHold a stOk why.toNat m
    match c.seekWait with
    | some (h, t) => seekTo a h.toNat t.toNat (m.onSrv a (fun c => { c with seekWait := none }))
    | none => m)

/-- RETRACT_COMPLETE (R181, R367, R398, R1006): RET_TIME has elapsed; OPEN, and a reset that waited for the retract follows. -/
def execRetractComplete (a : Act) (s : State) : Out := s.run (fun m =>
  if (m.srv.get a).st != .retract then m
  else
    let m := lossSupply a (enterOpen a m)
    let m := ifDo (m.clk.resetWait.getLsbD (Group.bitNo (.act a))) (resetAct a) m
    modeAdvance (moduleResetAfterRetract m))

/-- RELOAD_AFTER_RETRACT (R401): after cause 2 or 3, with FLY_OK and 100 ms without shock, as the mode in force requires. -/
def execReloadAfterRetract (a : Act) (s : State) : Out := s.run (fun m =>
  if (m.srv.get a).reload && (m.srv.get a).st == .opened && m.spn.flyOk && !(m.srv.get a).shockWi && wantsHeads m then
    load a (m.onSrv a (fun c => { c with reload := false }))
  else m)

/-- SHOCK_RET (R400): the peak in 0.1 g; a calibration on the actuator is abandoned. -/
def execShockRet (a : Act) (peak : BitVec 16) (s : State) : Out := s.run (fun m =>
  if peak.toNat ≤ 10 * shockRetLim m a || !loaded m a then m else retract a 2 m)

/-- SHOCK_WI (R402): writing is inhibited, event 0x54 with the peak in 0.1 g. -/
def execShockWi (a : Act) (peak : BitVec 16) (s : State) : Out := s.runCut (fun m =>
  if peak.toNat ≤ 10 * shockWiLim m a then m
  else
    let m := m.onSrv a (fun c => { c with shockWi := true, shockHeld := false })
    refreshInhibit a (report (actCode 0x0454 a) (onHead a (m.srv.get a).head.toNat) (leBytes 2 peak.toNat) m))

/-- SHOCK_HOLD_EXPIRY (R402): the inhibit ends once ON_TRACK_W holds. -/
def execShockHoldExpiry (a : Act) (s : State) : Out := s.run (fun m =>
  if (m.srv.get a).shockWi then
    refreshInhibit a (m.onSrv a (fun c => if c.onTrackW then { c with shockWi := false, shockHeld := false } else { c with shockHeld := true }))
  else m)

/-! ### Repetitive controller and register strobes -/

/-- Save the tables of an actuator in the reserved media area (R392). -/
def saveTables (a : Act) (m : Mach) : Mach := m.onSrv a (fun c => { c with rroSaved := c.rro })

/-- Zero the selected head's table (Table 7-13 CLEAR). -/
def clearTable (a : Act) (m : Mach) : Mach := m.onSrv a (fun c => { c with rro := c.rro.filter (fun e => e.1 / 1024 != c.head.toNat) })

/-- RROCTL_SAVE (R392, Table 7-13): ignored outside FOLLOW. -/
def execRroctlSave (a : Act) (s : State) : Out := s.run (fun m => if (m.srv.get a).st == .follow then saveTables a m else m)

/-- RROCTL_CLEAR (R388, Table 7-13). -/
def execRroctlClear (a : Act) (s : State) : Out := s.run (clearTable a)

/-- TCLR (Table 7-13). -/
def execTclr (a : Act) (s : State) : Out := s.run (fun m => m.onSrv a (fun c => { c with spMax := 0 }))

/-! ### Registers of Table 7-11 and Table 6-7 that a request returns -/

/-- SRVn.CTLSTAT (Table 7-11). -/
def ctlStatReg (c : SrvCtl) : Reg := packReg [
  ⟨27, 1, c.ovrCnt.ovf.toNat⟩, ⟨26, 1, c.retractCnt.ovf.toNat⟩, ⟨25, 1, c.offTrkCnt.ovf.toNat⟩, ⟨24, 1, c.seekCnt.ovf.toNat⟩,
  ⟨20, 4, c.head.toNat⟩, ⟨19, 1, (c.wusOvr || c.wusDrv || c.wusOff).toNat⟩, ⟨18, 1, c.shockWi.toNat⟩, ⟨17, 1, c.retSrc.toNat⟩,
  ⟨16, 1, c.retActive.toNat⟩, ⟨15, 1, c.onTrackW.toNat⟩, ⟨14, 1, c.onTrackR.toNat⟩, ⟨13, 1, c.pwm.toNat⟩, ⟨12, 1, c.maActive.toNat⟩,
  ⟨11, 1, c.rroLearn.toNat⟩, ⟨10, 1, c.xffActive.toNat⟩, ⟨9, 1, c.rvffActive.toNat⟩, ⟨8, 1, c.sat.toNat⟩, ⟨6, 2, c.phase.code⟩, ⟨0, 3, c.st.code⟩]
/-- SRVn.PES. -/
def pesReg (c : SrvCtl) : Reg := BitVec.ofInt 32 c.pes
/-- SRVn.ICMD. -/
def icmdReg (c : SrvCtl) : Reg := packReg [⟨16, 16, twosComp 2 c.imeas⟩, ⟨0, 16, twosComp 2 c.isp⟩]
/-- SRVn.CORR. -/
def corrReg (c : SrvCtl) : Reg := packReg [⟨16, 16, twosComp 2 c.vma⟩, ⟨0, 16, twosComp 2 c.alignC⟩]
/-- SRVn.REFSTAT (Table 6-7). -/
def refStatReg (r : SrvRef) : Reg := packReg [
  ⟨19, 1, r.amissCnt.ovf.toNat⟩, ⟨18, 1, r.fbCnt.ovf.toNat⟩, ⟨17, 1, r.invCnt.ovf.toNat⟩, ⟨16, 1, r.wusPos.toNat⟩, ⟨15, 1, r.alignTrust.toNat⟩,
  ⟨14, 1, r.indexValid.toNat⟩, ⟨13, 1, r.acquired.toNat⟩, ⟨12, 1, r.markOk.toNat⟩, ⟨10, 2, r.setInUse.toNat⟩, ⟨9, 1, r.bOk.toNat⟩, ⟨8, 1, r.aOk.toNat⟩]

/-! ### Service requests (R407) -/

/-- P0 must name an actuator. -/
def badAct (h : Hdr) : Bool × Nat := (decide (1 < h.p0.toNat), stBadParam)
/-- The actuator of P0. -/
def actOf (h : Hdr) : Act := if h.p0 = 0 then .a0 else .a1

/-- SRV_GET_STATE (Table 7-5, R530). -/
def execSrvGetState (h : Hdr) (s : State) : Out := s.run
  (service 0x0501 h lvHost (fun _ => [reserved [h.p1, h.p2, h.p3], badAct h])
    (fun m =>
      let c := m.srv.get (actOf h)
      let r := m.srvRef.get (actOf h)
      reply h (if calHolds m (actOf h) then stStale else stOk) 0
        (regBytes [ctlStatReg c, pesReg c, icmdReg c, corrReg c, r.pos, refStatReg r]) m))

/-- The words a loop keeps of a bank (Table 7-8): section F and the notches only in the position loop. -/
def keepsWord (l i : Nat) : Bool := l == 1 || i == 0 || (decide (4 ≤ i) && decide (i ≤ 8))

/-- SRV_LOAD_BANK (Table 7-5, R362): the 64 words of one bank, in OPEN only. -/
def execSrvLoadBank (h : Hdr) (payload : List Byte) (s : State) : Out := s.run
  (service 0x0502 h lvMaint
    (fun m =>
      let w := fun i => fieldAt payload (4 * i) 4
      [(decide (h.p0.toNat ≤ 1) && (m.srv.get (actOf h)).st != .opened, stLoopClosed), reserved [h.p3], badAct h,
       (decide (3 < h.p1.toNat) || decide (3 < h.p2.toNat), stBadParam), (payload.length != 256, stBadLength),
       (w 0 < 2 ^ 31 || w 0 / 16 % 2 ^ 27 != 0 || (List.range 25).any (fun i => w (39 + i) != 0), stBadParam)])
    (fun m =>
      let base := bankBase h.p1.toNat h.p2.toNat
      reply h stOk 0 [] (m.onSrv (actOf h) (fun c => { c with
        words := (List.range 39).foldl (fun ws i => if keepsWord h.p1.toNat i then assocSet 0#32 ws (base + 4 * i) (BitVec.ofNat 32 (fieldAt payload (4 * i) 4)) else ws) c.words }))))

/-- SRV_SELECT_BANK (Table 7-5, R363, R364): the reply follows the switch. -/
def execSrvSelectBank (h : Hdr) (s : State) : Out := s.run
  (service 0x0503 h lvMaint
    (fun m => [reserved [h.p3], badAct h, (decide (3 < h.p1.toNat) || decide (3 < h.p2.toNat), stBadParam),
      (!(m.srv.get (actOf h)).bankValid h.p1.toNat h.p2.toNat, stBadParam), ((m.srv.get (actOf h)).st == .retract, stBusy)])
    (fun m => m.onSrv (actOf h) (fun c => { c with
      bankPend := updAt c.bankPend h.p1.toNat (fun _ => some (BitVec.ofNat 2 h.p2.toNat)), bankReqs := c.bankReqs ++ [(h, h.p1.toNat)] })))

/-- SRV_OPEN_LOOP (Table 7-5): the reply follows entry to OPEN. -/
def execSrvOpenLoop (h : Hdr) (s : State) : Out := s.run
  (service 0x0504 h lvMaint
    (fun m => [(m.sup.mode != .service, stWrongMode), reserved [h.p1, h.p2, h.p3], badAct h])
    (fun m =>
      let a := actOf h
      if (m.srv.get a).st == .opened then reply h stOk 0 [] m
      else unload a (m.onSrv a (fun c => { c with openReqs := c.openReqs ++ [h], loadAgain := false }))))

/-- SRV_CLOSE_LOOP (Table 7-5): loads to FOLLOW on the head and track; the reply follows. Slot 0 of the record is programmed before (R93, R98); while
the record is unresolved the request is refused (log entry 80). -/
def execSrvCloseLoop (h : Hdr) (s : State) : Out := s.run
  (service 0x0505 h lvMaint
    (fun m => [(m.sup.mode != .service || !m.spn.atSpeed || !m.spn.flyOk || !(recordOpen m || shutOver m)
        || (decide (h.p0.toNat ≤ 1) && (m.srv.get (actOf h)).st != .opened), stWrongMode),
      reserved [h.p3], badAct h, (!dataHead m (actOf h) h.p1.toNat, stBadParam), (regionOfTrack m (actOf h) h.p1.toNat h.p2.toNat == none, stBadParam)])
    (fun m =>
      let a := actOf h
      let m := ifDo (shutOver m) resolveAgain m
      if !recordOpen m then reply h stHwFault 0 [] m
      else loadTo a h.p1.toNat h.p2.toNat (m.onSrv a (fun c => { c with closeReq := some (h, BitVec.ofNat 4 h.p1.toNat, BitVec.ofNat 21 h.p2.toNat) }))))

/-- SRV_RRO_CONTROL (Table 7-5, Table 18-6): 0 FREEZE, 1 LEARN, 2 CLEAR, 3 SAVE in FOLLOW, 4 SET. -/
def execSrvRroControl (h : Hdr) (s : State) : Out := s.run
  (service 0x0506 h lvMaint
    (fun m => [(decide (h.p0.toNat ≤ 1) && h.p1 == 3 && (m.srv.get (actOf h)).st != .follow, stWrongMode), reserved [h.p3], badAct h,
      (decide (4 < h.p1.toNat), stBadParam), (h.p1 != 4 && h.p2 != 0, stBadParam),
      (h.p1 == 4 && (h.p2 &&& ~~~(0xF0F#32) != 0 || decide (field h.p2 0 4 < 4) || decide (12 < field h.p2 0 4)), stBadParam)])
    (fun m =>
      let a := actOf h
      reply h stOk 0 [] (match h.p1.toNat with
        | 0 => m.onSrv a (fun c => { c with freeze := true })
        | 1 => m.onSrv a (fun c => { c with freeze := false })
        | 2 => clearTable a m
        | 3 => saveTables a m
        | _ => m.onSrv a (fun c => { c with learnN := BitVec.ofNat 4 (field h.p2 0 4), lead := BitVec.ofNat 4 (field h.p2 8 4) }))))

/-- SRV_SET_CURRENT (R379, Table 7-5): HOLD with HOLD_I, a track window and a duration up to HOLD_TMAX; the reply follows its end. -/
def execSrvSetCurrent (h : Hdr) (s : State) : Out := s.run
  (service 0x0507 h lvMaint
    (fun m => [(m.sup.mode != .service || (decide (h.p0.toNat ≤ 1) && (m.srv.get (actOf h)).st != .follow), stWrongMode), badAct h,
      (decide (h.p1.toInt < -32768) || decide (32767 < h.p1.toInt) || decide (holdTmax m (actOf h) < h.p3.toNat), stBadParam)])
    (fun m =>
      let a := actOf h
      let lim : Int := linMax m a
      let i := clampInt (-lim) lim h.p1.toInt
      m.onSrv a (fun c => { c.enter .hold with holdI := i, isp := i, ispBase := i, cXff := {}, cRvff := {}, holdReq := some ⟨i, h.p2.toNat, h.p3.toNat, some h⟩ })))

end Sys2Proof.Machine
end

