-- ==== Sys2Proof/Machine/Spindle.lean ====
section
/-! DEFINITION. Meanings of the spindle unit's events and requests (spec/05_spindle.md). An event whose stated condition does not
hold changes nothing (log entry 5). -/

namespace Sys2Proof.Machine

/-- The bridge is driven in closed loop or braking: R265 is tested (R266). -/
def SpnState.tested : SpnState → Bool
  | .accel | .run | .brake => true
  | _ => false

/-- Heads retract because the spindle is below flying speed (R280, R296, Table 7-4 cause 0x03). -/
def slowRetract (m : Mach) : Mach := retractBoth 3 m

/-- Speed in 0.01 rpm from the intervals of the last revolution: 36 steps, one step every 62,500,000,000 ÷ speed cycles (R257,
Table 5-9). -/
def speedOf (steps : List Nat) : Nat :=
  let sum := steps.foldl (· + ·) 0
  if sum = 0 then 0 else satTo (2 ^ 24 - 1) (62500000000 * steps.length / sum)

/-- A measured speed (R279, R280): FLY_OK follows; when it falls with heads loaded, outside the listening window, both actuators
retract and SPN 0x0321 is reported. -/
def setSpeed (sp : Nat) (m : Mach) : Mach :=
  let was := m.spn.flyOk
  let ok := flyOkAt m.spn.targetRpm.toNat sp
  let m := { m with spn.speed := BitVec.ofNat 24 sp, spn.flyOk := ok }
  if was && !ok && !parked m && !m.spn.listen then
    slowRetract (report 0x0321 nowhere (leBytes 3 sp ++ leBytes 2 m.spn.targetRpm.toNat) m)
  else m

/-- RUN is reached: the start is over, and write-unsafe is released with FLY_OK (R294). -/
def spnRun (m : Mach) : Mach :=
  let m := { spnGo .run .step m with spn.starting := false }
  if m.spn.flyOk then spnWusRelease m else m

/-- A failed attempt (R271, R272): SPN 0x0310; after the third, HALTED and SPN 0x0311. The curve is evaluated in STOPPED (R286). -/
def failAttempt (m : Mach) : Mach :=
  let m := report 0x0310 nowhere (leBytes 1 m.spn.attempt ++ leBytes 1 m.spn.st.code) m
  let m := spnGo .stopped .off m
  spnEvaluate (if m.spn.attempt < 3 then { m with spn.retryWait := true }
    else report 0x0311 nowhere [] { m with spn.halted := true, spn.starting := false, spn.retryWait := false })

/-- CATCH_LISTEN_END (R270, Table 5-1): the measured speed in 0.01 rpm, 0 without a zero-crossing. -/
def execCatchListenEnd (speed : BitVec 24) (s : State) : Out := s.run (fun m =>
  if m.spn.st != .catching then m
  else
    let m := setSpeed speed.toNat m
    if speed = 0 then spnGo .align .vector m
    else if atLeastRpm m (spnHandover m) then takeUp .accel .step m
    else
      let m := takeUp .brake .shorted m
      { m with spn.slow := true })

/-- ALIGN_END (R270). -/
def execAlignEnd (s : State) : Out := s.run (fun m =>
  if m.spn.st == .align then
    let m := spnGo .ramp .step m
    { m with spn.rampN := 0, spn.rampSteps := 0, spn.zcSeen := false }
  else m)

/-- RAMP_HANDOVER (R270): twelve consecutive zero-crossings, each within its window, at or above HANDOVER_RPM. -/
def execRampHandover (s : State) : Out := s.run (fun m =>
  if m.spn.st == .ramp && decide (12 ≤ m.spn.zcRun) then takeUp .accel .step (setSpeed (speedOf (m.spn.steps.take 12)) m) else m)

/-- START_ATTEMPT_FAIL (R271, R272). -/
def execStartAttemptFail (s : State) : Out := s.run (fun m =>
  if m.spn.st == .ramp then failAttempt m else m)

/-- START_RETRY (R271): one second later the next attempt starts at CATCH. -/
def execStartRetry (s : State) : Out := s.run (fun m =>
  if !m.spn.retryWait then m
  else if m.spn.targetRpm = 0 || m.spn.halted then { m with spn.retryWait := false, spn.starting := false }
  else { spnGo .catching .floating m with spn.retryWait := false, spn.attempt := m.spn.attempt + 1, spn.startCnt := m.spn.startCnt.inc })

/-- SPIN_UP_TIMEOUT (R273). -/
def execSpinUpTimeout (s : State) : Out := s.run (fun m =>
  if !m.spn.starting then m
  else
    let sp := m.spn.speed.toNat
    report 0x0312 nowhere (leBytes 3 sp) { spnCoast m with spn.halted := true, spn.starting := false, spn.retryWait := false })

/-- The currents that a bridge at a current drives into the phases (R259, R260, R289): softened by the observer angle in closed loop and by the
open-loop angle in RAMP, returned to VMOT in regeneration; a vector stands still, and a shorted or floating bridge drives none. -/
def drivenI (m : Mach) (iph : Nat) : PhaseI :=
  let ramp : Bool := m.spn.st == SpnState.ramp
  let k : Nat := if ramp then m.spn.comStep else angleStep m.spn.elec
  let pos : Nat := if ramp then rampPos (spnHandover m) (spnRampT m) m.spn.rampN % 65536 else anglePos m.spn.elec
  let i := phaseCurrents k pos m.spn.soften.toNat iph
  match m.spn.bridge with
  | .step => i
  | .regen => ⟨-i.a, -i.b, -i.c⟩
  | .vector => phaseCurrents m.spn.comStep 32768 0 iph
  | _ => {}

/-- PWM_PERIOD (R258 to R261, R264, R270, R276, R289): the observer and the open-loop ramp advance, the phase current is limited cycle by cycle and
shared among the phases, and the duty is set once: in RUN as the speed controller gave it, in the other driven states for the current limit, by a
law that the spec leaves open (log entry 14). -/
def execPwmPeriod (iph : BitVec 16) (s : State) : Out := s.run (fun m =>
  let driven := m.spn.bridge != .off && m.spn.bridge != .floating
  let i := if driven then Nat.min iph.toNat (spnIlim m) else iph.toNat
  let m := { m with
    spn.iph := BitVec.ofNat 16 i, spn.elec := Config.observerStep m.spn.elec m.spn.ePeriod
    spn.rampN := m.spn.rampN + (m.spn.st == SpnState.ramp).toNat }
  let m := { m with spn.iPhase := drivenI m i }
  if !driven then { m with spn.duty := 0 }
  else if m.spn.st == .run then { m with spn.duty := BitVec.ofNat 16 (satTo 10000 m.spn.piDuty) }
  else drew { m with spn.duty := BitVec.ofNat 16 ((freshVal m).toNat % 10001) })

/-- Interval `p` differs from `q` by more than 12 % (R265, R295). -/
def offBy12 (p q : Nat) : Bool := decide (12 * q < 100 * ((p : Int) - q).natAbs)

/-- 20° electrical in 1/65,536 of an electrical cycle, times 9 (R265). -/
def deg20times9 : Nat := 32768

/-- A zero-crossing that counts: the interval since the last one, the angle corrected toward it (R264), EPERIOD over six steps. -/
def crossed (p : Nat) (err : Int) (m : Mach) : Mach :=
  let steps := (p :: m.spn.steps).take 36
  { m with
    spn.elec := Config.observerFix m.spn.elec err, spn.lastStep := some p, spn.steps := steps, spn.zcSeen := true
    spn.ePeriod := BitVec.ofNat 24 (satTo (2 ^ 24 - 1) ((steps.take 6).foldl (· + ·) 0)) }

/-- A crossing of a phase is one that the unit searches for (R263): of the phase that floats in the step, within the window. Shorted legs leave no phase
to float. -/
def zcFound (m : Mach) (x : MotorPhase) (pos : Nat) : Bool :=
  inWindow m.spn.soften.toNat pos && (m.spn.bridge == .shorted || decide (floatPhase m.spn.comStep = x))

/-- Within 12 % of an earlier interval, if there is one. -/
def near12 (p : Nat) : Option Nat → Bool
  | some q => !offBy12 p q
  | none => true

/-- A crossing in ACCEL, RUN or BRAKE (R265, R267, R289): the tests, the speed, the end of a braking at its target, and REGEN_MIN. -/
def testedCrossing (p : Nat) (err : Int) (m : Mach) : Mach :=
  let last := m.spn.lastStep
  let m := { crossed p err m with spn.disRun := if deg20times9 < 9 * err.natAbs then m.spn.disRun + 1 else 0 }
  if !near12 p last then loseRotor 1 m
  else if 3 ≤ m.spn.disRun then loseRotor 3 m
  else
    let m := setSpeed (speedOf m.spn.steps) m
    if m.spn.st != .brake || m.spn.slow then m
    else if m.spn.targetRpm != 0 && decide (m.spn.speed.toNat ≤ 100 * m.spn.targetRpm.toNat) then spnRun m
    else if m.spn.bridge == .regen && decide (m.spn.speed.toNat < 100 * spnRegenMin m) then { m with spn.bridge := .shorted }
    else m

/-- A crossing in the listening window (R295): the first of a run within 12 % of the carried estimate, each later one of the previous. -/
def lostCrossing (p : Nat) (err : Int) (m : Mach) : Mach :=
  let goesOn := decide (0 < m.spn.zcRun) && near12 p m.spn.lastStep
  { crossed p err m with spn.zcRun := if goesOn then m.spn.zcRun + 1 else (near12 p m.spn.carried).toNat }

/-- ZERO_CROSSING (R263 to R266, R268, R270, R289, R295): the phase, the interval since the last crossing in CLK_SRV cycles, the position in the step in
1/65,536 of it, and the observer's disagreement in 1/65,536 cycle. -/
def execZeroCrossing (phase : MotorPhase) (period : BitVec 24) (pos : BitVec 16) (err : Int) (s : State) : Out := s.run (fun m =>
  let p := period.toNat
  if period = 0 || inReset m .spn then m
  else match m.spn.st with
  | .accel | .run | .brake => if zcFound m phase pos.toNat then testedCrossing p err m else m
  | .lost => lostCrossing p err m
  | .ramp =>
    if zcFound m phase pos.toNat then
      let m := crossed p err m
      setSpeed (speedOf m.spn.steps) { m with spn.zcRun := if 100 * spnHandover m * p ≤ 62500000000 then m.spn.zcRun + 1 else 0 }
    else m
  | .catching =>
    let m := crossed p err m
    { m with spn.zcRun := m.spn.zcRun + 1 }
  | .coast =>
    let m := crossed p err m
    spnResume (setSpeed (speedOf m.spn.steps) m)
  | .stopped | .align => m)

/-- The end of a revolution (R278, R301): REVCNT counts; 16 revolutions within 0.1 % of the target set AT_SPEED, reported after a
start or a target change. -/
def revolution (ms : Nat) (m : Mach) : Mach :=
  let t := m.spn.targetRpm.toNat
  let near := t != 0 && decide (1000 * ((m.spn.speed.toNat : Int) - 100 * t).natAbs ≤ 100 * t)
  let m := { m with spn.revCnt := m.spn.revCnt.inc, spn.revRun := if near then m.spn.revRun + 1 else 0 }
  if !near then { m with spn.atSpeed := false }
  else if m.spn.revRun < 16 || m.spn.atSpeed then m
  else
    let m := { m with spn.atSpeed := true }
    let m := if m.spn.owesReport then report 0x0301 nowhere (leBytes 2 t ++ leBytes 4 ms) { m with spn.owesReport := false } else m
    modeAdvance (loadWanted m)

/-- The next of six steps begins (R257, R259, R270, R276): in RUN the speed controller is updated on the measured step period; a step of RAMP without
a crossing in its window ends the run of R270. -/
def nextStep (m : Mach) : Mach :=
  let step := (m.spn.comStep + 1) % 6
  let pi := Config.speedPi m.spn.integ m.spn.targetRpm.toNat (m.spn.lastStep.getD 0)
  let ramp := m.spn.st == .ramp
  { m with
    spn.comStep := step, spn.cycle := if step = 0 then (m.spn.cycle + 1) % 6 else m.spn.cycle
    spn.integ := if m.spn.st == .run then pi.1 else m.spn.integ, spn.piDuty := if m.spn.st == .run then pi.2 else m.spn.piDuty
    spn.rampSteps := if ramp then m.spn.rampSteps + 1 else m.spn.rampSteps
    spn.zcRun := if ramp && !m.spn.zcSeen then 0 else m.spn.zcRun, spn.zcSeen := false }

/-- COMMUTATION (R257, R259, R264, R265, R270, R276, R278): the angle reaches the step boundary; 36 steps are a revolution, whether the bridge drives or
floats. A tested step that ends without a zero-crossing in its window is a loss. The time since the change of target, in ms, is for the report of
R278. In ACCEL the target reached gives RUN. -/
def execCommutation (ms : BitVec 32) (s : State) : Out := s.run (fun m =>
  if inReset m .spn || m.spn.st == .stopped || m.spn.st == .align || !atBoundary m then m
  else if m.spn.st.tested && !m.spn.zcSeen then loseRotor 2 m
  else
    let m := nextStep m
    let m := if m.spn.st == .accel && atLeastRpm m m.spn.targetRpm.toNat then spnRun m else m
    let m := if m.spn.st == .run && m.spn.flyOk then spnWusRelease m else m
    if m.spn.comStep = 0 && m.spn.cycle = 0 then revolution ms.toNat m else m)

/-- FLY_OK_LOSS (R279, R280): a measured speed below the flying speed. -/
def execFlyOkLoss (speed : BitVec 24) (s : State) : Out := s.run (setSpeed speed.toNat)

/-- ROTOR_LOSS (R263, R265, R294, R299): the window of the step closes, and no zero-crossing has been found within it. The other tests of R265 are made
at the crossing itself. -/
def execRotorLoss (s : State) : Out := s.run (fun m =>
  if m.spn.st.tested && !m.spn.zcSeen then loseRotor 2 m else m)

/-- PHASE_OVERCURRENT (R262): the bridge floats; a loss with cause 4, or a failed attempt. -/
def execPhaseOvercurrent (s : State) : Out := s.run (fun m =>
  match m.spn.st with
  | .accel | .run | .brake => loseRotor 4 m
  | .align | .ramp => failAttempt m
  | _ => m)

/-- The second outcome of R296 and what R297 makes of it. -/
def relockFails (speed : Nat) (m : Mach) : Mach :=
  let m := slowRetract { m with spn.listen := false, spn.speed := BitVec.ofNat 24 speed, spn.flyOk := flyOkAt m.spn.targetRpm.toNat speed }
  let m := report 0x0332 nowhere (leBytes 3 speed) m
  if armed m 0x0330 = 7 then spnStart { m with spn.starting := false }
  else { spnGo .coast .floating m with spn.halted := true }

/-- RELOCK (R295, R296): twelve consistent crossings within the window; drive resumes with FLY_OK, otherwise re-lock has failed. A target that changed
meanwhile is then followed. -/
def execRelock (us : BitVec 32) (s : State) : Out := s.run (fun m =>
  if m.spn.st != .lost || !m.spn.listen || decide (m.spn.zcRun < 12) then m
  else
    let sp := speedOf (m.spn.steps.take 12)
    let t := m.spn.targetRpm.toNat
    if flyOkAt t sp then
      let m := { m with spn.listen := false, spn.speed := BitVec.ofNat 24 sp, spn.flyOk := true, spn.integ := (sp : Int) }
      let again := m.spn.unfollowed
      let m := takeUp (if 100 * t ≤ sp then .run else .accel) .step m
      let m := report 0x0331 nowhere (leBytes 4 us.toNat ++ leBytes 3 sp) (spnWusRelease m)
      if again then spnFollowTarget m else m
    else relockFails sp m)

/-- LISTEN_WINDOW_EXPIRY (R296, R297): no re-lock within 50 ms; the speed at the window's end, 0 if unknown. -/
def execListenWindowExpiry (speed : BitVec 24) (s : State) : Out := s.run (fun m =>
  if m.spn.st == .lost && m.spn.listen then relockFails speed.toNat m else m)

/-- STANDSTILL (R286, R291, R112, Table 4-8): 200 ms without a crossing under short-braking or coast; a shutdown that waits for it
enters STANDBY. -/
def execStandstill (s : State) : Out := s.run (fun m =>
  if m.spn.st == .coast || (m.spn.st == .brake && m.spn.bridge != .regen) then
    let m := spnStop m
    modeAdvance (standbyIfDone m)
  else m)

/-- ONCE_AROUND_MARK (R301, R302): a servo unit's mark; SRV0's is used when both are present. The difference of the two marks in
0.01° mechanical. -/
def execOnceAroundMark (a : Act) (diff : BitVec 16) (s : State) : Out := s.run (fun m =>
  if m.spn.st == .stopped || !loaded m a then m
  else
    let both := (m.srvRef.get a.other).indexValid && !(m.srvRef.get a.other).markLost && loaded m a.other
    let m := if both && decide (100 < diff.toNat) && !m.spn.splitReported then
        report 0x0350 nowhere (leBytes 2 diff.toNat) { m with spn.splitReported := true } else m
    if a == .a1 && both then m
    else { m with spn.anchored := true, spn.markCycle := m.spn.cycle, spn.markElec := m.spn.elec })

/-- INDEX_UNANCHOR_TIMEOUT (R303): both actuators parked for more than 1 s. -/
def execIndexUnanchorTimeout (s : State) : Out := s.run (fun m => if parked m then unanchor m else m)

/-- SPN_SET_DEMAND (R274, R281, R304, Table 4-5): in SERVICE; BUSY when the target would change with heads loaded. -/
def execSpnSetDemand (h : Hdr) (s : State) : Out := s.run
  (service 0x0601 h lvMaint
    (fun m => [(m.sup.mode != .service, stWrongMode), reserved [h.p1, h.p2, h.p3], (decide (255 < h.p0.toNat), stBadParam),
      (!parked m && decide ((curveNow m).target (m.spn.st != .stopped) h.p0.toNat ≠ m.spn.targetRpm.toNat), stBusy)])
    (fun m =>
      let m := { m with spn.halted := false, spn.serviceDemand := some (BitVec.ofNat 8 h.p0.toNat) }
      reply h stOk 0 [] (spnResume (setDemand h.p0.toNat m))))

/-- SPN.STATUS (Table 5-7). -/
def spnStatusReg (p : Spn) : Reg := packReg [
  ⟨18, 1, p.startCnt.ovf.toNat⟩, ⟨17, 1, p.lossCnt.ovf.toNat⟩, ⟨16, 1, p.revCnt.ovf.toNat⟩, ⟨15, 1, p.halted.toNat⟩,
  ⟨14, 1, p.anchored.toNat⟩, ⟨13, 1, p.flyOk.toNat⟩, ⟨12, 1, p.atSpeed.toNat⟩, ⟨8, 4, p.st.code⟩, ⟨2, 1, p.wus.toNat⟩,
  ⟨1, 1, p.shortOnly.toNat⟩, ⟨0, 1, p.listen.toNat⟩]
/-- SPN.TARGET. -/
def spnTargetReg (p : Spn) : Reg := packReg [⟨8, 16, p.targetRpm.toNat⟩, ⟨0, 8, p.demand.toNat⟩]
/-- SPN.DRIVE. -/
def spnDriveReg (p : Spn) : Reg := packReg [⟨16, 16, p.iph.toNat⟩, ⟨0, 16, p.duty.toNat⟩]
/-- SPN.ANGLE. -/
def spnAngleReg (p : Spn) : Reg := packReg [⟨16, 16, mechAngle p⟩, ⟨0, 16, p.elec.toNat⟩]

/-- SPN_GET_STATE (Table 18-6). -/
def execSpnGetState (h : Hdr) (s : State) : Out := s.run
  (service 0x0602 h lvHost (fun _ => [reserved [h.p0, h.p1, h.p2, h.p3]])
    (fun m => reply h stOk 0 (regBytes [spnStatusReg m.spn, spnTargetReg m.spn, m.spn.speed.zeroExtend 32, m.spn.ePeriod.zeroExtend 32,
      spnDriveReg m.spn, spnAngleReg m.spn]) m))

/-- SPN_LOAD_CURVE (R305): in force at once, until a module reset or STANDBY. -/
def execSpnLoadCurve (h : Hdr) (value : List Byte) (s : State) : Out := s.run
  (service 0x0603 h lvMaint
    (fun m => [(m.sup.mode != .service, stWrongMode), reserved [h.p0, h.p1, h.p2, h.p3], (!curveValid m value, stBadParam)])
    (fun m => reply h stOk 0 [] (spnEvaluate { m with spn.loadedCurve := some (curveOfBytes value) })))

end Sys2Proof.Machine
end

