-- ==== Sys2Proof/Machine/Operands.lean ====
section
/-! DEFINITION. The register space: what each address reads as, and the 64-bit counters with their latch (spec/18 R930 to R933, spec/00 R20, and the
register tables of every chapter). -/

namespace Sys2Proof.Machine

/-- The block index of an address (R930). -/
def regBlock (addr : Nat) : Nat := addr / 65536
/-- The offset within the block. -/
def regOff (addr : Nat) : Nat := addr % 65536
/-- The actuator of a block that exists per actuator: even indexes belong to actuator 0 (Table 18-8). -/
def blockAct (b : Nat) : Act := Act.ofNum b

/-- An engine is powered and its group is out of reset. -/
def engineLive (m : Mach) (e : Act) : Bool := m.fe.powered.get e && !inReset m (.fe e)

/-- A block whose registers read 0 (R933): of a G_ACTn that is in reset, or block FE while no engine is live and none is being brought up
(log entry 103). -/
def blockDark (m : Mach) (b : Nat) : Bool :=
  (decide (4 ≤ b) && decide (b ≤ 11) && inReset m (.act (blockAct b)))
    || (b == 0x10 && !engineLive m .a0 && !engineLive m .a1 && m.fe.tko.isNone)

/-- A signed value in 16 bits. -/
def low16 (v : Int) : Nat := twosComp 2 v

/-! ### One word of each block -/

/-- SUP (Tables 4-11 to 4-13, 8-11, 18-13, 20-13). -/
def supWord (m : Mach) : Nat → Reg
  | 0x000 => supModeReg m | 0x004 => supBootReg m | 0x008 => supBoottimeReg m | 0x00C => supShutReg m | 0x010 => supSafecauseReg m
  | 0x100 => hdatempReg m | 0x104 => hdaenvReg m | 0x108 => sensstatReg m | 0x10C => modtempReg m
  | 0x200 => svcstatReg m | 0x204 => m.events.svc
  | _ => 0

/-- PWR (Tables 2-7 to 2-10). -/
def pwrWord (m : Mach) : Nat → Reg
  | 0x00 => pwrStatusReg m.pwr
  | 0x04 => m.events.pwr
  | 0x08 => packReg [⟨16, 16, m.pwr.freq.toNat⟩, ⟨0, 16, m.pwr.vinPk.toNat⟩]
  | 0x0C => packReg [⟨0, 16, m.pwr.vbulk.toNat⟩]
  | 0x10 => packReg [⟨16, 16, m.pwr.imot.toNat⟩, ⟨0, 16, m.pwr.vmot.toNat⟩]
  | 0x14 => packReg [⟨16, 16, m.pwr.eUse.toNat⟩, ⟨0, 16, m.pwr.cap.toNat⟩]
  | 0x18 => packReg [⟨16, 16, m.pwr.eNeed.toNat⟩, ⟨0, 16, m.pwr.eReq.toNat⟩]
  | 0x1C => packReg [⟨16, 9, chopE m⟩, ⟨2, 1, m.pwr.withheld.toNat⟩, ⟨0, 1, m.pwr.chopEn.toNat⟩]
  | 0x20 => packReg [⟨0, 24, m.pwr.pin.toNat⟩]
  | _ => 0

/-- CLK.CHnFREQ (Table 3-9): while SETTLING the value written (log entry 67). -/
def clkFreqReg (k : Clk) (a : Act) : Reg := packReg [⟨31, 1, (k.freqPend.get a).isSome.toNat⟩, ⟨0, 22, ((k.freqPend.get a).getD (k.freqKhz.get a)).toNat⟩]

/-- CLK (Tables 3-7 to 3-11). -/
def clkWord (m : Mach) : Nat → Reg
  | 0x00 => clkStatusReg m.clk
  | 0x04 => m.events.clk
  | 0x08 => clkFreqReg m.clk .a0
  | 0x0C => clkFreqReg m.clk .a1
  | 0x10 => packReg [⟨16, 9, m.clk.resetSeen.toNat⟩, ⟨0, 9, m.clk.inReset.toNat⟩]
  | 0x14 => packReg [⟨0, 9, m.clk.torn.toNat⟩]
  | _ => 0

/-- SPN (Tables 5-7 to 5-9). -/
def spnWord (m : Mach) : Nat → Reg
  | 0x00 => spnStatusReg m.spn
  | 0x04 => m.events.spn
  | 0x08 => spnTargetReg m.spn
  | 0x0C => packReg [⟨0, 24, m.spn.speed.toNat⟩]
  | 0x10 => packReg [⟨0, 24, m.spn.ePeriod.toNat⟩]
  | 0x14 => spnDriveReg m.spn
  | 0x18 => spnAngleReg m.spn
  | 0x1C => packReg [⟨8, 2, m.spn.brakeOvr.toNat⟩, ⟨0, 5, m.spn.soften.toNat⟩]
  | _ => 0

/-- SRVn.LOOPCTL (Table 7-13): the bank fields show the selections in force. -/
def loopctlReg (c : SrvCtl) : Reg :=
  let b := fun i => (c.banksel.getD i 0).toNat
  packReg [⟨19, 1, c.rvffEn.toNat⟩, ⟨18, 1, c.xffEn.toNat⟩, ⟨17, 1, c.maEn.toNat⟩, ⟨16, 1, c.trajSet.toNat⟩, ⟨6, 2, b 3⟩, ⟨4, 2, b 2⟩, ⟨2, 2, b 1⟩, ⟨0, 2, b 0⟩]

/-- The control words of SRVn (Tables 7-10 to 7-13). -/
def srvCtlWord (m : Mach) (a : Act) (off : Nat) : Reg :=
  let c := m.srv.get a
  match off with
  | 0x00 => ctlStatReg c
  | 0x04 => m.events.srvCtl.get a
  | 0x08 => loopctlReg c
  | 0x0C => packReg [⟨28, 4, c.tgtHead.toNat⟩, ⟨0, 21, c.tgtTrack.toNat⟩]
  | 0x10 => pesReg c
  | 0x14 => icmdReg c
  | 0x18 => corrReg c
  | 0x1C => packReg [⟨16, 16, c.rroLimit.toNat⟩, ⟨8, 4, c.lead.toNat⟩, ⟨4, 1, c.freeze.toNat⟩, ⟨0, 4, c.learnN.toNat⟩]
  | 0x20 => packReg [⟨0, 16, low16 c.holdI⟩]
  | 0x24 => packReg [⟨8, 8, c.spMax.toNat⟩, ⟨0, 8, c.spLast.toNat⟩]
  | _ => if decide (0x1000 ≤ off) && decide (off < 0x2080) then c.word off else 0

/-- The position words of SRVn (Tables 6-6 to 6-9). -/
def srvRefWord (m : Mach) (a : Act) (off : Nat) : Reg :=
  let r := m.srvRef.get a
  match off with
  | 0x200 => refStatReg r
  | 0x204 => m.events.srvRef.get a
  | 0x208 => r.pos
  | 0x20C => r.dataPos
  | 0x210 => packReg [⟨25, 7, r.fieldNo.toNat⟩, ⟨24, 1, r.fieldValid.toNat⟩, ⟨0, 24, r.fieldErr.toNat⟩]
  | 0x214 => packReg [⟨16, 16, r.ampB.toNat⟩, ⟨0, 16, r.ampA.toNat⟩]
  | 0x218 => packReg [⟨21, 11, r.alignLimit.toNat⟩, ⟨11, 10, r.laneAgree.toNat⟩, ⟨5, 6, r.invLimit.toNat⟩, ⟨2, 3, r.missLimit.toNat⟩, ⟨0, 2, r.alignReader.toNat⟩]
  | _ => 0

/-- SRVn. -/
def srvWord (m : Mach) (a : Act) (off : Nat) : Reg :=
  if decide (0x200 ≤ off) && decide (off < 0x300) then srvRefWord m a off else srvCtlWord m a off

/-- HIFn (Tables 8-7 to 8-10). -/
def hifWord (m : Mach) (a : Act) (off : Nat) : Reg :=
  let h := m.hif.get a
  match off with
  | 0x00 => packReg [⟨19, 1, h.hbErr.ovf.toNat⟩, ⟨18, 1, h.inhCnt.ovf.toNat⟩, ⟨17, 1, h.otCut.toNat⟩, ⟨16, 1, h.heaterReady.toNat⟩, ⟨12, 4, h.selHead.toNat⟩,
      ⟨6, 6, h.region.toNat⟩, ⟨5, 1, h.inhibit.toNat⟩, ⟨4, 1, h.wusIn.toNat⟩, ⟨3, 1, h.hboost.toNat⟩, ⟨2, 1, h.profileOk.toNat⟩, ⟨1, 1, h.agate.toNat⟩,
      ⟨0, 1, h.wgate.toNat⟩]
  | 0x04 => m.events.hif.get a
  | 0x08 => packReg [⟨16, 8, h.paStatus.toNat⟩, ⟨0, 16, h.paTemp.toNat⟩]
  | 0x0C => packReg [⟨16, 16, h.vmeas.toNat⟩, ⟨0, 10, h.imeas.toNat⟩]
  | 0x10 => packReg [⟨0, 16, h.leadTicks.toNat⟩]
  | 0x14 => packReg [⟨0, 12, h.astFault.toNat⟩]
  | 0x18 => packReg [⟨30, 1, h.hbRw.toNat⟩, ⟨26, 4, h.hbPage.toNat⟩, ⟨19, 7, h.hbAddr.toNat⟩, ⟨18, 1, h.hbDone.toNat⟩, ⟨16, 2, h.hbAck.toNat⟩]
  | 0x1C => packReg [⟨0, 16, h.hbData.toNat⟩]
  | 0x20 => packReg [⟨4, 2, h.lifeCnt.toNat⟩, ⟨0, 4, h.lifeHead.toNat⟩]
  | _ => 0

/-- Slots of the channel's store that a sector occupies (Table 9-13 SLOTS). -/
def slotMask (c : Chan) : Nat := (((List.range 4).filter (fun i => c.secs.any (fun s => s.store == some i))).map (fun i => 2 ^ i)).sum

/-- CHn (Tables 9-12 to 9-15). -/
def chWord (m : Mach) (a : Act) (off : Nat) : Reg :=
  let c := m.ch.get a
  match off with
  | 0x00 => packReg [⟨31, 1, c.ramCorr.ovf.toNat⟩, ⟨30, 1, c.corrBits.ovf.toNat⟩, ⟨29, 1, c.unrecCnt.ovf.toNat⟩, ⟨28, 1, c.failCnt.ovf.toNat⟩,
      ⟨27, 1, c.missCnt.ovf.toNat⟩, ⟨26, 1, c.slipCnt.ovf.toNat⟩, ⟨25, 1, c.burgeeCnt.ovf.toNat⟩, ⟨24, 1, c.secCnt.ovf.toNat⟩,
      ⟨20, 4, c.head.toNat⟩, ⟨14, 6, c.region.toNat⟩, ⟨10, 4, slotMask c⟩, ⟨9, 1, c.replay.toNat⟩, ⟨8, 1, c.trLost.toNat⟩, ⟨7, 1, c.tracking.toNat⟩,
      ⟨6, 1, c.acq.toNat⟩, ⟨5, 1, c.split.toNat⟩, ⟨4, 1, c.capture.isSome.toNat⟩, ⟨3, 1, c.write.toNat⟩, ⟨2, 1, c.read.toNat⟩,
      ⟨1, 1, c.pend.isSome.toNat⟩, ⟨0, 1, c.r1En.toNat⟩]
  | 0x04 => m.events.ch.get a
  | 0x08 => packReg [⟨20, 6, (syncWindows c.step.toNat).1⟩, ⟨16, 4, (syncWindows c.step.toNat).2⟩, ⟨8, 3, c.bgTol.toNat⟩, ⟨0, 3, c.pnTol.toNat⟩]
  | 0x0C => packReg [⟨24, 8, c.iterExt.toNat⟩, ⟨20, 4, c.detExt.toNat⟩, ⟨16, 4, c.det.toNat⟩, ⟨8, 8, c.iter.toNat⟩, ⟨4, 4, c.mu.toNat⟩, ⟨0, 4, c.adapt.toNat⟩]
  | 0x10 => packReg [⟨0, 4, c.step.toNat⟩]
  | 0x14 => c.lastSec
  | 0x18 => packReg [⟨16, 16, c.fofs.toNat⟩, ⟨0, 16, c.phErr.toNat⟩]
  | 0x1C => c.gains
  | 0x20 => packReg [⟨16, 16, c.g2.toNat⟩, ⟨0, 16, c.g1.toNat⟩]
  | 0x24 => packReg [⟨30, 2, c.capTrig.toNat⟩, ⟨29, 1, c.capDone.toNat⟩, ⟨0, 16, c.capTick.toNat⟩]
  | 0x28 => packReg [⟨4, 6, c.metRegion.toNat⟩, ⟨0, 4, c.metHead.toNat⟩]
  | 0x2C =>
    let h := c.metHead.toNat
    if decide (1 ≤ h) && decide (h ≤ 11) then
      let q := metOf m a h c.metRegion.toNat
      packReg [⟨16, 16, q.iterMean⟩, ⟨0, 16, q.snr.toNat⟩]
    else 0
  | _ => if decide (0x1000 ≤ off) && decide (off < 0x1080) then packReg [⟨0, 16, (c.tapsNow.getD ((off - 0x1000) / 4) 0).toNat⟩] else 0

/-- CFXn (Tables 11-14, 11-15). -/
def cfxWord (m : Mach) (a : Act) (off : Nat) : Reg :=
  let c := m.cfx.get a
  let row := c.row c.rowSel.toNat
  match off with
  | 0x00 => cfxStatusReg c
  | 0x04 => m.events.cfx.get a
  | 0x08 => packReg [⟨0, 1, c.hold.toNat⟩]
  | 0x0C => cfxPcReg c
  | 0x10 => packReg [⟨0, 24, c.flags.toNat⟩]
  | 0x14 => cfxTposReg c
  | 0x18 => cfxOpstatReg c
  | 0x1C => cfxTrapReg c
  | 0x20 => packReg [⟨0, 16, c.lapUs.toNat⟩]
  | 0x24 => packReg [⟨31, 1, c.test.toNat⟩, ⟨0, 13, c.rowSel.toNat⟩]
  | 0x28 => if c.rowSel.toNat < 4128 then row.data else 0
  | 0x2C => if c.rowSel.toNat < 4128 then packReg [⟨0, 7, row.checkBits.toNat⟩] else 0
  | 0x30 => cfxMarkReg c
  | _ =>
    if decide (0x40 ≤ off) && decide (off < 0x60) then packReg [⟨0, 24, (c.c.getD ((off - 0x40) / 4) 0).toNat⟩]
    else if decide (0x100 ≤ off) && decide (off < 0x180) then remapReg (c.remaps.getD ((off - 0x100) / 4) ⟨false, 0⟩)
    else if decide (0x200 ≤ off) && decide (off < 0x240) then dispatchReg (c.dispatch.getD ((off - 0x200) / 4) none)
    else 0

/-- SCH (Table 13-7). -/
def schWord (m : Mach) : Nat → Reg
  | 0x00 => schStatusReg m
  | 0x04 => m.events.sch
  | 0x08 => packReg [⟨0, 3, m.sch.ctrl.toNat⟩]
  | 0x0C => schQueueReg m .a0 | 0x10 => schQueueReg m .a1
  | 0x14 => schSpecReg m .a0 | 0x18 => schSpecReg m .a1
  | 0x1C => schPredReg m .a0 | 0x20 => schPredReg m .a1
  | _ => 0

/-- ZMG (Table 12-11). -/
def zmgWord (m : Mach) : Nat → Reg
  | 0x00 => zmgStatusReg m
  | 0x04 => m.events.zmg
  | 0x08 => zmgZonesReg m .a0 | 0x0C => zmgZonesReg m .a1
  | 0x10 => zmgCellarReg m
  | 0x14 => zmgPorchReg m .a0 | 0x18 => zmgPorchReg m .a1
  | _ => 0

/-- BCM (Table 14-10). -/
def bcmWord (m : Mach) : Nat → Reg
  | 0x00 => bcmStatusReg m
  | 0x04 => m.events.bcm
  | 0x08 => bcmModeReg m
  | 0x0C => BitVec.ofNat 32 (dirtyCount m)
  | 0x10 => BitVec.ofNat 32 (budget m)
  | 0x14 => BitVec.ofNat 32 (pinnedCount m)
  | 0x18 => bcmLinesReg m
  | 0x1C => bcmMissReg m
  | 0x20 => BitVec.ofNat 32 m.bcm.attic.length
  | 0x24 => packReg [⟨0, 4, m.bcm.scrubSel.toNat⟩]
  | 0x28 => m.bcm.laps.getD m.bcm.scrubSel.toNat 0
  | 0x2C => match m.bcm.errAddr with
    | some (_, ad) => ad.truncate 32
    | none => 0
  | 0x30 => bcmErrHiReg m
  | 0x34 => bcmEccReg m
  | 0x38 => m.bcm.testAddr.truncate 32
  | 0x3C => packReg [⟨0, 1, m.bcm.testAddr.toNat / 2 ^ 32⟩]
  | 0x40 => m.bcm.testData.extractLsb' 0 32
  | 0x44 => m.bcm.testData.extractLsb' 32 32
  | 0x48 => packReg [⟨0, 24, m.bcm.testData.toNat / 2 ^ 64⟩]
  | 0x4C => bcmGrantReg m
  | _ => 0

/-- VLT (Table 15-9). -/
def vltWord (m : Mach) : Nat → Reg
  | 0x00 => vltStatusReg m
  | 0x04 => m.events.vlt
  | 0x08 => vltNewestReg m
  | 0x0C => vltImgReg m
  | 0x10 => vltBlocksReg m
  | 0x14 => vltSpareReg m
  | 0x18 => vltLastReg m
  | 0x1C => vltRateReg m
  | _ => 0

/-- FE (Table 16-14). -/
def feWord (m : Mach) : Nat → Reg
  | 0x00 => feStatusReg m
  | 0x04 => m.events.fe
  | 0x08 => feCtxReg m
  | 0x0C => feLasttkoReg m
  | 0x10 => packReg [⟨0, 16, m.fe.wdtMs.toNat⟩]
  | 0x14 => feSpareReg m
  | _ => 0

/-- DSV (Table 17-9). -/
def dsvWord (m : Mach) : Nat → Reg
  | 0x00 => dsvStatusReg m
  | 0x04 => m.events.dsv
  | 0x08 => dsvLockReg m
  | 0x0C => dsvBootReg m
  | 0x10 => dsvZgpReg m
  | 0x14 => packReg [⟨0, 3, m.dsv.groupSel.toNat⟩]
  | 0x18 => dsvGroupReg m
  | 0x3C => packReg [⟨0, 12, logKib m⟩]
  | _ => 0

/-- EVR (Table 19-13). -/
def evrWord (m : Mach) : Nat → Reg
  | 0x00 => evrStatusReg m.evr
  | 0x04 => m.events.evr
  | 0x08 => m.evr.newest
  | 0x0C => m.evr.oldest
  | 0x10 => evrHeld01Reg m.evr
  | 0x14 => evrHeld23Reg m.evr
  | 0x18 => evrDropselReg m.evr
  | _ => 0

/-- CAL (Table 10-11). -/
def calWord (m : Mach) (off : Nat) : Reg :=
  let b : CalBase := assoc {} m.cal.base (calKey m.cal.resKind.toNat m.cal.resDh.toNat)
  match off with
  | 0x00 => calStatusReg m
  | 0x04 => packReg [⟨0, 1, m.cal.pause.toNat⟩]
  | 0x08 => m.events.cal
  | 0x0C => calActReg m .a0
  | 0x10 => calActReg m .a1
  | 0x14 => dueReg m 0 | 0x18 => dueReg m 1 | 0x1C => dueReg m 2 | 0x20 => dueReg m 3 | 0x24 => dueReg m 4
  | 0x28 => staleReg m
  | 0x2C => packReg [⟨16, 16, m.cal.dieTemp.p1.toNat⟩, ⟨0, 16, m.cal.dieTemp.p0.toNat⟩]
  | 0x30 => packReg [⟨8, 3, m.cal.resKind.toNat⟩, ⟨0, 5, m.cal.resDh.toNat⟩]
  | 0x34 => packReg [⟨16, 16, b.resid.toNat⟩, ⟨0, 16, b.figure.toNat⟩]
  | 0x38 => packReg [⟨16, 16, (b.temp.getD 0).toNat⟩, ⟨0, 1, b.failed.toNat⟩]
  | _ => 0

/-- PRT (Table 16-15): port B's registers lie 0x100 above port A's. -/
def prtWord (m : Mach) (off : Nat) : Reg :=
  if 0x200 ≤ off then 0
  else
    let p := if off < 0x100 then Act.a0 else Act.a1
    match off % 0x100 with
    | 0x00 => prtStatusReg m p
    | 0x04 => m.events.prt.get p
    | 0x08 => prtLinkReg (m.prt.get p)
    | 0x0C => packReg [⟨0, 1, (m.prt.get p).linkDis.toNat⟩]
    | _ => 0

/-! ### Counters -/

/-- The lifetime counter that HIFn.LIFESEL selects (Table 8-10). -/
def lifeSelected (h : Hif) : Counter :=
  if h.lifeHead = 0 then .zero
  else
    let l := h.life.getD (h.lifeHead.toNat - 1) {}
    match h.lifeCnt.toNat with
    | 0 => l.astTime | 1 => l.astCharge | 2 => l.wrTime | _ => l.htrEnergy

/-- The 64-bit counters of a block, each by the offset of its low register. -/
def blockCounters (m : Mach) (b : Nat) : List (Nat × Counter) :=
  let a := blockAct b
  match b with
  | 0x00 => [(0x208, m.svc.authFail), (0x210, m.svc.replyDrop), (0x218, m.svc.uartErr)]
  | 0x01 => [(0x24, m.pwr.energy), (0x2C, m.pwr.lossCnt), (0x34, m.pwr.dropCnt)]
  | 0x02 => [(0x18, m.clk.xdrop), (0x20, m.clk.lolCnt)]
  | 0x03 => [(0x20, m.spn.revCnt), (0x28, m.spn.lossCnt), (0x30, m.spn.startCnt)]
  | 0x04 | 0x05 =>
    let c := m.srv.get a
    let r := m.srvRef.get a
    [(0x28, c.seekCnt), (0x30, c.offTrkCnt), (0x38, c.retractCnt), (0x40, c.ovrCnt), (0x21C, r.invCnt), (0x224, r.fbCnt), (0x22C, r.amissCnt)]
  | 0x06 | 0x07 =>
    let h := m.hif.get a
    [(0x24, lifeSelected h), (0x2C, h.inhCnt), (0x34, h.hbErr)]
  | 0x08 | 0x09 =>
    let c := m.ch.get a
    [(0x30, c.secCnt), (0x38, c.burgeeCnt), (0x40, c.slipCnt), (0x48, c.missCnt), (0x50, c.failCnt), (0x58, c.unrecCnt), (0x60, c.corrBits), (0x68, c.ramCorr)]
  | 0x0A | 0x0B =>
    let c := m.cfx.get a
    [(0x60, c.opCnt), (0x68, c.trapCnt), (0x70, c.corrCnt)]
  | 0x0C => [(0x24, m.sch.dispCnt), (0x2C, m.sch.ageCapCnt), (0x34, m.sch.specStopCnt), (0x3C, m.sch.raHitCnt), (0x44, m.sch.missRevCnt), (0x4C, m.sch.abortCnt)]
  | 0x0D => [(0x1C, m.zmg.reallocCnt), (0x24, m.zmg.substCnt), (0x2C, m.zmg.cleanCnt), (0x34, m.zmg.porchWr), (0x3C, m.zmg.unrecCnt)]
  | 0x0E => [(0x50, m.bcm.grants.getD m.bcm.grantSel.toNat .zero), (0x58, m.bcm.hitCnt), (0x60, m.bcm.missCnt), (0x68, m.bcm.mergeCnt), (0x70, m.bcm.atticHitCnt),
      (0x78, m.bcm.dramCorr), (0x80, m.bcm.arrCorr), (0x88, m.bcm.deadlineCnt), (0x90, m.bcm.missWaitCnt)]
  | 0x0F => [(0x20, m.vlt.writeCnt), (0x28, m.vlt.replayCnt), (0x30, m.vlt.pfailCnt), (0x38, m.vlt.eraseCnt)]
  | 0x10 => [(0x18, m.fe.tkoCnt), (0x20, m.fe.ctxFull), (0x28, m.fe.ctxCorr)]
  | 0x11 => [(0x1C, m.dsv.piErr), (0x24, m.dsv.zgpTx), (0x2C, m.dsv.zgpDup), (0x34, m.dsv.zgpAuth)]
  | 0x12 => [(0x1C, m.evr.dropSelected), (0x24, m.evr.recCnt)]
  | 0x13 => [(0x3C, m.cal.runCnt), (0x44, m.cal.failCnt)]
  | 0x14 => (portCounters m.prt.p0 0) ++ (portCounters m.prt.p1 0x100)
  | _ => []
where
  /-- the counters of one port unit -/
  portCounters (x : Port) (base : Nat) : List (Nat × Counter) :=
    [(base + 0x10, x.postCnt), (base + 0x18, x.linkDn), (base + 0x20, x.errCnt), (base + 0x28, x.fecCorr)]

/-- The counter whose low register stands at an offset. -/
def counterAt (m : Mach) (b off : Nat) : Option Counter := ((blockCounters m b).find? (fun c => c.1 == off)).map (·.2)

/-- What an address reads as when no counter stands there. -/
def plainWord (m : Mach) (b off : Nat) : Reg :=
  let a := blockAct b
  match b with
  | 0x00 => supWord m off | 0x01 => pwrWord m off | 0x02 => clkWord m off | 0x03 => spnWord m off
  | 0x04 | 0x05 => srvWord m a off
  | 0x06 | 0x07 => hifWord m a off
  | 0x08 | 0x09 => chWord m a off
  | 0x0A | 0x0B => cfxWord m a off
  | 0x0C => schWord m off | 0x0D => zmgWord m off | 0x0E => bcmWord m off | 0x0F => vltWord m off
  | 0x10 => feWord m off | 0x11 => dsvWord m off | 0x12 => evrWord m off | 0x13 => calWord m off | 0x14 => prtWord m off
  | _ => 0

/-- The value latched by the last read of a counter's low register, until its high register is read (R20). -/
def latchedHi (m : Mach) (low : Nat) : Option Reg := (m.svc.latch.find? (fun e => e.1 == low)).map (·.2)

/-- Read one register: its value, and the machine with the latch of R20 (R931 to R933). An undefined offset reads 0. -/
def readReg (addr : Nat) (m : Mach) : Reg × Mach :=
  let b := regBlock addr
  let off := regOff addr
  if blockDark m b then (0, m)
  else match counterAt m b off with
    | some c => (c.lo, { m with svc.latch := m.svc.latch.filter (fun e => e.1 != addr) ++ [(addr, c.hi)] })
    | none => match (if 4 ≤ off then counterAt m b (off - 4) else none) with
      | some c => ((latchedHi m (addr - 4)).getD c.hi, { m with svc.latch := m.svc.latch.filter (fun e => e.1 != addr - 4) })
      | none => (plainWord m b off, m)

/-- Read registers one at a time in rising address order (R932). -/
def readRegs : Nat → Nat → Mach → List Reg × Mach
  | _, 0, m => ([], m)
  | addr, n + 1, m =>
    let r := readReg addr m
    let rest := readRegs (addr + 4) n r.2
    (r.1 :: rest.1, rest.2)

/-- An address that a request may name: a multiple of 4 in an assigned block, with its last register in that block (R931). -/
def badRange (addr count : Nat) : Bool :=
  addr % 4 != 0 || decide (0x14 < regBlock addr) || decide (65536 < regOff addr + 4 * count)

end Sys2Proof.Machine
end

