-- ==== Sys2Proof/Machine/Registers.lean ====
section
/-! DEFINITION. Register writes and the requests over the register space (spec/18 R930 to R934, spec/00 R20, R32 to R35). -/

namespace Sys2Proof.Machine

/-! ### Event bits -/

/-- Clear bits of the EVENTS register at an offset of a block (W1C, Table 0-6). -/
def clearEvents (b off : Nat) (k : Reg) (m : Mach) : Mach :=
  let a := blockAct b
  let c := fun (r : Reg) => r &&& ~~~k
  match b with
  | 0x00 => if off = 0x204 then { m with events.svc := c m.events.svc } else m
  | 0x01 => if off = 0x04 then { m with events.pwr := c m.events.pwr } else m
  | 0x02 => if off = 0x04 then { m with events.clk := c m.events.clk } else m
  | 0x03 => if off = 0x04 then { m with events.spn := c m.events.spn } else m
  | 0x04 | 0x05 =>
    if off = 0x04 then { m with events.srvCtl := m.events.srvCtl.upd a c }
    else if off = 0x204 then { m with events.srvRef := m.events.srvRef.upd a c }
    else m
  | 0x06 | 0x07 => if off = 0x04 then { m with events.hif := m.events.hif.upd a c } else m
  | 0x08 | 0x09 => if off = 0x04 then { m with events.ch := m.events.ch.upd a c } else m
  | 0x0A | 0x0B => if off = 0x04 then { m with events.cfx := m.events.cfx.upd a c } else m
  | 0x0C => if off = 0x04 then { m with events.sch := c m.events.sch } else m
  | 0x0D => if off = 0x04 then { m with events.zmg := c m.events.zmg } else m
  | 0x0E => if off = 0x04 then { m with events.bcm := c m.events.bcm } else m
  | 0x0F => if off = 0x04 then { m with events.vlt := c m.events.vlt } else m
  | 0x10 => if off = 0x04 then { m with events.fe := c m.events.fe } else m
  | 0x11 => if off = 0x04 then { m with events.dsv := c m.events.dsv } else m
  | 0x12 => if off = 0x04 then { m with events.evr := c m.events.evr } else m
  | 0x13 => if off = 0x08 then { m with events.cal := c m.events.cal } else m
  | 0x14 =>
    if off = 0x04 then { m with events.prt := m.events.prt.upd .a0 c }
    else if off = 0x104 then { m with events.prt := m.events.prt.upd .a1 c }
    else m
  | _ => m

/-! ### Writes of one block. `w` is (old AND NOT mask) OR (value AND mask), `k` value AND mask, `sv` whether the mode is SERVICE. -/

/-- A bank field of LOOPCTL that the mask covers asks for a bank, which a bank without VALID does not get (R363, R364). -/
def askBank (mask w : Reg) (l : Nat) (c : SrvCtl) : SrvCtl :=
  let k := field w (2 * l) 2
  if field mask (2 * l) 2 = 0 || !c.bankValid l k then c else { c with bankPend := updAt c.bankPend l (fun _ => some (BitVec.ofNat 2 k)) }

/-- PWR: CHOPCTL (R147, Table 2-10). Without the chopper every braking is short-braking. -/
def writePwr (sv : Bool) (off : Nat) (w : Reg) (m : Mach) : Mach :=
  if off != 0x1C || !sv then m
  else
    let m := if bit w 1 then { m with pwr.chopFault := false } else m
    let m := { m with pwr.chopEn := bit w 0, pwr.chopGated := m.pwr.chopGated && bit w 0 }
    if !bit w 0 && m.spn.st == .brake && m.spn.bridge == .regen then { m with spn.bridge := .shorted, spn.shortOnly := true } else m

/-- CLK: CHnFREQ and RESET_SEEN (R157, Tables 3-9 and 3-10). -/
def writeClk (sv : Bool) (off : Nat) (mask w k : Reg) (m : Mach) : Mach :=
  match off with
  | 0x08 => if sv && field mask 0 22 != 0 then writeFreq .a0 (field w 0 22) m else m
  | 0x0C => if sv && field mask 0 22 != 0 then writeFreq .a1 (field w 0 22) m else m
  | 0x10 => { m with clk.resetSeen := m.clk.resetSeen &&& ~~~(k.extractLsb' 16 9) }
  | _ => m

/-- SPN: CTRL (Table 5-9, R290): a reserved override and a softening above 30 leave their field as it is. -/
def writeSpn (sv : Bool) (off : Nat) (w : Reg) (m : Mach) : Mach :=
  if off != 0x1C || !sv then m
  else
    let m := if field w 0 5 ≤ 30 then { m with spn.soften := w.extractLsb' 0 5 } else m
    let m := if field w 8 2 = 3 then m else { m with spn.brakeOvr := w.extractLsb' 8 2 }
    if m.spn.brakeOvr = 1 then replaceBrake 3 m
    else if m.spn.brakeOvr = 2 && m.spn.st == .brake && !m.spn.slow then spnGo .coast .floating m else m

/-- The words of a bank or of a feed-forward set (Tables 7-8 and 7-10), in OPEN only (R362); reserved bits and words stay 0. -/
def writeBankWord (a : Act) (off : Nat) (w : Reg) (m : Mach) : Mach :=
  let put := fun (v : Reg) => m.onSrv a (fun c => { c with words := assocSet 0#32 c.words off v })
  if off < 0x2000 then
    let l := (off - 0x1000) / 0x400
    let i := off % 0x100 / 4
    if decide (39 ≤ i) || !keepsWord l i then m else put (if i = 0 then w &&& 0x8000000F#32 else w)
  else
    let i := off % 0x40 / 4
    if i = 0 then put (w &&& 0x8000000F#32) else if decide (4 ≤ i) && decide (i ≤ 8) then put w else m

/-- SRVn (Tables 6-9 and 7-13). -/
def writeSrv (a : Act) (off : Nat) (mask w k : Reg) (m : Mach) : Mach :=
  let open_ := decide ((m.srv.get a).st = .opened)
  match off with
  | 0x08 => m.onSrv a (fun c =>
      let c := { c with trajSet := bit w 16 }
      let c := if open_ then { c with rvffEn := bit w 19, xffEn := bit w 18, maEn := bit w 17 } else c
      (List.range 4).foldl (fun c l => askBank mask w l c) c)
  | 0x1C =>
    let m := m.onSrv a (fun c => { c with
      rroLimit := w.extractLsb' 16 16, lead := w.extractLsb' 8 4, freeze := bit w 4
      learnN := if decide (4 ≤ field w 0 4) && decide (field w 0 4 ≤ 12) then w.extractLsb' 0 4 else c.learnN })
    let m := if bit k 6 && (m.srv.get a).st == .follow then saveTables a m else m
    if bit k 5 then clearTable a m else m
  | 0x24 => if bit k 31 then m.onSrv a (fun c => { c with spMax := 0 }) else m
  | 0x218 =>
    if !open_ then m
    else m.onRef a (fun r => { r with
      alignLimit := w.extractLsb' 21 11, laneAgree := w.extractLsb' 11 10, invLimit := w.extractLsb' 5 6, missLimit := w.extractLsb' 2 3
      alignReader := if field w 0 2 = 3 then r.alignReader else w.extractLsb' 0 2 })
  | _ => if decide (0x1000 ≤ off) && decide (off < 0x2080) && open_ then writeBankWord a off w m else m

/-- HIFn (Table 8-10): the fields of HBCTL first, then its frame. -/
def writeHif (sv : Bool) (a : Act) (acks : List Ack) (off : Nat) (w k : Reg) (m : Mach) : Mach :=
  match off with
  | 0x14 => if field k 1 11 = 0 then m else clearAstFault a (k.truncate 12 &&& 0xFFE#12) m
  | 0x18 =>
    let m := if sv then m.onHif a (fun h => { h with hbRw := bit w 30, hbPage := w.extractLsb' 26 4, hbAddr := w.extractLsb' 19 7 }) else m
    if bit k 31 then hbctlGo a acks m else m
  | 0x1C => if sv then m.onHif a (fun h => { h with hbData := w.truncate 16 }) else m
  | 0x20 => m.onHif a (fun h => { h with lifeCnt := w.extractLsb' 4 2, lifeHead := w.extractLsb' 0 4 })
  | _ => m

/-- CHn (Table 9-15): a tolerance of 7 and a reserved trigger leave their field as it is. -/
def writeCh (sv : Bool) (a : Act) (off : Nat) (w : Reg) (m : Mach) : Mach :=
  match off with
  | 0x08 => if sv then m.onCh a (fun c => { c with
      bgTol := if field w 8 3 = 7 then c.bgTol else w.extractLsb' 8 3
      pnTol := if field w 0 3 = 7 then c.pnTol else w.extractLsb' 0 3 }) else m
  | 0x0C => if sv then m.onCh a (fun c => { c with
      iterExt := w.extractLsb' 24 8, detExt := w.extractLsb' 20 4, det := w.extractLsb' 16 4, iter := w.extractLsb' 8 8, mu := w.extractLsb' 4 4
      adapt := w.extractLsb' 0 4 }) else m
  | 0x24 => m.onCh a (fun c => { c with capTick := w.truncate 16, capTrig := if field w 30 2 = 3 then c.capTrig else w.extractLsb' 30 2 })
  | 0x28 => m.onCh a (fun c => { c with metRegion := w.extractLsb' 4 6, metHead := w.extractLsb' 0 4 })
  | _ => m

/-- CFXn (Table 11-15). STATUS.IRQ is write-1-to-clear. -/
def writeCfx (sv : Bool) (a : Act) (off : Nat) (w k : Reg) (m : Mach) : Mach :=
  match off with
  | 0x00 => if bit k 5 then m.onCfx a (fun c => { c with irq := false }) else m
  | 0x08 => if sv then m.onCfx a (fun c => { c with hold := bit w 0 }) else m
  | 0x24 =>
    let m := m.onCfx a (fun c => { c with rowSel := w.truncate 13 })
    if sv then m.onCfx a (fun c => { c with test := bit w 31 }) else m
  | 0x28 => storeDataWrite a w m
  | 0x2C => if sv then m.onCfx a (fun c => { c with chk := w.truncate 7 }) else m
  | _ => m

/-- BCM (Table 14-10). -/
def writeBcm (sv : Bool) (off : Nat) (w : Reg) (m : Mach) : Mach :=
  match off with
  | 0x24 => { m with bcm.scrubSel := w.truncate 4 }
  | 0x34 => ecctestAccess w m
  | 0x38 => { m with bcm.testAddr := BitVec.ofNat 33 (m.bcm.testAddr.toNat / 2 ^ 32 * 2 ^ 32 + w.toNat) }
  | 0x3C => { m with bcm.testAddr := BitVec.ofNat 33 (w.toNat % 2 * 2 ^ 32 + m.bcm.testAddr.toNat % 2 ^ 32) }
  | 0x40 => if sv then { m with bcm.testData := m.bcm.testData.extractLsb' 32 56 ++ w } else m
  | 0x44 => if sv then { m with bcm.testData := m.bcm.testData.extractLsb' 64 24 ++ w ++ m.bcm.testData.extractLsb' 0 32 } else m
  | 0x48 => if sv then { m with bcm.testData := w.extractLsb' 0 24 ++ m.bcm.testData.extractLsb' 0 64 } else m
  | 0x4C => { m with bcm.grantSel := w.truncate 4 }
  | _ => m

/-- PRT: CTL.LINK_DIS (Table 16-15, R1043): a link that is disabled goes down. -/
def writePrt (sv : Bool) (off : Nat) (w : Reg) (m : Mach) : Mach :=
  let put := fun (p : Act) =>
    let was := (m.prt.get p).linkDis
    let m := { m with prt := m.prt.upd p (fun x => { x with linkDis := bit w 0 }) }
    if bit w 0 && !was then linkDownAt p 4 m else m
  if !sv then m
  else if off = 0x0C then put .a0
  else if off = 0x10C then put .a1
  else m

/-- The fields of one register other than event bits, each under its access type (R32, R933). -/
def writeFields (acks : List Ack) (b off : Nat) (mask w k : Reg) (m : Mach) : Mach :=
  let sv := decide (m.sup.mode = Mode.service)
  let a := blockAct b
  match b with
  | 0x01 => writePwr sv off w m
  | 0x02 => writeClk sv off mask w k m
  | 0x03 => writeSpn sv off w m
  | 0x04 | 0x05 => writeSrv a off mask w k m
  | 0x06 | 0x07 => writeHif sv a acks off w k m
  | 0x08 | 0x09 => writeCh sv a off w m
  | 0x0A | 0x0B => writeCfx sv a off w k m
  | 0x0C => if off = 0x08 then { m with sch.ctrl := w.truncate 3 } else m
  | 0x0E => writeBcm sv off w m
  | 0x10 => if decide (off = 0x10) && sv then { m with fe.wdtMs := w.truncate 16 } else m
  | 0x11 => if off = 0x14 then { m with dsv.groupSel := w.truncate 3 } else m
  | 0x12 => if off = 0x18 then { m with evr.dropSel := w.truncate 2 } else m
  | 0x13 =>
    if off = 0x04 then { m with cal.pause := bit w 0 }
    else if off = 0x30 then { m with cal.resKind := w.extractLsb' 8 3, cal.resDh := w.extractLsb' 0 5 }
    else m
  | 0x14 => writePrt sv off w m
  | _ => m

/-- Write one register under a mask (R933, R934): a register whose group is in reset ignores it. -/
def writeReg (acks : List Ack) (addr : Nat) (value mask : Reg) (m : Mach) : Mach :=
  let b := regBlock addr
  let off := regOff addr
  if blockDark m b then m
  else
    let k := value &&& mask
    let w := (plainWord m b off &&& ~~~mask) ||| k
    clearEvents b off k (writeFields acks b off mask w k m)

/-- REG_READ (R931, R932). -/
def execRegRead (h : Hdr) (s : State) : Out := s.run (service 0x0D01 h lvHost
  (fun _ => [reserved [h.p2, h.p3], (decide (h.p1 = 0) || decide (256 < h.p1.toNat) || badRange h.p0.toNat h.p1.toNat, stBadParam)])
  (fun m =>
    let r := readRegs h.p0.toNat h.p1.toNat m
    reply h stOk 0 (regBytes r.1) r.2))

/-- REG_WRITE (R931, R933, R934): the reply carries the register read after the write. `acks` are the preamp's answers when the write starts a
head-bus frame. -/
def execRegWrite (h : Hdr) (acks : List Ack) (s : State) : Out := s.run (service 0x0D02 h lvMaint
  (fun _ => [reserved [h.p3], (badRange h.p0.toNat 1, stBadParam)])
  (fun m =>
    let r := readReg h.p0.toNat (writeReg acks h.p0.toNat h.p1 h.p2 m)
    reply h stOk 0 (regBytes [r.1]) r.2))

/-- COUNTER_LOW_READ (R20): the low register at an address of the register space is read. -/
def execCounterLowRead (addr : BitVec 24) (s : State) : Out := s.run (fun m => (readReg addr.toNat m).2)

end Sys2Proof.Machine
end

