-- ==== Sys2Proof/Machine/ServoPosition.lean ====
section
/-! DEFINITION. Meanings of the position-sensing events (spec/06_servo_position.md). An event whose stated condition does not hold
changes nothing (log entry 5). -/

namespace Sys2Proof.Machine

/-- The unit reports the events of this chapter: heads off the ramp and acquired, not in OPEN or RETRACT (R339). -/
def posReports (m : Mach) (a : Act) : Bool :=
  (match (m.srv.get a).st with
   | .opened | .retract => false
   | _ => true) && (m.srvRef.get a).acquired

/-- Report an event of the selected data head where R339 allows it (Table 6-12). -/
def reportPos (a : Act) (base : Nat) (ps : List Byte) (m : Mach) : Mach :=
  ifDo (posReports m a) (report (actCode base a) (onHead a (m.srv.get a).head.toNat) ps) m

/-- Report an event of the reference alone, which names H0, where R339 allows it (Table 6-12). -/
def reportRef (a : Act) (base : Nat) (ps : List Byte) (m : Mach) : Mach :=
  ifDo (posReports m a) (report (actCode base a) (onHead a 0) ps) m

/-- Write-unsafe of Table 6-5. -/
def posUnsafe (a : Act) (align : Bool) (m : Mach) : Mach :=
  refreshInhibit a (m.onRef a (fun r => { r with wusPos := true, wusAlign := r.wusAlign || align, goodFields := 0, alignTrust := r.alignTrust && !align }))

/-- The write-unsafe of Table 6-5 is released (R338). -/
def posRelease (a : Act) (m : Mach) : Mach :=
  let r := m.srvRef.get a
  let auth := posSet m a 10 2 384
  if r.wusPos && decide (64 ≤ r.validRun) && (!r.wusAlign || (decide (2 ≤ r.goodFields) && decide ((m.srv.get a).alignC.natAbs < auth))) then
    refreshInhibit a (m.onRef a (fun r => { r with wusPos := false, wusAlign := false }))
  else m

/-- The lane whose pair sum with its neighbour is largest, the first on a tie (R314). -/
def bestLane (x : List Nat) : Nat :=
  let s := fun j => x.getD j 0 + x.getD ((j + 1) % 4) 0
  (List.range 4).foldl (fun b j => if s b < s j then j else b) 0

/-- The pair sum of a set, in 0.1 % of the AGC reference. -/
def pairSum (x : List Nat) : Nat := x.getD (bestLane x) 0 + x.getD ((bestLane x + 1) % 4) 0

/-- The strongest lane outside an excluded one, the first on a tie. -/
def strongest (x : List Nat) (skip : Option Nat) : Nat :=
  ((List.range 4).filter (fun j => some j != skip)).foldl (fun b j => if x.getD b 0 < x.getD j 0 then j else b)
    (if skip = some 0 then 1 else 0)

/-- A set passes a window (R313): its two strongest lanes are adjacent and their sum lies in AMP_LO to AMP_HI percent. -/
def setPasses (m : Mach) (a : Act) (x : List Nat) : Bool :=
  let i := strongest x none
  let j := strongest x (some i)
  ((i + 1) % 4 == j || (j + 1) % 4 == i)
    && decide (10 * posSet m a 14 1 50 ≤ pairSum x) && decide (pairSum x ≤ 10 * posSet m a 15 1 200)

/-- lin of R314 at r = b ÷ s: the 65 entries of record 0xn04; without the record 16 per entry (log entry 16). -/
def linTable (m : Mach) (a : Act) (inst b s : Nat) : Nat :=
  let e := fun i => match recKeyed m (srvTy a 0x04) (recKey a.idx 0xFF 0xFF inst) with
    | some v => fieldAt v (4 + 2 * i) 2
    | none => 16 * i
  if s = 0 then 0
  else
    let i := 64 * b / s
    e i + (e (i + 1) - e i) * (64 * b % s) / s

/-- The fraction of a set (R314). -/
def setFraction (m : Mach) (a : Act) (inst : Nat) (x : List Nat) : Nat :=
  let j := bestLane x
  (1024 * j + linTable m a inst (x.getD ((j + 1) % 4) 0) (pairSum x) + 512 * inst) % 4096

/-- A difference taken into −2,048 to 2,047 modulo 4,096 (R315). -/
def wrap12 (x : Int) : Int := (x + 2048) % 4096 - 2048

/-- The prediction of R317. -/
def predicted (m : Mach) (a : Act) : Int :=
  match (m.srv.get a).st with
  | .hold | .follow => match (m.srvRef.get a).word1, (m.srvRef.get a).word2 with
    | some x, some y => 2 * (x.toNat : Int) - y.toNat
    | some x, none => x.toNat
    | none, _ => (m.srv.get a).xEst
  | _ => (m.srv.get a).xEst

/-- The word of a fraction whose period index lies nearest a prediction (R317). -/
def nearestWord (frac : Nat) (p : Int) : Int := (frac : Int) + 4096 * ((p - frac + 2048) / 4096)

/-- A period index lies in a range of the lane-damage map for a set (R341). -/
def damaged (r : SrvRef) (set : LaneSet) (period : Nat) : Bool :=
  r.damage.any (fun d => d.set == set && decide (d.first.toNat ≤ period) && decide (period < d.first.toNat + d.periods.toNat))

/-- Windows in a revolution at the measured speed: 4 MS/s (R311). -/
def windowsPerRev (m : Mach) : Nat := 24000000000 / (if m.spn.speed = 0 then 1 else m.spn.speed.toNat)

/-- Fallback to one lane set is armed (R340). -/
def laneFallback (m : Mach) (a : Act) : Bool := armed m (actCode 0x0431 a) == 5

/-- The value of record 0xn84 for a map (Table 6-10). -/
def damageBytes (ds : List LaneRange) : List Byte :=
  leBytes 2 ds.length ++ leBytes 2 0 ++ (ds.map (fun d => leBytes 4 d.first.toNat ++ leBytes 2 d.periods.toNat ++ leBytes 1 (if d.set = .setA then 0 else 1) ++ leBytes 1 0)).flatten

/-- A set fails a window at a period index, or passes it (R341): after a whole revolution of failures the period enters the map,
staged as record 0xn84; a full map reports event 0x37. -/
def laneDamage (a : Act) (set : LaneSet) (failed : Bool) (period : Nat) (m : Mach) : Mach :=
  let r := m.srvRef.get a
  if !laneFallback m a || !(m.srvRef.get a).acquired || damaged r set period then m
  else
    let here := r.laneFails.find? (fun f => f.set == set)
    let rest := r.laneFails.filter (fun f => f.set != set)
    if !failed then m.onRef a (fun r => { r with laneFails := rest })
    else
      let n := match here with
        | some f => if f.period = period then f.windows + 1 else 1
        | none => 1
      if n < windowsPerRev m then m.onRef a (fun r => { r with laneFails := ⟨set, period, n⟩ :: rest })
      else if 256 ≤ r.damage.length then reportRef a 0x0437 [] (m.onRef a (fun r => { r with laneFails := rest }))
      else
        let ds := r.damage ++ [⟨BitVec.ofNat 32 period, 1, set⟩]
        stageOwn ⟨srvTy a 0x84, damageBytes ds⟩ (m.onRef a (fun r => { r with damage := ds, laneFails := rest }))

/-- An invalid window (R336, R337): marked, counted, and after INV_LIMIT in a row write-unsafe with event 0x34; the bin is spoilt
(R390). -/
def windowInvalid (a : Act) (period : Nat) (m : Mach) : Mach :=
  let m := m.onRef a (fun r => { r with invCnt := r.invCnt.inc, invRun := r.invRun + 1, validRun := 0, setInUse := 0, correcting := false })
  let m := m.onSrv a (fun c => { c with
    cycAge := c.cycAge + 1, binBad := true, xEst := Config.estPos c.xEst c.vEst none, vEst := Config.estVel c.xEst c.vEst none })
  if (m.srvRef.get a).invRun = (m.srvRef.get a).invLimit.toNat then
    posUnsafe a false (reportRef a 0x0434 (leBytes 3 period) m)
  else m

/-- A valid window with its word and the sets it came from (R317, R329, R338). -/
def windowValid (a : Act) (angle : Nat) (w : BitVec 32) (sets : BitVec 2) (m : Mach) : Mach :=
  let c := m.srv.get a
  let o := offsetAt m a c.head.toNat c.tgtTrack.toNat angle
  let m := m.onRef a (fun r => { r with
    word2 := r.word1, word1 := some w, invRun := 0, validRun := r.validRun + 1, setInUse := sets
    pos := if r.acquired then w else 0
    dataPos := if r.acquired then BitVec.ofInt 32 ((w.toNat : Int) + o) else 0 })
  let m := m.onSrv a (fun c => { c with
    cycWord := some w, cycAge := 0, xEst := Config.estPos c.xEst c.vEst (some w), vEst := Config.estVel c.xEst c.vEst (some w) })
  posRelease a m

/-- The fraction a window delivers (Table 6-3), with the sets used, or none when it is invalid. -/
def windowFraction (m : Mach) (a : Act) (pa pb : Bool) (ua ub : Nat) : Option (Nat × BitVec 2) :=
  let d := wrap12 ((ub : Int) - ua)
  let jump := posSet m a 2 2 512
  let off := fun (u : Nat) => (wrap12 ((u : Int) - predicted m a)).natAbs
  match pa, pb with
  | true, true =>
    if d.natAbs ≤ (m.srvRef.get a).laneAgree.toNat then some ((((ua : Int) + d.tdiv 2) % 4096).toNat, 3)
    else if !laneFallback m a then none
    else if off ua ≤ off ub then (if off ua ≤ jump then some (ua, 1) else none)
    else (if off ub ≤ jump then some (ub, 2) else none)
  | true, false => if laneFallback m a then some (ua, 1) else none
  | false, true => if laneFallback m a then some (ub, 2) else none
  | false, false => none

/-- The events and counts of a window by the sets that pass (Table 6-5). -/
def windowEvents (a : Act) (pa pb : Bool) (ua ub period : Nat) (skipped : Bool) (m : Mach) : Mach :=
  let r := m.srvRef.get a
  let amps := leBytes 2 r.ampA.toNat ++ leBytes 2 r.ampB.toNat
  let d := wrap12 ((ub : Int) - ua)
  match pa, pb with
  | true, true =>
    if r.laneAgree.toNat < d.natAbs then reportRef a 0x0432 (leBytes 2 (twosComp 2 d) ++ leBytes 3 period) m else m
  | false, false => reportRef a 0x0433 amps m
  | _, _ =>
    let m := ifDo (laneFallback m a) (fun m => m.onRef a (fun r => { r with fbCnt := r.fbCnt.inc })) m
    if laneFallback m a && !skipped then reportRef a 0x0431 (leBytes 1 (if pa then 1 else 0) ++ leBytes 3 period) m else m

/-- The demodulator runs: heads off the ramp, AT_SPEED set, the group out of reset (R308). -/
def demodulates (m : Mach) (a : Act) : Bool := loaded m a && m.spn.atSpeed && !inReset m (.act a)

/-- The gain control after a window (R312): it follows the mean of the two pair sums, and is frozen where no set passes. -/
def agc (pass : Bool) (x y : Nat) (r : SrvRef) : SrvRef :=
  { r with agcFrozen := !pass, gain := if pass then Config.agcStep r.gain ((x + y) / 2) else r.gain }

/-- DEMOD_WINDOW (R308, R311 to R317, R321, R329, R336 to R341): the four magnitudes of each set as the ADC gives them, which the gain brings to 0.1 %
of the AGC reference, the angle after the mark in 1/65,536 revolution, and whether gain and window alignment have settled. -/
def execDemodWindow (a : Act) (magA magB : List Nat) (angle : BitVec 16) (settled : Bool) (s : State) : Out := s.run (fun m =>
  if !demodulates m a then m
  else
    let g := (m.srvRef.get a).gain
    let xA := magA.map (fun x => x * g / 65536)
    let xB := magB.map (fun x => x * g / 65536)
    let p := predicted m a
    let period := (p / 4096).toNat
    let skipA := damaged (m.srvRef.get a) .setA period
    let skipB := damaged (m.srvRef.get a) .setB period
    let pa := setPasses m a xA && !skipA
    let pb := setPasses m a xB && !skipB
    let ua := setFraction m a 0 xA
    let ub := setFraction m a 1 xB
    let m := (m.onSrv a (fun c => { c with angle := angle })).onRef a (fun r => { agc (pa || pb) (pairSum xA) (pairSum xB) r with
      aOk := pa, bOk := pb, ampA := BitVec.ofNat 16 (satTo 65535 (pairSum xA)), ampB := BitVec.ofNat 16 (satTo 65535 (pairSum xB))
      acquired := r.acquired || (settled && r.indexValid) })
    let m := laneDamage a .setB (!pb) period (laneDamage a .setA (!pa) period m)
    let m := windowEvents a pa pb ua ub period (skipA || skipB) m
    match windowFraction m a pa pb ua ub with
    | none => windowInvalid a period m
    | some (u, sets) =>
      let w := nearestWord u p
      if (m.srvRef.get a).correcting || decide (posSet m a 2 2 512 < (w - p).natAbs) then windowInvalid a period m
      else windowValid a angle.toNat (BitVec.ofInt 32 w) sets m)

/-- The centre of a lane (Table 6-1). -/
def laneCentre (set : LaneSet) (lane period : Nat) : Int :=
  4096 * (period : Int) + 1024 * lane + (match set with | .setA => 0 | .setB => 512)

/-- CRC-6 of Table 6-2, polynomial x⁶ + x + 1, over bits in the order they come; that it starts at 0 is this model's choice (DESIGN CHOICE, log
entry 103). -/
def crc6 : List Bool → BitVec 6 → BitVec 6
  | [], c => c
  | b :: bs, c => crc6 bs ((c <<< 1) ^^^ (if xor b c.msb then 0b000011#6 else 0#6))

/-- Symbols of an index frame as bits, the first one the highest: CHECK is right over symbols 4 to 33 (Table 6-2). -/
def frameCheckOk (x : BitVec 40) : Bool :=
  crc6 ((List.range 30).map (fun i => x.getLsbD (35 - i))) 0 == x.truncate 6

/-- An index frame is valid (R318): SYNC, CHECK, and its lane at 25 % of the AGC reference or more throughout. -/
def frameValid (x : BitVec 40) (amp : BitVec 16) : Bool := x.extractLsb' 36 4 == 0b1101#4 && frameCheckOk x && decide (250 ≤ amp.toNat)

/-- PERIOD of a frame's symbols (Table 6-2). -/
def framePeriod (x : BitVec 40) : Nat := (x.extractLsb' 16 20).toNat
/-- FRAME of a frame's symbols. -/
def frameNumber (x : BitVec 40) : BitVec 10 := x.extractLsb' 6 10

/-- A valid frame (R319, R320, R322, R323): INDEX_VALID; frame 0 is the once-around mark; a disagreeing period is adopted with event 0x35,
write-unsafe in FOLLOW, and the window of the correction is invalid. -/
def frameSeen (a : Act) (set : LaneSet) (lane period : Nat) (mark : Bool) (m : Mach) : Mach :=
  let m := m.onRef a (fun r => { r with indexValid := true, markOk := r.markOk || mark, markLost := r.markLost && !mark })
  match (m.srvRef.get a).word1 with
  | none => m.onSrv a (fun c => { c with xEst := laneCentre set lane period })
  | some w =>
    let x : Int := w.toNat
    let y := nearestWord (w.toNat % 4096) (laneCentre set lane period)
    if (laneCentre set lane period - x).natAbs ≤ 2048 then m
    else
      let m := reportRef a 0x0435 (leBytes 3 (x / 4096).toNat ++ leBytes 3 (y / 4096).toNat) m
      let m := m.onRef a (fun r => { r with
        word1 := some (BitVec.ofInt 32 y), word2 := none, correcting := true
        pos := if r.acquired then BitVec.ofInt 32 y else 0, dataPos := if r.acquired then BitVec.ofInt 32 ((r.dataPos.toNat : Int) + (y - x)) else 0 })
      let m := m.onSrv a (fun c => { c with xEst := c.xEst + (y - x) })
      if (m.srv.get a).st == .follow then posUnsafe a false m else m

/-- INDEX_FRAME (R318 to R320, R322, R323): the 40 symbols of a lane, and its least amplitude over them in 0.1 % of the AGC reference. -/
def execIndexFrame (a : Act) (set : LaneSet) (lane : BitVec 2) (symbols : BitVec 40) (amp : BitVec 16) (s : State) : Out := s.run (fun m =>
  if !demodulates m a || !frameValid symbols amp then m
  else frameSeen a set lane.toNat (framePeriod symbols) (frameNumber symbols == 0) m)

/-- ACQ_LIMIT_EXPIRY (R321, R339). -/
def execAcqLimitExpiry (a : Act) (s : State) : Out := s.run (fun m =>
  let r := m.srvRef.get a
  if (m.srv.get a).st == .seek && !r.acquired && loaded m a then
    report (actCode 0x0430 a) (onHead a 0) (leBytes 2 r.ampA.toNat ++ leBytes 2 r.ampB.toNat) m
  else m)

/-- MARK_MISSING (R323): frames decode but frame 0 has not been seen for 2 revolutions. -/
def execMarkMissing (a : Act) (s : State) : Out := s.run (fun m =>
  if demodulates m a && (m.srvRef.get a).indexValid && !(m.srvRef.get a).markLost then
    reportRef a 0x0443 [] (m.onRef a (fun r => { r with markOk := false, markLost := true }))
  else m)

/-- One update of the alignment loop with a qualifying error (R351, R364, R382 to R386): c follows, clamped to ±ALIGN_AUTH; at the clamp the
state s1 is held and Table 6-5 applies. -/
def alignUpdate (a : Act) (e : Int) (m : Mach) : Mach :=
  let c := m.srv.get a
  let auth : Int := posSet m a 10 2 384
  let base := bankBase 2 (c.bankOf .align)
  let q := runBiquad c base (toAcc e) (c.primed .align base (toAcc e) c.cAlign)
  let y := loopOut (c.word base) q.yLast auth
  let clamped := decide (auth ≤ (y.natAbs : Int))
  let m := m.onSrv a (fun c => { c.due .align false with alignC := y, cAlign := if clamped then { q with s1 := toAcc y } else q })
  if clamped then posUnsafe a true (reportPos a 0x0442 (leBytes 2 (twosComp 2 y)) m) else m

/-- ALIGN_Q from the readers that POSCFG.ALIGN_READER names (R333, Table 6-9): reader 0, reader 1, or the mean of both, truncated toward zero (DESIGN
CHOICE, log entry 103). -/
def alignQ (reader : BitVec 2) (q0 q1 : Int) : Int := match reader.toNat with
  | 1 => q0
  | 2 => q1
  | _ => (q0 + q1).tdiv 2

/-- The track nearest `t` whose low 12 bits are the code (R333). -/
def codeTrack (t code : Nat) : Int := (t : Int) + wrap12 ((code : Int) - t)

/-- An ALIGN_MAP run is in progress: the alignment loop is frozen and c is held (R540). -/
def mapRun (m : Mach) (a : Act) : Bool := match (m.cal.act.get a).run with
  | some r => r.job.kind == 4
  | none => false

/-- ALIGNMENT_FIELD (R308, R333 to R338, R382): the channel's report of one field of a head: whether its mark was found, the 12-bit code and
the offset that each reader gives. A measurement of a head no longer selected is discarded (R335). -/
def execAlignmentField (a : Act) (head : BitVec 4) (fld : BitVec 7) (found : Bool) (code : BitVec 12) (q0 q1 : Int) (s : State) : Out := s.run (fun m =>
  let c := m.srv.get a
  if head != c.head || !(c.st == .settle || c.st == .follow) || !demodulates m a then m
  else
    let q := alignQ (m.srvRef.get a).alignReader q0 q1
    let t := c.tgtTrack.toNat
    if !found then
      let m := m.onRef a (fun r => { r with
        fieldNo := fld, fieldValid := false, amissCnt := r.amissCnt.inc, missRun := r.missRun + 1, goodFields := 0
        missFirst := if r.missRun = 0 then fld else r.missFirst })
      let m := m.onSrv a (fun c => { c with fieldOk := c.st == .follow })
      let r := m.srvRef.get a
      if r.missRun = r.missLimit.toNat then
        posUnsafe a true (reportPos a 0x0441 (leBytes 1 r.missFirst.toNat ++ leBytes 4 r.missRun) m)
      else m
    else
      let t2 := codeTrack t code.toNat
      let e : Int := ((trackPos m a head.toNat t2.toNat).getD 0 : Int) - ((trackPos m a head.toNat t).getD 0 : Int)
        + (q * (pitchAt m a head.toNat t2.toNat : Int)).tdiv 1048576
      let m := m.onRef a (fun r => { r with fieldNo := fld, fieldValid := true, fieldErr := BitVec.ofInt 24 e, missRun := 0 })
      if decide ((m.srvRef.get a).alignLimit.toNat < e.natAbs) || t2 != t then
        let m := m.onSrv a (fun c => { c with fieldOk := c.st == .follow })
        posUnsafe a true (reportPos a 0x0440 (leBytes 1 fld.toNat ++ leBytes 3 (twosComp 3 e) ++ leBytes 3 t2.toNat) m)
      else
        let m := m.onRef a (fun r => { r with alignTrust := true, goodFields := r.goodFields + 1 })
        let m := if c.st == .follow && c.fieldOk && !mapRun m a then alignUpdate a e m else m
        posRelease a (m.onSrv a (fun c => { c with fieldOk := c.st == .follow })))

end Sys2Proof.Machine
end

