-- ==== Sys2Proof/Machine/Settings.lean ====
section
/-! DEFINITION. Meanings of the settings requests and of the commits' events (spec/18 R937 to R942, Table 18-6; spec/01 R63 to R70, R85). -/

namespace Sys2Proof.Machine

/-! ### READ_RECORD and STATUS -/

/-- A record with the credential hashes set to zeros (R925). -/
def masked (r : SRec) : SRec :=
  let z := fun (off : Nat) => r.val.take off ++ List.replicate (min 32 (r.val.length - off)) 0 ++ r.val.drop (off + 32)
  match r.ty with
  | 0x0003 => { r with val := z 0 }
  | 0x1101 => { r with val := z 32 }
  | _ => r

/-- The records of a source: in force, staged, bank A, bank B (Table 18-6). -/
def sourceRecs (m : Mach) : Nat → List SRec
  | 0 => m.sup.records
  | 1 => (m.svc.staged.filter (fun x => !x.2.1)).map (·.1)
  | 2 => ((validBank m .a0).map (·.recs)).getD []
  | _ => ((validBank m .a1).map (·.recs)).getD []

/-- READ_RECORD (R925, Table 18-6). -/
def execReadRecord (h : Hdr) (s : State) : Out := s.run (service 0x0201 h lvHost
  (fun _ => [reserved [h.p3], (decide (3 < h.p2.toNat) || decide (0xFFFF < h.p0.toNat), stBadParam)])
  (fun m =>
    let ty := h.p0.toNat
    let key := leBytes 4 h.p1.toNat
    match (sourceRecs m h.p2.toNat).find? (fun r => r.ty == ty && srecKey r == key) with
    | none => reply h stNotPresent 0 [] m
    | some r => reply h stOk 0 (leBytes 2 ty ++ leBytes 2 r.val.length ++ (masked r).val) m))

/-- SEQ of a bank, 0 when it is invalid or not accessed (Table 18-6, R49). -/
def bankSeq (m : Mach) (k : Act) : Nat := ((validBank m k).map (fun (b : Bank) => b.seq.toNat)).getD 0

/-- STATUS (Table 18-6). -/
def execSettingsStatus (h : Hdr) (s : State) : Out := s.run (service 0x0204 h lvHost
  (fun _ => [reserved [h.p0, h.p1, h.p2, h.p3]])
  (fun m =>
    let recs := sourceRecs m 1
    let inUse := match m.sup.bankInUse with
      | some k => k.idx
      | none => 0xFF
    reply h stOk 0 (leBytes 4 (bankSeq m .a0) ++ leBytes 4 (bankSeq m .a1) ++ leBytes 1 inUse ++ leBytes 1 m.svc.lastCommit ++ leBytes 2 0
      ++ leBytes 4 recs.length ++ leBytes 4 (payloadBytes recs) ++ leBytes 8 m.svc.lastCommitAt.toNat ++ leBytes 4 0) m))

/-! ### STAGE_RECORD -/

/-- The authority that staging a type asks for (Table 18-9). -/
def stageLevel (ty : Nat) : Nat := if ty = 0x1101 then lvFactory else lvMaint

/-- The mode in force does not admit staging a type (Table 18-9). -/
def stageModeBad (m : Mach) (ty : Nat) : Bool :=
  if ty = 0x1180 ∨ ty = 0x1181 then m.sup.mode != .safe
  else (ty == 0x1101 || (isAdaptive ty && ty != 0x1182)) && m.sup.mode != .service

/-- The record that a DELETE names: its type and key (R79, R937). A single type is named with the key 0xFFFF_FFFF or with none. -/
def deleteRec (payload : List Byte) : SRec := ⟨fieldAt payload 0 2, if isSingle (fieldAt payload 0 2) then [] else payload.drop 2⟩

/-- The payload of a DELETE is one type and key. -/
def deleteLengthBad (payload : List Byte) : Bool :=
  !(payload.length == 6 || (payload.length == 2 && isSingle (fieldAt payload 0 2)))

/-- The payload is one record, of its type's length (R71, R938). -/
def recordLengthBad (payload : List Byte) : Bool :=
  decide (payload.length < 4) || fieldAt payload 2 2 != payload.length - 4
    || (knownTy (fieldAt payload 0 2) && !lengthOk (fieldAt payload 0 2) (payload.drop 4))

/-- Step 7 of Table 18-4: a record 0x1401 that selects Ethernet for a port on a variant without it (R7, R810). -/
def ethernetOnS0 (h : Hdr) (payload : List Byte) (m : Mach) : Bool :=
  m.id.variant == .s0 && h.p3.toNat % 4 == 0 && fieldAt payload 0 2 == 0x1401 && (fieldAt payload 4 1 == 1 || fieldAt payload 5 1 == 1)

/-- The staging area with one more entry: the later of a type and key is kept (R937). -/
def stagedWith (m : Mach) (r : SRec) (del : Bool) : List (SRec × Bool × Bool) := m.svc.staged.filter (fun x => !sameRec x.1 r) ++ [(r, del, false)]

/-- The next image with one more entry would exceed the payload (R940). -/
def tooLarge (m : Mach) (r : SRec) (del : Bool) : Bool := decide (maxPayload < payloadBytes (applyStaged m.sup.base (stagedWith m r del)))

/-- Checks of STAGE_RECORD at steps 9 and 10 for each form: DISCARD_ALL, DELETE, one record. -/
def stageChecks (h : Hdr) (payload : List Byte) (m : Mach) : List (Bool × Nat) :=
  let ty := fieldAt payload 0 2
  if h.p3 = 2 then [reserved [h.p0, h.p1, h.p2], (payload != [], stBadLength)]
  else [(stageModeBad m ty, stWrongMode), reserved [h.p0, h.p1, h.p2, h.p3 &&& ~~~(1#32)], (ty == 0x1182, stBadParam)]
    ++ (if h.p3 = 1 then
      let r := deleteRec payload
      [(deleteLengthBad payload, stBadLength), (isSingle ty && payload.length == 6 && payload.drop 2 != noKey, stBadParam), (tooLarge m r true, stBadLength)]
    else
      let r : SRec := ⟨ty, payload.drop 4⟩
      [(recordLengthBad payload, stBadLength), (knownTy ty && !recFits m r, stBadParam), (tooLarge m r false, stBadLength)])

/-- STAGE_RECORD (R810, R937 to R940, Table 18-9). -/
def execStageRecord (h : Hdr) (payload : List Byte) (s : State) : Out :=
  s.run (serviceFor (ethernetOnS0 h payload) 0x0202 h (if h.p3 = 2 then lvMaint else stageLevel (fieldAt payload 0 2)) (stageChecks h payload) (fun m =>
    reply h stOk 0 [] (
      if h.p3 = 2 then { m with svc.staged := m.svc.staged.filter (fun x => x.2.2) }
      else if h.p3 = 1 then { m with svc.staged := stagedWith m (deleteRec payload) true }
      else { m with svc.staged := stagedWith m ⟨fieldAt payload 0 2, payload.drop 4⟩ false })))

/-! ### Commits -/

/-- COMMIT (R65, R66, R236, R941): it starts at once or after the commit that runs; an HDA NOR that the module does not access fails it. -/
def execSettingsCommit (h : Hdr) (s : State) : Out := s.run (service 0x0203 h lvMaint
  (fun m => [(h.p0 == 1 && m.sup.mode != .safe && m.sup.mode != .service, stWrongMode), reserved [h.p0 &&& ~~~(1#32), h.p1, h.p2, h.p3]])
  (fun m => if mayCommit m then askCommit (some h) (h.p0 == 1) m else reply h stHwFault 0 [] (commitFailed m)))

/-- A commit ends well (R63, R244, R941, R942): the bank is in use, the stagings it took are gone, SUP 0x0044 and the reply of a request. -/
def commitDone (c : Commit) (m : Mach) : Mach :=
  let m := wearCheck (unstage c.taken (bankWritten (c.bank, c.image, c.recs) m))
  match c.req with
  | none => m
  | some h =>
    let m := { m with sup.serviceDirty := m.sup.serviceDirty || (m.sup.mode == .service && c.taken.any (fun x => !isAdaptive x.1.ty)) }
    let m := report 0x0044 nowhere (leBytes 4 c.image.seq.toNat ++ leBytes 4 c.taken.length ++ leBytes 1 c.force.toNat) m
    reply h stOk c.image.seq.toNat [] m

/-- COMMIT_COMPLETE (R64 to R66): the steps of a commit end; the next one that waits starts. After the last one at a clean shutdown come its
remaining steps (Table 4-8). -/
def execCommitComplete (ok : Bool) (s : State) : Out := s.run (fun m =>
  match m.svc.commit with
  | none => m
  | some c =>
    let m := { m with svc.commit := none }
    let m := if ok then commitDone c m else
      (match c.req with
       | none => commitFailed m
       | some h => reply h stHwFault 0 [] (commitFailed m))
    shutTail (startCommits m.svc.commitQueue.length m))

/-- ADAPTIVE_COMMIT (R68, R448, R902): at most once per hour of operating time, while a bank is in use. -/
def execAdaptiveCommit (s : State) : Out := s.run (fun m =>
  if adaptiveDue m && m.sup.mode != .off then adaptiveCommit m else m)

/-! ### The identity page -/

/-- IDENTITY_PAGE_PROGRAM (R85, R86): in SERVICE, on a carrier with an open FACTORY session, and only while the page is wholly erased. -/
def execIdentityPageProgram (who : Transport) (ref : Reg) (page : IdPage) (s : State) : Out := s.run (fun m =>
  if m.sup.mode == .service && m.hda.page.isNone && norUsable m && m.svc.sessions.any (fun x => x.ref == ref && x.who == who && x.level == lvFactory) then
    { m with hda.page := some page }
  else m)

end Sys2Proof.Machine
end

