-- ==== Sys2Proof/Machine/Spares.lean ====
section
/-! DEFINITION. Meanings of uncorrectable errors and of the spare requests (spec/19 R956 to R964). -/

namespace Sys2Proof.Machine

/-- UNCORRECTABLE_ERROR (R956 to R958, Table 19-4): by the memory in which a read or a scrub visit found it. -/
def execUncorrectableError (site : UeSite) (s : State) : Out := s.run (fun m => match site with
  | .engine e arr => engineFault e arr m
  | .port p arr =>
    if inReset m (.port p) then m
    else flow (portReset p (assertReset (.port p) (report 0x1430 nowhere (leBytes 1 p.idx ++ [arr]) m)))
  | .store a row => if inReset m (.act a) then m else storeFail a row.toNat m
  | .regionRam a h r => if inReset m (.act a) then m else regionRamFail a h r m
  | .servo a arr row => if inReset m (.act a) then m else servoRamFail a arr row m
  | .spindle arr => if inReset m .spn then m else spnModuleReset (report 0x0360 nowhere [arr] m)
  | .fabric arr ad rows => if inReset m .fab then m else fabUncorrectable arr.toNat ad.toNat rows m
  | .supervisor arr ad => fabSequence 0 { report 0x0050 nowhere ([arr] ++ leBytes 5 ad.toNat) m with sup.restart := true })

/-! ### SPARE_STATUS (R962) -/

/-- One spare entry. -/
def spareEntry (kind inst total used : Nat) : List Byte :=
  leBytes 1 kind ++ leBytes 1 inst ++ [0#8, 0#8] ++ leBytes 4 total ++ leBytes 4 used ++ leBytes 4 (total - used)

/-- One wear entry. -/
def wearEntry (item inst value limit : Nat) : List Byte := leBytes 1 item ++ leBytes 1 inst ++ [0#8, 0#8] ++ leBytes 8 value ++ leBytes 4 limit

/-- Both actuators. -/
def acts : List Act := [.a0, .a1]

/-- Cellar bands of a head: flagged in record 0x0D02, or added (R615, R648). -/
def cellarOf (m : Mach) (a : Act) (h : Nat) : List Nat :=
  ((allBands m a).filter (fun b => b.2)).map (fun b => b.1) ++ (m.zmg.maps.cellarAdded.filter (fun x => x.1 == a.idx)).map (fun x => x.2) |>.filter (fun p => p % 16 == h)

/-- Every spare kind's instances (Table 19-6, log entry 58). -/
def spareList (m : Mach) : List Byte :=
  spareEntry 1 0xFF 49152 (m.bcm.retFrames.length)
    ++ spareEntry 2 0xFF 4096 m.bcm.retPages.length
    ++ acts.flatMap (fun a => spareEntry 3 a.idx 32 ((List.range 32).filter (fun k => (m.cfx.get a).sparesUsed.getLsbD k)).length)
    ++ spareEntry 4 0xFF 64 m.fe.rowRemap.length
    ++ acts.flatMap (fun a => spareEntry 5 a.idx (64 * (allBands m a).length) ((m.zmg.maps.spareUsed.filter (fun e => e.1 / 2 ^ 24 == a.idx)).foldl (fun n e => n + e.2) 0))
    ++ acts.flatMap (fun a => (dataHeads m a).flatMap (fun h =>
        let all := (cellarOf m a h).length
        spareEntry 6 (dhOf a h) all (all - ((cellarFree m a).filter (fun p => p % 16 == h)).length)))
    ++ acts.flatMap (fun a => spareEntry 8 a.idx 256 (m.srvRef.get a).damage.length)
    ++ acts.flatMap (fun d =>
        let bad := (m.vlt.bad.filter (fun b => b / 2048 == d.idx)).length
        spareEntry 9 d.idx (2044 - (vaultBlocks m + 8)) bad)
    ++ spareEntry 10 m.fe.active.other.idx 1 (!standbySound m).toNat
    ++ spareEntry 11 0xFF 1 (match m.sup.bankInUse with
        | some k => (validBank m k.other).isNone
        | none => true).toNat
    ++ spareEntry 12 0xFF 2 (match fwRunning m with
        | some x => (!fwVerifies m x.other).toNat
        | none => 2)

/-- Every wear item's instances (Table 19-8). -/
def wearList (m : Mach) : List Byte :=
  let ws := wearItems m
  (ws.take 5).flatMap (fun x => wearEntry x.1 x.2.1 x.2.2.1 x.2.2.2)
    ++ acts.flatMap (fun a => (dataHeads m a).flatMap (fun h =>
        wearEntry 4 (dhOf a h) (((m.hif.get a).life.getD (h - 1) {}).astCharge.val.toNat) (assistLife m a h)))
    ++ (ws.drop 5).flatMap (fun x => wearEntry x.1 x.2.1 x.2.2.1 x.2.2.2)

/-- SPARE_STATUS. -/
def execSpareStatus (h : Hdr) (s : State) : Out := s.run (service 0x0903 h lvHost
  (fun _ => [reserved [h.p0, h.p1, h.p2, h.p3]])
  (fun m => reply h stOk 0 (spareList m ++ wearList m) m))

/-! ### SPARE_COMMIT (R961, Table 19-7) -/

/-- Pinned sectors of an actuator whose band has no free spare slot take a cellar band (R646, R648). -/
def substPinned (a : Act) (m : Mach) : Mach := m.zmg.pins.foldl (fun m p =>
  match nsOf m p.1 with
  | none => m
  | some n =>
    if n.kind = .managed || lbaAct n.kind p.2 ≠ a || !m.zmg.pins.contains p then m
    else match livePlace m n p.2 with
      | none => m
      | some (pbn, _) =>
        if spareSlots (decide (n.kind = .conventional)) m a pbn ≤ sparesUsedOf m a pbn then
          (match cellarFor m a pbn with
           | some new => substitute a n (lbaBand n.kind p.2).1 pbn new m
           | none => m)
        else m) m

/-- The parameters of a spare kind that are reserved or out of range, or name no such object (BAD_PARAM). -/
def spareBad (m : Mach) (h : Hdr) : Bool :=
  let p1 := h.p1.toNat
  let p2 := h.p2.toNat
  let lba := p2 + 2 ^ 32 * h.p3.toNat
  match h.p0.toNat with
  | 1 => h.p3 != 0 || decide (12288 ≤ p1) || decide (16 ≤ p2) || decide (4 ≤ retiredIn m p1)
  | 3 => h.p3 != 0 || decide (2 ≤ p1) || decide (4096 ≤ p2)
  | 4 => h.p2 != 0 || h.p3 != 0 || decide (3392 ≤ p1)
  | 5 => !(m.zmg.pins.contains (p1, lba) || (m.zmg.maps.pend.p0 ++ m.zmg.maps.pend.p1).contains (p1, lba))
  | 6 => h.p3 != 0 || decide (2 ≤ p1) || !(freeBands m (Act.ofNum p1)).contains p2
  | 7 => h.p3 != 0 || (match nsOf m p1 with
      | some n => n.kind ≠ .zoned || (zoneOf m p1 p2).st ≠ .readOnly
      | none => true)
  | 8 => decide (2 ≤ p1) || decide (131072 ≤ h.p3.toNat)
  | 9 => h.p3 != 0 || decide (2 ≤ p1) || decide (p2 < 4) || decide (2048 ≤ p2)
  | 10 => h.p2 != 0 || h.p3 != 0 || decide (2 ≤ p1) || decide (Act.ofNum p1 = m.fe.active) || !(m.fe.faulty.get (Act.ofNum p1))
  | _ => true

/-- The spare cannot be brought in now (BUSY). -/
def spareBusy (m : Mach) (h : Hdr) : Bool :=
  let p1 := h.p1.toNat
  match h.p0.toNat with
  | 1 => (frameAt m (16 * p1 + h.p2.toNat)).lock
  | 3 => ((List.range 32).find? (fun k => !((m.cfx.get (Act.ofNum p1)).sparesUsed.getLsbD k))).isNone
  | 4 => decide (spareRows ≤ m.fe.rowRemap.length)
  | 8 => decide (256 ≤ (m.srvRef.get (Act.ofNum p1)).damage.length)
  | 9 =>
    let b := 2048 * p1 + h.p2.toNat
    (keptImages m).any (fun i => i.blocks.contains b) || m.vlt.writing.isSome || m.vlt.imp.isSome
  | _ => false

/-- What the spare does. -/
def spareDo (h : Hdr) (m : Mach) : Mach :=
  let p1 := h.p1.toNat
  let p2 := h.p2.toNat
  let a := Act.ofNum p1
  let lba := p2 + 2 ^ 32 * h.p3.toNat
  match h.p0.toNat with
  | 1 => retireFrame (16 * p1 + p2) m
  | 3 => remapRow a p2 m
  | 4 =>
    if m.fe.rowRemap.contains p1 then m
    else report 0x1030 nowhere (leBytes 2 p1 ++ leBytes 1 m.fe.rowRemap.length) { m with fe.rowRemap := m.fe.rowRemap ++ [p1] }
  | 5 => match nsOf m p1 with
    | none => m
    | some n =>
      let x := lbaAct n.kind lba
      if m.zmg.pins.contains (p1, lba) then
        (match livePlace m n lba with
         | some (pbn, k) => reallocate x n lba pbn k m
         | none => m)
      else match lbaPhys m n lba with
        | some p => addGrown x p m
        | none => m
  | 6 => substPinned a (saveMaps { m with zmg.maps.cellarAdded := m.zmg.maps.cellarAdded ++ [(a.idx, p2)] })
  | 7 => match nsOf m p1 with
    | none => m
    | some n =>
      let m := zoneLost (zoneAct p2) n p2 .offline m
      let m := (invalidate p1 (fun l => l / 65536 == p2) m).1
      onZoneDo p1 p2 (fun z => { z with spares := [] }) { m with zmg.pins := m.zmg.pins.filter (fun q => !(q.1 == p1 && q.2 / 65536 == p2)) }
  | 8 =>
    let ds := (m.srvRef.get a).damage ++ [⟨h.p2, h.p3.truncate 16, if bit h.p3 16 then .setB else .setA⟩]
    stageOwn ⟨srvTy a 0x84, damageBytes ds⟩ (m.onRef a (fun r => { r with damage := ds }))
  | 9 => retireBlock (2048 * p1 + p2) m
  | 10 => { m with fe.faulty := m.fe.faulty.upd a (fun _ => false) }
  | _ => m

/-- SPARE_COMMIT (R961). -/
def execSpareCommit (h : Hdr) (s : State) : Out := s.run (service 0x0904 h lvMaint
  (fun m => [(decide (m.sup.mode = Mode.standby), stWrongMode), (spareBad m h, stBadParam), (spareBusy m h, stBusy)])
  (fun m =>
    let m := report 0x1230 nowhere (leBytes 1 h.p0.toNat ++ leBytes 4 h.p1.toNat ++ leBytes 4 h.p2.toNat ++ leBytes 4 h.p3.toNat) (spareDo h m)
    reply h stOk 0 [] (flow m)))

end Sys2Proof.Machine
end

