-- ==== Sys2Proof/Machine/Zgp.lean ====
section
/-! DEFINITION. Meanings of the Zhetar group protocol: timers, frames and messages (spec/17 R875 to R902), and the peer-group requests (spec/17 Table 17-6).
A message that has been delivered waits in the inbox for the row of its type. -/

namespace Sys2Proof.Machine

/-! ### Groups at this member (R887, R888) -/

/-- Extents of all maps that the module holds (R886). -/
def mapExtents (m : Mach) : Nat := (m.dsv.groups.map (fun (g : Group_) => g.n * g.c)).sum

/-- A member refuses a group (R887). -/
def memberRefuses (m : Mach) (g : Group_) : Bool :=
  let mine := g.cols.filter (fun c => c.1 == m.dsv.module)
  decide (8 ≤ m.dsv.groups.length) || decide (3725290 < mapExtents m + g.n * g.c) || (groupOf m g.gid).isSome
    || mine.any (fun c => !(columnsOf m c.2).isEmpty || (match nsOf m c.2 with
      | some n => n.kind == .zoned || decide (n.size < g.c * extLbas)
      | none => true))

/-- The index of a new group: the lowest that is free. -/
def freeIndex (m : Mach) : Nat := ((List.range 8).find? (fun i => !m.dsv.groups.any (fun g => g.index == i))).getD 0

/-- A member takes a group up (R883, R887, R888): with FRESH its namespace's first C is deallocated, otherwise every parity extent is STALE; a parity
namespace is detached. Whether the commit has read back comes with it. -/
def takeGroup (g : Group_) (fresh ok : Bool) (m : Mach) : Mach × Bool :=
  let good := commitOk m ok
  let stale := ((List.range g.m).map (g.k + ·)).map (fun c => let x := g.cols.getD c (0, 0); (⟨c, .stale, x.1, 0, g.c, x.2, 0, 0⟩ : Override))
  let new := { g with index := freeIndex m, excepts := if fresh then [] else stale, told := 0 }
  let m := changeRecs [0x1182] zgpRecs good (fun m => { m with dsv.groups := m.dsv.groups ++ [new] }) m
  if !good then (m, false)
  else
    let mine := (List.range g.n).filter (fun c => (g.cols.getD c (0, 0)).1 == m.dsv.module)
    let m := mine.foldl (fun (m : Mach) (c : Nat) =>
      let i := (g.cols.getD c (0, 0)).2
      let m := if fresh then (match nsOf m i with
        | some n => (dropSectors n [(0, g.c * extLbas)] m).1
        | none => m) else m
      if c < g.k then m
      else saveMaps { m with zmg.maps.nss := m.zmg.maps.nss.map (fun n => if n.nsid = i then { n with att := ⟨false, false⟩ } else n) }) m
    (putGroup new m, true)

/-- A group is no more at this member: its definition leaves record 0x1182 with the next commit. -/
def dropGroup (gid : BitVec 32) (m : Mach) : Mach :=
  if (groupOf m gid).isNone then m
  else askCommit none false { m with dsv.groups := m.dsv.groups.filter (fun g => g.gid != gid) }

/-- A refusal, or a member DOWN, ends the creation on every member (R887). -/
def creationFails (m : Mach) : Mach := match m.dsv.creation with
  | none => m
  | some x => reply x.req stBadParam 0 [] (dropGroup x.grp.gid { sendAll x.grp (.groupAns x.grp.gid false) m with dsv.creation := none })

/-- A member has accepted, committed and acknowledged (R887). -/
def creationGoes (n : Nat) (m : Mach) : Mach := match m.dsv.creation with
  | none => m
  | some x =>
    let left := x.left.filter (· != n)
    if left.isEmpty then reply x.req stOk 0 [] { m with dsv.creation := none } else { m with dsv.creation := some { x with left := left } }

/-- What may follow a message: rebuilds and writes go on, commands held for rows are taken up. -/
def zgpFlow (m : Mach) : Mach := releaseHeldDo (flow m)

/-- Rebuilds that have restored their last row end (R857, R902): record 0x1182 is committed, DSV 0x1144, the reply with the extents restored. -/
def rebuildsEnd (ok : Bool) (m : Mach) : Mach :=
  (m.dsv.rebuilds.filter (fun r => r.rows.isEmpty)).foldl (fun (m : Mach) (r : Rebuild) => match r.req with
    | none => m
    | some h =>
      if m.svc.commit.isSome then m
      else
        let good := commitOk m ok
        let m := changeRecs [0x1182] zgpRecs good id { m with dsv.rebuilds := m.dsv.rebuilds.filter (fun x => x.req != r.req) }
        let i := ((groupOf m r.gid).map (fun g => g.index)).getD 0
        if good then reply h stOk r.done [] (report 0x1144 nowhere (leBytes 1 i ++ leBytes 4 r.done) m) else reply h stHwFault 0 [] m) m

/-! ### Timers (R875, R880) -/

/-- HELLO (R875): every HELLO_MS, to every peer; a HELLO that has not been acknowledged is sent again instead of a further one (log entry 71). -/
def execZgpHello (s : State) : Out := s.run (fun m =>
  if !m.dsv.joined || frozen m then m
  else m.dsv.peers.foldl (fun (m : Mach) (p : Peer) =>
    if m.dsv.log.any (fun l => l.dst == p.num && l.msg == .hello) then { m with dsv.zgpTx := m.dsv.zgpTx.inc } else sendZ p.num .hello none m) m)

/-- PEER_TIMEOUT (R875, R887, R897, R898). -/
def execZgpPeerTimeout (peer : BitVec 16) (s : State) : Out := s.run (fun m =>
  let m := peerDown peer.toNat m
  let m := if (m.dsv.creation.map (fun x => x.left.contains peer.toNat)).getD false && (peerOf m peer.toNat).any (fun p => p.down) then creationFails m else m
  zgpFlow m)

/-- RETRANSMIT (R879, R880): a logged frame goes out again, at most RETX_MAX times. -/
def execZgpRetransmit (dst : BitVec 16) (seq : BitVec 32) (s : State) : Out := s.run (fun m =>
  let hit := fun (l : Logged) => l.dst == dst.toNat && l.seq == seq && decide (l.again < setting m 0x1102 6 1 8)
  if m.dsv.log.any hit && !frozen m then
    { m with dsv.log := m.dsv.log.map (fun l => if hit l then { l with again := l.again + 1 } else l), dsv.zgpTx := m.dsv.zgpTx.inc }
  else m)

/-- ACK (R880, R891): frames up to its SEQ leave the log; writes that waited for them complete. `ok` is the outcome of the commit of a rebuild that
ends with it. -/
def execZgpAck (src : BitVec 16) (ack : BitVec 32) (ok : Bool) (s : State) : Out := s.run (fun m =>
  if (peerOf m src.toNat).isNone then m else rebuildsEnd ok (zgpFlow (ackLog src.toNat ack m)))

/-! ### Receiving (R876, R877, R881, Table 17-3) -/

/-- Deliver a frame and those held in order behind it, at most `f`. -/
def deliverFrames (src : Nat) : Nat → BitVec 32 → ZMsg → Mach → Mach
  | 0, _, _, m => m
  | f + 1, seq, msg, m =>
    let m := onPeer src (fun p => { p with d := some seq, held := p.held.filter (fun h => h.1 != seq) }) m
    let m := match msg with
      | .hello => { m with dsv.zgpTx := m.dsv.zgpTx.inc }
      | .ack => m
      | _ => { m with dsv.inbox := m.dsv.inbox ++ [(src, seq, msg)] }
    match (peerOf m src).bind (fun p => p.held.find? (fun h => h.1 == seq + 1)) with
    | some h => deliverFrames src f h.1 h.2 m
    | none => m

/-- Table 17-3; the first SEQ of an EPOCH is 0 (Table 17-2). -/
def takeFrame17 (p : Peer) (seq : BitVec 32) (msg : ZMsg) (m : Mach) : Mach :=
  let want := match p.d with
    | some d => d + 1
    | none => 0
  let off := (seq - want).toNat
  if off = 0 then deliverFrames p.num 64 seq msg m
  else if off ≤ 63 then
    if p.held.any (fun h => h.1 == seq) then { m with dsv.zgpDup := m.dsv.zgpDup.inc, dsv.zgpTx := m.dsv.zgpTx.inc }
    else onPeer p.num (fun p => { p with held := p.held ++ [(seq, msg)] }) m
  else if 2 ^ 31 ≤ off then { m with dsv.zgpDup := m.dsv.zgpDup.inc, dsv.zgpTx := m.dsv.zgpTx.inc }
  else m

/-- Another address uses this module's number (R876): DSV 0x1146 once per 60 s. -/
def duplicateModule (m : Mach) : Mach :=
  if (m.dsv.dupAt.map (fun t => decide (m.sup.opSec.toNat < t.toNat + 60))).getD false then m
  else report 0x1146 nowhere (leBytes 2 m.dsv.module) { m with dsv.dupAt := some m.sup.opSec }

/-- ZGP_FRAME_RECEIVE (R875 to R877, R881, R897): a frame of this version from an address: whether it authenticates under the domain key, and its
fields (Table 17-2). -/
def execZgpFrameReceive (auth : Bool) (domain : BitVec 64) (epoch : BitVec 32) (src dst : BitVec 16) (seq ack : BitVec 32) (msg : ZMsg) (s : State) : Out :=
  s.run (fun m =>
    if !m.dsv.joined then m
    else if !auth || domain != m.dsv.domain then { m with dsv.zgpAuth := m.dsv.zgpAuth.inc }
    else if src.toNat = m.dsv.module then (if msg == .hello then duplicateModule m else m)
    else match peerOf m src.toNat with
      | none => m
      | some p =>
        if newer p.epoch epoch || dst.toNat ≠ m.dsv.module then m
        else
          let m := if newer epoch p.epoch then onPeer p.num (fun p => { p with epoch := epoch, d := none, held := [] }) m else m
          let m := ackLog p.num ack (peerUp p.num m)
          match peerOf m p.num with
          | none => m
          | some q => zgpFlow (if msg == .ack then m else takeFrame17 q seq msg m))

/-! ### Messages -/

/-- PARITY_UPDATE. -/
def ZMsg.isParity : ZMsg → Bool
  | .parity _ _ _ _ => true
  | _ => false

/-- GROUP_DEF, asked or answered. -/
def ZMsg.isGroup : ZMsg → Bool
  | .groupDef _ _ _ _ _ _ => true
  | .groupAns _ _ => true
  | _ => false

/-- STATE. -/
def ZMsg.isState : ZMsg → Bool
  | .state _ _ _ => true
  | _ => false

/-- RECON_READ. -/
def ZMsg.isRead : ZMsg → Bool
  | .reconRead _ _ _ => true
  | _ => false

/-- RECON_DATA. -/
def ZMsg.isData : ZMsg → Bool
  | .reconData _ _ _ _ => true
  | _ => false

/-- The oldest message of a type in the inbox. -/
def nextMsg (m : Mach) (p : ZMsg → Bool) : Option (Nat × BitVec 32 × ZMsg) := m.dsv.inbox.find? (fun x => p x.2.2)

/-- Fold deltas into this module's parity (R885, R890): none when the cache has no room. -/
def foldParity (g : Group_) (col : Nat) : List (Nat × Sector × BitVec 128) → Mach → Option Mach
  | [], m => some m
  | (lba, d) :: r, m =>
    let mine := ((List.range g.m).map (g.k + ·)).filter (fun c => g.holderAt c lba == m.dsv.module)
    let one := mine.foldl (fun (x : Option Mach) (c : Nat) => x.bind (fun m =>
      let p := g.place c lba
      putPlain p.1 p.2 (xorSector (plainOf m p.1 p.2) (gfSector (gfCoef g.m (c - g.k) col) d)) m)) (some m)
    one.bind (foldParity g col r)

/-- PARITY_UPDATE (R885, R890): this member's parity takes the delta, and only then the acknowledgement goes out. -/
def execZgpParityUpdate (s : State) : Out := s.run (fun m =>
  match nextMsg m ZMsg.isParity with
  | some (src, seq, .parity gid col lba ds) => match groupOf m gid with
    | none => inboxDone (src, seq, .parity gid col lba ds) m
    | some g => match foldParity g col (ds.zipIdx.map (fun d => (lba + d.2, d.1))) m with
      | some n => inboxDone (src, seq, .parity gid col lba ds) n
      | none => m
  | _ => m)

/-- GROUP_DEF (R887, R888): a member accepts or refuses a group, or hears of an answer. `ok` is the outcome of its commit. -/
def execZgpGroupDef (ok : Bool) (s : State) : Out := s.run (fun m =>
  match nextMsg m ZMsg.isGroup with
  | some (src, seq, .groupDef gid k p c fresh cols) =>
    if m.svc.commit.isSome then m
    else
      let g : Group_ := { index := 0, gid := gid, k := k, m := p, c := c, cols := cols, excepts := [], told := 0 }
      let done := inboxDone (src, seq, .groupDef gid k p c fresh cols)
      if memberRefuses m g then done (sendZ src (.groupAns gid false) none m)
      else let r := takeGroup g fresh ok m
        done (sendZ src (.groupAns gid r.2) none r.1)
  | some (src, seq, .groupAns gid yes) =>
    let m := inboxDone (src, seq, .groupAns gid yes) m
    if (m.dsv.creation.map (fun x => x.grp.gid == gid)).getD false then (if yes then creationGoes src m else creationFails m)
    else if yes then m else dropGroup gid m
  | _ => m)

/-- STATE (R897, R898): entries that the sender has assigned or restored are taken, of the others the more severe. -/
def execZgpState (s : State) : Out := s.run (fun m =>
  match nextMsg m ZMsg.isState with
  | some (src, seq, .state gid excepts assigned) =>
    let m := inboxDone (src, seq, .state gid excepts assigned) m
    zgpFlow (changeGroup gid (fun g => excepts.foldl Group_.merge (assigned.foldl Group_.take g)) [] m)
  | _ => m)

/-- RECON_READ (R900): this member returns the row, a sector in each frame (log entry 70). -/
def execZgpReconRead (s : State) : Out := s.run (fun m =>
  match nextMsg m ZMsg.isRead with
  | some (src, seq, .reconRead gid col row) =>
    let m := inboxDone (src, seq, .reconRead gid col row) m
    match groupOf m gid with
    | none => m
    | some g =>
      if g.holderAt col (row * rowLbas) != m.dsv.module then m
      else (List.range rowLbas).foldl (fun m i =>
        let l := row * rowLbas + i
        let p := g.place col l
        sendZ src (.reconData gid col l [plainOf m p.1 p.2]) none m) m
  | _ => m)

/-- RECON_DATA (R900, R902): rows for a column that this member holds are written, others feed the rebuilds that asked for them. `ok` is the outcome
of the commit of a rebuild that ends with it. -/
def execZgpReconData (ok : Bool) (s : State) : Out := s.run (fun m =>
  match nextMsg m ZMsg.isData with
  | some (src, seq, .reconData gid col lba secs) =>
    let done := inboxDone (src, seq, .reconData gid col lba secs)
    match groupOf m gid with
    | none => done m
    | some g =>
      let xs := secs.zipIdx.map (fun d => (lba + d.2, d.1))
      if g.holderAt col lba == m.dsv.module then
        let w := putRow g col xs 0 m
        if w.2 < xs.length then w.1 else zgpFlow (done w.1)
      else
        let feed := fun (r : Rebuild) => if r.gid == gid && r.asked.contains col && (r.rows.head?.map (fun x => x.2 == lba / rowLbas)).getD false
          then { r with got := r.got.filter (fun y => !(y.1 == col && xs.any (fun q => q.1 == y.2.1))) ++ xs.map (fun q => (col, q.1, q.2)) } else r
        rebuildsEnd ok (zgpFlow (done { m with dsv.rebuilds := m.dsv.rebuilds.map feed }))
  | _ => m)

/-! ### Requests (Table 17-6) -/

/-- A port of Ethernet personality whose MTU is 9,000 B (R873). -/
def zgpPort (m : Mach) : Bool := ((m.prt.get .a0).eth || (m.prt.get .a1).eth) && setting m 0x1401 6 2 1500 == 9000

/-- The address table of a payload, without this module's own entry. -/
def tableOf (v : List Byte) : List (Nat × Nat × Nat) :=
  (List.range ((v.length - 32) / 20)).map (fun i => (fieldAt v (32 + 20 * i) 2, fieldAt v (34 + 20 * i) 2, fieldAt v (36 + 20 * i) 16))

/-- ZGP_DOMAIN_JOIN 0x0B01 (R857, R873, R874, R878). -/
def execZgpDomainJoin (h : Hdr) (payload : List Byte) (ok : Bool) (s : State) : Out := s.run (fun m =>
  let leave := h.p3.getLsbD 0
  let t := tableOf payload
  service 0x0B01 h lvMaint (fun m => [(h.p3 >>> 1 != 0, stBadParam),
      (if leave then !payload.isEmpty else decide (payload.length < 32) || (payload.length - 32) % 20 != 0, stBadLength),
      (!leave && (decide (511 < h.p0.toNat) || decide (512 < t.length) || t.any (fun x => decide (511 < x.1) || x.2.1 != 0)
        || decide ((nubList (t.map (fun x => x.1))).length ≠ t.length)), stBadParam),
      (!leave && !zgpPort m, stNotPresent), (!m.dsv.groups.isEmpty || m.dsv.creation.isSome, stBusy)])
    (fun m =>
      if !leave && decide (m.sup.pcycle = 0xFFFFFFFF) then reply h stHwFault 0 [] (report 0x1148 nowhere [] m)
      else if m.svc.commit.isSome then m
      else
        let good := commitOk m ok
        let clear := fun (m : Mach) => { m with dsv.log := [], dsv.inbox := [], dsv.rebuilds := [], dsv.rowsDone := [] }
        let join := fun (m : Mach) =>
          if leave then { clear m with dsv.joined := false, dsv.module := 0, dsv.domain := 0, dsv.domKey := [], dsv.peers := m.dsv.peers.map (fun p => { p with up := false, down := false, held := [] }) }
          else { clear m with
            dsv.joined := true, dsv.module := h.p0.toNat, dsv.domain := h.p2 ++ h.p1, dsv.domKey := payload.take 32
            dsv.peers := (t.filter (fun x => x.1 != h.p0.toNat)).map (fun x =>
              { num := x.1, addr := BitVec.ofNat 128 x.2.2, next := ((m.dsv.peers.find? (fun p => p.num == x.1)).map (fun p => p.next)).getD 0 : Peer }) }
        let m := changeRecs [0x1182] zgpRecs good join m
        reply h (if good then stOk else stHwFault) 0 [] m) m)

/-- The group that a ZGP_GROUP_CREATE describes. -/
def groupAsked (h : Hdr) (payload : List Byte) : Group_ :=
  let k := field h.p1 0 6
  let p := field h.p1 8 4
  { index := 0, gid := h.p0, k := k, m := p, c := h.p2.toNat
    cols := (List.range (k + p)).map (fun c => (fieldAt payload (8 * c) 2, fieldAt payload (8 * c + 4) 4)), excepts := [], told := 0 }

/-- ZGP_GROUP_CREATE 0x0B02 (R882, R883, R887, R888). -/
def execZgpGroupCreate (h : Hdr) (payload : List Byte) (ok : Bool) (s : State) : Out := s.run (fun m =>
  let g := groupAsked h payload
  let fresh := h.p3.getLsbD 0
  service 0x0B02 h lvMaint (fun m => [(!m.dsv.joined, stNotPresent),
      (h.p3 >>> 1 != 0 || h.p1 &&& 0xFFFFF0C0#32 != 0, stBadParam), (payload.length != 8 * g.n, stBadLength),
      (decide (g.k < 2) || decide (g.m < 1) || decide (8 < g.m) || decide (64 < g.n) || decide (g.c = 0)
        || decide ((nubList (g.cols.map (·.1))).length ≠ g.n) || !g.cols.any (fun c => c.1 == m.dsv.module)
        || g.cols.any (fun c => c.1 != m.dsv.module && (peerOf m c.1).isNone), stBadParam),
      (m.dsv.creation.isSome, stBusy),
      (memberRefuses m g || g.cols.any (fun c => (peerOf m c.1).any (fun p => p.down)), stBadParam)])
    (fun m =>
      if m.svc.commit.isSome then m
      else
        let r := takeGroup g fresh ok m
        if !r.2 then reply h stHwFault 0 [] r.1
        else
          let m := sendAll g (.groupDef g.gid g.k g.m g.c fresh g.cols) r.1
          { m with dsv.creation := some ⟨h, g, fresh, others m g⟩ }) m)

/-- ZGP_GROUP_STATUS 0x0B03 (R898): state, k, m, C, and the entries in each STATE of each column (log entry 70). -/
def execZgpGroupStatus (h : Hdr) (s : State) : Out := s.run (service 0x0B03 h lvHost
  (fun m => [reserved [h.p1, h.p2, h.p3], ((groupOf m h.p0).isNone, stNotPresent)])
  (fun m => match groupOf m h.p0 with
    | none => m
    | some g => reply h stOk 0 (leBytes 1 g.state ++ leBytes 1 g.k ++ leBytes 1 g.m ++ leBytes 1 0 ++ leBytes 4 g.c
        ++ ((List.range g.n).map (fun c => ([ColState.up, .down, .stale, .rebuilding].map (fun st => leBytes 4 (g.extents c st))).flatten)).flatten) m))

/-- The extents that a rebuild names: column and extent, with a new holder or not (Table 17-6). -/
def rebuildExtents (g : Group_) (h : Hdr) : List (Nat × Nat) :=
  let col := field h.p1 8 8
  match field h.p1 0 8 with
  | 0 => (List.range g.c).filterMap (fun e => if g.stAt col e != .up || (g.entry col e).holder != h.p3.toNat then some (col, e) else none)
  | 1 => [(col, h.p2.toNat)]
  | 3 => (List.range g.n).flatMap (fun c => (List.range g.c).filterMap (fun e => if g.stAt c e == .stale || g.stAt c e == .rebuilding then some (c, e) else none))
  | _ => []

/-- The parameters of a rebuild are sound (R900, Table 17-6; log entry 70). -/
def rebuildSound (m : Mach) (g : Group_) (h : Hdr) : Bool :=
  let scope := field h.p1 0 8
  let col := field h.p1 8 8
  let dst := h.p3.toNat
  let place := fun (e : Nat) => dst != m.dsv.module || (nsOf m (g.entry col e).nsid).any (fun n =>
    n.kind != .zoned && decide (((g.entry col e).hext + (e - (g.entry col e).first) + 1) * extLbas ≤ n.size))
  let alone := fun (e : Nat) => (List.range g.n).all (fun c => c == col || (g.entry c e).holder != dst)
  let known := dst == m.dsv.module || (peerOf m dst).any (fun p => !p.down)
  field h.p1 16 16 == 0 && (match scope with
    | 0 => decide (col < g.n) && known && (List.range g.c).all (fun e => alone e && place e)
    | 1 => decide (col < g.n) && decide (h.p2.toNat < g.c) && known && alone h.p2.toNat && place h.p2.toNat
    | 2 => decide (col < g.k) && dst != 0 && decide (h.p2.toNat + dst ≤ g.c * extLbas)
    | 3 => true
    | _ => false)

/-- The rebuild of a request, with the entries of a new holder assigned (R900, R902): rows from the watermark on. -/
def rebuildBegin (h : Hdr) (g : Group_) (m : Mach) : Mach :=
  if field h.p1 0 8 = 2 then
    let a := h.p2.toNat / rowLbas
    let b := (h.p2.toNat + h.p3.toNat - 1) / rowLbas
    let r : Rebuild := { req := some h, gid := g.gid, rows := (List.range (b + 1 - a)).map (fun i => (field h.p1 8 8, a + i)), lbas := some (h.p2.toNat, h.p3.toNat) }
    { m with dsv.rebuilds := m.dsv.rebuilds ++ [r] }
  else
    let es := rebuildExtents g h
    let moved := if field h.p1 0 8 = 3 then [] else es.filter (fun x => (g.entry x.1 x.2).holder != h.p3.toNat)
    let at_ := fun (x : Nat × Nat) => let o := g.entry x.1 x.2; { o with first := x.2, count := 1, hext := o.hext + (x.2 - o.first), mark := if o.first = x.2 then o.mark else 0 }
    let new := moved.map (fun x => { at_ x with st := ColState.rebuilding, holder := h.p3.toNat, mark := 0 })
    let m := if new.isEmpty then m else changeGroup g.gid (fun g => new.foldl Group_.take g) new m
    let mark := fun (x : Nat × Nat) => if moved.contains x || g.stAt x.1 x.2 != .rebuilding then 0 else (at_ x).mark
    let r : Rebuild := { req := some h, gid := g.gid, lbas := none
                         rows := es.flatMap (fun x => (List.range (1024 - mark x)).map (fun i => (x.1, 1024 * x.2 + mark x + i))) }
    { m with dsv.rebuilds := m.dsv.rebuilds ++ [r] }

/-- ZGP_REBUILD 0x0B04 (R899 to R902): the reply follows the end of the rebuild. -/
def execZgpRebuild (h : Hdr) (ok : Bool) (s : State) : Out := s.run (fun m =>
  if m.dsv.rebuilds.any (fun r => r.req == some h) then rebuildsEnd ok (zgpFlow m)
  else service 0x0B04 h lvMaint (fun m => [
      ((groupOf m h.p0).isNone, stBadParam), (!((groupOf m h.p0).any (fun g => rebuildSound m g h)), stBadParam),
      (m.dsv.rebuilds.any (fun r => r.req.isSome && r.gid == h.p0), stBusy)])
    (fun m => match groupOf m h.p0 with
      | none => m
      | some g => rebuildsEnd ok (zgpFlow (rebuildBegin h g m))) m)

end Sys2Proof.Machine
end

