-- ==== Sys2Proof/Machine/Dispatch.lean ====
section
/-! DEFINITION. The dispatch of every command to its meaning, in the order of spec/opcode_table.json. -/

namespace Sys2Proof.Machine

/-- The effect of a command on everything but the queue. -/
def exec (i : Instr) (s : State) : Host.Outcome State Fault Refusal :=
  match i with
  | .powerOnReset hda => Sys2Proof.Machine.execPowerOnReset hda s
  | .inputKindClassify dc vinPk freq => Sys2Proof.Machine.execInputKindClassify dc vinPk freq s
  | .pfcStart vinPk => Sys2Proof.Machine.execPfcStart vinPk s
  | .inputOutOfRange vinPk freq => Sys2Proof.Machine.execInputOutOfRange vinPk freq s
  | .inputOvervoltage vinPk => Sys2Proof.Machine.execInputOvervoltage vinPk s
  | .prechargeBypass vbulk => Sys2Proof.Machine.execPrechargeBypass vbulk s
  | .llcStart vbulk vmot => Sys2Proof.Machine.execLlcStart vbulk vmot s
  | .inputAbsentTimeout vinPk vbulk => Sys2Proof.Machine.execInputAbsentTimeout vinPk vbulk s
  | .vbulkBelow330 vbulk => Sys2Proof.Machine.execVbulkBelow330 vbulk s
  | .inputDropout dur => Sys2Proof.Machine.execInputDropout dur s
  | .vbulkBelow180 vbulk => Sys2Proof.Machine.execVbulkBelow180 vbulk s
  | .powerLossSequenceEnd => Sys2Proof.Machine.execPowerLossSequenceEnd s
  | .bulkcapStart vbulk => Sys2Proof.Machine.execBulkcapStart vbulk s
  | .bulkcapComplete charge => Sys2Proof.Machine.execBulkcapComplete charge s
  | .bulkcapAbandon why => Sys2Proof.Machine.execBulkcapAbandon why s
  | .brakeChopperGate vmot us => Sys2Proof.Machine.execBrakeChopperGate vmot us s
  | .brakeChopperRelease vmot us => Sys2Proof.Machine.execBrakeChopperRelease vmot us s
  | .chopperFault vmot sense us => Sys2Proof.Machine.execChopperFault vmot sense us s
  | .chopperWithhold vmot us => Sys2Proof.Machine.execChopperWithhold vmot us s
  | .chopperUnwithhold vmot us => Sys2Proof.Machine.execChopperUnwithhold vmot us s
  | .vmotOvpTrip vmot us => Sys2Proof.Machine.execVmotOvpTrip vmot us s
  | .vmotOvpRelease vmot us => Sys2Proof.Machine.execVmotOvpRelease vmot us s
  | .faultClr => Sys2Proof.Machine.execFaultClr s
  | .railFault num rail volt => Sys2Proof.Machine.execRailFault num rail volt s
  | .railRecoveryReset rail => Sys2Proof.Machine.execRailRecoveryReset rail s
  | .lifeCounterPersist => Sys2Proof.Machine.execLifeCounterPersist s
  | .rootPllLossOfLock => Sys2Proof.Machine.execRootPllLossOfLock s
  | .rootPllRelock us => Sys2Proof.Machine.execRootPllRelock us s
  | .crystalStop => Sys2Proof.Machine.execCrystalStop s
  | .crystalReturn => Sys2Proof.Machine.execCrystalReturn s
  | .chPllLossOfLock a => Sys2Proof.Machine.execChPllLossOfLock a s
  | .chPllRelock a => Sys2Proof.Machine.execChPllRelock a s
  | .freqKhzWrite a khz => Sys2Proof.Machine.execFreqKhzWrite a khz s
  | .freqSettled a => Sys2Proof.Machine.execFreqSettled a s
  | .crossingTransfer num events data acked => Sys2Proof.Machine.execCrossingTransfer num events data acked s
  | .islandTorn num => Sys2Proof.Machine.execIslandTorn num s
  | .groupResetRelease g speed => Sys2Proof.Machine.execGroupResetRelease g speed s
  | .uncorrectableError site => Sys2Proof.Machine.execUncorrectableError site s
  | .identityCheck => Sys2Proof.Machine.execIdentityCheck s
  | .firmwareSlotSelect => Sys2Proof.Machine.execFirmwareSlotSelect s
  | .settingsBankSelect => Sys2Proof.Machine.execSettingsBankSelect s
  | .dramTrainingComplete => Sys2Proof.Machine.execDramTrainingComplete s
  | .payloadReadComplete => Sys2Proof.Machine.execPayloadReadComplete s
  | .microcodeLoad arrivals => Sys2Proof.Machine.execMicrocodeLoad arrivals s
  | .vaultReplay dir n => Sys2Proof.Machine.execVaultReplay dir n s
  | .engineBoot => Sys2Proof.Machine.execEngineBoot s
  | .spinUpStart => Sys2Proof.Machine.execSpinUpStart s
  | .controllerReady t => Sys2Proof.Machine.execControllerReady t s
  | .mediaReady a t => Sys2Proof.Machine.execMediaReady a t s
  | .lastShutdownResolve => Sys2Proof.Machine.execLastShutdownResolve s
  | .mediaHoldExpiry now => Sys2Proof.Machine.execMediaHoldExpiry now s
  | .activeIdleTimeout => Sys2Proof.Machine.execActiveIdleTimeout s
  | .setFeaturesPowerManagement c ps => Sys2Proof.Machine.execSetFeaturesPowerManagement c ps s
  | .apstTransition ps => Sys2Proof.Machine.execApstTransition ps s
  | .pwrDisAssert => Sys2Proof.Machine.execPwrDisAssert s
  | .pwrDisRelease => Sys2Proof.Machine.execPwrDisRelease s
  | .shutdownDestageDone => Sys2Proof.Machine.execShutdownDestageDone s
  | .shutLimitExpiry => Sys2Proof.Machine.execShutLimitExpiry s
  | .shutdownComplete ms => Sys2Proof.Machine.execShutdownComplete ms s
  | .shutdownNotification p cntlid => Sys2Proof.Machine.execShutdownNotification p cntlid s
  | .controllerEnable p cntlid cfg => Sys2Proof.Machine.execControllerEnable p cntlid cfg s
  | .controllerDisable p cntlid => Sys2Proof.Machine.execControllerDisable p cntlid s
  | .catchListenEnd speed => Sys2Proof.Machine.execCatchListenEnd speed s
  | .alignEnd => Sys2Proof.Machine.execAlignEnd s
  | .rampHandover => Sys2Proof.Machine.execRampHandover s
  | .startAttemptFail => Sys2Proof.Machine.execStartAttemptFail s
  | .startRetry => Sys2Proof.Machine.execStartRetry s
  | .spinUpTimeout => Sys2Proof.Machine.execSpinUpTimeout s
  | .pwmPeriod iph => Sys2Proof.Machine.execPwmPeriod iph s
  | .zeroCrossing phase period pos err => Sys2Proof.Machine.execZeroCrossing phase period pos err s
  | .commutation ms => Sys2Proof.Machine.execCommutation ms s
  | .flyOkLoss speed => Sys2Proof.Machine.execFlyOkLoss speed s
  | .rotorLoss => Sys2Proof.Machine.execRotorLoss s
  | .phaseOvercurrent => Sys2Proof.Machine.execPhaseOvercurrent s
  | .relock us => Sys2Proof.Machine.execRelock us s
  | .listenWindowExpiry speed => Sys2Proof.Machine.execListenWindowExpiry speed s
  | .standstill => Sys2Proof.Machine.execStandstill s
  | .onceAroundMark a diff => Sys2Proof.Machine.execOnceAroundMark a diff s
  | .indexUnanchorTimeout => Sys2Proof.Machine.execIndexUnanchorTimeout s
  | .spnSetDemand h => Sys2Proof.Machine.execSpnSetDemand h s
  | .spnGetState h => Sys2Proof.Machine.execSpnGetState h s
  | .spnLoadCurve h value => Sys2Proof.Machine.execSpnLoadCurve h value s
  | .demodWindow a magA magB angle settled => Sys2Proof.Machine.execDemodWindow a magA magB angle settled s
  | .indexFrame a set lane symbols amp => Sys2Proof.Machine.execIndexFrame a set lane symbols amp s
  | .acqLimitExpiry a => Sys2Proof.Machine.execAcqLimitExpiry a s
  | .markMissing a => Sys2Proof.Machine.execMarkMissing a s
  | .alignmentField a head fld found code q0 q1 => Sys2Proof.Machine.execAlignmentField a head fld found code q0 q1 s
  | .currentLoopSample a imeas limited => Sys2Proof.Machine.execCurrentLoopSample a imeas limited s
  | .positionCycle a phase acc0 acc1 angle rroBad => Sys2Proof.Machine.execPositionCycle a phase acc0 acc1 angle rroBad s
  | .bankSelect a l => Sys2Proof.Machine.execBankSelect a l s
  | .seekTimeout a => Sys2Proof.Machine.execSeekTimeout a s
  | .settleTimeout a => Sys2Proof.Machine.execSettleTimeout a s
  | .loadAttemptFail a reason => Sys2Proof.Machine.execLoadAttemptFail a reason s
  | .unloadComplete a => Sys2Proof.Machine.execUnloadComplete a s
  | .holdEnd a why => Sys2Proof.Machine.execHoldEnd a why s
  | .retractComplete a => Sys2Proof.Machine.execRetractComplete a s
  | .reloadAfterRetract a => Sys2Proof.Machine.execReloadAfterRetract a s
  | .shockRet a peak => Sys2Proof.Machine.execShockRet a peak s
  | .shockWi a peak => Sys2Proof.Machine.execShockWi a peak s
  | .shockHoldExpiry a => Sys2Proof.Machine.execShockHoldExpiry a s
  | .rroctlSave a => Sys2Proof.Machine.execRroctlSave a s
  | .rroctlClear a => Sys2Proof.Machine.execRroctlClear a s
  | .tclr a => Sys2Proof.Machine.execTclr a s
  | .srvGetState h => Sys2Proof.Machine.execSrvGetState h s
  | .srvLoadBank h payload => Sys2Proof.Machine.execSrvLoadBank h payload s
  | .srvSelectBank h => Sys2Proof.Machine.execSrvSelectBank h s
  | .srvOpenLoop h => Sys2Proof.Machine.execSrvOpenLoop h s
  | .srvCloseLoop h => Sys2Proof.Machine.execSrvCloseLoop h s
  | .srvRroControl h => Sys2Proof.Machine.execSrvRroControl h s
  | .srvSetCurrent h => Sys2Proof.Machine.execSrvSetCurrent h s
  | .headBusFrame a f acks => Sys2Proof.Machine.execHeadBusFrame a f acks s
  | .telemetryPoll a status temp vmeas imeas abandoned acks => Sys2Proof.Machine.execTelemetryPoll a status temp vmeas imeas abandoned acks s
  | .hbctlGo a acks => Sys2Proof.Machine.execHbctlGo a acks s
  | .heaterReady a => Sys2Proof.Machine.execHeaterReady a s
  | .wusNAssert a status => Sys2Proof.Machine.execWusNAssert a status s
  | .assistOtEnd a temp => Sys2Proof.Machine.execAssistOtEnd a temp s
  | .astfaultClear a mask => Sys2Proof.Machine.execAstfaultClear a mask s
  | .sensorSample v0 v1 vp vh pfc core => Sys2Proof.Machine.execSensorSample v0 v1 vp vh pfc core s
  | .syncDecision a pn bg => Sys2Proof.Machine.execSyncDecision a pn bg s
  | .sectorResult a g => Sys2Proof.Machine.execSectorResult a g s
  | .captureTrigger a bitPos samples => Sys2Proof.Machine.execCaptureTrigger a bitPos samples s
  | .chGetMetrics h => Sys2Proof.Machine.execChGetMetrics h s
  | .chCapture h => Sys2Proof.Machine.execChCapture h s
  | .calTemperatureCheck hda0 hda1 die0 die1 => Sys2Proof.Machine.execCalTemperatureCheck hda0 hda1 die0 die1 s
  | .calSliceStart a => Sys2Proof.Machine.execCalSliceStart a s
  | .calDeferExpiry a => Sys2Proof.Machine.execCalDeferExpiry a s
  | .calGapExpiry a => Sys2Proof.Machine.execCalGapExpiry a s
  | .calStep a us x temp => Sys2Proof.Machine.execCalStep a us x temp s
  | .calRun h => Sys2Proof.Machine.execCalRun h s
  | .calStatus h => Sys2Proof.Machine.execCalStatus h s
  | .calSetTrigger h => Sys2Proof.Machine.execCalSetTrigger h s
  | .operationDispatch a ticks => Sys2Proof.Machine.execOperationDispatch a ticks s
  | .cfxNop a => Sys2Proof.Machine.execCfxNop a s
  | .cfxWait a => Sys2Proof.Machine.execCfxWait a s
  | .cfxWaitev a => Sys2Proof.Machine.execCfxWaitev a s
  | .cfxJmp a => Sys2Proof.Machine.execCfxJmp a s
  | .cfxJcc a => Sys2Proof.Machine.execCfxJcc a s
  | .cfxCall a => Sys2Proof.Machine.execCfxCall a s
  | .cfxRet a => Sys2Proof.Machine.execCfxRet a s
  | .cfxDecjnz a => Sys2Proof.Machine.execCfxDecjnz a s
  | .cfxTrap a => Sys2Proof.Machine.execCfxTrap a s
  | .cfxHalt a => Sys2Proof.Machine.execCfxHalt a s
  | .cfxIrq a => Sys2Proof.Machine.execCfxIrq a s
  | .cfxLoadc a => Sys2Proof.Machine.execCfxLoadc a s
  | .cfxAddc a => Sys2Proof.Machine.execCfxAddc a s
  | .cfxCmpc a => Sys2Proof.Machine.execCfxCmpc a s
  | .cfxSetf a => Sys2Proof.Machine.execCfxSetf a s
  | .cfxGate a => Sys2Proof.Machine.execCfxGate a s
  | .cfxHead a acks1 acks2 => Sys2Proof.Machine.execCfxHead a acks1 acks2 s
  | .cfxRegion a acks => Sys2Proof.Machine.execCfxRegion a acks s
  | .cfxOntrack a => Sys2Proof.Machine.execCfxOntrack a s
  | .cfxSync a => Sys2Proof.Machine.execCfxSync a s
  | .cfxXfer a => Sys2Proof.Machine.execCfxXfer a s
  | .cfxDecres a => Sys2Proof.Machine.execCfxDecres a s
  | .cfxFetch a => Sys2Proof.Machine.execCfxFetch a s
  | .cfxSkipdef a => Sys2Proof.Machine.execCfxSkipdef a s
  | .cfxAlign a => Sys2Proof.Machine.execCfxAlign a s
  | .cfxPreheat a => Sys2Proof.Machine.execCfxPreheat a s
  | .cfxMark a => Sys2Proof.Machine.execCfxMark a s
  | .cfxStat a => Sys2Proof.Machine.execCfxStat a s
  | .stallEnd a ticks found => Sys2Proof.Machine.execStallEnd a ticks found s
  | .waitevTimeout a => Sys2Proof.Machine.execWaitevTimeout a s
  | .tposAnchor a fieldNo ticks => Sys2Proof.Machine.execTposAnchor a fieldNo ticks s
  | .gateCountExpiry a => Sys2Proof.Machine.execGateCountExpiry a s
  | .sectorGateClose a ticks => Sys2Proof.Machine.execSectorGateClose a ticks s
  | .abortRequest a => Sys2Proof.Machine.execAbortRequest a s
  | .opTmoExpiry a => Sys2Proof.Machine.execOpTmoExpiry a s
  | .storeScrub a site find lap => Sys2Proof.Machine.execStoreScrub a site find lap s
  | .storedataWrite a d => Sys2Proof.Machine.execStoredataWrite a d s
  | .cfxLoad h image => Sys2Proof.Machine.execCfxLoad h image s
  | .cfxStatus h => Sys2Proof.Machine.execCfxStatus h s
  | .queueEntry a now => Sys2Proof.Machine.execQueueEntry a now s
  | .speculationStart a now kind => Sys2Proof.Machine.execSpeculationStart a now kind s
  | .operationComplete a now meas => Sys2Proof.Machine.execOperationComplete a now meas s
  | .ageCapDouble a now => Sys2Proof.Machine.execAgeCapDouble a now s
  | .cleaningWindow a now busy clean => Sys2Proof.Machine.execCleaningWindow a now busy clean s
  | .cleanStarved a => Sys2Proof.Machine.execCleanStarved a s
  | .ps1DutyUpdate pin => Sys2Proof.Machine.execPs1DutyUpdate pin s
  | .ps1CapFail pin => Sys2Proof.Machine.execPs1CapFail pin s
  | .nvmeRead c nsid lba n prot => Sys2Proof.Machine.execNvmeRead c nsid lba n prot s
  | .nvmeWrite c nsid lba prot data => Sys2Proof.Machine.execNvmeWrite c nsid lba prot data s
  | .nvmeZoneAppend c nsid lba prot data => Sys2Proof.Machine.execNvmeZoneAppend c nsid lba prot data s
  | .nvmeOpenZone c nsid lba all => Sys2Proof.Machine.execNvmeOpenZone c nsid lba all s
  | .nvmeCloseZone c nsid lba all => Sys2Proof.Machine.execNvmeCloseZone c nsid lba all s
  | .nvmeFinishZone c nsid lba all => Sys2Proof.Machine.execNvmeFinishZone c nsid lba all s
  | .nvmeResetZone c nsid lba all => Sys2Proof.Machine.execNvmeResetZone c nsid lba all s
  | .nvmeZoneManagementReceive c nsid lba => Sys2Proof.Machine.execNvmeZoneManagementReceive c nsid lba s
  | .nvmeDatasetManagement c nsid ranges => Sys2Proof.Machine.execNvmeDatasetManagement c nsid ranges s
  | .nvmeWriteZeroes c nsid lba n prot => Sys2Proof.Machine.execNvmeWriteZeroes c nsid lba n prot s
  | .nvmeCompare c nsid lba prot data => Sys2Proof.Machine.execNvmeCompare c nsid lba prot data s
  | .nvmeVerify c nsid lba n prot => Sys2Proof.Machine.execNvmeVerify c nsid lba n prot s
  | .nvmeFlush c nsid => Sys2Proof.Machine.execNvmeFlush c nsid s
  | .nvmeFormatNvm c nsid lbaf pit ses keys ok => Sys2Proof.Machine.execNvmeFormatNvm c nsid lbaf pit ses keys ok s
  | .nvmeSanitize c act pattern keys ok => Sys2Proof.Machine.execNvmeSanitize c act pattern keys ok s
  | .nvmeNamespaceManagement c create nsid csi kind size fmt pit => Sys2Proof.Machine.execNvmeNamespaceManagement c create nsid csi kind size fmt pit s
  | .nvmeNamespaceAttachment c nsid attach ids => Sys2Proof.Machine.execNvmeNamespaceAttachment c nsid attach ids s
  | .nvmeIdentify c cns nsid csi => Sys2Proof.Machine.execNvmeIdentify c cns nsid csi s
  | .nvmeGetLogPage c lid offset numd => Sys2Proof.Machine.execNvmeGetLogPage c lid offset numd s
  | .nvmeSetFeaturesTimestamp c => Sys2Proof.Machine.execNvmeSetFeaturesTimestamp c s
  | .nvmeAbort c sqid cid => Sys2Proof.Machine.execNvmeAbort c sqid cid s
  | .nvmeSecuritySend c proto msg => Sys2Proof.Machine.execNvmeSecuritySend c proto msg s
  | .nvmeSecurityReceive c proto => Sys2Proof.Machine.execNvmeSecurityReceive c proto s
  | .nvmeFirmwareImageDownload c offset bytes => Sys2Proof.Machine.execNvmeFirmwareImageDownload c offset bytes s
  | .nvmeFirmwareCommit c slot action => Sys2Proof.Machine.execNvmeFirmwareCommit c slot action s
  | .nvmeDeviceSelfTest c stc => Sys2Proof.Machine.execNvmeDeviceSelfTest c stc s
  | .nvmeKeepAlive c => Sys2Proof.Machine.execNvmeKeepAlive c s
  | .nvmeConnect c size host => Sys2Proof.Machine.execNvmeConnect c size host s
  | .destageRun a now => Sys2Proof.Machine.execDestageRun a now s
  | .directRewriteTimeout a nsid => Sys2Proof.Machine.execDirectRewriteTimeout a nsid s
  | .cleaning a nsid phase => Sys2Proof.Machine.execCleaning a nsid phase s
  | .cleaningJournalComplete a nsid => Sys2Proof.Machine.execCleaningJournalComplete a nsid s
  | .porchScan a nsid ms => Sys2Proof.Machine.execPorchScan a nsid ms s
  | .trackVerify a now => Sys2Proof.Machine.execTrackVerify a now s
  | .reservedCopyRepair a head str both => Sys2Proof.Machine.execReservedCopyRepair a head str both s
  | .sectorEnterCache now => Sys2Proof.Machine.execSectorEnterCache now s
  | .destageRequest a now => Sys2Proof.Machine.execDestageRequest a now s
  | .atticMoveComplete => Sys2Proof.Machine.execAtticMoveComplete s
  | .cacheDrainComplete => Sys2Proof.Machine.execCacheDrainComplete s
  | .dramScrub arr ad rows find lap => Sys2Proof.Machine.execDramScrub arr ad rows find lap s
  | .ecctestWrite reg => Sys2Proof.Machine.execEcctestWrite reg s
  | .ecctestRead reg => Sys2Proof.Machine.execEcctestRead reg s
  | .arbiterGrant req w0 w1 w2 => Sys2Proof.Machine.execArbiterGrant req w0 w1 w2 s
  | .mediaDeadlineMiss leaf ns => Sys2Proof.Machine.execMediaDeadlineMiss leaf ns s
  | .cacheSetMode h => Sys2Proof.Machine.execCacheSetMode h s
  | .cacheStatus h => Sys2Proof.Machine.execCacheStatus h s
  | .cacheLockRange h => Sys2Proof.Machine.execCacheLockRange h s
  | .cacheUnlockRange h => Sys2Proof.Machine.execCacheUnlockRange h s
  | .cacheInvalidateRange h => Sys2Proof.Machine.execCacheInvalidateRange h s
  | .dramRetirePage h => Sys2Proof.Machine.execDramRetirePage h s
  | .vaultHeaderProgram us ms rate ok => Sys2Proof.Machine.execVaultHeaderProgram us ms rate ok s
  | .pageProgramFail die plane block => Sys2Proof.Machine.execPageProgramFail die plane block s
  | .vaultBlockErase ok => Sys2Proof.Machine.execVaultBlockErase ok s
  | .protectionLost => Sys2Proof.Machine.execProtectionLost s
  | .protectionReturn => Sys2Proof.Machine.execProtectionReturn s
  | .vaultStatus h => Sys2Proof.Machine.execVaultStatus h s
  | .vaultExport h => Sys2Proof.Machine.execVaultExport h s
  | .vaultDiscard h => Sys2Proof.Machine.execVaultDiscard h s
  | .vaultAcceptLoss h => Sys2Proof.Machine.execVaultAcceptLoss h s
  | .vaultImport h chunk => Sys2Proof.Machine.execVaultImport h chunk s
  | .vaultTest h rate fails => Sys2Proof.Machine.execVaultTest h rate fails s
  | .submissionFetch c => Sys2Proof.Machine.execSubmissionFetch c s
  | .capsuleReceive c => Sys2Proof.Machine.execCapsuleReceive c s
  | .completionPost c => Sys2Proof.Machine.execCompletionPost c s
  | .watchdogRefresh => Sys2Proof.Machine.execWatchdogRefresh s
  | .watchdogExpiry => Sys2Proof.Machine.execWatchdogExpiry s
  | .fenceConfirmed overlap => Sys2Proof.Machine.execFenceConfirmed overlap s
  | .takeoverComplete gap => Sys2Proof.Machine.execTakeoverComplete gap s
  | .feStatus h => Sys2Proof.Machine.execFeStatus h s
  | .feTakeover h => Sys2Proof.Machine.execFeTakeover h s
  | .perstAssert p => Sys2Proof.Machine.execPerstAssert p s
  | .perstRelease p => Sys2Proof.Machine.execPerstRelease p s
  | .linkUp p speed width => Sys2Proof.Machine.execLinkUp p speed width s
  | .linkDown p => Sys2Proof.Machine.execLinkDown p s
  | .phyPllLoss p => Sys2Proof.Machine.execPhyPllLoss p s
  | .phyPllRelock p => Sys2Proof.Machine.execPhyPllRelock p s
  | .keepAliveTimeout p cntlid => Sys2Proof.Machine.execKeepAliveTimeout p cntlid s
  | .opalActivate c ok => Sys2Proof.Machine.execOpalActivate c ok s
  | .opalRevert c keys ok => Sys2Proof.Machine.execOpalRevert c keys ok s
  | .opalRevertsp c keys ok => Sys2Proof.Machine.execOpalRevertsp c keys ok s
  | .opalGenkey c range keys ok => Sys2Proof.Machine.execOpalGenkey c range keys ok s
  | .opalErase c range keys ok => Sys2Proof.Machine.execOpalErase c range keys ok s
  | .opalGet c what => Sys2Proof.Machine.execOpalGet c what s
  | .opalSet c what ok => Sys2Proof.Machine.execOpalSet c what ok s
  | .opalAuthenticate c auth proof => Sys2Proof.Machine.execOpalAuthenticate c auth proof s
  | .opalRandom c count => Sys2Proof.Machine.execOpalRandom c count s
  | .zgpHello => Sys2Proof.Machine.execZgpHello s
  | .zgpPeerTimeout peer => Sys2Proof.Machine.execZgpPeerTimeout peer s
  | .zgpFrameReceive auth domain epoch src dst seq ack msg => Sys2Proof.Machine.execZgpFrameReceive auth domain epoch src dst seq ack msg s
  | .zgpRetransmit dst seq => Sys2Proof.Machine.execZgpRetransmit dst seq s
  | .zgpAck src ack ok => Sys2Proof.Machine.execZgpAck src ack ok s
  | .zgpParityUpdate => Sys2Proof.Machine.execZgpParityUpdate s
  | .zgpGroupDef ok => Sys2Proof.Machine.execZgpGroupDef ok s
  | .zgpState => Sys2Proof.Machine.execZgpState s
  | .zgpReconRead => Sys2Proof.Machine.execZgpReconRead s
  | .zgpReconData ok => Sys2Proof.Machine.execZgpReconData ok s
  | .zgpDomainJoin h payload ok => Sys2Proof.Machine.execZgpDomainJoin h payload ok s
  | .zgpGroupCreate h payload ok => Sys2Proof.Machine.execZgpGroupCreate h payload ok s
  | .zgpGroupStatus h => Sys2Proof.Machine.execZgpGroupStatus h s
  | .zgpRebuild h ok => Sys2Proof.Machine.execZgpRebuild h ok s
  | .serviceRequestSubmit c numd bytes => Sys2Proof.Machine.execServiceRequestSubmit c numd bytes s
  | .serviceReplyRetrieve c numd tag => Sys2Proof.Machine.execServiceReplyRetrieve c numd tag s
  | .mctpRequest vid code request bytes => Sys2Proof.Machine.execMctpRequest vid code request bytes s
  | .uartFrame bytes => Sys2Proof.Machine.execUartFrame bytes s
  | .replyDiscard cntlid tag => Sys2Proof.Machine.execReplyDiscard cntlid tag s
  | .sessionIdleClose ref => Sys2Proof.Machine.execSessionIdleClose ref s
  | .authLockoutEnd who => Sys2Proof.Machine.execAuthLockoutEnd who s
  | .identifyModule h => Sys2Proof.Machine.execIdentifyModule h s
  | .getMode h => Sys2Proof.Machine.execGetMode h s
  | .setMode h => Sys2Proof.Machine.execSetMode h s
  | .resetGroup h => Sys2Proof.Machine.execResetGroup h s
  | .getHealth h => Sys2Proof.Machine.execGetHealth h s
  | .authChallenge h => Sys2Proof.Machine.execAuthChallenge h s
  | .authOpen h proof => Sys2Proof.Machine.execAuthOpen h proof s
  | .authClose h => Sys2Proof.Machine.execAuthClose h s
  | .readRecord h => Sys2Proof.Machine.execReadRecord h s
  | .stageRecord h payload => Sys2Proof.Machine.execStageRecord h payload s
  | .settingsCommit h => Sys2Proof.Machine.execSettingsCommit h s
  | .commitComplete ok => Sys2Proof.Machine.execCommitComplete ok s
  | .adaptiveCommit => Sys2Proof.Machine.execAdaptiveCommit s
  | .settingsStatus h => Sys2Proof.Machine.execSettingsStatus h s
  | .evrRead h => Sys2Proof.Machine.execEvrRead h s
  | .evrStatus h => Sys2Proof.Machine.execEvrStatus h s
  | .evrChallenge h => Sys2Proof.Machine.execEvrChallenge h s
  | .evrClear h proof => Sys2Proof.Machine.execEvrClear h proof s
  | .evrSetPolicy h => Sys2Proof.Machine.execEvrSetPolicy h s
  | .armRead h => Sys2Proof.Machine.execArmRead h s
  | .armWrite h => Sys2Proof.Machine.execArmWrite h s
  | .spareStatus h => Sys2Proof.Machine.execSpareStatus h s
  | .spareCommit h => Sys2Proof.Machine.execSpareCommit h s
  | .regRead h => Sys2Proof.Machine.execRegRead h s
  | .regWrite h acks => Sys2Proof.Machine.execRegWrite h acks s
  | .counterLowRead addr => Sys2Proof.Machine.execCounterLowRead addr s
  | .diagMemtest h errors first => Sys2Proof.Machine.execDiagMemtest h errors first s
  | .diagEccInject h => Sys2Proof.Machine.execDiagEccInject h s
  | .diagCrossStatus h => Sys2Proof.Machine.execDiagCrossStatus h s
  | .eventReport code act head zone params => Sys2Proof.Machine.execEventReport code act head zone params s
  | .eventNorProgram ok => Sys2Proof.Machine.execEventNorProgram ok s
  | .eventSectorRewrite sector out => Sys2Proof.Machine.execEventSectorRewrite sector out s
  | .i3cDynamicAddress addr => Sys2Proof.Machine.execI3cDynamicAddress addr s
  | .rstdaa => Sys2Proof.Machine.execRstdaa s
  | .wusNRelease a => Sys2Proof.Machine.execWusNRelease a s
  | .actLedHoldExpiry => Sys2Proof.Machine.execActLedHoldExpiry s
  | .vbulk60vCrossing vbulk => Sys2Proof.Machine.execVbulk60vCrossing vbulk s
  | .uartByteGapTimeout => Sys2Proof.Machine.execUartByteGapTimeout s
  | .operatingTimeTick x => Sys2Proof.Machine.execOperatingTimeTick x s
  | .identityPageProgram who ref page => Sys2Proof.Machine.execIdentityPageProgram who ref page s
  | .setFeaturesApst c enable => Sys2Proof.Machine.execSetFeaturesApst c enable s
  | .asynchronousEventRequest c => Sys2Proof.Machine.execAsynchronousEventRequest c s
  | .createIoQueue c cq qid size cqid prio => Sys2Proof.Machine.execCreateIoQueue c cq qid size cqid prio s
  | .deleteIoQueue c cq qid => Sys2Proof.Machine.execDeleteIoQueue c cq qid s
  | .reservationRegister c nsid act ignore cptpl cur new => Sys2Proof.Machine.execReservationRegister c nsid act ignore cptpl cur new s
  | .reservationAcquire c nsid act rtype cur pre => Sys2Proof.Machine.execReservationAcquire c nsid act rtype cur pre s
  | .reservationRelease c nsid act rtype cur => Sys2Proof.Machine.execReservationRelease c nsid act rtype cur s
  | .completionQueueHeadDoorbell p cntlid qid taken => Sys2Proof.Machine.execCompletionQueueHeadDoorbell p cntlid qid taken s

end Sys2Proof.Machine
end

