-- ==== Sys2Proof/Safety.lean ====
section
/-! DEFINITION. What a safe step is, and the words the statements use: a command that completes with a given machine, a command
that completes with a property, and the parts of the machine that a command leaves alone. -/

namespace Sys2Proof

open Machine

/-- A step is safe when it answers a next state. -/
def SafeStep (s : Machine.State) : Prop := ∃ t, Machine.step s = .next t

/-- The command answers a next state; the queue is as before and the machine is `m'`. -/
def Does (c : Instr) (s : Machine.State) (m' : Machine.Mach) : Prop := Machine.exec c s = .next { s with m := m' }

/-- The command answers a next state; the queue is as before and the machine has the property `P`. -/
def Completes (c : Instr) (s : Machine.State) (P : Machine.Mach → Prop) : Prop :=
  ∃ m', Machine.exec c s = .next { s with m := m' } ∧ P m'

/-- Whatever the command answers, a next state agrees with the state before it in what `view` shows. -/
def Keeps {α : Type} (c : Instr) (view : Machine.Mach → α) : Prop :=
  ∀ s t, Machine.exec c s = .next t → view t.m = view s.m

/-- Whatever the command answers, a next state is the state before it, its queue included, with the parts that `put` takes from the new
machine. -/
def Only (c : Instr) (put : Machine.Mach → Machine.Mach → Machine.Mach) : Prop :=
  ∀ s t, Machine.exec c s = .next t → t = { s with m := put s.m t.m }

/-- The same in a state outside the power-loss sequence. -/
def OnlyCalm (c : Instr) (put : Machine.Mach → Machine.Mach → Machine.Mach) : Prop :=
  ∀ s t, s.m.pwr.loss = false → Machine.exec c s = .next t → t = { s with m := put s.m t.m }

/-- A service request that steps 1 to 5 of Table 18-4 accept and whose sender has the authority of step 8: its carrier takes frames in
this mode, its TAG is free, a context is left (R908, R911, R918, R919). -/
abbrev Served (m : Machine.Mach) (h : Hdr) (need : Nat) : Prop :=
  Machine.carried m h = true ∧ Machine.tagHeld m h.who h.tag = false ∧ Machine.rsvFull m = false ∧ Machine.hasAuth m h need = true

/-- No retract is under way on either actuator (R398). -/
abbrev NoRetract (m : Machine.Mach) : Prop := (m.srv.get .a0).retActive = false ∧ (m.srv.get .a1).retActive = false

/-- The brake resistor's energy in µJ at a measure of VMOT, `us` after the last one (R138): what has not decayed, and what a gated chopper has added. -/
abbrev brakeEnergy (m : Machine.Mach) (vmot : BitVec 16) (us : BitVec 20) : Nat :=
  Machine.decay60 us.toNat m.pwr.chopEnergy + if m.pwr.chopGated then (m.pwr.vmot.toNat ^ 2 + vmot.toNat ^ 2) * us.toNat / 164000 else 0

/-- The brake chopper is neither gated nor withheld, its resistor is below the limit of R139, and no retract is under way. -/
abbrev BrakeIdle (m : Machine.Mach) (us : BitVec 20) : Prop :=
  NoRetract m ∧ m.pwr.chopGated = false ∧ m.pwr.withheld = false ∧ Machine.decay60 us.toNat m.pwr.chopEnergy < 30000000

/-- The sequencer of an actuator executes a word, and the word its PC fetches is `w`, read from the store without a correction
(R555, R590). -/
abbrev Fetches (m : Machine.Mach) (a : Act) (w : Reg) : Prop :=
  Machine.cfxReady (m.cfx.get a) = true ∧
  ((m.cfx.get a).row ((m.cfx.get a).physRow (m.cfx.get a).pc.toNat)).read = some (w, false)

/-- The machine in which the engine has decoded the command of a context (R820, R822). -/
abbrev Decoded (c : NvCmd) (m : Machine.Mach) : Machine.Mach := Machine.onCtx c (fun x => { x with phase := .decoded }) m

/-- The machine in which an I/O command has been decoded and has woken the module (R207, R208). -/
abbrev Woken (c : NvCmd) (x : IoCmd) (m : Machine.Mach) : Machine.Mach :=
  Machine.wake (Machine.onCtx c (fun y => { y with cmd := some x }) (Decoded c m))

/-- An I/O command that is decoded and runs at once: it comes from an I/O queue, its context is fetched, nothing bars it, no check fails,
its namespace is `n`, and nothing holds it for the media, an erase or a row being restored (R229, R232, R821, R864, R1038). -/
abbrev Runs (m : Machine.Mach) (c : NvCmd) (x : IoCmd) (n : Machine.Ns) : Prop :=
  c.sqid ≠ 0 ∧ Machine.fresh m c = true ∧
  Machine.ioBarred (Machine.onCtx c (fun y => { y with cmd := some x }) (Decoded c m)) = none ∧
  Machine.ioFails (Machine.onCtx c (fun y => { y with cmd := some x }) (Decoded c m)) c x = none ∧
  Machine.nsOf m (Machine.ioSpan x).1 = some n ∧ Machine.mediaWaits (Woken c x m) n x = false ∧
  Machine.eraseHolds (Woken c x m) x = false ∧ Machine.ioRows (Woken c x m) x = []

/-- The machine in which a woken command is in its media phase. -/
abbrev InMedia (c : NvCmd) (x : IoCmd) (m : Machine.Mach) : Machine.Mach :=
  Machine.onCtx c (fun y => { y with heldAt := none, phase := .media }) (Woken c x m)

/-- An admin command that may have to wait, once it is decoded: its context stays until it may end (log entry 50). -/
abbrev Waiting (c : NvCmd) (k : Nat) (m : Machine.Mach) : Machine.Mach :=
  Machine.onCtx c (fun x => { x with phase := .media, progress := k }) (Decoded c m)

/-- A command of an admin queue whose context is fetched and which the active engine may decode (R821, R833). -/
abbrev Admits (m : Machine.Mach) (c : NvCmd) : Prop := c.sqid = 0 ∧ Machine.fresh m c = true

/-- The same for a command that may have to wait. -/
abbrev Waits (m : Machine.Mach) (c : NvCmd) : Prop :=
  Admits m c ∧ (Machine.ctxOf m c).any (fun x => x.admin && x.status.isNone) = true

/-- One-time memory after a raise of MIN_SVN: fewer than 64 raises have been used, MIN_SVN is greater, one more raise is used, and all
else is as before (R872). -/
def Raised (i j : Machine.Ident) : Prop :=
  i.svnRaises < 64 ∧ ∃ v : BitVec 8, i.minSvn.toNat < v.toNat ∧ j = { i with minSvn := v, svnRaises := i.svnRaises + 1 }

/-- The opcode, the header and the authority of a service request, for the rows whose every issue is one request (Table 18-6). -/
def requestOf : Instr → Option (Nat × Hdr × Nat)
  | .identifyModule h => some (0x0101, h, lvHost)
  | .getMode h => some (0x0102, h, lvHost)
  | .setMode h => some (0x0103, h, (modeLevel h.p0))
  | .resetGroup h => some (0x0104, h, lvMaint)
  | .getHealth h => some (0x0105, h, lvHost)
  | .authChallenge h => some (0x0106, h, lvHost)
  | .authOpen h _ => some (0x0107, h, lvHost)
  | .authClose h => some (0x0108, h, lvHost)
  | .readRecord h => some (0x0201, h, lvHost)
  | .stageRecord h payload => some (0x0202, h, (if h.p3 = 2 then lvMaint else stageLevel (fieldAt payload 0 2)))
  | .settingsCommit h => some (0x0203, h, lvMaint)
  | .settingsStatus h => some (0x0204, h, lvHost)
  | .evrRead h => some (0x0301, h, lvHost)
  | .evrStatus h => some (0x0302, h, lvHost)
  | .evrChallenge h => some (0x0303, h, lvHost)
  | .evrClear h _ => some (0x0304, h, lvHost)
  | .evrSetPolicy h => some (0x0305, h, lvMaint)
  | .calRun h => some (0x0401, h, (if bit h.p3 0 then lvMaint else lvHost))
  | .calStatus h => some (0x0402, h, lvHost)
  | .calSetTrigger h => some (0x0403, h, lvMaint)
  | .srvGetState h => some (0x0501, h, lvHost)
  | .srvLoadBank h _ => some (0x0502, h, lvMaint)
  | .srvSelectBank h => some (0x0503, h, lvMaint)
  | .srvOpenLoop h => some (0x0504, h, lvMaint)
  | .srvCloseLoop h => some (0x0505, h, lvMaint)
  | .srvRroControl h => some (0x0506, h, lvMaint)
  | .srvSetCurrent h => some (0x0507, h, lvMaint)
  | .spnSetDemand h => some (0x0601, h, lvMaint)
  | .spnGetState h => some (0x0602, h, lvHost)
  | .spnLoadCurve h _ => some (0x0603, h, lvMaint)
  | .chGetMetrics h => some (0x0701, h, lvHost)
  | .chCapture h => some (0x0702, h, lvMaint)
  | .cfxLoad h _ => some (0x0703, h, lvMaint)
  | .cfxStatus h => some (0x0704, h, lvHost)
  | .cacheSetMode h => some (0x0801, h, lvHost)
  | .cacheStatus h => some (0x0802, h, lvHost)
  | .cacheLockRange h => some (0x0803, h, lvHost)
  | .cacheUnlockRange h => some (0x0804, h, lvHost)
  | .cacheInvalidateRange h => some (0x0805, h, lvMaint)
  | .armRead h => some (0x0901, h, lvHost)
  | .armWrite h => some (0x0902, h, lvMaint)
  | .spareStatus h => some (0x0903, h, lvHost)
  | .spareCommit h => some (0x0904, h, lvMaint)
  | .dramRetirePage h => some (0x0905, h, lvMaint)
  | .vaultStatus h => some (0x0A01, h, lvHost)
  | .vaultAcceptLoss h => some (0x0A02, h, lvMaint)
  | .vaultDiscard h => some (0x0A02, h, lvMaint)
  | .vaultExport h => some (0x0A02, h, lvMaint)
  | .vaultImport h _ => some (0x0A02, h, lvMaint)
  | .vaultTest h _ _ => some (0x0A03, h, lvMaint)
  | .zgpDomainJoin h _ _ => some (0x0B01, h, lvMaint)
  | .zgpGroupCreate h _ _ => some (0x0B02, h, lvMaint)
  | .zgpGroupStatus h => some (0x0B03, h, lvHost)
  | .feStatus h => some (0x0C01, h, lvHost)
  | .feTakeover h => some (0x0C02, h, lvMaint)
  | .regRead h => some (0x0D01, h, lvHost)
  | .regWrite h _ => some (0x0D02, h, lvMaint)
  | .diagMemtest h _ _ => some (0x0E01, h, lvMaint)
  | .diagEccInject h => some (0x0E02, h, lvMaint)
  | .diagCrossStatus h => some (0x0E03, h, lvHost)
  | _ => none

/-- Step 7 of Table 18-4 for the commands of `requestOf`: the variant lacks what the request is about. -/
def objectAbsent (c : Instr) (op : Nat) : Machine.Mach → Bool := match c with
  | .stageRecord h payload => Machine.ethernetOnS0 h payload
  | _ => Machine.familyAbsent op

end Sys2Proof
end

