-- ==== Sys2Proof/WellFormed.lean ====
section
/-! DEFINITION. Which commands are well formed: operands whose type is wider than what the spec lets the thing be are in its range. The meanings are
total; they do not ask for it. -/

namespace Sys2Proof

/-- Events that carry more than 8 bytes of parameters (R1041). -/
def longEvents : List Nat := [0x0044, 0x0F11, 0x0F40, 0x0F41, 0x1230, 0x1240]

/-- A count of sectors of one I/O command: 1 to 65,536, as NLB is zero-based in 16 bits. -/
def sectors (n : Nat) : Bool := decide (1 ≤ n) && decide (n ≤ 65536)

/-- A head-bus frame carries 1 to 8 words: those it writes, or as many as it reads (R413). -/
def frameWords (f : Frame) : Bool := decide (1 ≤ f.count) && decide (f.count ≤ 8) && (!f.write || decide (f.words.length = f.count))

/-- An identity page lists no more bytes than its fields have (Table 1-8). -/
def pageFits (p : Machine.IdPage) : Bool := decide (p.serial.length ≤ 24) && decide (p.headmap.length ≤ 24) && decide (p.tail.length ≤ 4020)

/-- A settings bank lists no more payload than it has room for (Table 1-5). -/
def bankFits (b : Machine.Bank) : Bool := decide (b.payload.length ≤ 0xFF_F000)

/-- A command is well formed: heads are H0 to H11 (R10), parameters fit an event record (R1040, R1041), lanes are four (Table 6-1), members are 0
to 511 (R874), a carried request is as long as NUMD says (R912), and so on with the tables that list an operand's values. -/
def Instr.wellFormed (i : Instr) : Bool :=
  match i with
  | .powerOnReset hda => hda.all (fun h => h.page.all pageFits && h.bankA.all bankFits && h.bankB.all bankFits && decide (0x400_0000 ≤ h.norSize))
  | .inputKindClassify _ _ _ => true
  | .pfcStart _ => true
  | .inputOutOfRange _ _ => true
  | .inputOvervoltage _ => true
  | .prechargeBypass _ => true
  | .llcStart _ _ => true
  | .inputAbsentTimeout _ _ => true
  | .vbulkBelow330 _ => true
  | .inputDropout _ => true
  | .vbulkBelow180 _ => true
  | .powerLossSequenceEnd => true
  | .bulkcapStart _ => true
  | .bulkcapComplete _ => true
  | .bulkcapAbandon _ => true
  | .brakeChopperGate _ _ => true
  | .brakeChopperRelease _ _ => true
  | .chopperFault _ _ _ => true
  | .chopperWithhold _ _ => true
  | .chopperUnwithhold _ _ => true
  | .vmotOvpTrip _ _ => true
  | .vmotOvpRelease _ _ => true
  | .faultClr => true
  | .railFault _ _ _ => true
  | .railRecoveryReset _ => true
  | .lifeCounterPersist => true
  | .rootPllLossOfLock => true
  | .rootPllRelock _ => true
  | .crystalStop => true
  | .crystalReturn => true
  | .chPllLossOfLock _ => true
  | .chPllRelock _ => true
  | .freqKhzWrite _ _ => true
  | .freqSettled _ => true
  | .crossingTransfer _ _ _ _ => true
  | .islandTorn _ => true
  | .groupResetRelease _ _ => true
  | .uncorrectableError _ => true
  | .identityCheck => true
  | .firmwareSlotSelect => true
  | .settingsBankSelect => true
  | .dramTrainingComplete => true
  | .payloadReadComplete => true
  | .microcodeLoad _ => true
  | .vaultReplay _ _ => true
  | .engineBoot => true
  | .spinUpStart => true
  | .controllerReady _ => true
  | .mediaReady _ _ => true
  | .lastShutdownResolve => true
  | .mediaHoldExpiry _ => true
  | .activeIdleTimeout => true
  | .setFeaturesPowerManagement _ _ => true
  | .apstTransition ps => decide (ps.toNat ≤ 4)
  | .pwrDisAssert => true
  | .pwrDisRelease => true
  | .shutdownDestageDone => true
  | .shutLimitExpiry => true
  | .shutdownComplete _ => true
  | .shutdownNotification _ _ => true
  | .controllerEnable _ _ _ => true
  | .controllerDisable _ _ => true
  | .catchListenEnd _ => true
  | .alignEnd => true
  | .rampHandover => true
  | .startAttemptFail => true
  | .startRetry => true
  | .spinUpTimeout => true
  | .pwmPeriod _ => true
  | .zeroCrossing _ _ _ _ => true
  | .commutation _ => true
  | .flyOkLoss _ => true
  | .rotorLoss => true
  | .phaseOvercurrent => true
  | .relock _ => true
  | .listenWindowExpiry _ => true
  | .standstill => true
  | .onceAroundMark _ _ => true
  | .indexUnanchorTimeout => true
  | .spnSetDemand _ => true
  | .spnGetState _ => true
  | .spnLoadCurve _ _ => true
  | .demodWindow _ magA magB _ _ => decide (magA.length = 4) && decide (magB.length = 4)
  | .indexFrame _ _ _ _ _ => true
  | .acqLimitExpiry _ => true
  | .markMissing _ => true
  | .alignmentField _ head _ _ _ _ _ => decide (head.toNat ≤ 11)
  | .currentLoopSample _ _ _ => true
  | .positionCycle _ _ _ _ _ _ => true
  | .bankSelect _ _ => true
  | .seekTimeout _ => true
  | .settleTimeout _ => true
  | .loadAttemptFail _ reason => decide (reason = 1 ∨ reason = 2)
  | .unloadComplete _ => true
  | .holdEnd _ why => decide (why.toNat ≤ 2)
  | .retractComplete _ => true
  | .reloadAfterRetract _ => true
  | .shockRet _ _ => true
  | .shockWi _ _ => true
  | .shockHoldExpiry _ => true
  | .rroctlSave _ => true
  | .rroctlClear _ => true
  | .tclr _ => true
  | .srvGetState _ => true
  | .srvLoadBank _ _ => true
  | .srvSelectBank _ => true
  | .srvOpenLoop _ => true
  | .srvCloseLoop _ => true
  | .srvRroControl _ => true
  | .srvSetCurrent _ => true
  | .headBusFrame _ f _ => decide (f.page ≤ 15) && decide (f.addr < 128) && frameWords f
  | .telemetryPoll _ _ _ _ _ _ _ => true
  | .hbctlGo _ _ => true
  | .heaterReady _ => true
  | .wusNAssert _ _ => true
  | .assistOtEnd _ _ => true
  | .astfaultClear _ _ => true
  | .sensorSample _ _ _ _ _ _ => true
  | .syncDecision _ _ _ => true
  | .sectorResult _ _ => true
  | .captureTrigger _ _ _ => true
  | .chGetMetrics _ => true
  | .chCapture _ => true
  | .calTemperatureCheck _ _ _ _ => true
  | .calSliceStart _ => true
  | .calDeferExpiry _ => true
  | .calGapExpiry _ => true
  | .calStep _ _ _ _ => true
  | .calRun _ => true
  | .calStatus _ => true
  | .calSetTrigger _ => true
  | .operationDispatch _ _ => true
  | .cfxNop _ => true
  | .cfxWait _ => true
  | .cfxWaitev _ => true
  | .cfxJmp _ => true
  | .cfxJcc _ => true
  | .cfxCall _ => true
  | .cfxRet _ => true
  | .cfxDecjnz _ => true
  | .cfxTrap _ => true
  | .cfxHalt _ => true
  | .cfxIrq _ => true
  | .cfxLoadc _ => true
  | .cfxAddc _ => true
  | .cfxCmpc _ => true
  | .cfxSetf _ => true
  | .cfxGate _ => true
  | .cfxHead _ _ _ => true
  | .cfxRegion _ _ => true
  | .cfxOntrack _ => true
  | .cfxSync _ => true
  | .cfxXfer _ => true
  | .cfxDecres _ => true
  | .cfxFetch _ => true
  | .cfxSkipdef _ => true
  | .cfxAlign _ => true
  | .cfxPreheat _ => true
  | .cfxMark _ => true
  | .cfxStat _ => true
  | .stallEnd _ _ _ => true
  | .waitevTimeout _ => true
  | .tposAnchor _ _ _ => true
  | .gateCountExpiry _ => true
  | .sectorGateClose _ _ => true
  | .abortRequest _ => true
  | .opTmoExpiry _ => true
  | .storeScrub _ _ _ _ => true
  | .storedataWrite _ _ => true
  | .cfxLoad _ _ => true
  | .cfxStatus _ => true
  | .queueEntry _ _ => true
  | .speculationStart _ _ kind => decide (kind.toNat ≤ 2)
  | .operationComplete _ _ _ => true
  | .ageCapDouble _ _ => true
  | .cleaningWindow _ _ _ _ => true
  | .cleanStarved _ => true
  | .ps1DutyUpdate _ => true
  | .ps1CapFail _ => true
  | .nvmeRead _ _ _ n _ => sectors n.toNat
  | .nvmeWrite _ _ _ _ data => sectors data.length
  | .nvmeZoneAppend _ _ _ _ data => sectors data.length
  | .nvmeOpenZone _ _ _ _ => true
  | .nvmeCloseZone _ _ _ _ => true
  | .nvmeFinishZone _ _ _ _ => true
  | .nvmeResetZone _ _ _ _ => true
  | .nvmeZoneManagementReceive _ _ _ => true
  | .nvmeDatasetManagement _ _ ranges => decide (1 ≤ ranges.length) && decide (ranges.length ≤ 256)
  | .nvmeWriteZeroes _ _ _ n _ => sectors n.toNat
  | .nvmeCompare _ _ _ _ data => sectors data.length
  | .nvmeVerify _ _ _ n _ => sectors n.toNat
  | .nvmeFlush _ _ => true
  | .nvmeFormatNvm _ _ _ _ _ _ _ => true
  | .nvmeSanitize _ _ _ _ _ => true
  | .nvmeNamespaceManagement _ _ _ _ _ _ _ _ => true
  | .nvmeNamespaceAttachment _ _ _ _ => true
  | .nvmeIdentify _ _ _ _ => true
  | .nvmeGetLogPage _ _ _ _ => true
  | .nvmeSetFeaturesTimestamp _ => true
  | .nvmeAbort _ _ _ => true
  | .nvmeSecuritySend _ _ _ => true
  | .nvmeSecurityReceive _ _ => true
  | .nvmeFirmwareImageDownload _ _ bytes => decide (bytes.length % 4 = 0)
  | .nvmeFirmwareCommit _ _ _ => true
  | .nvmeDeviceSelfTest _ _ => true
  | .nvmeKeepAlive _ => true
  | .nvmeConnect _ _ _ => true
  | .destageRun _ _ => true
  | .directRewriteTimeout _ _ => true
  | .cleaning _ _ phase => decide (phase.toNat ≤ 2)
  | .cleaningJournalComplete _ _ => true
  | .porchScan _ _ _ => true
  | .trackVerify _ _ => true
  | .reservedCopyRepair _ head _ _ => decide (head.toNat ≤ 11)
  | .sectorEnterCache _ => true
  | .destageRequest _ _ => true
  | .atticMoveComplete => true
  | .cacheDrainComplete => true
  | .dramScrub arr _ _ _ _ => decide (arr.toNat < 7)
  | .ecctestWrite _ => true
  | .ecctestRead _ => true
  | .arbiterGrant _ _ _ _ => true
  | .mediaDeadlineMiss leaf _ => decide (leaf.toNat ≤ 10)
  | .cacheSetMode _ => true
  | .cacheStatus _ => true
  | .cacheLockRange _ => true
  | .cacheUnlockRange _ => true
  | .cacheInvalidateRange _ => true
  | .dramRetirePage _ => true
  | .vaultHeaderProgram _ _ _ _ => true
  | .pageProgramFail _ _ _ => true
  | .vaultBlockErase _ => true
  | .protectionLost => true
  | .protectionReturn => true
  | .vaultStatus _ => true
  | .vaultExport _ => true
  | .vaultDiscard _ => true
  | .vaultAcceptLoss _ => true
  | .vaultImport _ _ => true
  | .vaultTest _ _ _ => true
  | .submissionFetch _ => true
  | .capsuleReceive _ => true
  | .completionPost _ => true
  | .watchdogRefresh => true
  | .watchdogExpiry => true
  | .fenceConfirmed _ => true
  | .takeoverComplete _ => true
  | .feStatus _ => true
  | .feTakeover _ => true
  | .perstAssert _ => true
  | .perstRelease _ => true
  | .linkUp _ _ _ => true
  | .linkDown _ => true
  | .phyPllLoss _ => true
  | .phyPllRelock _ => true
  | .keepAliveTimeout _ _ => true
  | .opalActivate _ _ => true
  | .opalRevert _ _ _ => true
  | .opalRevertsp _ _ _ => true
  | .opalGenkey _ _ _ _ => true
  | .opalErase _ _ _ _ => true
  | .opalGet _ _ => true
  | .opalSet _ _ _ => true
  | .opalAuthenticate _ _ _ => true
  | .opalRandom _ _ => true
  | .zgpHello => true
  | .zgpPeerTimeout peer => decide (peer.toNat < 512)
  | .zgpFrameReceive _ _ _ src dst _ _ _ => decide (src.toNat < 512) && decide (dst.toNat < 512)
  | .zgpRetransmit dst _ => decide (dst.toNat < 512)
  | .zgpAck src _ _ => decide (src.toNat < 512)
  | .zgpParityUpdate => true
  | .zgpGroupDef _ => true
  | .zgpState => true
  | .zgpReconRead => true
  | .zgpReconData _ => true
  | .zgpDomainJoin _ _ _ => true
  | .zgpGroupCreate _ _ _ => true
  | .zgpGroupStatus _ => true
  | .zgpRebuild _ _ => true
  | .serviceRequestSubmit _ numd bytes => decide (bytes.length = 4 * numd.toNat)
  | .serviceReplyRetrieve _ _ _ => true
  | .mctpRequest _ _ _ _ => true
  | .uartFrame bytes => !bytes.isEmpty
  | .replyDiscard _ _ => true
  | .sessionIdleClose _ => true
  | .authLockoutEnd _ => true
  | .identifyModule _ => true
  | .getMode _ => true
  | .setMode _ => true
  | .resetGroup _ => true
  | .getHealth _ => true
  | .authChallenge _ => true
  | .authOpen _ _ => true
  | .authClose _ => true
  | .readRecord _ => true
  | .stageRecord _ _ => true
  | .settingsCommit _ => true
  | .commitComplete _ => true
  | .adaptiveCommit => true
  | .settingsStatus _ => true
  | .evrRead _ => true
  | .evrStatus _ => true
  | .evrChallenge _ => true
  | .evrClear _ _ => true
  | .evrSetPolicy _ => true
  | .armRead _ => true
  | .armWrite _ => true
  | .spareStatus _ => true
  | .spareCommit _ => true
  | .regRead _ => true
  | .regWrite _ _ => true
  | .counterLowRead _ => true
  | .diagMemtest _ _ _ => true
  | .diagEccInject _ => true
  | .diagCrossStatus _ => true
  | .eventReport code _ _ _ params => decide (params.length ≤ 8) || longEvents.contains code.toNat
  | .eventNorProgram _ => true
  | .eventSectorRewrite _ _ => true
  | .i3cDynamicAddress _ => true
  | .rstdaa => true
  | .wusNRelease _ => true
  | .actLedHoldExpiry => true
  | .vbulk60vCrossing _ => true
  | .uartByteGapTimeout => true
  | .operatingTimeTick _ => true
  | .identityPageProgram _ _ page => pageFits page
  | .setFeaturesApst _ _ => true
  | .asynchronousEventRequest _ => true
  | .createIoQueue _ _ _ _ _ _ => true
  | .deleteIoQueue _ _ _ => true
  | .reservationRegister _ _ _ _ _ _ _ => true
  | .reservationAcquire _ _ _ _ _ _ => true
  | .reservationRelease _ _ _ _ _ => true
  | .completionQueueHeadDoorbell _ _ _ _ => true

end Sys2Proof
end

