-- ==== Sys2Proof/Certificates/Slice0/Obligations.lean ====
section
/-! DEFINITION. The statements for the provers, by chapter of the spec. Each command's completion with its own effect stands first; the rules of
the whole machine, the frames and the checks follow. -/

open Sys2Proof Sys2Proof.Machine

/-- Every command of the power input and of the converter stages completes with its own effect (R101 to R117, R126, R1046; the dropout in InputDropoutOnlyCounted):
what changes is written out, everything else of the machine stays. -/
def Obligations.PowerInputEffects : Prop :=
  (∀ (s : State) (dc : Bool) (pk f : BitVec 16), 700 ≤ pk.toNat →
    Does (.inputKindClassify dc pk f) s { s.m with
      pwr.kind := if dc then .dc else .ac, pwr.inputOk := true, pwr.vinPk := pk, pwr.freq := if dc then 0 else f
      pwr.excursion := s.m.pwr.excursion && inputOutside (if dc then .dc else .ac) pk.toNat }) ∧
  (∀ (s : State) (pk : BitVec 16), s.m.pwr.inputOk = true → inputAtLeast s.m.pwr.kind pk.toNat 75 105 = true →
    s.m.pwr.pfcOn = false → s.m.pwr.measuring = false → mayConvert s.m = true → lossEnded s.m = false → pk.toNat ≤ 4000 →
    Does (.pfcStart pk) s { s.m with pwr.vinPk := pk, pwr.pfcOn := true, pwr.pfcHeldOv := false, pwr.discharge := false }) ∧
  (∀ (s : State) (pk f : BitVec 16), inputOutside s.m.pwr.kind pk.toNat = true → s.m.pwr.excursion = false →
    s.m.pwr.kind ≠ .dc →
    Does (.inputOutOfRange pk f) s (report 0x0102 nowhere (leBytes 2 pk.toNat ++ leBytes 2 f.toNat)
      { vinSeen pk { s.m with pwr.freq := f } with pwr.excursion := true })) ∧
  (∀ (s : State) (pk : BitVec 16), 4000 < pk.toNat → s.m.pwr.pfcHeldOv = false →
    Does (.inputOvervoltage pk) s (report 0x0103 nowhere (leBytes 2 pk.toNat) { s.m with
      pwr.vinPk := pk, pwr.pfcOn := false, pwr.pfcHeldOv := true, pwr.vbulk := pk, pwr.bulkOk := true, pins.bulkInd := true })) ∧
  (∀ (s : State) (v : BitVec 16), s.m.pwr.inputOk = true → s.m.pwr.vinPk.toNat ≤ v.toNat + 200 →
    Does (.prechargeBypass v) s { s.m with
      pwr.vbulk := v, pwr.bulkOk := decide (3300 ≤ v.toNat), pins.bulkInd := decide (600 < v.toNat), pwr.bypass := true }) ∧
  (∀ (s : State) (v w : BitVec 16), s.m.pwr.llcOn = false → s.m.pwr.loss = false → mayConvert s.m = true →
    s.m.pwr.inputOk = true → s.m.pwr.pfcOn = true → 3822 ≤ v.toNat → v.toNat ≤ 3978 →
    Does (.llcStart v w) s { s.m with
      pwr.vbulk := v, pwr.bulkOk := true, pins.bulkInd := true, pwr.llcOn := true, pwr.detArmed := true
      pwr.vmotOutEn := !s.m.pwr.ovpActive, pwr.vmot := w }) ∧
  (∀ (s : State) (pk v : BitVec 16), s.m.pwr.inputOk = true → 700 ≤ pk.toNat → inputAtLeast s.m.pwr.kind pk.toNat 70 98 = false →
    Does (.inputAbsentTimeout pk v) s { s.m with
      pwr.vinPk := pk, pwr.excursion := false, pwr.pfcOn := false, pwr.pfcHeldOv := false, pwr.vbulk := v
      pwr.bulkOk := decide (3300 ≤ v.toNat), pins.bulkInd := decide (600 < v.toNat) }) ∧
  (∀ (s : State) (pk v : BitVec 16), s.m.pwr.inputOk = true → pk.toNat < 700 → s.m.pwr.detArmed = false → s.m.pwr.loss = false →
    Does (.inputAbsentTimeout pk v) s { s.m with
      pwr.inputOk := false, pwr.kind := .none, pwr.vinPk := pk, pwr.freq := 0, pwr.excursion := false, pwr.vbulk := v
      pwr.bulkOk := decide (3300 ≤ v.toNat), pins.bulkInd := decide (600 < v.toNat), pwr.discharge := true, pwr.pfcOn := false
      pwr.pfcHeldOv := false }) ∧
  (∀ (s : State) (v : BitVec 16), v.toNat < 3300 →
    Does (.vbulkBelow330 v) s (assertLoss 2 { s.m with pwr.vbulk := v, pwr.bulkOk := false, pins.bulkInd := decide (600 < v.toNat) })) ∧
  (∀ (s : State) (v : BitVec 16), v.toNat ≤ 1800 →
    Does (.vbulkBelow180 v) s (vaultBulkGone { s.m with
      pwr.vbulk := v, pwr.bulkOk := false, pins.bulkInd := decide (600 < v.toNat), pwr.llcOn := false, pwr.detArmed := false
      pwr.vmotOutEn := false })) ∧
  (∀ (s : State), s.m.pwr.loss = true → s.m.pwr.discharge = false → vaultSeqDone s.m = true → parked s.m = true →
    (vaultSeqEnd s.m).pwr.inputOk = false →
    Does .powerLossSequenceEnd s { moduleReset (vaultSeqEnd s.m) with
      pwr.llcOn := false, pwr.detArmed := false, pwr.vmotOutEn := false, pwr.discharge := true })

/-- The bulk measurement, the chopper, the overvoltage protection and the rails (R124 to R147, R152, R1030): each command
completes with its own effect. -/
def Obligations.PowerMeasureAndRailEffects : Prop :=
  (∀ (s : State) (v : BitVec 16), bulkWanted s.m = true → s.m.pwr.measuring = false → s.m.pwr.loss = false →
    s.m.pwr.pfcOn = true → 3822 ≤ v.toNat → v.toNat ≤ 3978 →
    Does (.bulkcapStart v) s { s.m with
      pwr.vbulk := v, pwr.bulkOk := true, pins.bulkInd := true, pwr.measuring := true, pwr.pfcOn := false }) ∧
  (∀ (s : State) (q : BitVec 16), s.m.pwr.measuring = true → s.m.pwr.measByRun = false → s.m.pwr.measDone = true →
    s.m.pwr.holdupOk = false →
    Completes (.bulkcapComplete q) s (fun m => m.pwr.measuring = false ∧ m.pwr.pfcOn = pfcMayRun s.m ∧
      m.pwr.measValid = true ∧ m.pwr.measTries = 0 ∧ m.pwr.cap.toNat = q.toNat / 2 ∧
      m.pwr.eUse.toNat = min 65535 (q.toNat * 3825 / 2000) ∧ m.evr = s.m.evr)) ∧
  (∀ (s : State) (why : AbandonReason), s.m.pwr.measuring = true → s.m.pwr.measTries.toNat < 2 →
    Does (.bulkcapAbandon why) s { s.m with
      pwr.measuring := false, pwr.pfcOn := s.m.pwr.pfcOn || pfcMayRun s.m, pwr.measTries := s.m.pwr.measTries + 1 }) ∧
  (∀ (s : State) (v : BitVec 16) (us : BitVec 20), BrakeIdle s.m us → s.m.pwr.chopEn = true → s.m.pwr.chopFault = false →
    2700 ≤ v.toNat → v.toNat ≤ 2800 →
    Does (.brakeChopperGate v us) s { s.m with
      pwr.vmot := v, pwr.chopEnergy := decay60 us.toNat s.m.pwr.chopEnergy, pwr.chopGated := true }) ∧
  (∀ (s : State) (v : BitVec 16) (us : BitVec 20), NoRetract s.m → s.m.pwr.chopGated = true → s.m.pwr.withheld = false →
    brakeEnergy s.m v us < 30000000 → v.toNat ≤ 2600 →
    Does (.brakeChopperRelease v us) s { s.m with pwr.vmot := v, pwr.chopEnergy := brakeEnergy s.m v us, pwr.chopGated := false }) ∧
  (∀ (s : State) (v sense : BitVec 16) (us : BitVec 20), NoRetract s.m → s.m.pwr.chopGated = true → s.m.pwr.withheld = false →
    brakeEnergy s.m v us < 30000000 → v.toNat ≤ 2800 → sense.toNat < 1000 →
    Does (.chopperFault v sense us) s (replaceBrake 1 (report 0x0120 nowhere [2] { s.m with
      pwr.vmot := v, pwr.chopEnergy := brakeEnergy s.m v us, pwr.chopFault := true, pwr.chopGated := false }))) ∧
  (∀ (s : State) (v sense : BitVec 16) (us : BitVec 20), NoRetract s.m → s.m.pwr.chopGated = true → s.m.pwr.withheld = false →
    brakeEnergy s.m v us < 30000000 → 2800 < v.toNat →
    Does (.chopperFault v sense us) s (replaceBrake 1 (report 0x0120 nowhere [1] { s.m with
      pwr.vmot := v, pwr.chopEnergy := brakeEnergy s.m v us, pwr.chopFault := true, pwr.chopGated := false }))) ∧
  (∀ (s : State) (v : BitVec 16) (us : BitVec 20), NoRetract s.m → s.m.pwr.withheld = false → 30000000 ≤ brakeEnergy s.m v us →
    Does (.chopperWithhold v us) s (replaceBrake 2 (report 0x0122 nowhere (leBytes 2 (satTo 511 (brakeEnergy s.m v us / 100000))) { s.m with
      pwr.vmot := v, pwr.chopEnergy := brakeEnergy s.m v us, pwr.withheld := true, pwr.chopGated := false }))) ∧
  (∀ (s : State) (v : BitVec 16) (us : BitVec 20), NoRetract s.m → s.m.pwr.withheld = true → s.m.pwr.chopGated = false →
    decay60 us.toNat s.m.pwr.chopEnergy < 15000000 →
    Does (.chopperUnwithhold v us) s { s.m with
      pwr.vmot := v, pwr.chopEnergy := decay60 us.toNat s.m.pwr.chopEnergy, pwr.withheld := false }) ∧
  (∀ (s : State) (v : BitVec 16) (us : BitVec 20), BrakeIdle s.m us → 3000 ≤ v.toNat → s.m.pwr.ovpActive = false →
    s.m.spn.st.driven = false →
    Does (.vmotOvpTrip v us) s (spnCoast (report 0x0121 nowhere (leBytes 2 v.toNat) { s.m with
      pwr.vmot := v, pwr.chopEnergy := decay60 us.toNat s.m.pwr.chopEnergy, pwr.ovpActive := true, pwr.vmotOutEn := false }))) ∧
  (∀ (s : State) (v : BitVec 16) (us : BitVec 20), BrakeIdle s.m us → v.toNat ≤ 2500 → s.m.pwr.ovpActive = true →
    Does (.vmotOvpRelease v us) s (spnReleased { s.m with
      pwr.vmot := v, pwr.chopEnergy := decay60 us.toNat s.m.pwr.chopEnergy, pwr.ovpActive := false, pwr.vmotOutEn := s.m.pwr.llcOn })) ∧
  (∀ (s : State), s.m.sup.mode = .service → Does .faultClr s { s.m with pwr.chopFault := false }) ∧
  (∀ (s : State) (n : Byte) (g : Group) (v : BitVec 16),
    Does (.railFault n (.load g) v) s { report 0x0130 nowhere (n :: leBytes 2 v.toNat) s.m with
      pwr.railPending := s.m.pwr.railPending ||| groupBit g }) ∧
  (∀ (s : State) (n : Byte) (v : BitVec 16),
    Does (.railFault n .vaux v) s { report 0x0130 nowhere (n :: leBytes 2 v.toNat) s.m with pwr.railRestart := true }) ∧
  (∀ (s : State) (n : Byte) (v : BitVec 16),
    Does (.railFault n .vaon v) s { report 0x0130 nowhere (n :: leBytes 2 v.toNat) s.m with pwr.aonRestart := true }) ∧
  (∀ (s : State) (g : Group), s.m.pwr.railPending.getLsbD g.bitNo = true →
    Does (.railRecoveryReset (.load g)) s (if g = .aon then evrReload (poweredOn none { s.m with pwr.railPending := s.m.pwr.railPending &&& ~~~(groupBit g) })
      else resetOwner g { s.m with pwr.railPending := s.m.pwr.railPending &&& ~~~(groupBit g) })) ∧
  (∀ (s : State), s.m.pwr.railRestart = true →
    Does (.railRecoveryReset .vaux) s (moduleReset { s.m with pwr.railRestart := false })) ∧
  (∀ (s : State), s.m.pwr.aonRestart = true → Does (.railRecoveryReset .vaon) s (evrReload (poweredOn none s.m))) ∧
  (∀ (s : State),
    Does .lifeCounterPersist s (persistLife s.m))

/-- Loss and return of the clocks, channel clock changes, crossings, islands and the release of a reset group (R157 to R163,
R167 to R172, R192 to R196): each command completes with its own effect. -/
def Obligations.ClockAndCrossingEffects : Prop :=
  (∀ (s : State), s.m.clk.rootLock = true →
    Does .rootPllLossOfLock s (lossCut .a1 (lossCut .a0 (chLost .a1 (chLost .a0 (report 0x0201 nowhere [] { s.m with
      clk.rootLock := false, clk.holdover := true, clk.lolCnt := s.m.clk.lolCnt.inc })))))) ∧
  (∀ (s : State) (us : BitVec 32), s.m.clk.holdover = true → s.m.clk.xtalOk = true →
    Does (.rootPllRelock us) s (report 0x0205 nowhere (leBytes 4 us.toNat) { s.m with
      clk.rootLock := true, clk.holdover := false })) ∧
  (∀ (s : State), s.m.clk.xtalOk = true → s.m.clk.rootLock = false →
    Does .crystalStop s (lossCut .a1 (lossCut .a0 (report 0x0202 nowhere [] { s.m with clk.xtalOk := false, clk.aonSrc := true })))) ∧
  (∀ (s : State), s.m.clk.xtalOk = true → s.m.clk.rootLock = true → s.m.pwr.loss = false →
    Completes .crystalStop s (fun m => m.clk.xtalOk = false ∧ m.clk.aonSrc = true ∧ m.clk.rootLock = false ∧
      m.clk.holdover = true ∧ m.clk.chLock = .both false ∧ m.clk.lolCnt = s.m.clk.lolCnt.inc.inc.inc)) ∧
  (∀ (s : State), Does .crystalReturn s { s.m with clk.xtalOk := true, clk.aonSrc := false }) ∧
  (∀ (s : State) (a : Act), s.m.clk.chLock.get a = true → s.m.pwr.loss = false →
    Completes (.chPllLossOfLock a) s (fun m => m.clk.chLock.get a = false ∧ m.clk.lolCnt = s.m.clk.lolCnt.inc ∧
      (m.hif.get a).wusClk = true ∧ m.clk.chLock.get a.other = s.m.clk.chLock.get a.other ∧
      m.hif.get a.other = s.m.hif.get a.other)) ∧
  (∀ (s : State) (a : Act), s.m.clk.rootLock = true →
    Completes (.chPllRelock a) s (fun m => m.clk.chLock.get a = true ∧ (m.hif.get a).wusClk = false ∧
      m.hif.get a.other = s.m.hif.get a.other)) ∧
  (∀ (s : State) (a : Act) (khz : BitVec 22), 1000000 ≤ khz.toNat → khz.toNat ≤ 3000000 →
    (s.m.clk.freqPend.get a ≠ none ∨ s.m.clk.freqKhz.get a ≠ khz) →
    Does (.freqKhzWrite a khz) s { s.m with clk.freqPend := s.m.clk.freqPend.upd a (fun _ => some khz) }) ∧
  (∀ (s : State) (a : Act) (k : BitVec 22), s.m.clk.freqPend.get a = some k →
    Does (.freqSettled a) s { s.m with
      clk.freqKhz := s.m.clk.freqKhz.upd a (fun _ => k), clk.freqPend := s.m.clk.freqPend.upd a (fun _ => none) }) ∧
  (∀ (s : State) (num : BitVec 16) (ev : Byte) (data : BitVec 64) (acked : Bool),
    Does (.crossingTransfer num ev data acked) s { s.m with clk.crossings := s.m.clk.crossings.map (fun c =>
      if c.num == num && !c.torn && !inReset s.m c.owner && decide ((c.count - c.last).toNat + ev.toNat ≤ c.most) then
        (if acked then { c with
            count := c.count + ev, bundle := if c.busy then c.bundle else data, taken := if c.busy then c.bundle else data
            delta := c.count + ev - c.last, last := c.count + ev, busy := false }
         else { c with count := c.count + ev, bundle := if c.busy then c.bundle else data, busy := true })
      else c) }) ∧
  (∀ (s : State) (num : BitVec 16) (c : Crossing), s.m.sup.mode = .service → s.m.clk.crossings.find? (fun x => x.num == num && !x.torn) = some c →
    Does (.islandTorn num) s (report 0x0210 nowhere (leBytes 1 c.owner.bitNo ++ leBytes 2 num.toNat) { s.m with
      clk.xdrop := s.m.clk.xdrop.add c.busy.toNat
      clk.torn := s.m.clk.torn ||| groupBit c.owner
      clk.crossings := s.m.clk.crossings.map (fun x =>
        if x.num == num then { x with count := 0, last := 0, delta := 0, busy := false, bundle := 0, taken := 0, torn := true } else x) })) ∧
  (∀ (s : State) (a : Act), s.m.sup.mode = .service → s.m.clk.crossings.all (fun c => decide (c.num.toNat < 15)) = true →
    s.m.clk.ffTorn = ⟨false, false⟩ →
    Does (.islandTorn (BitVec.ofNat 16 (15 + a.idx))) s (report 0x0210 nowhere (leBytes 1 (Group.act a).bitNo ++ leBytes 2 (15 + a.idx)) { s.m with
      clk.torn := s.m.clk.torn ||| groupBit (.act a), clk.ffTorn := s.m.clk.ffTorn.upd a (fun _ => true) })) ∧
  (∀ (s : State) (speed : BitVec 24), inReset s.m .aon = true →
    Does (.groupResetRelease .aon speed) s (groupReply 0 (releaseReset .aon s.m))) ∧
  (∀ (s : State) (speed : BitVec 24), inReset s.m .fab = true → unsupplied s.m .fab = false →
    Does (.groupResetRelease .fab speed) s (groupReply 1 (releaseReset .fab s.m))) ∧
  (∀ (s : State) (speed : BitVec 24), inReset s.m .spn = true → unsupplied s.m .spn = false →
    Does (.groupResetRelease .spn speed) s (groupReply 2 (spnResume { spnGo .coast .floating (releaseReset .spn s.m) with
      spn.speed := speed, spn.flyOk := decide (95 * s.m.spn.targetRpm.toNat ≤ speed.toNat) && decide (500000 ≤ speed.toNat) }))) ∧
  (∀ (s : State) (e : Act) (speed : BitVec 24), inReset s.m (.fe e) = true → unsupplied s.m (.fe e) = false →
    Does (.groupResetRelease (.fe e) speed) s (groupReply (3 + e.idx) (feReleased e (releaseReset (.fe e) s.m)))) ∧
  (∀ (s : State) (p : Act) (speed : BitVec 24), inReset s.m (.port p) = true → s.m.pins.perst.get p = false → unsupplied s.m (.port p) = false →
    Does (.groupResetRelease (.port p) speed) s (groupReply (5 + p.idx) (releaseReset (.port p) s.m))) ∧
  (∀ (s : State) (a : Act) (speed : BitVec 24), inReset s.m (.act a) = true → unsupplied s.m (.act a) = false →
    Does (.groupResetRelease (.act a) speed) s (groupReply (7 + a.idx) (actReleased a (releaseReset (.act a) s.m))))

/-- The stages of Table 4-7 as the commands that pass them (R49, R53, R87, R177, R215 to R229): a stage whose predecessors are complete is
marked, and the module does what the stage asks. -/
def Obligations.BringUpStageEffects : Prop :=
  (∀ (s : State) (hda : Option Hda), Does (.powerOnReset hda) s (evrReload (poweredOn hda s.m))) ∧
  (∀ (s : State) (p : IdPage), stageDone s.m 1 = false → s.m.hda.strapOk = true → s.m.hda.norOk = true →
    s.m.hda.page = some p → p.valid = true →
    Does .identityCheck s { s.m with sup.stages := s.m.sup.stages ||| 0x001 }) ∧
  (∀ (s : State), stageDone s.m 1 = false → s.m.hda.strapOk = false →
    Does .identityCheck s (bringUpFail 0x0010 { s.m with sup.stages := s.m.sup.stages ||| 0x001 })) ∧
  (∀ (s : State), stageDone s.m 1 = true → stageDone s.m 2 = false → fwVerifies s.m s.m.sup.fwActive = true →
    Completes .firmwareSlotSelect s (fun m => m.sup.fwSlot = BitVec.ofNat 2 (s.m.sup.fwActive.idx + 1) ∧
      m.sup.fwRev = slotRev s.m s.m.sup.fwActive ∧ m.sup.stages = s.m.sup.stages ||| 0x002 ∧ m.evr = s.m.evr ∧
      m.sup.fwActive = s.m.sup.fwActive)) ∧
  (∀ (s : State), stageDone s.m 2 = true → stageDone s.m 3 = false → s.m.pwr.llcOn = true → norUsable s.m = false →
    stopsAfter3 { s.m with sup.stages := s.m.sup.stages ||| 0x004 } = false →
    Does .settingsBankSelect s { s.m with sup.stages := s.m.sup.stages ||| 0x004 }) ∧
  (∀ (s : State), stageDone s.m 2 = true → stageDone s.m 3 = false → s.m.pwr.llcOn = true → norUsable s.m = true →
    stopsAfter3 (selectBank (readSlots { s.m with sup.stages := s.m.sup.stages ||| 0x004 })) = false →
    Does .settingsBankSelect s (selectBank (readSlots { s.m with sup.stages := s.m.sup.stages ||| 0x004 }))) ∧
  (∀ (s : State), stageDone s.m 3 = true → stageDone s.m 4 = false → s.m.pwr.llcOn = true →
    Does .dramTrainingComplete s (dramInit { s.m with sup.stages := s.m.sup.stages ||| 0x008 })) ∧
  (∀ (s : State), stageDone s.m 4 = true → stageDone s.m 6 = false →
    Does .payloadReadComplete s (payloadLoaded { s.m with sup.stages := s.m.sup.stages ||| 0x020 ||| 0x040 })) ∧
  (∀ (s : State) (arr : List (Act × BitVec 16 × List (List Byte))), stageDone s.m 7 = true → stageDone s.m 8 = false →
    Does (.microcodeLoad arr) s (mediaBoot arr { s.m with sup.stages := s.m.sup.stages ||| 0x080 })) ∧
  (∀ (s : State) (arr : List (Act × BitVec 16 × List (List Byte))) (a : Act) (v : List Byte), stageDone s.m 7 = true → stageDone s.m 8 = false →
    imageInForce s.m a = some v → (takeBlocks arr a v).any (fun b => b.isNone) = true →
    Completes (.microcodeLoad arr) s (fun m => m.sup.ucodeFail = true)) ∧
  (∀ (s : State), s.m.pwr.measDone = true → stageDone s.m 4 = true → stageDone s.m 10 = false →
    Does .engineBoot s (feBoot (releaseIfReset (.fe (activeEngine s.m)) { s.m with sup.stages := s.m.sup.stages ||| 0x200 }))) ∧
  (∀ (s : State), stageDone s.m 7 = true → s.m.pwr.measDone = true → s.m.sup.mode ≠ .safe → stageDone s.m 11 = false →
    s.m.pwr.loss = false →
    Does .spinUpStart s (setDemand (demandOf s.m (bootTarget s.m)) s.m)) ∧
  (∀ (s : State) (t : BitVec 16), stageDone s.m 9 = true → stageDone s.m 10 = true → stageDone s.m 11 = false →
    Completes (.controllerReady t) s (fun m => ∃ n, n = controllersReady (wearCheck (svnRaise { s.m with
      sup.ctrlReady := true, sup.ctrlT := t, sup.stages := s.m.sup.stages ||| 0x400 })) ∧
      (n.sup.mode ≠ .off → n.sup.mode ≠ .standby → n.pins.pwrDis = false → m = { n with sup.afterReset := none }) ∧
      (n.sup.mode = .off ∨ n.sup.mode = .standby → (bootMode n).pins.pwrDis = false → m = bootMode n) ∧
      (n.sup.mode = .off ∨ n.sup.mode = .standby → (bootMode n).pins.pwrDis = true → m = startShutdown .pwrDis (bootMode n)))) ∧
  (∀ (s : State) (a : Act) (t : BitVec 16), (s.m.srv.get a).st = .follow → forcedCalsDone s.m a = true →
    s.m.sup.actReady.get a = false → s.m.sup.actReady.get a.other = false →
    Does (.mediaReady a t) s (releaseHeldDo (modeAdvance { s.m with sup.actReady := s.m.sup.actReady.upd a (fun _ => true) })))

/-- Idle, power states, PWR_DIS and the clean shutdown (R93 to R98, R200, R201, R245 to R254, R997): each command completes
with its own effect. -/
def Obligations.ModeAndShutdownEffects : Prop :=
  (∀ (s : State), s.m.sup.resolved = true → s.m.sup.opened = false → s.m.sup.foreign = false → norUsable s.m = true →
    mayConvert s.m = true → shutOver s.m = false → s.m.sup.shut ≠ .unloading →
    Does .lastShutdownResolve s (modeAdvance (loadWanted { s.m with
      hda.slot0 := some ⟨s.m.sup.slotSeq + 1, .running, s.m.id.serial, s.m.sup.pcycle, s.m.sup.opSec, 0⟩, hda.slot1 := none
      sup.slotSeq := s.m.sup.slotSeq + 1, sup.opened := true, sup.resolved := true }))) ∧
  (∀ (s : State), s.m.sup.mode = .active → s.m.sup.trans = false → mediaOutstanding s.m = false →
    Does .activeIdleTimeout s (changeMode .idleFly 2 s.m)) ∧
  (∀ (s : State) (ps : BitVec 3), s.m.sup.apstEn = true → fliesHeads s.m.sup.mode = true → mediaOutstanding s.m = false →
    ps.toNat ≤ 4 → s.m.sup.shut = .none →
    Does (.apstTransition ps) s (beginMode (psMode ps.toNat) 5 (psTo ps s.m))) ∧
  (∀ (s : State), s.m.pins.pwrDis = false → s.m.sup.mode = .standby →
    Does .pwrDisAssert s (report 0x0028 nowhere [1] { s.m with pins.pwrDis := true })) ∧
  (∀ (s : State), s.m.pins.pwrDis = false → s.m.sup.mode = .active → stageDone s.m 11 = true →
    Does .pwrDisAssert s (startShutdown .pwrDis (report 0x0028 nowhere [5] { s.m with pins.pwrDis := true }))) ∧
  (∀ (s : State), (spnResume { s.m with pins.pwrDis := false, spn.halted := false }).sup.mode ≠ .standby →
    Does .pwrDisRelease s (spnResume { s.m with pins.pwrDis := false, spn.halted := false })) ∧
  (∀ (s : State) (n : Mach), n = spnResume { s.m with pins.pwrDis := false, spn.halted := false } → n.sup.mode = .standby → n.sup.trans = false →
    powerupMode n ≠ .standby →
    Does .pwrDisRelease s (leaveStandby (powerupMode n) 8 n)) ∧
  (∀ (s : State), s.m.sup.shut = .draining → mediaOutstanding s.m = false → dirtySectors s.m = 0 → parityUnderWay s.m = [] →
    Does .shutdownDestageDone s (shutUnload s.m)) ∧
  (∀ (s : State), s.m.sup.shut = .draining → 0 < dirtySectors s.m →
    Completes .shutLimitExpiry s (fun m => ∃ n, n = vaultShutdown { s.m with sup.shut := .vaulting } ∧
      m = report 0x0027 nowhere (leBytes 2 (sectorsMiB (dirtySectors s.m)) ++ leBytes 4 (newestVseq n).toNat) n)) ∧
  (∀ (s : State) (ms : BitVec 32), s.m.sup.shut = .unloading → parked s.m = true → s.m.sup.shutVseq = none → s.m.sup.opened = true →
    norUsable s.m = true →
    Does (.shutdownComplete ms) s (shutTail (adaptiveCommit (shutTarget { persistLife (report 0x0026 nowhere
        (leBytes 2 s.m.sup.destaged.toNat ++ leBytes 4 ms.toNat) (closeRecord .clean 0 s.m)) with
      sup.shut := .complete, sup.ctrlReady := false, sup.tail := true
      fe.ctrls := s.m.fe.ctrls.map (fun k => if k.shutting then { k with shutting := false, shutDone := true, rdy := false } else k) }))))

/-- Starting, driving and losing the rotor (R257 to R273, R295 to R297): each command completes with its own effect. -/
def Obligations.SpindleDriveEffects : Prop :=
  (∀ (s : State) (v : BitVec 24), s.m.spn.st = .catching → v = 0 →
    Does (.catchListenEnd v) s (spnGo .align .vector (setSpeed 0 s.m))) ∧
  (∀ (s : State) (v : BitVec 24), s.m.spn.st = .catching → v ≠ 0 → atLeastRpm (setSpeed v.toNat s.m) (spnHandover (setSpeed v.toNat s.m)) = true →
    Does (.catchListenEnd v) s (takeUp .accel .step (setSpeed v.toNat s.m))) ∧
  (∀ (s : State) (v : BitVec 24), s.m.spn.st = .catching → v ≠ 0 → atLeastRpm (setSpeed v.toNat s.m) (spnHandover (setSpeed v.toNat s.m)) = false →
    Does (.catchListenEnd v) s { takeUp .brake .shorted (setSpeed v.toNat s.m) with spn.slow := true }) ∧
  (∀ (s : State), s.m.spn.st = .align → 
    Does .alignEnd s { spnGo .ramp .step s.m with spn.rampN := 0, spn.rampSteps := 0, spn.zcSeen := false }) ∧
  (∀ (s : State), s.m.spn.st = .ramp → 12 ≤ s.m.spn.zcRun →
    Does .rampHandover s (takeUp .accel .step (setSpeed (speedOf (s.m.spn.steps.take 12)) s.m))) ∧
  (∀ (s : State), s.m.spn.st = .ramp → Does .startAttemptFail s (failAttempt s.m)) ∧
  (∀ (s : State), s.m.spn.retryWait = true → s.m.spn.targetRpm ≠ 0 → s.m.spn.halted = false →
    Does .startRetry s { spnGo .catching .floating s.m with
      spn.retryWait := false, spn.attempt := s.m.spn.attempt + 1, spn.startCnt := s.m.spn.startCnt.inc }) ∧
  (∀ (s : State), s.m.spn.starting = true →
    Does .spinUpTimeout s (report 0x0312 nowhere (leBytes 3 s.m.spn.speed.toNat) { spnCoast s.m with
      spn.halted := true, spn.starting := false, spn.retryWait := false })) ∧
  (∀ (s : State) (iph : BitVec 16), s.m.spn.bridge = .floating → s.m.spn.st ≠ .ramp →
    Does (.pwmPeriod iph) s { s.m with
      spn.iph := iph, spn.elec := Config.observerStep s.m.spn.elec s.m.spn.ePeriod, spn.iPhase := {}, spn.duty := 0 }) ∧
  (∀ (s : State) (iph : BitVec 16) (e : BitVec 16) (i : Nat), s.m.spn.bridge = .step → s.m.spn.st = .run →
    e = Config.observerStep s.m.spn.elec s.m.spn.ePeriod → i = Nat.min iph.toNat (spnRunIlim s.m) →
    Does (.pwmPeriod iph) s { s.m with
      spn.iph := BitVec.ofNat 16 i, spn.elec := e, spn.iPhase := phaseCurrents (angleStep e) (anglePos e) s.m.spn.soften.toNat i
      spn.duty := BitVec.ofNat 16 (satTo 10000 s.m.spn.piDuty) }) ∧
  (∀ (s : State) (x : MotorPhase) (p : BitVec 24) (pos : BitVec 16) (err : Int), s.m.spn.st = .ramp → p ≠ 0 → inReset s.m .spn = false →
    zcFound s.m x pos.toNat = true →
    Does (.zeroCrossing x p pos err) s (setSpeed (speedOf ((p.toNat :: s.m.spn.steps).take 36)) { crossed p.toNat err s.m with
      spn.zcRun := if 100 * spnHandover s.m * p.toNat ≤ 62500000000 then s.m.spn.zcRun + 1 else 0 })) ∧
  (∀ (s : State) (x : MotorPhase) (p : BitVec 24) (pos : BitVec 16) (err : Int), s.m.spn.st.tested = true → zcFound s.m x pos.toNat = false →
    Does (.zeroCrossing x p pos err) s s.m) ∧
  (∀ (s : State) (x : MotorPhase) (p : BitVec 24) (pos : BitVec 16) (err : Int) (q : Nat), s.m.spn.st.tested = true → p ≠ 0 →
    inReset s.m .spn = false → zcFound s.m x pos.toNat = true → s.m.spn.lastStep = some q → offBy12 p.toNat q = true →
    Does (.zeroCrossing x p pos err) s (loseRotor 1 { crossed p.toNat err s.m with
      spn.disRun := if deg20times9 < 9 * err.natAbs then s.m.spn.disRun + 1 else 0 })) ∧
  (∀ (s : State) (ms : BitVec 32), s.m.spn.st = .coast → inReset s.m .spn = false → atBoundary s.m = true → (s.m.spn.comStep + 1) % 6 ≠ 0 →
    Does (.commutation ms) s (nextStep s.m)) ∧
  (∀ (s : State) (ms : BitVec 32), s.m.spn.st.tested = true → inReset s.m .spn = false → atBoundary s.m = true → s.m.spn.zcSeen = false →
    Does (.commutation ms) s (loseRotor 2 s.m)) ∧
  (∀ (s : State) (v : BitVec 24), flyOkAt s.m.spn.targetRpm.toNat v.toNat = true →
    Does (.flyOkLoss v) s { s.m with spn.speed := v, spn.flyOk := true }) ∧
  (∀ (s : State) (v : BitVec 24), flyOkAt s.m.spn.targetRpm.toNat v.toNat = false → s.m.spn.flyOk = true → parked s.m = false →
    s.m.spn.listen = false →
    Does (.flyOkLoss v) s (slowRetract (report 0x0321 nowhere (leBytes 3 v.toNat ++ leBytes 2 s.m.spn.targetRpm.toNat) { s.m with
      spn.speed := v, spn.flyOk := false }))) ∧
  (∀ (s : State), s.m.spn.st.tested = true → s.m.spn.zcSeen = false → Does .rotorLoss s (loseRotor 2 s.m)) ∧
  (∀ (s : State), s.m.spn.st.tested = true → Does .phaseOvercurrent s (loseRotor 4 s.m)) ∧
  (∀ (s : State) (us : BitVec 32), s.m.spn.st = .lost → s.m.spn.listen = true → 12 ≤ s.m.spn.zcRun →
    flyOkAt s.m.spn.targetRpm.toNat (speedOf (s.m.spn.steps.take 12)) = false →
    Does (.relock us) s (relockFails (speedOf (s.m.spn.steps.take 12)) s.m)) ∧
  (∀ (s : State) (us : BitVec 32) (v : Nat), s.m.spn.st = .lost → s.m.spn.listen = true → 12 ≤ s.m.spn.zcRun → s.m.spn.unfollowed = false →
    v = speedOf (s.m.spn.steps.take 12) → flyOkAt s.m.spn.targetRpm.toNat v = true →
    Does (.relock us) s (report 0x0331 nowhere (leBytes 4 us.toNat ++ leBytes 3 v) (spnWusRelease
      (takeUp (if 100 * s.m.spn.targetRpm.toNat ≤ v then .run else .accel) .step { s.m with
        spn.listen := false, spn.speed := BitVec.ofNat 24 v, spn.flyOk := true, spn.integ := (v : Int) })))) ∧
  (∀ (s : State) (v : BitVec 24), s.m.spn.st = .lost → s.m.spn.listen = true →
    Does (.listenWindowExpiry v) s (relockFails v.toNat s.m))

/-- Standstill, the once-around mark and the spindle's service requests (R274, R281, R286, R301 to R305): each command
completes with its own effect. -/
def Obligations.SpindleIndexAndRequestEffects : Prop :=
  (∀ (s : State), s.m.spn.st = .coast → standbyWaits (spnStop s.m) = false →
    Does .standstill s (modeAdvance (spnStop s.m))) ∧
  (∀ (s : State), s.m.spn.st = .coast → standbyWaits (spnStop s.m) = true → (spnStop s.m).sup.tail = false →
    (spnStop s.m).spn.st = .stopped → Does .standstill s (modeAdvance (standbyReached (spnStop s.m)))) ∧
  (∀ (s : State) (d : BitVec 16), s.m.spn.st ≠ .stopped → loaded s.m .a0 = true → d.toNat ≤ 100 →
    Does (.onceAroundMark .a0 d) s { s.m with
      spn.anchored := true, spn.markCycle := s.m.spn.cycle, spn.markElec := s.m.spn.elec }) ∧
  (∀ (s : State), parked s.m = true → Does .indexUnanchorTimeout s (unanchor s.m)) ∧
  (∀ (s : State) (h : Hdr), Served s.m h lvMaint → s.m.sup.mode = .service → h.p1 = 0 → h.p2 = 0 → h.p3 = 0 → h.p0.toNat ≤ 255 →
    parked s.m = true →
    Does (.spnSetDemand h) s (reply h stOk 0 [] (spnResume (setDemand h.p0.toNat { accept h 0x0601 false s.m with
      spn.halted := false, spn.serviceDemand := some (BitVec.ofNat 8 h.p0.toNat) })))) ∧
  (∀ (s : State) (h : Hdr), Served s.m h lvHost → h.p0 = 0 → h.p1 = 0 → h.p2 = 0 → h.p3 = 0 →
    Does (.spnGetState h) s (reply h stOk 0 (regBytes [spnStatusReg s.m.spn, spnTargetReg s.m.spn, s.m.spn.speed.zeroExtend 32,
      s.m.spn.ePeriod.zeroExtend 32, spnDriveReg s.m.spn, spnAngleReg s.m.spn]) (accept h 0x0602 false s.m))) ∧
  (∀ (s : State) (h : Hdr) (v : List Byte), Served s.m h lvMaint → s.m.sup.mode = .service → h.p0 = 0 → h.p1 = 0 → h.p2 = 0 →
    h.p3 = 0 → curveValid (accept h 0x0603 false s.m) v = true →
    Does (.spnLoadCurve h v) s (reply h stOk 0 [] (spnEvaluate { accept h 0x0603 false s.m with
      spn.loadedCurve := some (curveOfBytes v) })))

/-- Position sensing (R308 to R341): a window with both sets, a window with neither, an index frame, the acquisition limit, a missing
mark and an alignment field, each with its own effect. -/
def Obligations.PositionSensingEffects : Prop :=
  (∀ (s : State) (a : Act) (magA magB x y : List Nat) (angle : BitVec 16) (settled : Bool) (u : Nat), demodulates s.m a = true →
    x = magA.map (fun v => v * (s.m.srvRef.get a).gain / 65536) → y = magB.map (fun v => v * (s.m.srvRef.get a).gain / 65536) →
    setPasses s.m a x = true → setPasses s.m a y = true → (s.m.srvRef.get a).damage = [] →
    (wrap12 ((setFraction s.m a 1 y : Int) - setFraction s.m a 0 x)).natAbs ≤ (s.m.srvRef.get a).laneAgree.toNat →
    u = (((setFraction s.m a 0 x : Int) + (wrap12 ((setFraction s.m a 1 y : Int) - setFraction s.m a 0 x)).tdiv 2) % 4096).toNat →
    (s.m.srvRef.get a).correcting = false → (nearestWord u (predicted s.m a) - predicted s.m a).natAbs ≤ posSet s.m a 2 2 512 →
    Completes (.demodWindow a magA magB angle settled) s (fun m =>
      (m.srvRef.get a).word1 = some (BitVec.ofInt 32 (nearestWord u (predicted s.m a))) ∧ (m.srvRef.get a).invRun = 0 ∧
      (m.srvRef.get a).validRun = (s.m.srvRef.get a).validRun + 1 ∧ (m.srvRef.get a).setInUse = 3 ∧
      m.srvRef.get a.other = s.m.srvRef.get a.other ∧ m.srv.get a.other = s.m.srv.get a.other)) ∧
  (∀ (s : State) (a : Act) (magA magB x y : List Nat) (angle : BitVec 16) (settled : Bool), demodulates s.m a = true →
    x = magA.map (fun v => v * (s.m.srvRef.get a).gain / 65536) → y = magB.map (fun v => v * (s.m.srvRef.get a).gain / 65536) →
    setPasses s.m a x = false → setPasses s.m a y = false →
    Completes (.demodWindow a magA magB angle settled) s (fun m =>
      (m.srvRef.get a).invCnt = (s.m.srvRef.get a).invCnt.inc ∧ (m.srvRef.get a).invRun = (s.m.srvRef.get a).invRun + 1 ∧
      (m.srvRef.get a).validRun = 0 ∧ (m.srvRef.get a).setInUse = 0 ∧ (m.srvRef.get a).word1 = (s.m.srvRef.get a).word1 ∧
      (m.srvRef.get a).gain = (s.m.srvRef.get a).gain ∧
      m.srvRef.get a.other = s.m.srvRef.get a.other ∧ m.srv.get a.other = s.m.srv.get a.other)) ∧
  (∀ (s : State) (a : Act) (set : LaneSet) (lane : BitVec 2) (x : BitVec 40) (amp : BitVec 16), demodulates s.m a = true →
    frameValid x amp = true → (s.m.srvRef.get a).word1 = none →
    Does (.indexFrame a set lane x amp) s ((s.m.onRef a (fun r => { r with
      indexValid := true, markOk := r.markOk || frameNumber x == 0, markLost := r.markLost && frameNumber x != 0 })).onSrv a
        (fun c => { c with xEst := laneCentre set lane.toNat (framePeriod x) }))) ∧
  (∀ (s : State) (a : Act) (set : LaneSet) (lane : BitVec 2) (x : BitVec 40) (amp : BitVec 16), frameValid x amp = false →
    Does (.indexFrame a set lane x amp) s s.m) ∧
  (∀ (s : State) (a : Act), (s.m.srv.get a).st = .seek → (s.m.srvRef.get a).acquired = false → loaded s.m a = true →
    Does (.acqLimitExpiry a) s (report (actCode 0x0430 a) (onHead a 0)
      (leBytes 2 (s.m.srvRef.get a).ampA.toNat ++ leBytes 2 (s.m.srvRef.get a).ampB.toNat) s.m)) ∧
  (∀ (s : State) (a : Act), demodulates s.m a = true → (s.m.srvRef.get a).indexValid = true → (s.m.srvRef.get a).markLost = false →
    (s.m.srvRef.get a).acquired = true → (s.m.srv.get a).st = .follow →
    Does (.markMissing a) s (report (actCode 0x0443 a) (onHead a 0) []
      (s.m.onRef a (fun r => { r with markOk := false, markLost := true })))) ∧
  (∀ (s : State) (a : Act) (f : BitVec 7) (code : BitVec 12) (q0 q1 : Int), demodulates s.m a = true → (s.m.srv.get a).st = .follow →
    (s.m.srvRef.get a).missRun + 1 ≠ (s.m.srvRef.get a).missLimit.toNat →
    Does (.alignmentField a (s.m.srv.get a).head f false code q0 q1) s ((s.m.onRef a (fun r => { r with
      fieldNo := f, fieldValid := false, amissCnt := r.amissCnt.inc, missRun := r.missRun + 1, goodFields := 0
      missFirst := if r.missRun = 0 then f else r.missFirst })).onSrv a (fun c => { c with fieldOk := true }))) ∧
  (∀ (s : State) (a : Act) (f : BitVec 7) (code : BitVec 12) (q0 q1 e : Int), demodulates s.m a = true → (s.m.srv.get a).st = .settle →
    codeTrack (s.m.srv.get a).tgtTrack.toNat code.toNat = (s.m.srv.get a).tgtTrack.toNat →
    e = (alignQ (s.m.srvRef.get a).alignReader q0 q1 *
      (pitchAt s.m a (s.m.srv.get a).head.toNat (s.m.srv.get a).tgtTrack.toNat : Int)).tdiv 1048576 →
    e.natAbs ≤ (s.m.srvRef.get a).alignLimit.toNat →
    Completes (.alignmentField a (s.m.srv.get a).head f true code q0 q1) s (fun m =>
      (m.srvRef.get a).fieldNo = f ∧ (m.srvRef.get a).fieldValid = true ∧ (m.srvRef.get a).fieldErr = BitVec.ofInt 24 e ∧
      (m.srvRef.get a).missRun = 0 ∧ (m.srvRef.get a).alignTrust = true ∧
      (m.srvRef.get a).goodFields = (s.m.srvRef.get a).goodFields + 1 ∧ m.evr = s.m.evr))

/-- The position cycle and the current loop (R345 to R360, R366, R403), and bank selection (R363 to R366). -/
def Obligations.ServoLoopEffects : Prop :=
  (∀ (s : State) (a : Act) (phase : BitVec 8) (acc0 acc1 : Int) (angle : BitVec 16) (bad : BitVec 12),
    s.m.pwr.loss = false → (s.m.srv.get a).st = .follow →
    inReset s.m (.act a) = false → phase.toNat ≤ 187 →
    Completes (.positionCycle a phase acc0 acc1 angle bad) s (fun m =>
      (m.srv.get a).pes = pesOf (cycleTarget s.m a angle.toNat) (positionSample (s.m.srv.get a)) ∧
      (m.srv.get a).spLast = phase ∧ (m.srv.get a).ovrRun = 0 ∧ (m.srv.get a).cycWord = none ∧ (m.srv.get a).st = .follow ∧
      m.srv.get a.other = s.m.srv.get a.other)) ∧
  (∀ (s : State) (a : Act) (phase : BitVec 8) (acc0 acc1 : Int) (angle : BitVec 16) (bad : BitVec 12),
    s.m.pwr.loss = false → (s.m.srv.get a).st = .follow →
    inReset s.m (.act a) = false → 187 < phase.toNat →
    Completes (.positionCycle a phase acc0 acc1 angle bad) s (fun m =>
      (m.srv.get a).isp = (s.m.srv.get a).isp ∧ (m.srv.get a).ovrRun = (s.m.srv.get a).ovrRun + 1 ∧
      (m.srv.get a).ovrCnt = (s.m.srv.get a).ovrCnt.inc)) ∧
  (∀ (s : State) (a : Act) (i : Int) (lim : Bool), s.m.pwr.loss = false → (s.m.srv.get a).st = .opened →
    Does (.currentLoopSample a i lim) s (s.m.onSrv a (fun c => { c with imeas := i }))) ∧
  (∀ (s : State) (a : Act) (i : Int), s.m.pwr.loss = false → (s.m.srv.get a).st = .follow → (i - (s.m.srv.get a).isp).natAbs ≤ 3000 →
    Completes (.currentLoopSample a i false) s (fun m =>
      (m.srv.get a).imeas = i ∧ (m.srv.get a).drvRun = 0 ∧ (m.srv.get a).isp = (s.m.srv.get a).isp ∧
      (m.srv.get a).drvBad = (s.m.srv.get a).drvBad ∧ m.evr = s.m.evr ∧ m.srv.get a.other = s.m.srv.get a.other)) ∧
  (∀ (s : State) (a : Act) (l : Loop) (k : BitVec 2), (s.m.srv.get a).bankPend.getD l.idx none = some k →
    (s.m.srv.get a).bankReqs = [] →
    Completes (.bankSelect a l) s (fun m =>
      (m.srv.get a).banksel = updAt (s.m.srv.get a).banksel l.idx (fun _ => k) ∧
      (m.srv.get a).bankPend = updAt (s.m.srv.get a).bankPend l.idx (fun _ => none) ∧ m.svc = s.m.svc ∧
      m.srv.get a.other = s.m.srv.get a.other))

/-- Ends of seeks, loads, holds and retracts, shocks and the strobes of the repetitive controller (R365, R372 to R381, R392, R398 to
R402): each command completes with its own effect. -/
def Obligations.ActuatorEventEffects : Prop :=
  (∀ (s : State) (a : Act) (n : Mach), (s.m.srv.get a).st = .seek → (s.m.srv.get a).phase = .track → (s.m.srvRef.get a).acquired = true →
    n = report (actCode 0x0451 a) (onHead a (s.m.srv.get a).head.toNat) (leBytes 3 (s.m.srv.get a).tgtTrack.toNat ++ leBytes 4
      (targetOf s.m a (s.m.srv.get a).head.toNat (s.m.srv.get a).tgtTrack.toNat (s.m.srv.get a).angle.toNat - (s.m.srv.get a).xEst).natAbs) s.m →
    Does (.seekTimeout a) s (seekSettled a (enterSettle a (n.onSrv a (fun c => { c with
      seekFailed := true, tgtTrack := BitVec.ofNat 21 (nearestTrack n a (s.m.srv.get a).head.toNat ((s.m.srv.get a).xEst +
        offsetAt n a (s.m.srv.get a).head.toNat (s.m.srv.get a).tgtTrack.toNat (s.m.srv.get a).angle.toNat)) }))))) ∧
  (∀ (s : State) (a : Act) (why : BitVec 8), (s.m.srv.get a).st = .seek → (s.m.srv.get a).phase = .load →
    (s.m.srvRef.get a).acquired = false → why = 1 ∨ why = 2 →
    (s.m.srv.get a).loadTry ≤ loadRetry s.m a →
    Does (.loadAttemptFail a why) s (s.m.onSrv a (fun c => { c with
      phase := .unload, bemfRef := -(loadBemf s.m a : Int), loadReason := why, loadAgain := true, loadFailed := false }))) ∧
  (∀ (s : State) (a : Act), (s.m.srv.get a).st = .seek → (s.m.srv.get a).phase = .unload →
    Does (.unloadComplete a) s (afterOpen a (moduleResetAfterRetract (enterOpen a s.m)))) ∧
  (∀ (s : State) (a : Act), (s.m.srv.get a).st = .hold → (s.m.srv.get a).seekWait = none → (s.m.srv.get a).holdReq = none →
    Completes (.holdEnd a 0) s (fun m => (m.srv.get a).st = .follow ∧ (m.srv.get a).tgtHead = (s.m.srv.get a).head ∧
      (m.srv.get a).tgtTrack = BitVec.ofNat 21 (nearestTrack s.m a (s.m.srv.get a).head.toNat
        ((s.m.srv.get a).xEst + offsetAt s.m a (s.m.srv.get a).head.toNat (s.m.srv.get a).tgtTrack.toNat (s.m.srv.get a).angle.toNat)) ∧
      (m.srv.get a).holdI = 0 ∧ m.evr = s.m.evr ∧ m.svc = s.m.svc ∧ m.srv.get a.other = s.m.srv.get a.other)) ∧
  (∀ (s : State) (a : Act), (s.m.srv.get a).st = .retract → (enterOpen a s.m).clk.resetWait.getLsbD (Group.bitNo (.act a)) = false →
    Does (.retractComplete a) s (modeAdvance (moduleResetAfterRetract (lossSupply a (enterOpen a s.m))))) ∧
  (∀ (s : State) (a : Act), (s.m.srv.get a).reload = true → (s.m.srv.get a).st = .opened → s.m.spn.flyOk = true →
    (s.m.srv.get a).shockWi = false → wantsHeads s.m = true → Does (.reloadAfterRetract a) s (load a (s.m.onSrv a (fun c => { c with reload := false })))) ∧
  (∀ (s : State) (a : Act) (pk : BitVec 16), 10 * shockRetLim s.m a < pk.toNat → loaded s.m a = true →
    Does (.shockRet a pk) s (retract a 2 s.m)) ∧
  (∀ (s : State) (a : Act) (pk : BitVec 16), s.m.pwr.loss = false → 10 * shockWiLim s.m a < pk.toNat →
    Does (.shockWi a pk) s (refreshInhibit a (report (actCode 0x0454 a) (onHead a (s.m.srv.get a).head.toNat)
      (leBytes 2 pk.toNat) (s.m.onSrv a (fun c => { c with shockWi := true, shockHeld := false }))))) ∧
  (∀ (s : State) (a : Act), (s.m.srv.get a).shockWi = true → (s.m.srv.get a).onTrackW = true →
    Does (.shockHoldExpiry a) s (refreshInhibit a (s.m.onSrv a (fun c => { c with shockWi := false, shockHeld := false })))) ∧
  (∀ (s : State) (a : Act), (s.m.srv.get a).st = .follow →
    Does (.rroctlSave a) s (s.m.onSrv a (fun c => { c with rroSaved := c.rro }))) ∧
  (∀ (s : State) (a : Act),
    Does (.rroctlClear a) s (s.m.onSrv a (fun c => { c with rro := c.rro.filter (fun e => e.1 / 1024 != c.head.toNat) }))) ∧
  (∀ (s : State) (a : Act), Does (.tclr a) s (s.m.onSrv a (fun c => { c with spMax := 0 })))

/-- The servo's service requests (R362 to R364, R379, R407): served with its conditions met, each completes with its own effect and
reply. -/
def Obligations.ServoRequestEffects : Prop :=
  (∀ (s : State) (h : Hdr), Served s.m h lvHost → h.p0.toNat ≤ 1 → h.p1 = 0 → h.p2 = 0 → h.p3 = 0 → calHolds s.m (actOf h) = false →
    Does (.srvGetState h) s (reply h stOk 0 (regBytes [ctlStatReg (s.m.srv.get (actOf h)), pesReg (s.m.srv.get (actOf h)),
      icmdReg (s.m.srv.get (actOf h)), corrReg (s.m.srv.get (actOf h)), (s.m.srvRef.get (actOf h)).pos,
      refStatReg (s.m.srvRef.get (actOf h))]) (accept h 0x0501 false s.m))) ∧
  (∀ (s : State) (h : Hdr) (bs : List Byte), Served s.m h lvMaint → h.p0.toNat ≤ 1 → h.p1.toNat ≤ 3 → h.p2.toNat ≤ 3 → h.p3 = 0 →
    (s.m.srv.get (actOf h)).st = .opened → bs.length = 256 → 2 ^ 31 ≤ fieldAt bs 0 4 → fieldAt bs 0 4 / 16 % 2 ^ 27 = 0 →
    (List.range 25).all (fun i => fieldAt bs (4 * (39 + i)) 4 == 0) = true →
    Does (.srvLoadBank h bs) s (reply h stOk 0 [] ((accept h 0x0502 false s.m).onSrv (actOf h) (fun c => { c with
      words := (List.range 39).foldl (fun ws i => if keepsWord h.p1.toNat i then
          assocSet 0#32 ws (bankBase h.p1.toNat h.p2.toNat + 4 * i) (BitVec.ofNat 32 (fieldAt bs (4 * i) 4)) else ws) c.words })))) ∧
  (∀ (s : State) (h : Hdr), Served s.m h lvMaint → h.p0.toNat ≤ 1 → h.p1.toNat ≤ 3 → h.p2.toNat ≤ 3 → h.p3 = 0 →
    (s.m.srv.get (actOf h)).bankValid h.p1.toNat h.p2.toNat = true → (s.m.srv.get (actOf h)).st ≠ .retract →
    Does (.srvSelectBank h) s ((accept h 0x0503 false s.m).onSrv (actOf h) (fun c => { c with
      bankPend := updAt c.bankPend h.p1.toNat (fun _ => some (BitVec.ofNat 2 h.p2.toNat))
      bankReqs := c.bankReqs ++ [(h, h.p1.toNat)] }))) ∧
  (∀ (s : State) (h : Hdr), Served s.m h lvMaint → s.m.sup.mode = .service → h.p0.toNat ≤ 1 → h.p1 = 0 → h.p2 = 0 → h.p3 = 0 →
    (s.m.srv.get (actOf h)).st = .opened →
    Does (.srvOpenLoop h) s (reply h stOk 0 [] (accept h 0x0504 false s.m))) ∧
  (∀ (s : State) (h : Hdr), Served s.m h lvMaint → s.m.sup.mode = .service → h.p0.toNat ≤ 1 → h.p1 = 0 → h.p2 = 0 → h.p3 = 0 →
    (s.m.srv.get (actOf h)).st = .follow →
    Does (.srvOpenLoop h) s (unload (actOf h) ((accept h 0x0504 false s.m).onSrv (actOf h) (fun c => { c with
      openReqs := c.openReqs ++ [h], loadAgain := false })))) ∧
  (∀ (s : State) (h : Hdr), Served s.m h lvMaint → s.m.sup.mode = .service → s.m.spn.atSpeed = true → s.m.spn.flyOk = true →
    recordOpen s.m = true → shutOver s.m = false →
    h.p0.toNat ≤ 1 → h.p3 = 0 → (s.m.srv.get (actOf h)).st = .opened → dataHead (accept h 0x0505 false s.m) (actOf h) h.p1.toNat = true →
    regionOfTrack (accept h 0x0505 false s.m) (actOf h) h.p1.toNat h.p2.toNat ≠ none →
    Does (.srvCloseLoop h) s (loadTo (actOf h) h.p1.toNat h.p2.toNat ((accept h 0x0505 false s.m).onSrv (actOf h) (fun c => { c with
      closeReq := some (h, BitVec.ofNat 4 h.p1.toNat, BitVec.ofNat 21 h.p2.toNat) })))) ∧
  (∀ (s : State) (h : Hdr), Served s.m h lvMaint → h.p0.toNat ≤ 1 → h.p1 = 0 → h.p2 = 0 → h.p3 = 0 →
    Does (.srvRroControl h) s (reply h stOk 0 [] ((accept h 0x0506 false s.m).onSrv (actOf h) (fun c => { c with freeze := true })))) ∧
  (∀ (s : State) (h : Hdr), Served s.m h lvMaint → h.p0.toNat ≤ 1 → h.p1 = 4 → h.p2 &&& ~~~(0xF0F#32) = 0 → h.p3 = 0 →
    4 ≤ field h.p2 0 4 → field h.p2 0 4 ≤ 12 →
    Does (.srvRroControl h) s (reply h stOk 0 [] ((accept h 0x0506 false s.m).onSrv (actOf h) (fun c => { c with
      learnN := BitVec.ofNat 4 (field h.p2 0 4), lead := BitVec.ofNat 4 (field h.p2 8 4) })))) ∧
  (∀ (s : State) (h : Hdr), Served s.m h lvMaint → s.m.sup.mode = .service → h.p0.toNat ≤ 1 → (s.m.srv.get (actOf h)).st = .follow →
    -32768 ≤ h.p1.toInt → h.p1.toInt ≤ 32767 → h.p3.toNat ≤ holdTmax (accept h 0x0507 false s.m) (actOf h) →
    Completes (.srvSetCurrent h) s (fun m => (m.srv.get (actOf h)).st = .hold ∧ (m.srv.get (actOf h)).ispBase = (m.srv.get (actOf h)).holdI ∧
      (m.srv.get (actOf h)).isp = (m.srv.get (actOf h)).holdI ∧
      (m.srv.get (actOf h)).holdI = clampInt (-(linMax (accept h 0x0507 false s.m) (actOf h) : Int)) (linMax (accept h 0x0507 false s.m) (actOf h)) h.p1.toInt ∧
      m.svc = (accept h 0x0507 false s.m).svc ∧ m.srv.get (actOf h).other = s.m.srv.get (actOf h).other))

/-- The head interface and the environment sensors (R413 to R444, R450 to R453): each command completes with its own effect. -/
def Obligations.HeadInterfaceEffects : Prop :=
  (∀ (s : State) (a : Act) (f : Frame) (acks : List Ack), s.m.pwr.loss = false → inReset s.m (.act a) = false →
    Does (.headBusFrame a f acks) s (sendFrame a f acks false s.m)) ∧
  (∀ (s : State) (a : Act) (st : BitVec 8) (t v : BitVec 16) (i : BitVec 10) (acks : List Ack) (k n : Mach), s.m.pwr.loss = false →
    inReset s.m (.act a) = false → k = s.m.onPre a (fun p => { p with temp := t, astMeas := i.zeroExtend 16, astVmeas := v }) →
    n = k.onPre a (fun p => { p with status := p.status ||| st ||| ownCutoff k a }) →
    (frameTries n a pollFrame acks).getLast?.getD .silent = .accepted → t.toInt < 4 * (otLimit s.m a : Int) →
    (n.pre.get a).status.getLsbD 5 = false → (n.pre.get a).status.getLsbD 6 = false →
    Does (.telemetryPoll a st t v i false acks) s ((sendFrame a pollFrame acks false n).onHif a (fun h => { h with
      paStatus := (n.pre.get a).status, paTemp := t, vmeas := v, imeas := i }))) ∧
  (∀ (s : State) (a : Act) (st : BitVec 8) (t v : BitVec 16) (i : BitVec 10) (acks : List Ack), s.m.pwr.loss = false →
    Does (.telemetryPoll a st t v i true acks) s s.m) ∧
  (∀ (s : State) (a : Act) (acks : List Ack), inReset s.m (.act a) = false → s.m.sup.mode = .service →
    cfxHalted s.m a = true →
    Completes (.hbctlGo a acks) s (fun m => (m.hif.get a).hbDone = true ∧
      (m.hif.get a).hbAck = BitVec.ofNat 2 ((frameTries s.m a ⟨!(s.m.hif.get a).hbRw, (s.m.hif.get a).hbPage.toNat, (s.m.hif.get a).hbAddr.toNat,
        if (s.m.hif.get a).hbRw then [] else [(s.m.hif.get a).hbData], 1⟩ acks).getLast?.getD .silent).code)) ∧
  (∀ (s : State) (a : Act), inReset s.m (.act a) = false → Does (.heaterReady a) s (s.m.onHif a (fun h => { h with heaterReady := true }))) ∧
  (∀ (s : State) (a : Act) (st : BitVec 8) (n k : Mach), s.m.pwr.loss = false → inReset s.m (.act a) = false →
    n = refreshInhibit a ((s.m.onPre a (fun p => { p with status := p.status ||| st })).onHif a (fun h => { h with wusIn := true })) →
    k = report (actCode 0x0620 a) (onHead a ((sendFrame a ⟨false, 15, 3, [], 1⟩ [] false n).hif.get a).selHead.toNat)
      (leBytes 1 (n.pre.get a).status.toNat) (sendFrame a ⟨false, 15, 3, [], 1⟩ [] false n) →
    Does (.wusNAssert a st) s
      (sendFrame a (globalWrite 3 ((n.pre.get a).status.zeroExtend 16)) [] false (statusActs a (n.pre.get a).status k))) ∧
  (∀ (s : State) (a : Act), Does (.wusNRelease a) s (refreshInhibit a (s.m.onHif a (fun h => { h with wusIn := false })))) ∧
  (∀ (s : State) (a : Act) (t : BitVec 16), (s.m.hif.get a).otCut = true →
    t.toInt ≤ 4 * ((otLimit s.m a : Int) - otHyst s.m a) →
    Completes (.assistOtEnd a t) s (fun m => (m.hif.get a).otCut = false)) ∧
  (∀ (s : State) (a : Act) (mask : BitVec 12),
    Does (.astfaultClear a mask) s (refreshInhibit a (s.m.onHif a (fun h => { h with astFault := h.astFault &&& ~~~(mask &&& 0xFFE) })))) ∧
  (∀ (s : State) (v0 v1 vp vh x y : BitVec 16), Completes (.sensorSample v0 v1 vp vh x y) s (fun m =>
    m.sup.hdaTemp = ⟨Config.ntcTemp v0, Config.ntcTemp v1⟩ ∧
    m.sup.press = BitVec.ofNat 16 ((vp.toNat - 1800) * 2000 / 14400) ∧ m.sup.humid = BitVec.ofNat 16 ((vh.toNat - 1800) * 1000 / 14400) ∧
    m.sup.modTempPfc = x ∧ m.sup.modTempCore = y ∧
    ([v0, v1, vp, vh].zip (List.range 4)).all (fun v => m.sup.sensFault.getLsbD v.2 == (decide (v.1.toNat < 1000) || decide (17000 < v.1.toNat))) = true ∧
    (m.sup.sensFault = 0xF → m.sup.sensOut = s.m.sup.sensOut)))

/-- The read channel (R458 to R507): a sync decision, a sector's result, a capture and the two requests, each with its own effect. -/
def Obligations.ChannelEffects : Prop :=
  (∀ (s : State) (a : Act) (pn bg : List (Int × Nat)),
    (s.m.ch.get a).secs.any (fun x => !x.write && x.sync.isNone && x.result.isNone) = true →
    Completes (.syncDecision a pn bg) s (fun m => ∃ k,
      k = syncDecide (s.m.ch.get a).step.toNat (s.m.ch.get a).pnTol.toNat (s.m.ch.get a).bgTol.toNat pn bg ∧
      m = s.m.onCh a (fun c => { c.countSync k.1 with secs := frameFirst k c.secs, acq := false, tracking := true }))) ∧
  (∀ (s : State) (a : Act) (g g' : SecSignal) (x : Sec) (k : SyncKind × Int) (p : Payload),
    (s.m.ch.get a).secs.find? (·.result.isNone) = some x → x.write = false → x.store.isSome = true → x.sync = some k → k.1 ≠ .miss →
    readBack s.m a x = some p → p.info.tag = x.tag → g' = capSignal g (s.m.ch.get a) → g'.fly.ok = true →
    Completes (.sectorResult a g) s (fun m =>
      (m.ch.get a).secCnt = (s.m.ch.get a).secCnt.inc ∧ (m.ch.get a).failCnt = (s.m.ch.get a).failCnt ∧
      (m.ch.get a).corrBits = (s.m.ch.get a).corrBits.add g'.fly.flips ∧
      (m.ch.get a).lastSec = secWord x.step decOk k.1.code k.2 g'.fly.iters g'.fly.flips ∧
      (m.ch.get a).secs = deliverFirst (secWord x.step decOk k.1.code k.2 g'.fly.iters g'.fly.flips) (some p) (s.m.ch.get a).secs ∧
      m.ch.get a.other = s.m.ch.get a.other)) ∧
  (∀ (s : State) (a : Act) (b : Reg) (xs : List Byte) (h : Hdr), (s.m.ch.get a).capture = some h →
    Does (.captureTrigger a b xs) s (reply h stOk b.toNat ((xs ++ List.replicate 8192 0).take 8192) (s.m.onCh a (fun c => { c with
      capture := none, capDone := true, samples := (xs ++ List.replicate 8192 0).take 8192 })))) ∧
  (∀ (s : State) (h : Hdr) (a : Act), Served s.m h lvHost → h.p3 = 0 → actNum h.p0 = some a → 1 ≤ h.p1.toNat → h.p1.toNat ≤ 11 →
    h.p2.toNat < 64 → dataHead s.m a h.p1.toNat = true → calHeld s.m a h.p1.toNat = false →
    Does (.chGetMetrics h) s (reply h stOk 0
      (([(s.m.ch.get a).secCnt, (s.m.ch.get a).burgeeCnt, (s.m.ch.get a).slipCnt, (s.m.ch.get a).missCnt, (s.m.ch.get a).failCnt,
        (s.m.ch.get a).unrecCnt, (s.m.ch.get a).corrBits, (s.m.ch.get a).ramCorr].map (fun x => leBytes 8 x.val.toNat)).flatten
        ++ metBytes (assoc {} (s.m.ch.get a).mets (rtKey h.p1.toNat h.p2.toNat))) (accept h 0x0701 false s.m))) ∧
  (∀ (s : State) (h : Hdr) (a : Act), Served s.m h lvMaint → h.p3 = 0 → actNum h.p0 = some a → h.p1.toNat ≤ 2 → h.p2.toNat ≤ 65535 →
    (s.m.ch.get a).capture = none →
    Does (.chCapture h) s ((accept h 0x0702 false s.m).onCh a (fun c => { c with
      capture := some h, capTrig := BitVec.ofNat 2 h.p1.toNat, capTick := BitVec.ofNat 16 h.p2.toNat, capDone := false })))

/-- The control and register words of a sequencer (R555, R559, R568 to R570, R583, R585): each executes the word its PC fetches. -/
def Obligations.SequencerControlWordEffects : Prop :=
  (∀ (s : State) (a : Act) (w : Reg), Fetches s.m a w → wOp w = 0x00 →
    Does (.cfxNop a) s (wordEnd a (wTicks w) ((s.m.cfx.get a).pc + 1) s.m)) ∧
  (∀ (s : State) (a : Act) (w : Reg), Fetches s.m a w → wOp w = 0x01 →
    Does (.cfxWait a) s (wordStall a (.wait (wTicks w + wImm w)) w s.m)) ∧
  (∀ (s : State) (a : Act) (w : Reg), Fetches s.m a w → wOp w = 0x02 → wSel w < 24 →
    ((s.m.onCfx a (·.put fTMO false)).cfx.get a).flag (wSel w) = wSense w →
    Does (.cfxWaitev a) s (wordEnd a (wTicks w) ((s.m.cfx.get a).pc + 1) (s.m.onCfx a (·.put fTMO false)))) ∧
  (∀ (s : State) (a : Act) (w : Reg), Fetches s.m a w → wOp w = 0x02 → wSel w < 24 →
    ((s.m.onCfx a (·.put fTMO false)).cfx.get a).flag (wSel w) ≠ wSense w →
    Does (.cfxWaitev a) s (wordStall a (.event (wSense w) (wSel w) (wTarget w)) w (s.m.onCfx a (·.put fTMO false)))) ∧
  (∀ (s : State) (a : Act) (w : Reg), Fetches s.m a w → wOp w = 0x03 →
    Does (.cfxJmp a) s (wordEnd a (wTicks w) (wTarget w) s.m)) ∧
  (∀ (s : State) (a : Act) (w : Reg), Fetches s.m a w → wOp w = 0x04 → wSel w < 24 →
    Does (.cfxJcc a) s (wordEnd a (wTicks w)
      (if (s.m.cfx.get a).flag (wSel w) = wSense w then wTarget w else (s.m.cfx.get a).pc + 1) s.m)) ∧
  (∀ (s : State) (a : Act) (w : Reg), Fetches s.m a w → wOp w = 0x05 → (s.m.cfx.get a).stack.length < 4 →
    Does (.cfxCall a) s (wordEnd a (wTicks w) (wTarget w) (s.m.onCfx a (fun c => { c with stack := (c.pc + 1) :: c.stack })))) ∧
  (∀ (s : State) (a : Act) (w : Reg) (x : BitVec 12) (xs : List (BitVec 12)), Fetches s.m a w → wOp w = 0x06 →
    (s.m.cfx.get a).stack = x :: xs →
    Does (.cfxRet a) s (wordEnd a (wTicks w) x (s.m.onCfx a (fun c => { c with stack := xs })))) ∧
  (∀ (s : State) (a : Act) (w : Reg) (v : BitVec 24), Fetches s.m a w → wOp w = 0x07 → v = (s.m.cfx.get a).reg (wReg w) - 1 → v ≠ 0 →
    Does (.cfxDecjnz a) s (wordEnd a (wTicks w) (wTarget w) (s.m.onCfx a (fun c => (c.setReg (wReg w) v).put fZ false)))) ∧
  (∀ (s : State) (a : Act) (w : Reg), Fetches s.m a w → wOp w = 0x08 →
    Does (.cfxTrap a) s (cfxTrap a (field w 0 8) s.m)) ∧
  (∀ (s : State) (a : Act) (w : Reg), Fetches s.m a w → knownOpcode (wOp w) = false →
    Does (.cfxTrap a) s (cfxTrap a 0x07 s.m)) ∧
  (∀ (s : State) (a : Act) (w : Reg), Fetches s.m a w → wOp w = 0x09 → (s.m.cfx.get a).gate gWG = false → (s.m.cfx.get a).gate gAG = false →
    Does (.cfxHalt a) s (endOp a (if (s.m.cfx.get a).stopRun then 2 else 0) (lowerBoost a (lowerRead a s.m)))) ∧
  (∀ (s : State) (a : Act) (w : Reg), Fetches s.m a w → wOp w = 0x0A →
    Does (.cfxIrq a) s (wordDo a w (fun c => { c with irq := true })
      (report (0x0A21 + 0x100 * a.idx) (atHead s.m a) (leBytes 1 (field w 0 8) ++ leBytes 2 (s.m.cfx.get a).pc.toNat) s.m))) ∧
  (∀ (s : State) (a : Act) (w : Reg), Fetches s.m a w → wOp w = 0x10 → wSrc w = false →
    Does (.cfxLoadc a) s (wordDo a w (·.setReg (wReg w) (BitVec.ofNat 24 (wImm18 w))) s.m)) ∧
  (∀ (s : State) (a : Act) (w : Reg), Fetches s.m a w → wOp w = 0x10 → wSrc w = true →
    Does (.cfxLoadc a) s (wordDo a w (·.setReg (wReg w) (cfxParam s.m a (field w 0 4))) s.m)) ∧
  (∀ (s : State) (a : Act) (w : Reg) (r : BitVec 24), Fetches s.m a w → wOp w = 0x11 → wSrc w = false →
    r = BitVec.ofInt 24 (((s.m.cfx.get a).reg (wReg w)).toNat + (BitVec.ofNat 18 (wImm18 w)).toInt) →
    Does (.cfxAddc a) s (wordDo a w (fun c => ((c.setReg (wReg w) r).put fZ (r == 0)).put fLT (r.getLsbD 23)) s.m)) ∧
  (∀ (s : State) (a : Act) (w : Reg), Fetches s.m a w → wOp w = 0x12 → wSrc w = false →
    Does (.cfxCmpc a) s (wordDo a w (fun c => (c.put fZ (((s.m.cfx.get a).reg (wReg w)).toNat == wImm18 w)).put fLT
      (decide (((s.m.cfx.get a).reg (wReg w)).toNat < wImm18 w))) s.m)) ∧
  (∀ (s : State) (a : Act) (w : Reg), Fetches s.m a w → wOp w = 0x13 →
    Does (.cfxSetf a) s (wordDo a w (fun c => (List.range 6).foldl (fun c k => if bit w (8 + k) then c.put (18 + k) (bit w k) else c) c) s.m))

/-- The words of a sequencer that select, seek, gate, read results and fetch descriptors (R427, R571 to R582): each executes the
word its PC fetches. -/
def Obligations.SequencerMediaWordEffects : Prop :=
  (∀ (s : State) (a : Act) (w : Reg), Fetches s.m a w → wOp w = 0x18 → bit w (17 + gRG) = false → bit w (17 + gWG) = false →
    Does (.cfxGate a) s (wordEnd a (wTicks w) (((driveGates a w false s.m).cfx.get a).pc + 1) (driveGates a w false s.m))) ∧
  (∀ (s : State) (a : Act) (w : Reg) (k1 k2 : List Ack), Fetches s.m a w → wOp w = 0x20 → (s.m.hif.get a).wgate = false →
    Does (.cfxHead a k1 k2) s (wordStall a .select w (startSelect a (wValue (s.m.cfx.get a) w % 16) (wValue (s.m.cfx.get a) w / 16 % 64)
      true k1 k2 s.m))) ∧
  (∀ (s : State) (a : Act) (w : Reg) (k1 : List Ack), Fetches s.m a w → wOp w = 0x21 → (s.m.hif.get a).wgate = false →
    Does (.cfxRegion a k1) s (wordStall a .select w (startSelect a (s.m.hif.get a).selHead.toNat (wValue (s.m.cfx.get a) w % 64)
      false k1 [] s.m))) ∧
  (∀ (s : State) (a : Act) (w : Reg), Fetches s.m a w → wOp w = 0x22 → bit w 1 = false →
    following s.m a (s.m.hif.get a).selHead.toNat ((s.m.cfx.get a).reg (wReg w)).toNat = true →
    Does (.cfxOntrack a) s (wordStall a (.onTrack (bit w 0)) w (s.m.onCfx a (·.put fSFAIL false)))) ∧
  (∀ (s : State) (a : Act) (w : Reg), Fetches s.m a w → wOp w = 0x23 → wValue (s.m.cfx.get a) w % 16 = 0 →
    Completes (.cfxSync a) s (fun m => ∃ n, n = lowerBoost a ((s.m.onCfx a (·.put fSKIP false)).onCh a (fun c => { c with step := 0 })) ∧
      m = wordEnd a (wTicks w) ((n.cfx.get a).pc + 1) n)) ∧
  (∀ (s : State) (a : Act) (w : Reg), Fetches s.m a w → wOp w = 0x24 → (s.m.cfx.get a).latest = none →
    Does (.cfxXfer a) s (wordEnd a (wTicks w) ((s.m.cfx.get a).pc + 1) s.m)) ∧
  (∀ (s : State) (a : Act) (w : Reg) (i : Nat) (r : Reg) (p : Payload), Fetches s.m a w → wOp w = 0x24 →
    (s.m.cfx.get a).latest = some (i, r, some p) → secDec r = decOk →
    Does (.cfxXfer a) s (wordDo a w (·.onDesc i (fun d => { d with failed := false }))
      (xferRead a ((((s.m.cfx.get a).op.bind (fun o => o.descs[i]?)).map (·.use)).getD .internal) p
        (s.m.onCfx a (fun c => { c with latest := none }))))) ∧
  (∀ (s : State) (a : Act) (w : Reg) (x : Sec) (xs : List Sec) (r : Reg), Fetches s.m a w → wOp w = 0x25 → (s.m.ch.get a).secs = x :: xs →
    x.result = some r → Does (.cfxDecres a) s (wordNext a w (takeResult a (wReg w) x r s.m))) ∧
  (∀ (s : State) (a : Act) (w : Reg), Fetches s.m a w → wOp w = 0x26 → field w 0 2 = 0 → (fetchNext a s.m).2 = true →
    Does (.cfxFetch a) s (wordNext a w (fetchNext a s.m).1)) ∧
  (∀ (s : State) (a : Act) (w : Reg), Fetches s.m a w → wOp w = 0x27 → (s.m.cfx.get a).flag fDEF = true → (fetchNext a s.m).2 = true →
    Does (.cfxSkipdef a) s (wordEnd a (wTicks w) (wTarget w) (fetchNext a s.m).1)) ∧
  (∀ (s : State) (a : Act) (w : Reg), Fetches s.m a w → wOp w = 0x27 → (s.m.cfx.get a).flag fDEF = false →
    Does (.cfxSkipdef a) s (wordEnd a (wTicks w) ((s.m.cfx.get a).pc + 1) s.m)) ∧
  (∀ (s : State) (a : Act) (w : Reg), Fetches s.m a w → wOp w = 0x28 →
    Does (.cfxAlign a) s (wordStall a (.field (bit w 0)) w s.m)) ∧
  (∀ (s : State) (a : Act) (w : Reg), Fetches s.m a w → wOp w = 0x29 →
    Does (.cfxPreheat a) s (wordStall a .preheat w (openAssist a (s.m.onCfx a (·.setGate gAG true))))) ∧
  (∀ (s : State) (a : Act) (w : Reg), Fetches s.m a w → wOp w = 0x2A →
    Does (.cfxMark a) s (wordDo a w (fun c => { c with markCode := BitVec.ofNat 8 (field w 0 8), markTpos := c.tpos }) s.m)) ∧
  (∀ (s : State) (a : Act) (w : Reg), Fetches s.m a w → wOp w = 0x2B →
    Does (.cfxStat a) s (wordDo a w (fun c => { c with statCode := BitVec.ofNat 8 (field w 0 8), statVal := c.reg (wReg w) }) s.m))

/-- What happens to a sequencer between its words (R555, R558, R562, R567, R569, R577, R578, R586, R589, R591 to R593, R599 to R603): ends of
stalls, time limits, gates that close, operations that start and end, the scrub of the store and the requests over it. -/
def Obligations.SequencerEventEffects : Prop :=
  (∀ (s : State) (a : Act) (t : BitVec 24) (n : Nat), (s.m.cfx.get a).stall = some (.wait n) → (s.m.cfx.get a).flag fABORT = false →
    (s.m.cfx.get a).flag fPLOSS = false → n ≤ (s.m.cfx.get a).stallTicks + t.toNat →
    Does (.stallEnd a t none) s (wordEnd a t.toNat ((s.m.cfx.get a).pc + 1) s.m)) ∧
  (∀ (s : State) (a : Act) (sense : Bool) (sel : Nat) (target : BitVec 12), (s.m.cfx.get a).stall = some (.event sense sel target) →
    (s.m.cfx.get a).reg 7 ≠ 0 → (s.m.cfx.get a).stallTicks ≤ ((s.m.cfx.get a).reg 7).toNat →
    Does (.waitevTimeout a) s (wordEnd a (((s.m.cfx.get a).reg 7).toNat - (s.m.cfx.get a).stallTicks) target
      (s.m.onCfx a (fun c => (c.setReg 7 0).put fTMO true)))) ∧
  (∀ (s : State) (a : Act) (k : BitVec 7) (t : BitVec 24), inReset s.m (.act a) = false →
    Does (.tposAnchor a k t) s ((timePasses a t.toNat s.m).onCfx a (fun c => { c with
      tpos := BitVec.ofNat 24 (fieldBase s.m a k.toNat), field := k, anchored := true }))) ∧
  (∀ (s : State) (a : Act) (n : Nat), (s.m.cfx.get a).timers = [none, none, some n] → (s.m.cfx.get a).gate gRG = false →
    Does (.gateCountExpiry a) s ((((timePasses a n s.m).onCfx a (fun c => { c with timers := [none, none, none] })).onCfx a
      (·.setGate gRG true)).onCh a (fun ch => { ch with read := true }))) ∧
  (∀ (s : State) (a : Act) (t : BitVec 24), (s.m.cfx.get a).gate gWG = false → (s.m.cfx.get a).gate gRG = true → (s.m.cfx.get a).gate gSG = true →
    Does (.sectorGateClose a t) s (((timePasses a t.toNat s.m).onCh a (·.gatesClosed)).onCfx a (fun c => (c.setGate gRG false).setGate gSG false))) ∧
  (∀ (s : State) (a : Act) (t : BitVec 24), (s.m.cfx.get a).gate gWG = true → (s.m.cfx.get a).trapWait = false →
    (s.m.cfx.get a).flag fPLOSS = false → Does (.sectorGateClose a t) s (endWrite a (timePasses a t.toNat s.m))) ∧
  (∀ (s : State) (a : Act) (t : BitVec 24) (o : TrackOp) (e : BitVec 12), (s.m.cfx.get a).run = .halted → (s.m.cfx.get a).hold = false →
    (s.m.cfx.get a).flag fPLOSS = false → (s.m.cfx.get a).ended = none → inReset s.m (.act a) = false → loaded s.m a = true →
    (s.m.cfx.get a).mailbox = some o → (s.m.cfx.get a).dispatch.getD o.op none = some e →
    Does (.operationDispatch a t) s (opTaken a ((elapse a t.toNat { s.m with pins.actLed := true }).onCfx a (fun c => { c with
      run := .running, pc := e, opIdx := BitVec.ofNat 4 o.op, op := some o, mailbox := none, cur := none, latest := none, payload := none
      scanAt := 0, scanFailed := false, stall := none, stopRun := false, statCode := 0, fieldAcc := []
      flags := c.flags &&& 0x028003#24 })))) ∧
  (∀ (s : State) (a : Act), Does (.abortRequest a) s (cfxAbort a s.m)) ∧
  (∀ (s : State) (a : Act), (s.m.cfx.get a).op.isSome = true → (s.m.cfx.get a).run = .running → (s.m.cfx.get a).trapWait = false →
    (s.m.cfx.get a).flag fPLOSS = false → Does (.opTmoExpiry a) s (cfxTrap a 0x08 s.m)) ∧
  (∀ (s : State) (a : Act) (row : BitVec 13) (lap : BitVec 16), inReset s.m (.act a) = false → row.toNat < 4127 →
    ((s.m.cfx.get a).row row.toNat).chk = none →
    Does (.storeScrub a (.store row) .clean lap) s (s.m.onCfx a (fun c => { c with scrubCe := c.scrubCe.filter (· != row.toNat) }))) ∧
  (∀ (s : State) (a : Act) (row : BitVec 13) (lap : BitVec 16), inReset s.m (.act a) = false → row.toNat < 4127 →
    ((s.m.cfx.get a).row row.toNat).chk = none →
    Does (.storeScrub a (.store row) .uncorrectable lap) s (storeFail a row.toNat s.m)) ∧
  (∀ (s : State) (a : Act) (h r : Byte) (lap : BitVec 16), inReset s.m (.act a) = false → h.toNat < 12 → r.toNat < 64 →
    Does (.storeScrub a (.region h r) .corrected lap) s (s.m.onCh a (fun c => { c with ramCorr := c.ramCorr.inc }))) ∧
  (∀ (s : State) (a : Act) (d : BitVec 32), s.m.sup.mode = .service → (s.m.srv.get a).st = .opened → cfxHalted s.m a = true →
    (s.m.cfx.get a).rowSel.toNat < 4128 →
    Does (.storedataWrite a d) s (s.m.onCfx a (·.setRow (s.m.cfx.get a).rowSel.toNat
      ⟨d, if (s.m.cfx.get a).test then some (s.m.cfx.get a).chk else none⟩))) ∧
  (∀ (s : State) (h : Hdr) (bs : List Byte) (a : Act), Served s.m h lvMaint → s.m.sup.mode = .service → (s.m.srv.get a).st = .opened →
    h.p1 = 0 → h.p2 = 0 → h.p3 = 0 → actNum h.p0 = some a → imageOk bs = true → cfxHalted s.m a = false →
    Does (.cfxLoad h bs) s ((accept h 0x0703 false s.m).onCfx a (fun c => { c with hold := true, loadReq := some (h, bs) }))) ∧
  (∀ (s : State) (h : Hdr) (bs : List Byte) (a : Act), Served s.m h lvMaint → s.m.sup.mode = .service → (s.m.srv.get a).st = .opened →
    h.p1 = 0 → h.p2 = 0 → h.p3 = 0 → actNum h.p0 = some a → imageOk bs = true → cfxHalted s.m a = true →
    Does (.cfxLoad h bs) s (finishLoad a ((accept h 0x0703 false s.m).onCfx a (fun c => { c with hold := true, loadReq := some (h, bs) })))) ∧
  (∀ (s : State) (h : Hdr) (a : Act) (c : Cfx), Served s.m h lvHost → h.p1 = 0 → h.p2 = 0 → h.p3 = 0 → actNum h.p0 = some a →
    c = s.m.cfx.get a →
    Does (.cfxStatus h) s (reply h stOk 0 (regBytes [cfxStatusReg c, cfxPcReg c, c.flags.zeroExtend 32, cfxOpstatReg c, cfxTrapReg c,
      c.lapUs.zeroExtend 32, cfxMarkReg c] ++ leBytes 4 c.version.toNat ++
      ((c.remaps.filter (·.valid)).map (fun r => leBytes 2 r.row.toNat)).flatten) (accept h 0x0704 false s.m)))

/-- Calibration (R514 to R549): the check of the temperatures, the slices, a step that is judged, and the requests. -/
def Obligations.CalibrationEffects : Prop :=
  (∀ (s : State) (h0 h1 d0 d1 : BitVec 16), Does (.calTemperatureCheck h0 h1 d0 d1) s (calEvaluate .a1 false (calEvaluate .a0 false
    { s.m with
      cal.hdaMean := ⟨some (if s.m.sup.sensFault.getLsbD 0 then h1 else h0), some (if s.m.sup.sensFault.getLsbD 1 then h0 else h1)⟩
      cal.dieTemp := ⟨d0, d1⟩ }))) ∧
  (∀ (s : State) (a : Act), (s.m.cal.act.get a).gap = false → mediaIdle s.m a = true →
    Does (.calSliceStart a) s (openSlice a s.m)) ∧
  (∀ (s : State) (a : Act) (j : CalJob), calHolds s.m a = false → (s.m.cal.act.get a).preempt = false → (calCands s.m a).head? = some j →
    Does (.calDeferExpiry a) s (openSlice a (report 0x1323 (onAct a) (leBytes 1 a.idx ++ leBytes 1 j.kind)
      (s.m.onCal a (fun c => { c with preempt := true }))))) ∧
  (∀ (s : State) (a : Act), (s.m.cal.act.get a).gap = true → Does (.calGapExpiry a) s (openSlice a s.m)) ∧
  (∀ (s : State) (a : Act) (us : Nat) (x : CalMeas) (temp : BitVec 16) (r p q : CalRun) (m1 : Mach),
    (s.m.cal.act.get a).run = some r → r.inSlice = true →
    p = { r with sliceUs := r.sliceUs + us, totalUs := r.totalUs + us, steps := BitVec.ofNat 8 (satTo 255 (r.steps.toNat + 1)) } →
    p.totalUs ≤ 1000 * runMax (onRun a (fun _ => p) s.m) →
    m1 = calApplyMeas a p x temp (onRun a (fun _ => p) s.m) → (m1.cal.act.get a).run = some q →
    q.sliceUs + (60000000 + rpmFull m1 - 1) / rpmFull m1 ≤ 1000 * sliceMs m1 →
    Does (.calStep a us x temp) s m1) ∧
  (∀ (s : State) (a : Act) (us : Nat) (x : CalMeas) (temp : BitVec 16) (r p q : CalRun) (m1 : Mach),
    (s.m.cal.act.get a).run = some r → r.inSlice = true →
    p = { r with sliceUs := r.sliceUs + us, totalUs := r.totalUs + us, steps := BitVec.ofNat 8 (satTo 255 (r.steps.toNat + 1)) } →
    p.totalUs ≤ 1000 * runMax (onRun a (fun _ => p) s.m) →
    m1 = calApplyMeas a p x temp (onRun a (fun _ => p) s.m) → (m1.cal.act.get a).run = some q →
    1000 * sliceMs m1 < q.sliceUs + (60000000 + rpmFull m1 - 1) / rpmFull m1 →
    Does (.calStep a us x temp) s (sliceEnd a (mediaIdle m1 a) (headWaited m1 a r.job.head) m1)) ∧
  (∀ (s : State) (h : Hdr), Served s.m h lvHost → (s.m.sup.mode = .idleFly ∨ s.m.sup.mode = .active ∨ s.m.sup.mode = .service) →
    h.p3 = 0 → h.p0 = 5 → s.m.pwr.measuring = false → s.m.pwr.measByRun = false →
    Completes (.calRun h) s (fun m => ∃ n, n = accept h 0x0401 false s.m ∧
      m = { n with cal.reqs := n.cal.reqs ++ [(h, stOk)], pwr.measByRun := true, pwr.measTries := 0 })) ∧
  (∀ (s : State) (h : Hdr), Served s.m h lvHost → (s.m.sup.mode = .idleFly ∨ s.m.sup.mode = .active ∨ s.m.sup.mode = .service) →
    h.p3 = 0 → h.p0.toNat < 5 →
    (namedRuns (accept h 0x0401 false s.m) h .a0 ++ namedRuns (accept h 0x0401 false s.m) h .a1).isEmpty = false →
    sameRun (accept h 0x0401 false s.m) h .a0 = false → sameRun (accept h 0x0401 false s.m) h .a1 = false →
    (s.m.cal.act.get .a0).queue.length < 16 → (s.m.cal.act.get .a1).queue.length < 16 →
    Completes (.calRun h) s (fun m => ∃ n, n = accept h 0x0401 false s.m ∧
      m = queueRuns h .a1 (queueRuns h .a0 { n with cal.reqs := n.cal.reqs ++ [(h, stOk)] }))) ∧
  (∀ (s : State) (h : Hdr), Served s.m h lvHost → h.p0 = 0 → h.p1 = 0 → h.p2 = 0 → h.p3 = 0 →
    Completes (.calStatus h) s (fun m => ∃ n, n = accept h 0x0402 false s.m ∧
      m = reply h stOk 0 (regBytes ((List.range 5).map (dueReg n) ++ [staleReg n, calActReg n .a0, calActReg n .a1])
        ++ ((List.range 5).flatMap (fun k => (List.range (if k = 3 then 2 else 22)).flatMap (fun dh =>
            (assoc {} n.cal.base (calKey k dh)).bytes)))) n)) ∧
  (∀ (s : State) (h : Hdr), Served s.m h lvMaint → h.p2 = 0 → h.p3 = 0 → h.p0.toNat ≤ 4 →
    (h.p1 = 0 ∨ (10 ≤ h.p1.toNat ∧ h.p1.toNat ≤ 200)) →
    Completes (.calSetTrigger h) s (fun m => ∃ n, n = accept h 0x0403 false s.m ∧
      m = reply h stOk 0 [] { n with cal.trigger := assocSet 1000 n.cal.trigger h.p0.toNat h.p1.toNat }))

/-- The media scheduler (R654 to R693, R1036): runs enter the queue, speculation starts, operations complete, entries age, the share of
cleaning is judged, and power state 1 holds its cap. -/
def Obligations.SchedulerEffects : Prop :=
  (∀ (s : State) (a : Act) (now : BitVec 48), Does (.queueEntry a now) s (queueEnter a (clockTo now.toNat s.m))) ∧
  (∀ (s : State) (a : Act) (now : BitVec 48), specAllowed (clockTo now.toNat s.m) a = true → s.m.sch.ctrl.getLsbD 0 = false →
    Does (.speculationStart a now 0) s (readAhead a (clockTo now.toNat s.m))) ∧
  (∀ (s : State) (a : Act) (now : BitVec 48), specAllowed (clockTo now.toNat s.m) a = true → s.m.sch.ctrl.getLsbD 2 = false →
    Does (.speculationStart a now 1) s (preSeek a (clockTo now.toNat s.m))) ∧
  (∀ (s : State) (a : Act) (now : BitVec 48), specAllowed (clockTo now.toNat s.m) a = true → s.m.sch.ctrl.getLsbD 1 = false →
    Does (.speculationStart a now 2) s (preRead a (clockTo now.toNat s.m))) ∧
  (∀ (s : State) (a : Act) (now : BitVec 48) (meas : BitVec 32),
    Does (.operationComplete a now meas) s (flow (completeOp a meas.toNat (clockTo now.toNat s.m)))) ∧
  (∀ (s : State) (a : Act) (now : BitVec 48) (n : Mach), n = clockTo now.toNat s.m →
    Completes (.ageCapDouble a now) s (fun m => (m.sch.act.get a).queue = (n.sch.act.get a).queue.map (fun e =>
      if e.cls ≤ 5 ∧ e.aged = false ∧ 2 * ageCap n ≤ ageOf n e then { e with aged := true } else e))) ∧
  (∀ (s : State) (a : Act) (now : BitVec 48) (busy clean : BitVec 32) (n : Mach), n = clockTo now.toNat s.m →
    n.zmg.force.get a = false → n.zmg.full.get a = false →
    Does (.cleaningWindow a now busy clean) s (placeNext a (onSch a (fun x => { x with
      cleanPct := BitVec.ofNat 16 (if busy = 0 then 0 else satTo 65535 (10000 * clean.toNat / busy.toNat))
      busyPct := (busy.toNat + 999) / 1000
      cleanOwed := !(cleanWanted n a).isEmpty && decide (100 * clean.toNat < schSet n 12 1 10 * busy.toNat)
      unmet := 0 }) n))) ∧
  (∀ (s : State) (a : Act) (now : BitVec 48) (busy clean : BitVec 32) (n : Mach), n = clockTo now.toNat s.m →
    (n.zmg.force.get a = true ∨ n.zmg.full.get a = true) →
    Does (.cleaningWindow a now busy clean) s (placeNext a (onSch a (fun x => { x with
      cleanPct := BitVec.ofNat 16 (if busy = 0 then 0 else satTo 65535 (10000 * clean.toNat / busy.toNat))
      busyPct := (busy.toNat + 999) / 1000
      cleanOwed := !(cleanWanted n a).isEmpty && decide (100 * clean.toNat < schSet n 13 1 50 * busy.toNat)
      unmet := if 100 * clean.toNat < schSet n 13 1 50 * busy.toNat then x.unmet + 1 else 0 }) n))) ∧
  (∀ (s : State) (a : Act), (s.m.zmg.force.get a = true ∨ s.m.zmg.full.get a = true) → 100 ≤ (s.m.sch.act.get a).unmet →
    Does (.cleanStarved a) s (report 0x0C20 (onAct a) (leBytes 1 a.idx ++ leBytes 2 (s.m.sch.act.get a).cleanPct.toNat) s.m)) ∧
  (∀ (s : State) (pin : BitVec 24), s.m.sup.nvmePs = 1 → 9000 < pin.toNat →
    Does (.ps1DutyUpdate pin) s (placeNext .a1 (placeNext .a0 { s.m with pwr.pin := pin, sch.duty := max 20 (s.m.sch.duty - 5) }))) ∧
  (∀ (s : State) (pin : BitVec 24), s.m.sup.nvmePs = 1 → pin.toNat < 8500 →
    Does (.ps1DutyUpdate pin) s (placeNext .a1 (placeNext .a0 { s.m with pwr.pin := pin, sch.duty := min 100 (s.m.sch.duty + 5) }))) ∧
  (∀ (s : State) (pin : BitVec 24), s.m.sup.nvmePs = 1 → 8500 ≤ pin.toNat → pin.toNat ≤ 9000 →
    Does (.ps1DutyUpdate pin) s (placeNext .a1 (placeNext .a0 { s.m with pwr.pin := pin }))) ∧
  (∀ (s : State) (pin : BitVec 24), s.m.sup.nvmePs = 1 → s.m.sch.duty = 20 → 9000 < pin.toNat →
    Does (.ps1CapFail pin) s (report 0x0C21 nowhere (leBytes 3 pin.toNat) { s.m with pwr.pin := pin }))

/-- The zone manager (R617, R633 to R648, R672, R673): each of its events completes with its own effect. -/
def Obligations.ZoneManagerEffects : Prop :=
  (∀ (s : State) (a : Act) (now : BitVec 48), Does (.destageRun a now) s (routeRequest a (clockTo now.toNat s.m))) ∧
  (∀ (s : State) (a : Act) (nsid : BitVec 6), Does (.directRewriteTimeout a nsid) s (onMan nsid.toNat a (fun x => { x with
    rewrite := x.rewrite.map (fun w => { w with closed := true }) }) s.m)) ∧
  (∀ (s : State) (a : Act) (nsid : BitVec 6) (n : Ns), nsOf s.m nsid.toNat = some n → n.kind = .managed →
    Does (.cleaning a nsid 0) s (cleanStart a n s.m)) ∧
  (∀ (s : State) (a : Act) (nsid : BitVec 6) (n : Ns), nsOf s.m nsid.toNat = some n → n.kind = .managed →
    Does (.cleaning a nsid 1) s (cleanJournal a n s.m)) ∧
  (∀ (s : State) (a : Act) (nsid : BitVec 6) (n : Ns), nsOf s.m nsid.toNat = some n → n.kind = .managed →
    Does (.cleaning a nsid 2) s (cleanRemap a n s.m)) ∧
  (∀ (s : State) (a : Act) (nsid : BitVec 6) (n : Ns), nsOf s.m nsid.toNat = some n → n.kind = .managed → s.m.zmg.mapsOk = true →
    Does (.cleaningJournalComplete a nsid) s (cleanRemap a n s.m)) ∧
  (∀ (s : State) (a : Act) (nsid : BitVec 6) (ms : BitVec 32) (n : Ns), nsOf s.m nsid.toNat = some n → n.kind = .managed →
    s.m.sup.actReady.get a = false → s.m.zmg.mapsOk = true →
    Does (.porchScan a nsid ms) s (judgePorch a (saveMaps (report 0x0D42 (onAct a) (leBytes 4 (scanPorch a n s.m).2 ++ leBytes 4 ms.toNat)
      { (scanPorch a n s.m).1 with zmg.rebuilt := true })))) ∧
  (∀ (s : State) (a : Act) (now : BitVec 48), Does (.trackVerify a now) s (offerVerify a (judgeVerify (clockTo now.toNat s.m)))) ∧
  (∀ (s : State) (a : Act) (head : BitVec 4) (str : Byte), Does (.reservedCopyRepair a head str false) s
    (report 0x0D10 (onHead a head.toNat) (str :: leBytes 1 head.toNat) s.m)) ∧
  (∀ (s : State) (a : Act) (head : BitVec 4) (str : Byte), Does (.reservedCopyRepair a head str true) s
    (enterSafe 0x0D11 (report 0x0D11 (onAct a) [str] { s.m with zmg.mapsOk := false })))

/-- Uncorrectable errors by the memory they are found in, and the spare requests (R956 to R964, Tables 19-4, 19-6 to 19-8). -/
def Obligations.SpareEffects : Prop :=
  (∀ (s : State) (e : Act) (arr : Byte), Does (.uncorrectableError (.engine e arr)) s (engineFault e arr s.m)) ∧
  (∀ (s : State) (p : Act) (arr : Byte), inReset s.m (.port p) = false → Does (.uncorrectableError (.port p arr)) s
    (flow (portReset p (assertReset (.port p) (report 0x1430 nowhere (leBytes 1 p.idx ++ [arr]) s.m))))) ∧
  (∀ (s : State) (a : Act) (row : BitVec 16), inReset s.m (.act a) = false → Does (.uncorrectableError (.store a row)) s
    (storeFail a row.toNat s.m)) ∧
  (∀ (s : State) (a : Act) (h r : Byte), inReset s.m (.act a) = false → Does (.uncorrectableError (.regionRam a h r)) s
    (requestActReset a (report (actCode 0x0810 a) (onHead a h.toNat) [h, r] s.m))) ∧
  (∀ (s : State) (a : Act) (arr : Byte) (row : BitVec 16), inReset s.m (.act a) = false → Does (.uncorrectableError (.servo a arr row)) s
    (requestActReset a (report (actCode 0x045C a) (onAct a) ([arr] ++ leBytes 2 row.toNat) s.m))) ∧
  (∀ (s : State) (arr : Byte), inReset s.m .spn = false → Does (.uncorrectableError (.spindle arr)) s
    (spnModuleReset (report 0x0360 nowhere [arr] s.m))) ∧
  (∀ (s : State) (arr : Byte) (ad : BitVec 40) (rows : BitVec 8), inReset s.m .fab = false →
    Does (.uncorrectableError (.fabric arr ad rows)) s (fabUncorrectable arr.toNat ad.toNat rows s.m)) ∧
  (∀ (s : State) (arr : Byte) (ad : BitVec 40), Does (.uncorrectableError (.supervisor arr ad)) s
    (fabSequence 0 { report 0x0050 nowhere ([arr] ++ leBytes 5 ad.toNat) s.m with sup.restart := true })) ∧
  (∀ (s : State) (h : Hdr), Served s.m h lvHost → h.p0 = 0 → h.p1 = 0 → h.p2 = 0 → h.p3 = 0 →
    Completes (.spareStatus h) s (fun m => ∃ n, n = accept h 0x0903 false s.m ∧ m = reply h stOk 0 (spareList n ++ wearList n) n)) ∧
  (∀ (s : State) (h : Hdr), Served s.m h lvMaint → s.m.sup.mode ≠ .standby → spareBad (accept h 0x0904 false s.m) h = false →
    spareBusy (accept h 0x0904 false s.m) h = false →
    Completes (.spareCommit h) s (fun m => ∃ n, n = accept h 0x0904 false s.m ∧ m = reply h stOk 0 [] (flow (report 0x1230 nowhere
      (leBytes 1 h.p0.toNat ++ leBytes 4 h.p1.toNat ++ leBytes 4 h.p2.toNat ++ leBytes 4 h.p3.toNat) (spareDo h n)))))

/-- The cache and the DRAM (R625, R658, R703, R725 to R767): each event and request completes with its own effect. -/
def Obligations.CacheEffects : Prop :=
  (∀ (s : State) (now : BitVec 48), frozen s.m = false → Does (.sectorEnterCache now) s (flow (clockTo now.toNat s.m))) ∧
  (∀ (s : State) (a : Act) (now : BitVec 48) (k : Nat), frozen s.m = false → destageDue (clockTo now.toNat s.m) a = true →
    destagePick (clockTo now.toNat s.m) a = some k → Does (.destageRequest a now) s (askDestage k (clockTo now.toNat s.m))) ∧
  (∀ (s : State) (l : Line) (r : List AtticMove), s.m.bcm.moves = .evict l :: r →
    frameOf { s.m with bcm.moves := r } l.ns l.line = none →
    Does .atticMoveComplete s (atticPut l { s.m with bcm.moves := r })) ∧
  (∀ (s : State) (ns line : Nat) (r : List AtticMove), s.m.bcm.moves = .recall ns line :: r →
    Does .atticMoveComplete s (missKick (atticRecall ns line { s.m with bcm.moves := r }))) ∧
  (∀ (s : State), Does .cacheDrainComplete s (drainCheck (drainDone s.m))) ∧
  (∀ (s : State) (arr : BitVec 4) (ad : BitVec 33) (rows : BitVec 8) (find : EccFind), arr.toNat ≤ 6 → s.m.bcm.trained = true →
    scrubFind s.m arr.toNat ad.toNat find = .clean → Does (.dramScrub arr ad rows find none) s (cleanAt arr.toNat ad.toNat s.m)) ∧
  (∀ (s : State) (arr : BitVec 4) (ad : BitVec 33) (rows : BitVec 8) (find : EccFind), arr.toNat ≤ 6 → s.m.bcm.trained = true →
    scrubFind s.m arr.toNat ad.toNat find = .corrected → Does (.dramScrub arr ad rows find none) s (correctedAt arr.toNat ad.toNat s.m)) ∧
  (∀ (s : State) (arr : BitVec 4) (ad : BitVec 33) (rows : BitVec 8) (find : EccFind), arr.toNat ≤ 6 → s.m.bcm.trained = true →
    scrubFind s.m arr.toNat ad.toNat find = .uncorrectable →
    Does (.dramScrub arr ad rows find none) s (fabUncorrectable arr.toNat ad.toNat rows s.m)) ∧
  (∀ (s : State) (reg : BitVec 32), bit reg 10 = true → bit reg 9 = false → s.m.sup.mode = .service → bit reg 31 = true →
    Does (.ecctestWrite reg) s (ecctestPut { s.m with
      bcm.test := true, bcm.testTag := bit reg 24, bcm.testRw := false, bcm.testCheck := reg.extractLsb' 0 8 })) ∧
  (∀ (s : State) (reg : BitVec 32), bit reg 10 = true → bit reg 9 = true → s.m.sup.mode ≠ .service →
    Does (.ecctestRead reg) s (ecctestGet (bit reg 24) s.m)) ∧
  (∀ (s : State) (req : BitVec 11) (w0 w1 w2 : BitVec 32), req ≠ 0 → s.m.bcm.grantNo ≠ 0 → w0.toNat < bcmSet s.m 4 2 1000 →
    w1.toNat < bcmSet s.m 4 2 1000 → w2.toNat < bcmSet s.m 4 2 1000 →
    Does (.arbiterGrant req w0 w1 w2) s (creditGrant req s.m)) ∧
  (∀ (s : State) (leaf : BitVec 4) (ns : BitVec 32), leaf.toNat < 3 → 2000 < ns.toNat →
    Does (.mediaDeadlineMiss leaf ns) s (report 0x0E41 nowhere (leBytes 1 leaf.toNat ++ leBytes 4 ns.toNat) s.m)) ∧
  (∀ (s : State) (h : Hdr) (x : CacheMode), Served s.m h lvHost → s.m.sup.mode ≠ .service → s.m.bcm.forcedWt = false →
    h.p1 = 0 → h.p2 = 0 → h.p3 = 0 → h.p0.toNat ≤ 2 → CacheMode.ofCode h.p0.toNat = some x →
    Does (.cacheSetMode h) s (flow (cacheTarget x 1 (some h) (accept h 0x0801 false s.m)))) ∧
  (∀ (s : State) (h : Hdr), Served s.m h lvHost → h.p0 = 0 → h.p1 = 0 → h.p2 = 0 → h.p3 = 0 →
    Completes (.cacheStatus h) s (fun m => ∃ n pins, n = accept h 0x0802 false s.m ∧
      pins = n.bcm.frames.flatMap (fun e => if e.2.pin then
        ((List.range 8).filter (fun i => e.2.dirty.getLsbD i)).map (fun i => leBytes 4 (e.2.ns + 1) ++ leBytes 8 (8 * e.2.line + i)) else []) ∧
      m = reply h stOk 0 (regBytes [bcmModeReg n, BitVec.ofNat 32 (dirtyCount n), BitVec.ofNat 32 (budget n), BitVec.ofNat 32 (pinnedCount n),
        bcmLinesReg n, bcmMissReg n, BitVec.ofNat 32 n.bcm.attic.length] ++ (pins.take 5000).flatten) n)) ∧
  (∀ (s : State) (h : Hdr), Served s.m h lvHost → rangeOk (accept h 0x0803 false s.m) h = true → s.m.bcm.lockReq = none →
    lockOver (accept h 0x0803 false s.m) (h.p0.toNat - 1) (rangeLines h) = none →
    Does (.cacheLockRange h) s (lockStep { accept h 0x0803 false s.m with
      bcm.lockReq := some ⟨h, 0, bit h.p3 31, (rangeLines h).map (fun l => (h.p0.toNat - 1, l)), []⟩ })) ∧
  (∀ (s : State) (h : Hdr), Served s.m h lvHost → rangeOk (accept h 0x0804 false s.m) h = true → bit h.p3 31 = false → s.m.bcm.lockReq = none →
    Completes (.cacheUnlockRange h) s (fun m => ∃ n ks, n = accept h 0x0804 false s.m ∧
      ks = (n.bcm.frames.filter (fun e => e.2.lock && e.2.ns + 1 == (rangeArg h).1 && decide ((rangeArg h).2.2 ≠ 0) &&
        decide ((rangeArg h).2.1 / 8 ≤ e.2.line) && decide (e.2.line ≤ ((rangeArg h).2.1 + (rangeArg h).2.2 - 1) / 8))).map (·.1) ∧
      m = missKick (reply h stOk ks.length [] (ks.foldl (fun k i => retireClean i (onFrame i (fun l =>
        if { l with lock := false, ghost := false : Line }.isEmpty && !l.retiring then {} else { l with lock := false, ghost := false }) k)) n)))) ∧
  (∀ (s : State) (h : Hdr), Served s.m h lvMaint → rangeOk (accept h 0x0805 false s.m) h = true → bit h.p3 31 = false →
    Completes (.cacheInvalidateRange h) s (fun m => ∃ x, x = invalidate (rangeArg h).1 (fun b => decide ((rangeArg h).2.1 ≤ b) &&
        decide (b < (rangeArg h).2.1 + (rangeArg h).2.2)) (accept h 0x0805 false s.m) ∧ m = flow (missKick (reply h stOk x.2 [] x.1)))) ∧
  (∀ (s : State) (h : Hdr), Served s.m h lvMaint → h.p1 = 0 → h.p2 = 0 → h.p3 = 0 → h.p0.toNat < visiblePages →
    s.m.bcm.retPages.any (fun p => p.1 == h.p0.toNat) = false →
    Completes (.dramRetirePage h) s (fun m => ∃ r, r = remapPage h.p0.toNat (accept h 0x0905 false s.m) ∧
      m = reply h (if r.2 then stOk else stHwFault) 0 [] r.1))

/-- The vault (R217, R773 to R805): programs, erases, protection, the replay and the requests. -/
def Obligations.VaultEffects : Prop :=
  (∀ (s : State) (us : BitVec 32) (ms rate : BitVec 16) (ok : Bool) (w : VWrite) (n : Mach), s.m.vlt.writing = some w →
    n = vaultHeader us.toNat ms.toNat rate.toNat ok s.m → n.pwr.loss = true → Does (.vaultHeaderProgram us ms rate ok) s n) ∧
  (∀ (s : State) (us : BitVec 32) (ms rate : BitVec 16) (ok : Bool) (w : VWrite) (n : Mach), s.m.vlt.writing = some w →
    n = vaultHeader us.toNat ms.toNat rate.toNat ok s.m → n.pwr.loss = false → w.thenReset = false → n.sup.shut ≠ .vaulting →
    Does (.vaultHeaderProgram us ms rate ok) s n) ∧
  (∀ (s : State) (us : BitVec 32) (ms rate : BitVec 16) (ok : Bool) (w : VWrite) (n : Mach), s.m.vlt.writing = some w →
    n = vaultHeader us.toNat ms.toNat rate.toNat ok s.m → n.pwr.loss = false → w.thenReset = true →
    Does (.vaultHeaderProgram us ms rate ok) s (spnModuleReset { n with vlt.seqDone := false })) ∧
  (∀ (s : State) (us : BitVec 32) (ms rate : BitVec 16) (ok : Bool) (w : VWrite) (n : Mach), s.m.vlt.writing = some w →
    n = vaultHeader us.toNat ms.toNat rate.toNat ok s.m → n.pwr.loss = false → w.thenReset = false → n.sup.shut = .vaulting →
    Does (.vaultHeaderProgram us ms rate ok) s (shutUnload { n with vlt.seqDone := false })) ∧
  (∀ (s : State) (die : BitVec 1) (plane : BitVec 2) (block : BitVec 11), s.m.vlt.writing.isSome = true → isPool (2048 * die.toNat + block.toNat) = true →
    Does (.pageProgramFail die plane block) s (programFail die.toNat plane.toNat block.toNat s.m)) ∧
  (∀ (s : State) (b : Nat), frozen s.m = false → s.m.vlt.writing = none → leastBy (fun b => assoc 0 s.m.vlt.erases b) s.m.vlt.spent = some b →
    Does (.vaultBlockErase true) s (wearCheck (forgetImages { s.m with
      vlt.spent := s.m.vlt.spent.filter (· != b), vlt.erases := assocSet 0 s.m.vlt.erases b (assoc 0 s.m.vlt.erases b + 1)
      vlt.eraseCnt := s.m.vlt.eraseCnt.inc }))) ∧
  (∀ (s : State) (b : Nat), frozen s.m = false → s.m.vlt.writing = none → leastBy (fun b => assoc 0 s.m.vlt.erases b) s.m.vlt.spent = some b →
    Does (.vaultBlockErase false) s (forgetImages (retireBlock b { s.m with vlt.spent := s.m.vlt.spent.filter (· != b) }))) ∧
  (∀ (s : State), s.m.sup.stages.getLsbD 8 = true → Does .protectionLost s (protectionLost s.m)) ∧
  (∀ (s : State), Does .protectionReturn s (protectionReturn s.m)) ∧
  (∀ (s : State) (dir : Bool) (n : BitVec 17), stageDone s.m 8 = true → stageDone s.m 9 = false → s.m.pwr.loss = false → s.m.vlt.replaying = none →
    norUsable s.m = true →
    Does (.vaultReplay dir n) s (stage9 (takeStale (replayDecide (newerSlot s.m.hda) n.toNat { s.m with vlt.dirOk := dir })))) ∧
  (∀ (s : State) (dir : Bool) (n : BitVec 17), stageDone s.m 8 = true → stageDone s.m 9 = false → s.m.pwr.loss = false → s.m.vlt.replaying = none →
    norUsable s.m = false → Does (.vaultReplay dir n) s (stage9 { s.m with vlt.dirOk := dir })) ∧
  (∀ (s : State) (dir : Bool) (n : BitVec 17) (q : Reg) (k : Nat) (i : VImage), stageDone s.m 8 = true → stageDone s.m 9 = false → s.m.pwr.loss = false →
    s.m.vlt.replaying = some (q, k) → s.m.vlt.images.find? (fun i => i.seq == q) = some i →
    Does (.vaultReplay dir n) s (stage9 (takeStale (replaySome i k n.toNat s.m)))) ∧
  (∀ (s : State) (h : Hdr), Served s.m h lvHost → h.p0 = 0 → h.p1 = 0 → h.p2 = 0 → h.p3 = 0 →
    Completes (.vaultStatus h) s (fun m => ∃ n, n = accept h 0x0A01 false s.m ∧ m = reply h stOk 0
      (regBytes [vltStatusReg n, vltBlocksReg n, vltSpareReg n, vltLastReg n, vltRateReg n] ++ ((keptImages n).map imageHeader).flatten) n)) ∧
  (∀ (s : State) (h : Hdr) (i : VImage), Served s.m h lvMaint → h.p0 = 1 → h.p3 = 0 → keptImages (accept h 0x0A02 false s.m) = [i] →
    i.seq = h.p2 → 65536 * h.p1.toNat < imageLen i →
    Does (.vaultExport h) s (reply h stOk 0 (imageChunk i h.p1.toNat) (accept h 0x0A02 false s.m))) ∧
  (∀ (s : State) (h : Hdr), Served s.m h lvMaint → h.p0 = 2 → h.p1 = 0 → h.p3 = 0 →
    (keptImages (accept h 0x0A02 false s.m)).any (fun i => i.seq == h.p2) = true →
    (foreignImages (accept h 0x0A02 false s.m)).any (fun i => i.seq == h.p2) = true →
    Completes (.vaultDiscard h) s (fun m => ∃ n, n = accept h 0x0A02 false s.m ∧ m = reply h stOk 0 [] (report 0x0F43 nowhere
      (leBytes 1 2 ++ leBytes 4 h.p2.toNat) (consume (fun i => i.seq == h.p2 && !ownHda n i) n)))) ∧
  (∀ (s : State) (h : Hdr), Served s.m h lvMaint → s.m.vlt.unresolved = true → h.p0 = 3 → h.p1 = 0 → h.p2 = 0 → h.p3 = 0 →
    Does (.vaultAcceptLoss h) s (reply h stOk 0 [] (modeAdvance (resolveLoss 3 0 (accept h 0x0A02 false s.m))))) ∧
  (∀ (s : State) (h : Hdr) (chunk : List Byte), Served s.m h lvMaint → s.m.vlt.unresolved = true → h.p0 = 4 → h.p1 = 0 → h.p2 = 0 → h.p3 = 0 →
    chunk.length = 65536 → foreignImages (accept h 0x0A02 false s.m) = [] → s.m.vlt.imp = none → s.m.vlt.impBlocks = [] →
    0 < (takeReady (accept h 0x0A02 false s.m) 1).length →
    Does (.vaultImport h chunk) s (reply h stOk 0 [] { accept h 0x0A02 false s.m with
      vlt.imp := some [chunk], vlt.impBlocks := takeReady (accept h 0x0A02 false s.m) 1 })) ∧
  (∀ (s : State) (h : Hdr) (chunk : List Byte), Served s.m h lvMaint → s.m.vlt.unresolved = true → h.p0 = 4 → h.p1 = 0 → h.p2 = 0 → h.p3 = 1 →
    chunk.length ≤ 65536 → foreignImages (accept h 0x0A02 false s.m) = [] → s.m.vlt.imp = none → s.m.vlt.impBlocks = [] →
    0 < (takeReady (accept h 0x0A02 false s.m) 1).length →
    Does (.vaultImport h chunk) s (importEnd h chunk (importOver { accept h 0x0A02 false s.m with
      vlt.imp := some [chunk], vlt.impBlocks := takeReady (accept h 0x0A02 false s.m) 1 }))) ∧
  (∀ (s : State) (h : Hdr) (rate : BitVec 16), Served s.m h lvMaint → h.p0 = 0 → h.p1 = 0 → h.p2 = 0 → h.p3 = 0 → s.m.vlt.imp = none →
    s.m.vlt.writing = none → 640 ≤ rate.toNat →
    Completes (.vaultTest h rate []) s (fun m => ∃ n ok, n = accept h 0x0A03 false s.m ∧
      ok = (takeReady n (vaultBlocks n)).filter (fun b => !n.vlt.bad.contains b) ∧
      m = reply h stOk rate.toNat [] (wearCheck { n with vlt.testRate := rate, vlt.rateOk := true, vlt.eraseCnt := n.vlt.eraseCnt.add ok.length
                                                         vlt.erases := ok.foldl (fun e b => assocSet 0 e b (assoc 0 e b + 1)) n.vlt.erases })))

/-- The NVMe I/O commands (R619 to R635, R684 to R689, R710 to R743, R818, R861, R1038): each runs with its own effect when nothing bars it,
fails it or holds it. -/
def Obligations.IoCommandEffects : Prop :=
  (∀ (s : State) (c : NvCmd) (nsid : BitVec 32) (lba : BitVec 64) (cnt : BitVec 17) (p : Prot) (n : Ns),
    Runs s.m c (.read nsid.toNat lba.toNat cnt.toNat p) n →
    Does (.nvmeRead c nsid lba cnt p) s (flow (readTry c (onCtx c (fun y => { y with left := (List.range cnt.toNat).map (lba.toNat + ·) })
      (noteStream nsid.toNat false lba.toNat cnt.toNat (lbaAct n.kind (lba.toNat + cnt.toNat - 1))
        (InMedia c (.read nsid.toNat lba.toNat cnt.toNat p) s.m)))))) ∧
  (∀ (s : State) (c : NvCmd) (nsid : BitVec 32) (lba : BitVec 64) (p : Prot) (d : List (Sector × BitVec 128)) (n : Ns),
    Runs s.m c (.write nsid.toNat lba.toNat d.length p d) n → n.kind ≠ .zoned →
    Does (.nvmeWrite c nsid lba p d) s (flow (stageWrite c nsid.toNat lba.toNat p d
      (noteStream nsid.toNat true lba.toNat d.length (lbaAct n.kind (lba.toNat + d.length - 1))
        (InMedia c (.write nsid.toNat lba.toNat d.length p d) s.m))))) ∧
  (∀ (s : State) (c : NvCmd) (nsid : BitVec 32) (lba : BitVec 64) (p : Prot) (d : List (Sector × BitVec 128)) (n : Ns) (k : Mach),
    Runs s.m c (.write nsid.toNat lba.toNat d.length p d) n → n.kind = .zoned →
    k = noteStream nsid.toNat true lba.toNat d.length (lbaAct n.kind (lba.toNat + d.length - 1))
      (InMedia c (.write nsid.toNat lba.toNat d.length p d) s.m) →
    Does (.nvmeWrite c nsid lba p d) s (flow (flow { k with zmg.zoneQ := k.zmg.zoneQ ++ [(zoneKey nsid.toNat (lba.toNat / 65536), c)] }))) ∧
  (∀ (s : State) (c : NvCmd) (nsid : BitVec 32) (lba : BitVec 64) (p : Prot) (d : List (Sector × BitVec 128)) (n : Ns) (k : Mach),
    Runs s.m c (.append nsid.toNat lba.toNat d.length p d) n → k = InMedia c (.append nsid.toNat lba.toNat d.length p d) s.m →
    Does (.nvmeZoneAppend c nsid lba p d) s (flow (flow { k with zmg.zoneQ := k.zmg.zoneQ ++ [(zoneKey nsid.toNat (lba.toNat / 65536), c)] }))) ∧
  (∀ (s : State) (c : NvCmd) (nsid : BitVec 32) (lba : BitVec 64) (al : Bool) (n : Ns) (zs : List Nat) (k : Mach),
    Runs s.m c (.zoneOpen nsid.toNat lba.toNat al) n → zs = (if al then List.range (n.size / 65536) else [lba.toNat / 65536]) → zs ≠ [] →
    k = onCtx c (fun y => { y with left := if al then zs else [] }) (InMedia c (.zoneOpen nsid.toNat lba.toNat al) s.m) →
    Does (.nvmeOpenZone c nsid lba al) s (flow (flow { k with zmg.zoneQ := k.zmg.zoneQ ++ zs.map (fun z => (zoneKey nsid.toNat z, c)) }))) ∧
  (∀ (s : State) (c : NvCmd) (nsid : BitVec 32) (lba : BitVec 64) (al : Bool) (n : Ns) (zs : List Nat) (k : Mach),
    Runs s.m c (.zoneClose nsid.toNat lba.toNat al) n → zs = (if al then List.range (n.size / 65536) else [lba.toNat / 65536]) → zs ≠ [] →
    k = onCtx c (fun y => { y with left := if al then zs else [] }) (InMedia c (.zoneClose nsid.toNat lba.toNat al) s.m) →
    Does (.nvmeCloseZone c nsid lba al) s (flow (flow { k with zmg.zoneQ := k.zmg.zoneQ ++ zs.map (fun z => (zoneKey nsid.toNat z, c)) }))) ∧
  (∀ (s : State) (c : NvCmd) (nsid : BitVec 32) (lba : BitVec 64) (al : Bool) (n : Ns) (zs : List Nat) (k : Mach),
    Runs s.m c (.zoneFinish nsid.toNat lba.toNat al) n → zs = (if al then List.range (n.size / 65536) else [lba.toNat / 65536]) → zs ≠ [] →
    k = onCtx c (fun y => { y with left := if al then zs else [] }) (InMedia c (.zoneFinish nsid.toNat lba.toNat al) s.m) →
    Does (.nvmeFinishZone c nsid lba al) s (flow (flow { k with zmg.zoneQ := k.zmg.zoneQ ++ zs.map (fun z => (zoneKey nsid.toNat z, c)) }))) ∧
  (∀ (s : State) (c : NvCmd) (nsid : BitVec 32) (lba : BitVec 64) (al : Bool) (n : Ns) (zs : List Nat) (k : Mach),
    Runs s.m c (.zoneReset nsid.toNat lba.toNat al) n → zs = (if al then List.range (n.size / 65536) else [lba.toNat / 65536]) → zs ≠ [] →
    k = onCtx c (fun y => { y with left := if al then zs else [] }) (InMedia c (.zoneReset nsid.toNat lba.toNat al) s.m) →
    Does (.nvmeResetZone c nsid lba al) s (flow (flow { k with zmg.zoneQ := k.zmg.zoneQ ++ zs.map (fun z => (zoneKey nsid.toNat z, c)) }))) ∧
  (∀ (s : State) (c : NvCmd) (nsid : BitVec 32) (lba : BitVec 64) (n : Ns),
    Runs s.m c (.zoneReport nsid.toNat lba.toNat) n →
    Does (.nvmeZoneManagementReceive c nsid lba) s (flow (reportZones c n lba.toNat (InMedia c (.zoneReport nsid.toNat lba.toNat) s.m)))) ∧
  (∀ (s : State) (c : NvCmd) (nsid : BitVec 32) (rs : List (BitVec 64 × BitVec 32)) (qs : List (Nat × Nat)) (n : Ns),
    qs = (rs.take 256).map (fun r => (r.1.toNat, r.2.toNat)) → Runs s.m c (.deallocate nsid.toNat qs) n →
    Does (.nvmeDatasetManagement c nsid rs) s (flow (deallocate c n qs (InMedia c (.deallocate nsid.toNat qs) s.m)))) ∧
  (∀ (s : State) (c : NvCmd) (nsid : BitVec 32) (lba : BitVec 64) (cnt : BitVec 17) (p : Prot) (n : Ns),
    Runs s.m c (.writeZeroes nsid.toNat lba.toNat cnt.toNat p) n → n.kind ≠ .zoned →
    Does (.nvmeWriteZeroes c nsid lba cnt p) s (flow (stageWrite c nsid.toNat lba.toNat { p with pract := true } (List.replicate cnt.toNat (0, 0))
      (noteStream nsid.toNat true lba.toNat cnt.toNat (lbaAct n.kind (lba.toNat + cnt.toNat - 1))
        (InMedia c (.writeZeroes nsid.toNat lba.toNat cnt.toNat p) s.m))))) ∧
  (∀ (s : State) (c : NvCmd) (nsid : BitVec 32) (lba : BitVec 64) (cnt : BitVec 17) (p : Prot) (n : Ns) (k : Mach),
    Runs s.m c (.writeZeroes nsid.toNat lba.toNat cnt.toNat p) n → n.kind = .zoned →
    k = noteStream nsid.toNat true lba.toNat cnt.toNat (lbaAct n.kind (lba.toNat + cnt.toNat - 1))
      (InMedia c (.writeZeroes nsid.toNat lba.toNat cnt.toNat p) s.m) →
    Does (.nvmeWriteZeroes c nsid lba cnt p) s (flow (flow { k with zmg.zoneQ := k.zmg.zoneQ ++ [(zoneKey nsid.toNat (lba.toNat / 65536), c)] }))) ∧
  (∀ (s : State) (c : NvCmd) (nsid : BitVec 32) (lba : BitVec 64) (p : Prot) (d : List (Sector × BitVec 128)) (n : Ns),
    Runs s.m c (.compare nsid.toNat lba.toNat d.length p d) n →
    Does (.nvmeCompare c nsid lba p d) s (flow (readTry c (onCtx c (fun y => { y with left := (List.range d.length).map (lba.toNat + ·) })
      (noteStream nsid.toNat false lba.toNat d.length (lbaAct n.kind (lba.toNat + d.length - 1))
        (InMedia c (.compare nsid.toNat lba.toNat d.length p d) s.m)))))) ∧
  (∀ (s : State) (c : NvCmd) (nsid : BitVec 32) (lba : BitVec 64) (cnt : BitVec 17) (p : Prot) (n : Ns),
    Runs s.m c (.verify nsid.toNat lba.toNat cnt.toNat p) n →
    Does (.nvmeVerify c nsid lba cnt p) s (flow (readTry c (onCtx c (fun y => { y with left := (List.range cnt.toNat).map (lba.toNat + ·) })
      (noteStream nsid.toNat false lba.toNat cnt.toNat (lbaAct n.kind (lba.toNat + cnt.toNat - 1))
        (InMedia c (.verify nsid.toNat lba.toNat cnt.toNat p) s.m)))))) ∧
  (∀ (s : State) (c : NvCmd) (nsid : BitVec 32) (n : Ns), Runs s.m c (.flush nsid.toNat) n →
    Does (.nvmeFlush c nsid) s (flow (finish c .success (InMedia c (.flush nsid.toNat) s.m)))) ∧
  (∀ (s : State) (c t : NvCmd) (sqid cid : BitVec 16) (x : Ctx), Admits s.m c → t = ⟨c.port, c.cntlid, sqid, cid⟩ →
    ctxOf (Decoded c s.m) t = some x → x.status = none →
    Does (.nvmeAbort c sqid cid) s (finishWith c 0 [] (abortWins t (Decoded c s.m)))) ∧
  (∀ (s : State) (c : NvCmd) (sqid cid : BitVec 16), Admits s.m c → ctxOf (Decoded c s.m) ⟨c.port, c.cntlid, sqid, cid⟩ = none →
    Does (.nvmeAbort c sqid cid) s (finishWith c 1 [] (Decoded c s.m))) ∧
  (∀ (s : State) (now : BitVec 48) (k : Mach) (cs : List Ctx), k = clockTo now.toNat s.m →
    cs = heldTooLong k →
    cs ≠ [] → k.sup.holdReported = false →
    Completes (.mediaHoldExpiry now) s (fun m => ∃ n, n = cs.foldl (fun m x => finish x.id .namespaceNotReady m) k ∧
      m = report 0x0025 nowhere (leBytes 1 ((!n.sup.actReady.p0).toNat + 2 * (!n.sup.actReady.p1).toNat) ++
        leBytes 1 (stagesInOrder n.sup.stages)) { n with sup.holdReported := true }))

/-- Contexts, completions, queues and reservations of the NVMe controllers (R816, R817, R821 to R826, R847, R913): each command completes with
its own effect. -/
def Obligations.ControllerQueueEffects : Prop :=
  (∀ (s : State) (c : NvCmd) (k : Ctrlr), ctrlOf s.m c = some k → k.tcp = false → mayFetch s.m c = true → ctxOf s.m c = none →
    s.m.fe.tko = none → (c.sqid = 0 → rsvUsed s.m < 64) → (c.sqid ≠ 0 → ioUsed s.m < 3072) →
    Does (.submissionFetch c) s { s.m with
      fe.ctxs := s.m.fe.ctxs ++ [{ id := c, admin := c.sqid == 0, arrival := BitVec.ofNat 32 s.m.sch.now, cls := queueCls s.m c : Ctx }]
      prt := s.m.prt.upd c.port (fun p => { p with held := false }) }) ∧
  (∀ (s : State) (c : NvCmd) (k : Ctrlr), ctrlOf s.m c = some k → k.tcp = true → mayFetch s.m c = true → ctxOf s.m c = none →
    s.m.fe.tko = none → (c.sqid = 0 → rsvUsed s.m < 64) → (c.sqid ≠ 0 → ioUsed s.m < 3072) →
    Does (.capsuleReceive c) s { s.m with
      fe.ctxs := s.m.fe.ctxs ++ [{ id := c, admin := c.sqid == 0, arrival := BitVec.ofNat 32 s.m.sch.now, cls := queueCls s.m c : Ctx }]
      prt := s.m.prt.upd c.port (fun p => { p with held := false }) }) ∧
  (∀ (s : State) (c : NvCmd) (k : Ctrlr), ctrlOf s.m c = some k → k.tcp = false → mayFetch s.m c = true → ctxOf s.m c = none →
    s.m.fe.tko.isSome = true →
    Does (.submissionFetch c) s { s.m with prt := s.m.prt.upd c.port (fun p => if p.heldCmds.contains c then p else { p with heldCmds := p.heldCmds ++ [c] }) }) ∧
  (∀ (s : State) (c : NvCmd) (k : Ctrlr), ctrlOf s.m c = some k → k.tcp = true → mayFetch s.m c = true → ctxOf s.m c = none →
    s.m.fe.tko.isSome = true →
    Does (.capsuleReceive c) s { s.m with prt := s.m.prt.upd c.port (fun p => if p.heldCmds.contains c then p else { p with heldCmds := p.heldCmds ++ [c] }) }) ∧
  (∀ (s : State) (c : NvCmd) (x : Ctx), ctxOf s.m c = some x → mayPost s.m x = true →
    Completes (.completionPost c) s (fun m => ∃ n, n = cqTake c s.m ∧
      m = flow (shutCheck (onPrt c.port (fun p => { p with postCnt := p.postCnt.inc }) { n with
        fe.ctxs := n.fe.ctxs.filter (fun y => y.id != c), fe.posted := n.fe.posted.upd c.port (fun _ => some (withReady n x))
        prt := ⟨{ n.prt.p0 with held := false }, { n.prt.p1 with held := false }⟩ })))) ∧
  (∀ (s : State) (p : Act) (id qid taken : BitVec 16), frozen s.m = false → s.m.fe.tko = none →
    Does (.completionQueueHeadDoorbell p id qid taken) s (onCtrl p id (fun k => { k with
      queues := k.queues.map (fun q => if q.cq && q.qid == qid then { q with used := q.used - taken.toNat } else q) }) s.m)) ∧
  (∀ (s : State) (c : NvCmd) (k : Ctrlr) (d : BitVec 64) (r : List (BitVec 64)), Admits s.m c → ctrlOf s.m c = some k → k.notices = d :: r →
    Does (.asynchronousEventRequest c) s (finish c .success (onCtx c (fun x => { x with dw := d })
      (onCtrl c.port c.cntlid (fun k => { k with notices := r }) (Decoded c s.m))))) ∧
  (∀ (s : State) (c : NvCmd) (k : Ctrlr), Admits s.m c → ctrlOf s.m c = some k → k.notices = [] →
    Does (.asynchronousEventRequest c) s (onCtrl c.port c.cntlid (fun k => { k with aers := k.aers ++ [c] }) (Decoded c s.m))) ∧
  (∀ (s : State) (c : NvCmd) (cq : Bool) (qid size cqid : BitVec 16) (prio : Prio) (k : Ctrlr), Admits s.m c → ctrlOf s.m c = some k →
    k.tcp = false → qid ≠ 0 → qid.toNat ≤ 64 → k.queues.any (fun q => q.cq == cq && q.qid == qid) = false → 2 ≤ size.toNat → size.toNat ≤ 4096 →
    (cq = false → k.queues.any (fun q => q.cq && q.qid == cqid) = true) →
    Does (.createIoQueue c cq qid size cqid prio) s (finish c .success (onCtrl c.port c.cntlid (fun k => { k with
      queues := k.queues ++ [⟨cq, qid, size.toNat, cqid, prio, 0⟩] }) (Decoded c s.m)))) ∧
  (∀ (s : State) (c : NvCmd) (cq : Bool) (qid : BitVec 16) (k : Ctrlr), Admits s.m c → ctrlOf s.m c = some k → k.tcp = false →
    k.queues.any (fun q => q.cq == cq && q.qid == qid) = true →
    (cq = true → k.queues.any (fun q => !q.cq && q.cqid == qid) = false) →
    Does (.deleteIoQueue c cq qid) s (finish c .success (onCtrl c.port c.cntlid (fun k => { k with
        queues := k.queues.filter (fun q => !(q.cq == cq && q.qid == qid)) })
      (if cq then Decoded c s.m
       else endCtxs (fun x => x.cntlid == c.cntlid && decide (x.port = c.port) && x.sqid == qid) (Decoded c s.m))))) ∧
  (∀ (s : State) (c : NvCmd) (nsid : BitVec 32) (act : BitVec 3) (ignore : Bool) (cptpl : BitVec 2) (cur new : BitVec 64) (n : Ns) (r : Resv),
    c.sqid ≠ 0 → fresh s.m c = true → ioBarred (Decoded c s.m) = none →
    nsOf s.m nsid.toNat = some n → n.att.get c.port = true → act.toNat ≤ 2 →
    resvRegister (resvOf s.m nsid.toNat) (hostOf s.m c) act.toNat ignore cptpl.toNat cur new = some r →
    Does (.reservationRegister c nsid act ignore cptpl cur new) s (finish c .success (commitCtx c (putResv nsid.toNat r (Decoded c s.m))))) ∧
  (∀ (s : State) (c : NvCmd) (nsid : BitVec 32) (act ty : BitVec 8) (cur pre : BitVec 64) (n : Ns) (r : Resv) (excepts : List (BitVec 128)),
    c.sqid ≠ 0 → fresh s.m c = true → ioBarred (Decoded c s.m) = none →
    nsOf s.m nsid.toNat = some n → n.att.get c.port = true → act.toNat ≤ 1 → 1 ≤ ty.toNat → ty.toNat ≤ 6 →
    resvAcquire (resvOf s.m nsid.toNat) (hostOf s.m c) act.toNat ty.toNat cur pre = some (r, excepts) →
    Does (.reservationAcquire c nsid act ty cur pre) s (finish c .success (commitCtx c (putResv nsid.toNat r (Decoded c s.m))))) ∧
  (∀ (s : State) (c : NvCmd) (nsid : BitVec 32) (act ty : BitVec 8) (cur : BitVec 64) (n : Ns) (r : Resv),
    c.sqid ≠ 0 → fresh s.m c = true → ioBarred (Decoded c s.m) = none →
    nsOf s.m nsid.toNat = some n → n.att.get c.port = true → act.toNat ≤ 1 →
    resvRelease (resvOf s.m nsid.toNat) (hostOf s.m c) act.toNat ty.toNat cur = some (r, true) →
    Does (.reservationRelease c nsid act ty cur) s (finish c .success (commitCtx c (putResv nsid.toNat r (Decoded c s.m))))) ∧
  (∀ (s : State) (c : NvCmd), Admits s.m c → Does (.nvmeKeepAlive c) s (finish c .success
    (onCtrl c.port c.cntlid (fun k => { k with kaAt := s.m.sch.now }) (Decoded c s.m))))

/-- Controllers, associations, the engine pair and the links (R811 to R815, R819, R828 to R848, R1043): each event and request completes with
its own effect. -/
def Obligations.PortAndEngineEffects : Prop :=
  (∀ (s : State) (p : Act) (id : BitVec 16) (cfg : HostCfg) (k : Ctrlr),
    s.m.fe.ctrls.find? (fun k => k.cntlid == id && decide (k.port = p)) = some k → k.en = false → (s.m.prt.get p).up = true → frozen s.m = false →
    Does (.controllerEnable p id cfg) s (controllersReady (reopen (onCtrl p id (fun k => { k with
      en := true, shutDone := false, shutting := false, host := if k.tcp then k.host else cfg.host
      vendorAen := cfg.vendorAen, zoneAen := cfg.zoneAen, dulbe := cfg.dulbe.map (fun n => n.toNat) }) s.m)))) ∧
  (∀ (s : State) (p : Act) (id : BitVec 16), s.m.fe.ctrls.any (fun k => k.cntlid == id && decide (k.port = p) && k.en) = true →
    Does (.controllerDisable p id) s (onCtrl p id (fun k => k.disabled) (endController p id s.m))) ∧
  (∀ (s : State) (p : Act) (id : BitVec 16) (k : Ctrlr) (n : Mach),
    s.m.fe.ctrls.find? (fun k => k.cntlid == id && decide (k.port = p)) = some k → k.en = true → k.shutting = false → k.shutDone = false →
    (s.m.prt.get p).up = true → frozen s.m = false → n = onCtrl p id (fun k => { k with shutting := true }) s.m → allNotified n = true → shutRuns n = false →
    Does (.shutdownNotification p id) s (startShutdown .notify { n with sup.afterReset := none })) ∧
  (∀ (s : State) (p : Act) (id : BitVec 16) (k : Ctrlr) (n : Mach),
    s.m.fe.ctrls.find? (fun k => k.cntlid == id && decide (k.port = p)) = some k → k.en = true → k.shutting = false → k.shutDone = false →
    (s.m.prt.get p).up = true → frozen s.m = false → n = onCtrl p id (fun k => { k with shutting := true }) s.m → allNotified n = false ∨ shutRuns n = true →
    Does (.shutdownNotification p id) s (shutCheck n)) ∧
  (∀ (s : State) (p : Act) (id : BitVec 16), s.m.fe.ctrls.any (fun k => k.cntlid == id && decide (k.port = p) && k.tcp) = true →
    Completes (.keepAliveTimeout p id) s (fun m => ∃ n, n = endController p id s.m ∧
      m = report 0x1420 nowhere (leBytes 1 p.idx ++ leBytes 2 id.toNat) { n with
        fe.ctrls := n.fe.ctrls.filter (fun k => !(k.cntlid == id && decide (k.port = p))) })) ∧
  (∀ (s : State) (c : NvCmd) (size : BitVec 16) (host : BitVec 128) (n : Mach) (id : BitVec 16),
    (s.m.prt.get c.port).eth = true → (s.m.prt.get c.port).up = true → frozen s.m = false → engineUp s.m = true → s.m.sup.ctrlReady = true →
    c.sqid = 0 → ctxOf s.m c = none → n = bareContext c s.m → (ctxOf n c).isSome = true → size.toNat ≤ 128 → assocs n c.port < 16 →
    connections n < 256 → id = freeCntlid n →
    Does (.nvmeConnect c size host) s (finish c .success (onCtx c (fun x => { x with dw := id.zeroExtend 64 }) (reopen { n with
      fe.ctrls := n.fe.ctrls ++ [{ port := c.port, cntlid := id, tcp := true, conns := 1, host := host, kaAt := n.sch.now : Ctrlr }] })))) ∧
  (∀ (s : State), engineUp s.m = true → Does .watchdogRefresh s { s.m with fe.wdtFed := true }) ∧
  (∀ (s : State), engineUp s.m = true → s.m.pwr.loss = false → armed s.m 0x1020 = 9 → standbySound s.m = true →
    Does .watchdogExpiry s (startTakeover 3 s.m.fe.active.other none
      (report 0x1020 nowhere (leBytes 1 s.m.fe.active.idx) { s.m with fe.wdtFed := false }))) ∧
  (∀ (s : State), engineUp s.m = true → s.m.pwr.loss = false → (armed s.m 0x1020 ≠ 9 ∨ standbySound s.m = false) →
    Does .watchdogExpiry s (report 0x1020 nowhere (leBytes 1 s.m.fe.active.idx) { s.m with fe.wdtFed := false })) ∧
  (∀ (s : State) (x : BitVec 9) (t : Takeover), s.m.fe.tko = some t → t.trigger ≠ 5 → s.m.fe.fenced = false →
    Does (.fenceConfirmed x) s { s.m with fe.fenced := true, fe.overlap := x, fe.powered := s.m.fe.powered.upd t.new (fun _ => true) }) ∧
  (∀ (s : State) (gap : BitVec 16), Does (.takeoverComplete gap) s (takeoverDone gap s.m)) ∧
  (∀ (s : State) (h : Hdr), Served s.m h lvHost → h.p0 = 0 → h.p1 = 0 → h.p2 = 0 → h.p3 = 0 →
    Completes (.feStatus h) s (fun m => ∃ n, n = accept h 0x0C01 false s.m ∧ m = reply h stOk 0
      (regBytes [feStatusReg n, feCtxReg n, feLasttkoReg n, feSpareReg n, n.fe.tkoCnt.lo, n.fe.tkoCnt.hi]) n)) ∧
  (∀ (s : State) (h : Hdr) (c : BitVec 16), Served s.m h lvMaint → h.p0 = 0 → h.p1 = 0 → h.p2 = 0 → h.p3 = 0 → s.m.sup.mode ≠ .standby →
    stageDone s.m 10 = true → standbySound s.m = true → s.m.fe.tko = none → s.m.fe.posting = true → h.who = .nvme c →
    Does (.feTakeover h) s (startTakeover 2 s.m.fe.active.other (some h) (accept h 0x0C02 false s.m))) ∧
  (∀ (s : State) (p : Act), s.m.pins.perst.get p = false →
    Does (.perstAssert p) s (flow (portHeld p 1 (assertReset (.port p) { s.m with pins.perst := s.m.pins.perst.upd p (fun _ => true) })))) ∧
  (∀ (s : State) (p : Act) (n : Mach), s.m.pins.perst.get p = true → n = { s.m with pins.perst := s.m.pins.perst.upd p (fun _ => false) } →
    unsupplied n (.port p) = false → Does (.perstRelease p) s (groupReply (Group.bitNo (.port p)) (portReleased p (releaseIfReset (.port p) n)))) ∧
  (∀ (s : State) (p : Act) (n : Mach), s.m.pins.perst.get p = true → n = { s.m with pins.perst := s.m.pins.perst.upd p (fun _ => false) } →
    unsupplied n (.port p) = true → Does (.perstRelease p) s n) ∧
  (∀ (s : State) (p : Act), (s.m.prt.get p).up = false → (s.m.prt.get p).linkDis = false → inReset s.m (.port p) = false →
    s.m.pins.perst.get p = false → s.m.pwr.llcOn = true → frozen s.m = false → linkFits s.m p 5 2 = true → s.m.sup.fwSlot ≠ 3 →
    (s.m.prt.get p).eth = false →
    Does (.linkUp p 5 2) s (report 0x1401 nowhere (leBytes 1 p.idx ++ leBytes 1 5 ++ leBytes 1 2) (onPrt p (fun _ => { s.m.prt.get p with
      up := true, pll := true, degraded := false, speed := 5, width := 2, fec := false, mtu := 0 }) s.m))) ∧
  (∀ (s : State) (p : Act), Does (.linkDown p) s (linkDownAt p 2 s.m)) ∧
  (∀ (s : State) (p : Act), (s.m.prt.get p).pll = true →
    Does (.phyPllLoss p) s (report 0x1411 nowhere (leBytes 1 p.idx) (linkDownAt p 3 (onPrt p (fun x => { x with pll := false }) s.m)))) ∧
  (∀ (s : State) (p : Act), inReset s.m (.port p) = false → s.m.pwr.llcOn = true →
    Does (.phyPllRelock p) s (onPrt p (fun x => { x with pll := true }) s.m))

/-- The pins, the seconds and the NVMe power features (R22, R201, R208, R210, R999 to R1004, R1019): each completes with its own effect. -/
def Obligations.PinAndPowerFeatureEffects : Prop :=
  (∀ (s : State) (a : BitVec 7), Does (.i3cDynamicAddress a) s { s.m with pins.mgt := .i3c a, pins.mgtAlert := false }) ∧
  (∀ (s : State), Does .rstdaa s { s.m with pins.mgt := .smbus, pins.ibi := false }) ∧
  (∀ (s : State), cfxHalted s.m .a0 = true → cfxHalted s.m .a1 = true → Does .actLedHoldExpiry s { s.m with pins.actLed := false }) ∧
  (∀ (s : State) (v : BitVec 16), Does (.vbulk60vCrossing v) s { s.m with
    pwr.vbulk := v, pwr.bulkOk := decide (3300 ≤ v.toNat), pins.bulkInd := decide (600 < v.toNat) }) ∧
  (∀ (s : State) (x : SecondMeas), Does (.operatingTimeTick x) s (protectionTick (addHeat .a1 (addHeat .a0 (vmotSeen x.vmot x.heatUs { s.m with
    sup.opSec := BitVec.ofNat 40 (min (2 ^ 40 - 1) (s.m.sup.opSec.toNat + 1)), pwr.pin := x.pin, pwr.imot := x.imot
    pwr.energy := s.m.pwr.energy.add x.energy.toNat, prt := (s.m.prt.upd .a0 (portSecond x .a0)).upd .a1 (portSecond x .a1) }))))) ∧
  (∀ (s : State) (c : NvCmd) (en : Bool), Admits s.m c → Does (.setFeaturesApst c en) s (finish c .success { Decoded c s.m with sup.apstEn := en })) ∧
  (∀ (s : State) (c : NvCmd) (ps : BitVec 5), Admits s.m c → ps.toNat ≤ 4 →
    Does (.setFeaturesPowerManagement c ps) s (takePowerState ps.toNat (finish c .success (Decoded c s.m))))

/-- The event recorder and the arming table (R921, R924, R949 to R955, R964 to R984): each command completes with its own effect. -/
def Obligations.RecorderEffects : Prop :=
  (∀ (s : State) (code : BitVec 16) (act head : Byte) (zone : BitVec 24) (ps : List Byte),
    Does (.eventReport code act head zone ps) s (report code.toNat ⟨act, head, zone⟩ ps s.m)) ∧
  (∀ (s : State) (x : EvSlot), (s.m.evr.held.filter (fun e => e.nor.isNone)).getLast? = some x →
    Does (.eventNorProgram true) s { s.m with
      evr.held := s.m.evr.held.map (fun e => if e.slot == x.slot then e.saved else e), evr.norOk := true }) ∧
  (∀ (s : State) (x : EvSlot), (s.m.evr.held.filter (fun e => e.nor.isNone)).getLast? = some x →
    Does (.eventNorProgram false) s (norWritten false x.sector s.m)) ∧
  (∀ (s : State) (sector : BitVec 7) (n : Mach), mayRewrite s.m sector.toNat = true → n = { s.m with evr.rewriteAt := some s.m.sup.opSec } →
    Does (.eventSectorRewrite sector .done) s (wearCheck { n with evr := { n.evr.erase [sector.toNat, 129] with
      staging := none, held := n.evr.held.map (fun e => if e.sector == sector.toNat then e.saved else e), norOk := true } })) ∧
  (∀ (s : State) (sector : BitVec 7), mayRewrite s.m sector.toNat = true →
    Does (.eventSectorRewrite sector .failed) s (norWritten false sector.toNat { s.m with evr.rewriteAt := some s.m.sup.opSec })) ∧
  (∀ (s : State) (sector : BitVec 7) (n : Mach), mayRewrite s.m sector.toNat = true → n = { s.m with evr.rewriteAt := some s.m.sup.opSec } →
    Does (.eventSectorRewrite sector .cut) s { n with evr := { n.evr.erase [sector.toNat] with
      staging := some (sector.toNat, (n.evr.held.filter (fun e => e.sector == sector.toNat)).map (·.saved))
      held := n.evr.held.map (fun e => if e.sector == sector.toNat then { e with nor := none } else e) } }) ∧
  (∀ (s : State) (h : Hdr), Served s.m h lvHost → h.p2 = 0 → h.p3 = 0 → 1 ≤ h.p1.toNat → h.p1.toNat ≤ 2048 →
    Does (.evrRead h) s (reply h stOk s.m.evr.newest.toNat ((s.m.evr.readFrom h.p0 h.p1.toNat).flatMap (·.bytes)) (accept h 0x0301 false s.m))) ∧
  (∀ (s : State) (h : Hdr) (e : Evr), Served s.m h lvHost → h.p0 = 0 → h.p1 = 0 → h.p2 = 0 → h.p3 = 0 → e = s.m.evr →
    Does (.evrStatus h) s (reply h stOk 0 (regBytes [evrStatusReg e, e.newest, e.oldest, evrHeld01Reg e, evrHeld23Reg e]
      ++ leBytes 8 e.drop0.val.toNat ++ leBytes 8 e.drop1.val.toNat ++ leBytes 8 e.drop2.val.toNat ++ leBytes 8 e.drop3.val.toNat
      ++ leBytes 8 e.recCnt.val.toNat) (alertServed h (accept h 0x0302 false s.m)))) ∧
  (∀ (s : State) (h : Hdr), Served s.m h lvHost → h.p0 = 0 → h.p1 = 0 → h.p2 = 0 → h.p3 = 0 →
    Completes (.evrChallenge h) s (fun m => ∃ r, r = giveChallenge h.who true lvMaint (accept h 0x0303 false s.m) ∧
      m = reply h stOk 0 r.2 r.1)) ∧
  (∀ (s : State) (h : Hdr) (proof : List Byte) (c : Challenge) (k : List Byte), Served s.m h lvHost → h.p0 = 0 → h.p1 = 0 → h.p2 = 0 → h.p3 = 0 →
    lockedOut s.m h.who = false → challengeFor s.m h.who true lvMaint = some c → maintHash s.m = some k →
    proof = leBytes 32 (Config.hmacSha256 k c.bytes).toNat →
    Does (.evrClear h proof) s (reply h stOk s.m.evr.held.length [] (evrClear h.who (dropChallenge h.who true lvMaint (accept h 0x0304 false s.m))))) ∧
  (∀ (s : State) (h : Hdr), Served s.m h lvMaint → h.p1 = 0 → h.p2 = 0 → h.p3 = 0 → h.p0.toNat ≤ 1 →
    Completes (.evrSetPolicy h) s (fun m => ∃ n, n = accept h 0x0305 false s.m ∧
      m = reply h stOk 0 [] (report 0x1202 nowhere (leBytes 1 h.p0.toNat) { n with evr.ixd3 := h.p0 == 1 }))) ∧
  (∀ (s : State) (h : Hdr), Served s.m h lvHost → h.p1 = 0 → h.p2 = 0 → h.p3 = 0 → h.p0 ≠ 0xFFFF → (eventInfo h.p0.toNat).isSome = true →
    Does (.armRead h) s (reply h stOk 0 (armEntry s.m h.p0.toNat) (accept h 0x0901 false s.m))) ∧
  (∀ (s : State) (h : Hdr), Served s.m h lvHost → h.p1 = 0 → h.p2 = 0 → h.p3 = 0 → h.p0 = 0xFFFF →
    Does (.armRead h) s (reply h stOk 0 (armable.flatMap (fun x => armEntry s.m x.1)) (accept h 0x0901 false s.m))) ∧
  (∀ (s : State) (h : Hdr), Served s.m h lvMaint → h.p2 = 0 → h.p3 = 0 → (eventInfo h.p0.toNat).isSome = true → armPermits h.p0.toNat h.p1.toNat = true →
    Completes (.armWrite h) s (fun m => ∃ n, n = accept h 0x0902 false s.m ∧
      m = reply h stOk 0 [] (report 0x1220 nowhere (leBytes 2 h.p0.toNat ++ leBytes 1 (armed s.m h.p0.toNat) ++ leBytes 1 h.p1.toNat) { n with
        evr.arming := n.evr.arming.filter (fun (x : Nat × Nat) => x.1 != h.p0.toNat) ++ [(h.p0.toNat, h.p1.toNat)] })))

/-- The settings requests, the commits and the identity page (R63 to R86, R925, R937 to R942, Tables 18-6 and 18-9): each completes with its own
effect. -/
def Obligations.SettingsEffects : Prop :=
  (∀ (s : State) (h : Hdr) (r : SRec), Served s.m h lvHost → h.p3 = 0 → h.p2.toNat ≤ 3 → h.p0.toNat ≤ 0xFFFF →
    (sourceRecs (accept h 0x0201 false s.m) h.p2.toNat).find? (fun r => r.ty == h.p0.toNat && srecKey r == leBytes 4 h.p1.toNat) = some r →
    Does (.readRecord h) s (reply h stOk 0 (leBytes 2 h.p0.toNat ++ leBytes 2 r.val.length ++ (masked r).val) (accept h 0x0201 false s.m))) ∧
  (∀ (s : State) (h : Hdr), Served s.m h lvHost → h.p0 = 0 → h.p1 = 0 → h.p2 = 0 → h.p3 = 0 →
    Completes (.settingsStatus h) s (fun m => ∃ n, n = accept h 0x0204 false s.m ∧ m = reply h stOk 0 (leBytes 4 (bankSeq n .a0) ++
      leBytes 4 (bankSeq n .a1) ++ leBytes 1 (match n.sup.bankInUse with | some k => k.idx | none => 0xFF) ++ leBytes 1 n.svc.lastCommit ++ leBytes 2 0
      ++ leBytes 4 (sourceRecs n 1).length ++ leBytes 4 (payloadBytes (sourceRecs n 1)) ++ leBytes 8 n.svc.lastCommitAt.toNat ++ leBytes 4 0) n)) ∧
  (∀ (s : State) (h : Hdr), Served s.m h lvMaint → h.p0 = 0 → h.p1 = 0 → h.p2 = 0 → h.p3 = 2 →
    Completes (.stageRecord h []) s (fun m => ∃ n, n = accept h 0x0202 false s.m ∧
      m = reply h stOk 0 [] { n with svc.staged := n.svc.staged.filter (fun x => x.2.2) })) ∧
  (∀ (s : State) (h : Hdr) (p : List Byte), Served s.m h (stageLevel (fieldAt p 0 2)) → h.p0 = 0 → h.p1 = 0 → h.p2 = 0 → h.p3 = 1 →
    stageModeBad s.m (fieldAt p 0 2) = false → fieldAt p 0 2 ≠ 0x1182 → deleteLengthBad p = false →
    (isSingle (fieldAt p 0 2) = true → p.length = 6 → p.drop 2 = noKey) →
    tooLarge (accept h 0x0202 false s.m) (deleteRec p) true = false →
    Completes (.stageRecord h p) s (fun m => ∃ n, n = accept h 0x0202 false s.m ∧
      m = reply h stOk 0 [] { n with svc.staged := stagedWith n (deleteRec p) true })) ∧
  (∀ (s : State) (h : Hdr) (p : List Byte), Served s.m h (stageLevel (fieldAt p 0 2)) → h.p0 = 0 → h.p1 = 0 → h.p2 = 0 → h.p3 = 0 →
    stageModeBad s.m (fieldAt p 0 2) = false → fieldAt p 0 2 ≠ 0x1182 → recordLengthBad p = false →
    (knownTy (fieldAt p 0 2) = true → recFits (accept h 0x0202 false s.m) ⟨fieldAt p 0 2, p.drop 4⟩ = true) → ethernetOnS0 h p s.m = false →
    tooLarge (accept h 0x0202 false s.m) ⟨fieldAt p 0 2, p.drop 4⟩ false = false →
    Completes (.stageRecord h p) s (fun m => ∃ n, n = accept h 0x0202 false s.m ∧
      m = reply h stOk 0 [] { n with svc.staged := stagedWith n ⟨fieldAt p 0 2, p.drop 4⟩ false })) ∧
  (∀ (s : State) (h : Hdr), Served s.m h lvMaint → h.p0 = 0 → h.p1 = 0 → h.p2 = 0 → h.p3 = 0 → mayCommit s.m = true →
    Does (.settingsCommit h) s (askCommit (some h) false (accept h 0x0203 false s.m))) ∧
  (∀ (s : State) (c : Commit), s.m.svc.commit = some c →
    Completes (.commitComplete true) s (fun m => ∃ n, n = commitDone c { s.m with svc.commit := none } ∧ m = shutTail (startCommits n.svc.commitQueue.length n))) ∧
  (∀ (s : State) (c : Commit), s.m.svc.commit = some c → c.req = none →
    Completes (.commitComplete false) s (fun m => ∃ n, n = commitFailed { s.m with svc.commit := none } ∧ m = shutTail (startCommits n.svc.commitQueue.length n))) ∧
  (∀ (s : State), adaptiveDue s.m = true → mayCommit s.m = true → s.m.sup.bankInUse.isSome = true → s.m.sup.noRecords = false → s.m.sup.mode ≠ .off →
    Does .adaptiveCommit s (askCommit none false { s.m with svc.lastAdaptAt := s.m.sup.opSec })) ∧
  (∀ (s : State) (who : Transport) (ref : Reg) (page : IdPage), s.m.sup.mode = .service → s.m.hda.page = none → norUsable s.m = true →
    s.m.svc.sessions.any (fun x => x.ref == ref && x.who == who && x.level == lvFactory) = true →
    Does (.identityPageProgram who ref page) s { s.m with hda.page := some page })

/-- The carriers of service requests and the sessions (R905 to R924, Tables 18-3 and 18-4): each command completes with its own effect. -/
def Obligations.CarrierAndSessionEffects : Prop :=
  (∀ (s : State) (c : NvCmd) (numd : BitVec 32) (bytes : List Byte), Admits s.m c →
    Completes (.serviceRequestSubmit c numd bytes) s (fun m => ∃ bs r, bs = dwords numd.toNat bytes ∧
      r = takeRequest (.nvme c.cntlid) (nvmeLenOk numd.toNat bs) bs (Decoded c s.m) ∧ m = finishWith c r.2 [] (onCtx c (fun x => { x with
        svcTag := if r.2 = 0 then some (reqHdr (.nvme c.cntlid) bs).tag else none }) r.1))) ∧
  (∀ (s : State) (c : NvCmd) (numd tag : BitVec 32) (o : OutReq) (r : Reply), Admits s.m c →
    s.m.svc.out.find? (fun o => o.names (.nvme c.cntlid) tag) = some o → o.reply = some r → 16 + r.data.length ≤ 4 * numd.toNat →
    Does (.serviceReplyRetrieve c numd tag) s (finishWith c 1 (replyBytes o.opcode tag r) (dropReq (.nvme c.cntlid) tag (Decoded c s.m)))) ∧
  (∀ (s : State) (c : NvCmd) (numd tag : BitVec 32) (o : OutReq), Admits s.m c →
    s.m.svc.out.find? (fun o => o.names (.nvme c.cntlid) tag) = some o → o.reply = none →
    Does (.serviceReplyRetrieve c numd tag) s (finishWith c 0 [] (Decoded c s.m))) ∧
  (∀ (s : State) (bytes : List Byte), Does (.mctpRequest Config.vid 1 true bytes) s
    (takeRequest .mctp (bytes.length == 32 + reqPlen bytes) bytes s.m).1) ∧
  (∀ (s : State) (bytes : List Byte), s.m.sup.mode = .service → Does (.uartFrame bytes) s
    (uartServe (s.m.svc.uartBuf.length + bytes.length) { s.m with svc.uartBuf := s.m.svc.uartBuf ++ bytes })) ∧
  (∀ (s : State), s.m.svc.uartBuf ≠ [] → Does .uartByteGapTimeout s { s.m with svc.uartBuf := [], svc.uartErr := s.m.svc.uartErr.inc }) ∧
  (∀ (s : State) (id : BitVec 16) (tag : BitVec 32) (o : OutReq),
    s.m.svc.out.find? (fun o => o.names (.nvme id) tag && o.reply.isSome && decide (o.readyAt.toNat + 60 ≤ s.m.sup.opSec.toNat)) = some o →
    Does (.replyDiscard id tag) s (report 0x0042 nowhere (leBytes 2 id.toNat ++ leBytes 4 tag.toNat ++ leBytes 2 o.opcode.toNat)
      (dropReq (.nvme id) tag { s.m with svc.replyDrop := s.m.svc.replyDrop.inc }))) ∧
  (∀ (s : State) (h : Hdr), Served s.m h lvHost → h.p1 = 0 → h.p2 = 0 → h.p3 = 0 → (h.p0 = 1 ∨ h.p0 = 2) → factoryBarred s.m h.p0.toNat = false →
    Completes (.authChallenge h) s (fun m => ∃ r, r = giveChallenge h.who false h.p0.toNat (accept h 0x0106 false s.m) ∧ m = reply h stOk 0 r.2 r.1)) ∧
  (∀ (s : State) (h : Hdr) (proof : List Byte) (c : Challenge) (k : List Byte), Served s.m h lvHost → h.p1 = 0 → h.p2 = 0 → h.p3 = 0 →
    (h.p0 = 1 ∨ h.p0 = 2) → factoryBarred s.m h.p0.toNat = false → lockedOut s.m h.who = false →
    challengeFor s.m h.who false h.p0.toNat = some c → credKey s.m h.p0.toNat = some k → s.m.svc.sessions.length < 8 →
    proof = leBytes 32 (Config.hmacSha256 k (c.bytes ++ leBytes 1 h.p0.toNat)).toNat →
    Completes (.authOpen h proof) s (fun m => ∃ n r, n = dropChallenge h.who false h.p0.toNat (accept h 0x0107 false s.m) ∧ r = newRef n ∧
      m = reply h stOk 0 (leBytes 4 r.toNat) { drew n with svc.sessions := n.svc.sessions ++ [⟨r, h.p0.toNat, h.who, n.sup.opSec⟩] })) ∧
  (∀ (s : State) (h : Hdr), Served s.m h lvHost → h.p1 = 0 → h.p2 = 0 → h.p3 = 0 →
    (accept h 0x0108 false s.m).svc.sessions.any (fun x => x.ref == h.p0 && x.who == h.who) = true →
    Completes (.authClose h) s (fun m => ∃ n, n = accept h 0x0108 false s.m ∧
      m = reply h stOk 0 [] { n with svc.sessions := n.svc.sessions.filter (fun x => x.ref != h.p0) })) ∧
  (∀ (s : State) (ref : BitVec 32), Does (.sessionIdleClose ref) s { s.m with svc.sessions := s.m.svc.sessions.filter (fun x =>
    !(x.ref == ref && decide (x.lastUse.toNat + 600 ≤ s.m.sup.opSec.toNat))) }) ∧
  (∀ (s : State) (who : Transport), Does (.authLockoutEnd who) s { s.m with svc.lockouts := s.m.svc.lockouts.filter (fun l =>
    !(l.1 == who && decide (l.2.toNat + 60 ≤ s.m.sup.opSec.toNat))) })

/-- The module and diagnostic requests (R182 to R185, R202 to R206, R929 to R936, R979, Tables 4-3, 18-6 and 18-7): each completes with its own
effect. -/
def Obligations.ModuleRequestEffects : Prop :=
  (∀ (s : State) (h : Hdr), Served s.m h lvHost → h.p0 = 0 → h.p1 = 0 → h.p2 = 0 → h.p3 = 0 → norUsable s.m = true →
    Completes (.identifyModule h) s (fun m => ∃ n, n = accept h 0x0101 false s.m ∧ m = reply h stOk 0 (identity n) n)) ∧
  (∀ (s : State) (h : Hdr), Served s.m h lvHost → h.p0 = 0 → h.p1 = 0 → h.p2 = 0 → h.p3 = 0 →
    Completes (.getMode h) s (fun m => ∃ n, n = accept h 0x0102 false s.m ∧
      m = reply h stOk 0 (regBytes [supModeReg n, supBootReg n, supBoottimeReg n, supShutReg n, supSafecauseReg n]) n)) ∧
  (∀ (s : State) (h : Hdr), Served s.m h lvHost → h.p0 = 0 → h.p1 = 0 → h.p2 = 0 → h.p3 = 0 →
    Completes (.getHealth h) s (fun m => ∃ n, n = accept h 0x0105 false s.m ∧
      m = reply h stOk 0 (regBytes [supModeReg n, supBootReg n, pwrStatusReg n.pwr, vltStatusReg n, bcmStatusReg n, zmgStatusReg n, zmgCellarReg n,
        feStatusReg n, dsvStatusReg n, calStatusReg n] ++ n.evr.summary) (alertServed h n))) ∧
  (∀ (s : State) (h : Hdr) (t : Mode), Served s.m h (modeLevel h.p0) → modeBarred (accept h 0x0103 false s.m) h = false → modeTarget h.p0 = some t →
    h.p1 = 0 → h.p2 = 0 → h.p3 = 0 → t ≠ .standby → t ≠ .safe →
    Completes (.setMode h) s (fun m => ∃ n, n = abortModes (accept h 0x0103 false s.m) ∧
      m = takeTarget t { spnResume { n with spn.halted := false } with sup.modeReqs := [(h, t)] })) ∧
  (∀ (s : State) (h : Hdr), Served s.m h (modeLevel h.p0) → modeBarred (accept h 0x0103 false s.m) h = false → modeTarget h.p0 = some .safe →
    h.p1 = 0 → h.p2 = 0 → h.p3 = 0 →
    Does (.setMode h) s (takeTarget .safe { abortModes (accept h 0x0103 false s.m) with sup.modeReqs := [(h, .safe)] })) ∧
  (∀ (s : State) (h : Hdr) (c : BitVec 16), Served s.m h (modeLevel h.p0) → modeBarred (accept h 0x0103 false s.m) h = false →
    modeTarget h.p0 = some .standby → h.p1 = 0 → h.p2 = 0 → h.p3 = 0 → h.who = .nvme c →
    Does (.setMode h) s (takeTarget .standby (reply h stOk 0 [] (abortModes (accept h 0x0103 false s.m))))) ∧
  (∀ (s : State) (h : Hdr), Served s.m h lvMaint → h.p1 = 0 → h.p2 = 0 → h.p3 = 0 → h.p0 = 0xFF → s.m.sup.mode ≠ .standby →
    Does (.resetGroup h) s (awaitReset h 255 (startShutdown .resetGroup { accept h 0x0104 false s.m with sup.afterReset := none }))) ∧
  (∀ (s : State) (h : Hdr), Served s.m h lvMaint → h.p1 = 0 → h.p2 = 0 → h.p3 = 0 → h.p0 = 7 →
    Does (.resetGroup h) s (requestActReset .a0 (awaitReset h 7 (accept h 0x0104 false s.m)))) ∧
  (∀ (s : State) (h : Hdr), Served s.m h lvMaint → h.p1 = 0 → h.p2 = 0 → h.p3 = 0 → h.p0 = 8 →
    Does (.resetGroup h) s (requestActReset .a1 (awaitReset h 8 (accept h 0x0104 false s.m)))) ∧
  (∀ (s : State) (h : Hdr) (p : Act), Served s.m h lvMaint → h.p1 = 0 → h.p2 = 0 → h.p3 = 0 → h.p0 = BitVec.ofNat 32 (5 + p.idx) →
    carriedBy s.m h p = false →
    Does (.resetGroup h) s (resetPort p (awaitReset h (5 + p.idx) (accept h 0x0104 false s.m)))) ∧
  (∀ (s : State) (h : Hdr) (p : Act), Served s.m h lvMaint → h.p1 = 0 → h.p2 = 0 → h.p3 = 0 → h.p0 = BitVec.ofNat 32 (5 + p.idx) →
    carriedBy s.m h p = true →
    Does (.resetGroup h) s (resetPort p (reply h stOk 0 [] (accept h 0x0104 false s.m)))) ∧
  (∀ (s : State) (h : Hdr), Served s.m h lvMaint → h.p1 = 0 → h.p2 = 0 → h.p3 = 0 → h.p0 = BitVec.ofNat 32 (3 + s.m.fe.active.other.idx) →
    Does (.resetGroup h) s (reply h stOk 0 [] (accept h 0x0104 false s.m))) ∧
  (∀ (s : State) (h : Hdr), Served s.m h lvHost → h.p0 = 0 → h.p1 = 0 → h.p2 = 0 → h.p3 = 0 →
    Completes (.diagCrossStatus h) s (fun m => ∃ n, n = accept h 0x0E03 false s.m ∧ m = reply h stOk 0 (n.clk.crossings.flatMap (crossBytes n)) n)) ∧
  (∀ (s : State) (h : Hdr) (e f : BitVec 64), Served s.m h lvMaint → s.m.sup.mode = .service → h.p3 = 0 → h.p0.toNat ≤ 2 → h.p1.toNat ≤ 2 →
    memtestBusy s.m h.p0.toNat = false →
    Does (.diagMemtest h e f) s (reply h stOk 0 (leBytes 8 e.toNat ++ leBytes 8 (if e = 0 then BitVec.allOnes 64 else f).toNat)
      (memtestMend h.p0.toNat (memtestClear h.p0.toNat (accept h 0x0E01 false s.m))))) ∧
  (∀ (s : State) (h : Hdr) (r : Nat), Served s.m h lvMaint → s.m.sup.mode = .service → injectOk h = true → h.p0 = 2 →
    r = h.p1.toNat + 2 ^ 32 * h.p2.toNat →
    Does (.diagEccInject h) s (reply h stOk 0 [] (injectRow .a0 r (bit h.p3 16) (injectMask h.p3) (accept h 0x0E02 false s.m)))) ∧
  (∀ (s : State) (h : Hdr) (w : Nat), Served s.m h lvMaint → s.m.sup.mode = .service → injectOk h = true → h.p0 = 0 → bit h.p3 16 = false →
    w = (h.p1.toNat + 2 ^ 32 * h.p2.toNat) / 8 →
    Does (.diagEccInject h) s (reply h stOk 0 [] (putWordBits w ((wordBits s.m w).1 ^^^ BitVec.ofNat 64 (injectMask h.p3)) (wordBits s.m w).2
      (accept h 0x0E02 false s.m))))

/-- The register space (R20, R931 to R934): reads, masked writes and the low word of a counter. -/
def Obligations.RegisterAccessEffects : Prop :=
  (∀ (s : State) (h : Hdr), Served s.m h lvHost → h.p2 = 0 → h.p3 = 0 → h.p1 ≠ 0 → h.p1.toNat ≤ 256 → badRange h.p0.toNat h.p1.toNat = false →
    Completes (.regRead h) s (fun m => ∃ r, r = readRegs h.p0.toNat h.p1.toNat (accept h 0x0D01 false s.m) ∧ m = reply h stOk 0 (regBytes r.1) r.2)) ∧
  (∀ (s : State) (h : Hdr) (acks : List Ack), Served s.m h lvMaint → h.p3 = 0 → badRange h.p0.toNat 1 = false →
    Completes (.regWrite h acks) s (fun m => ∃ r, r = readReg h.p0.toNat (writeReg acks h.p0.toNat h.p1 h.p2 (accept h 0x0D02 false s.m)) ∧
      m = reply h stOk 0 (regBytes [r.1]) r.2)) ∧
  (∀ (s : State) (addr : BitVec 24), Does (.counterLowRead addr) s (readReg addr.toNat s.m).2)

/-- Admin commands on namespaces, identification, logs and firmware (R222 to R224, R241, R605 to R610, R865, R870, R871, R980): each
completes with its own effect; log entries 50, 73 to 76. -/
def Obligations.AdminCommandEffects : Prop :=
  (∀ (s : State) (c : NvCmd) (nsid : BitVec 32) (lbaf : BitVec 6) (pit : BitVec 3) (ids : List Nat) (ok : Bool) (h : Mach), Waits s.m c →
    ids = namedNss s.m nsid → ids ≠ [] → lbaf.toNat ≤ 2 → pit.toNat ≤ 3 → (lbaf = 0 → pit = 0) →
    h = Waiting c 1 s.m → (∀ i ∈ ids, execNvmeFormatNvm.nsBusyNow h i = false) →
    Does (.nvmeFormatNvm c nsid lbaf pit 0 [] ok) s (finish c .success (commitCtx c (setFormat ids lbaf.toNat pit.toNat
      (ids.foldl (fun m i => emptyNs i m) (ids.foldl (fun m i => (invalidate i (fun _ => true) m).1) h)))))) ∧
  (∀ (s : State) (c : NvCmd) (nsid : BitVec 32) (lbaf : BitVec 6) (pit ses : BitVec 3) (keys : List (BitVec 512)) (ids rs : List Nat) (h : Mach),
    Waits s.m c → ses.toNat = 1 ∨ ses.toNat = 2 → ids = namedNss s.m nsid → rs = rangesOfAll s.m ids → ids ≠ [] → lbaf.toNat ≤ 2 → pit.toNat ≤ 3 →
    (lbaf = 0 → pit = 0) → h = holdRanges c rs (Waiting c 1 s.m) → rangeBusy h rs = false → (∀ i ∈ ids, execNvmeFormatNvm.nsBusyNow h i = false) →
    noCommit h = true → enoughKeys keys rs.length = true → mayCommit h = true →
    Does (.nvmeFormatNvm c nsid lbaf pit ses keys true) s (freeRanges c (finish c .success (commitCtx c (setFormat ids lbaf.toNat pit.toNat
      (wipeNss ids (eraseRanges keys rs true id h))))))) ∧
  (∀ (s : State) (c : NvCmd) (pattern : BitVec 32) (keys : List (BitVec 512)) (ids rs : List Nat) (h : Mach), Waits s.m c →
    ids = s.m.zmg.maps.nss.map (fun n => n.nsid) → rs = rangesOfAll s.m ids → h = holdRanges c rs (Waiting c 2 s.m) → rangeBusy h rs = false →
    noCommit h = true → enoughKeys keys rs.length = true → mayCommit h = true →
    Does (.nvmeSanitize c 4 pattern keys true) s (freeRanges c (finish c .success (commitCtx c (wipeNss ids (eraseRanges keys rs true id h)))))) ∧
  (∀ (s : State) (c : NvCmd) (nsid : BitVec 32) (csi kind : Byte) (size : BitVec 64) (fmt : BitVec 4) (pit : BitVec 3) (k : NsKind) (i : Nat) (n : Mach),
    Waits s.m c → s.m.zmg.mapsOk = true → kindOf csi kind = some k → pit.toNat ≤ 3 →
    createNs k size.toNat fmt.toNat pit.toNat (Waiting c 3 s.m) = (.success, i, n) →
    Does (.nvmeNamespaceManagement c true nsid csi kind size fmt pit) s (finishWith c i [] (commitCtx c n))) ∧
  (∀ (s : State) (c : NvCmd) (nsid : BitVec 32) (csi kind : Byte) (size : BitVec 64) (fmt : BitVec 4) (pit : BitVec 3) (ids : List Nat),
    Waits s.m c → s.m.zmg.mapsOk = true → ids = namedNss s.m nsid → ids ≠ [] → (∀ i ∈ ids, columnsOf (Waiting c 3 s.m) i = []) →
    (∀ i ∈ ids, nsBusy (Waiting c 3 s.m) i = false) →
    Does (.nvmeNamespaceManagement c false nsid csi kind size fmt pit) s
      (finish c .success (commitCtx c (ids.foldl (fun m i => deleteNs i m) (Waiting c 3 s.m))))) ∧
  (∀ (s : State) (c : NvCmd) (nsid : BitVec 32) (attach : Bool) (id : BitVec 16) (n : Ns) (k : Ctrlr), Admits s.m c → nsOf s.m nsid.toNat = some n →
    s.m.fe.ctrls.find? (fun k => k.cntlid == id) = some k → (attach = true → isParity s.m n.nsid = false) → n.att.get k.port = !attach →
    Does (.nvmeNamespaceAttachment c nsid attach [id]) s (finish c .success (commitCtx c (saveMaps { Decoded c s.m with
      zmg.maps.nss := s.m.zmg.maps.nss.map (fun x => if x.nsid = n.nsid then { x with att := x.att.upd k.port (fun _ => attach) } else x) })))) ∧
  (∀ (s : State) (c : NvCmd) (nsid : BitVec 32) (csi : Byte), Admits s.m c →
    Does (.nvmeIdentify c 1 nsid csi) s (finishWith c 0 (identCtrl (Decoded c s.m) c) (Decoded c s.m))) ∧
  (∀ (s : State) (c : NvCmd) (offset : BitVec 64) (numd : BitVec 32), Admits s.m c →
    Does (.nvmeGetLogPage c 0x0D offset numd) s (finishWith c 0
      ((((eventLog s.m).drop offset.toNat) ++ List.replicate (4 * (numd.toNat + 1)) 0).take (4 * (numd.toNat + 1))) (Decoded c s.m))) ∧
  (∀ (s : State) (c : NvCmd) (offset : BitVec 32) (bytes : List Byte), Admits s.m c → bytes ≠ [] → bytes.length % 4 = 0 →
    Does (.nvmeFirmwareImageDownload c offset bytes) s (finish c .success { Decoded c s.m with
      sup.fwBuf := overlay (4 * offset.toNat) bytes (s.m.sup.fwBuf ++ List.replicate (4 * offset.toNat - s.m.sup.fwBuf.length) 0) })) ∧
  (∀ (s : State) (c : NvCmd) (slot : BitVec 3) (a : Act) (f : FwSlot), Admits s.m c → fwTarget s.m slot = some a → f = Config.parseFw s.m.sup.fwBuf →
    Does (.nvmeFirmwareCommit c slot 0) s (
      if !f.sigOk || s.m.id.revoked.getLsbD f.key.toNat then
        finish c .invalidFirmwareImage (report 0x1110 nowhere (leBytes 1 f.key.toNat ++ leBytes 1 (a.idx + 1)) (Decoded c s.m))
      else if f.svn.toNat < s.m.id.minSvn.toNat then
        finish c .invalidFirmwareImage (report 0x1111 nowhere (leBytes 1 f.svn.toNat ++ leBytes 1 s.m.id.minSvn.toNat) (Decoded c s.m))
      else finish c .success (commitCtx c { Decoded c s.m with sup.fw := s.m.sup.fw.upd a (fun _ => some f), sup.fwBuf := [] }))) ∧
  (∀ (s : State) (c : NvCmd) (slot : BitVec 3) (a : Act), Admits s.m c → fwTarget s.m slot = some a → (s.m.sup.fw.get a).isSome = true →
    Does (.nvmeFirmwareCommit c slot 2) s (finish c .success (commitCtx c { Decoded c s.m with sup.fwActive := a }))) ∧
  (∀ (s : State) (c : NvCmd) (stc : BitVec 4), Admits s.m c → stc = 1 ∨ stc = 2 ∨ stc = 15 →
    Does (.nvmeDeviceSelfTest c stc) s (finish c .success (Decoded c s.m)))

/-- Sessions and methods of Opal (R855, R857, R859 to R866): each completes with its own effect; log entry 60. -/
def Obligations.OpalMethodEffects : Prop :=
  (∀ (s : State) (c : NvCmd) (locking : Bool), Admits s.m c → s.m.dsv.sess = none → (locking = true → s.m.dsv.opal.active = true) →
    Does (.nvmeSecuritySend c 1 (.start locking)) s (answer c tcgOk [] { Decoded c s.m with dsv.sess := some ⟨c.cntlid, locking, []⟩ })) ∧
  (∀ (s : State) (c : NvCmd) (x : OpalSess), Admits s.m c → sessOf s.m c = some x →
    Does (.nvmeSecuritySend c 1 .stop) s (answer c tcgOk [] { Decoded c s.m with dsv.sess := none })) ∧
  (∀ (s : State) (c : NvCmd) (r : BitVec 16 × List Byte), Admits s.m c → s.m.dsv.resp.find? (fun x => x.1 == c.cntlid) = some r →
    Does (.nvmeSecurityReceive c 1) s (finishWith c 0 r.2 { Decoded c s.m with dsv.resp := s.m.dsv.resp.filter (fun x => x.1 != c.cntlid) })) ∧
  (∀ (s : State) (c : NvCmd), Waits s.m c → provedIn s.m c false (fun a => a == 0) = true → s.m.dsv.opal.active = false → noCommit s.m = true →
    Does (.opalActivate c true) s (opalChange c true (fun o => { o with
      active := true, pins := o.pins.filter (fun p => p.1 != 3) ++ [(3, (pinOf (Waiting c 10 s.m) 0).getD [])] }) (Waiting c 10 s.m))) ∧
  (∀ (s : State) (c : NvCmd) (keys : List (BitVec 512)) (h : Mach) (psid : Bool), Waits s.m c → psid = !provedIn s.m c false (fun a => a == 0) →
    provedIn s.m c false (fun a => a == 0 || a == 2) = true → h = holdRanges c (List.range 16) (Waiting c (if psid then 12 else 11) s.m) →
    rangeBusy h (List.range 16) = false → noCommit h = true → enoughKeys keys 16 = true → mayCommit h = true →
    Does (.opalRevert c keys true) s (freeRanges c (answer c tcgOk [] (commitCtx c (report 0x1122 nowhere (leBytes 1 (if psid then 2 else 1))
      { wipeNss (s.m.zmg.maps.nss.map (fun n => n.nsid)) (eraseRanges keys (List.range 16) true
          (fun o => manufactured (fun i => (o.ranges.getD i {}).key)) h) with dsv.sess := none }))))) ∧
  (∀ (s : State) (c : NvCmd) (keys : List (BitVec 512)) (h : Mach), Waits s.m c →
    provedIn s.m c true isLockAdmin = true ∨ provedIn s.m c false (fun a => a == 0) = true → h = holdRanges c (List.range 16) (Waiting c 13 s.m) →
    rangeBusy h (List.range 16) = false → noCommit h = true → enoughKeys keys 16 = true → mayCommit h = true →
    Does (.opalRevertsp c keys true) s (freeRanges c (answer c tcgOk [] (commitCtx c (report 0x1122 nowhere (leBytes 1 1)
      { wipeNss (s.m.zmg.maps.nss.map (fun n => n.nsid)) (eraseRanges keys (List.range 16) true
          (fun o => manufactured (fun i => (o.ranges.getD i {}).key)) h) with dsv.sess := none }))))) ∧
  (∀ (s : State) (c : NvCmd) (range : BitVec 4) (keys : List (BitVec 512)) (h : Mach), Waits s.m c → provedIn s.m c true isLockAdmin = true →
    h = holdRanges c [range.toNat] (Waiting c 14 s.m) → rangeBusy h [range.toNat] = false → noCommit h = true → enoughKeys keys 1 = true →
    mayCommit h = true →
    Does (.opalGenkey c range keys true) s (freeRanges c (answer c tcgOk [] (commitCtx c (eraseRanges keys [range.toNat] true id h))))) ∧
  (∀ (s : State) (c : NvCmd) (range : BitVec 4) (keys : List (BitVec 512)) (h : Mach), Waits s.m c → provedIn s.m c true isLockAdmin = true →
    h = holdRanges c [range.toNat] (Waiting c 15 s.m) → rangeBusy h [range.toNat] = false → noCommit h = true → enoughKeys keys 1 = true →
    mayCommit h = true →
    Does (.opalErase c range keys true) s (freeRanges c (answer c tcgOk [] (commitCtx c (eraseRanges keys [range.toNat] true id h))))) ∧
  (∀ (s : State) (c : NvCmd) (what : OpalGet), Admits s.m c → mayGet (Decoded c s.m) c what = true →
    Does (.opalGet c what) s (answer c tcgOk (getValue (Decoded c s.m) what) (Decoded c s.m))) ∧
  (∀ (s : State) (c : NvCmd) (what : OpalSet) (h : Mach), Waits s.m c → h = Waiting c 16 s.m → maySet h c what = true → setValid h what = true →
    noCommit h = true → Does (.opalSet c what true) s (opalChange c true (applySet what) h)) ∧
  (∀ (s : State) (c : NvCmd) (auth : BitVec 5) (proof : List Byte) (x : OpalSess), Admits s.m c → sessOf s.m c = some x →
    (if x.locking then ofLocking auth.toNat else ofAdmin auth.toNat) = true → authOn s.m auth.toNat = true →
    assoc 0 s.m.dsv.tries auth.toNat < tryLimit s.m → provesPin s.m auth.toNat proof = true →
    Does (.opalAuthenticate c auth proof) s (answer c tcgOk [] { Decoded c s.m with
      dsv.sess := some { x with auths := nubList (x.auths ++ [auth.toNat]) }, dsv.tries := assocSet 0 s.m.dsv.tries auth.toNat 0 })) ∧
  (∀ (s : State) (c : NvCmd) (count : BitVec 16) (x : OpalSess), Admits s.m c → sessOf s.m c = some x →
    Does (.opalRandom c count) s (answer c tcgOk (randomBytes count.toNat (Decoded c s.m)).1 (randomBytes count.toNat (Decoded c s.m)).2))

/-- Timers, frames and messages of the Zhetar group protocol (R875 to R881, R885, R887, R888, R890, R891, R897, R900, R902): each completes with its
own effect; log entries 70 and 71. -/
def Obligations.GroupProtocolEffects : Prop :=
  (∀ (s : State), s.m.dsv.joined = true → frozen s.m = false →
    Does .zgpHello s (s.m.dsv.peers.foldl (fun (m : Mach) (p : Peer) =>
      if m.dsv.log.any (fun l => l.dst == p.num && l.msg == .hello) then { m with dsv.zgpTx := m.dsv.zgpTx.inc } else sendZ p.num .hello none m) s.m)) ∧
  (∀ (s : State) (peer : BitVec 16) (k : Mach), k = peerDown peer.toNat s.m → k.dsv.creation = none → Does (.zgpPeerTimeout peer) s (zgpFlow k)) ∧
  (∀ (s : State) (peer : BitVec 16) (k : Mach) (x : Creation) (p : Peer), k = peerDown peer.toNat s.m → k.dsv.creation = some x →
    x.left.contains peer.toNat = true → peerOf k peer.toNat = some p → p.down = true → Does (.zgpPeerTimeout peer) s (zgpFlow (creationFails k))) ∧
  (∀ (s : State) (dom : BitVec 64) (epoch : BitVec 32) (src dst : BitVec 16) (seq ack : BitVec 32) (msg : ZMsg) (p q : Peer) (k : Mach),
    s.m.dsv.joined = true → dom = s.m.dsv.domain → src.toNat ≠ s.m.dsv.module → peerOf s.m src.toNat = some p → newer p.epoch epoch = false →
    dst.toNat = s.m.dsv.module →
    k = ackLog p.num ack (peerUp p.num (if newer epoch p.epoch then onPeer p.num (fun p => { p with epoch := epoch, d := none, held := [] }) s.m else s.m)) →
    peerOf k p.num = some q →
    Does (.zgpFrameReceive true dom epoch src dst seq ack msg) s (zgpFlow (if msg == .ack then k else takeFrame17 q seq msg k))) ∧
  (∀ (s : State) (a : Bool) (dom : BitVec 64) (epoch : BitVec 32) (src dst : BitVec 16) (seq ack : BitVec 32) (msg : ZMsg), s.m.dsv.joined = true →
    (a = false ∨ dom ≠ s.m.dsv.domain) →
    Does (.zgpFrameReceive a dom epoch src dst seq ack msg) s { s.m with dsv.zgpAuth := s.m.dsv.zgpAuth.inc }) ∧
  (∀ (s : State) (dst : BitVec 16) (seq : BitVec 32) (hit : Logged → Bool),
    hit = (fun l => l.dst == dst.toNat && l.seq == seq && decide (l.again < setting s.m 0x1102 6 1 8)) → s.m.dsv.log.any hit = true → frozen s.m = false →
    Does (.zgpRetransmit dst seq) s { s.m with
      dsv.log := s.m.dsv.log.map (fun l => if hit l then { l with again := l.again + 1 } else l), dsv.zgpTx := s.m.dsv.zgpTx.inc }) ∧
  (∀ (s : State) (src : BitVec 16) (ack : BitVec 32) (ok : Bool), (peerOf s.m src.toNat).isSome = true →
    Does (.zgpAck src ack ok) s (rebuildsEnd ok (zgpFlow (ackLog src.toNat ack s.m)))) ∧
  (∀ (s : State) (src : Nat) (seq gid : BitVec 32) (col lba : Nat) (ds : List (BitVec 32768 × BitVec 128)) (g : Group_) (n : Mach),
    nextMsg s.m ZMsg.isParity = some (src, seq, .parity gid col lba ds) → groupOf s.m gid = some g →
    foldParity g col (ds.zipIdx.map (fun d => (lba + d.2, d.1))) s.m = some n →
    Does .zgpParityUpdate s (inboxDone (src, seq, .parity gid col lba ds) n)) ∧
  (∀ (s : State) (src k p c : Nat) (seq gid : BitVec 32) (fresh ok : Bool) (cols : List (Nat × Nat)) (g : Group_),
    nextMsg s.m ZMsg.isGroup = some (src, seq, .groupDef gid k p c fresh cols) → s.m.svc.commit = none →
    g = { index := 0, gid := gid, k := k, m := p, c := c, cols := cols, excepts := [], told := 0 } →
    Does (.zgpGroupDef ok) s (inboxDone (src, seq, .groupDef gid k p c fresh cols) (
      if memberRefuses s.m g then sendZ src (.groupAns gid false) none s.m
      else sendZ src (.groupAns gid (takeGroup g fresh ok s.m).2) none (takeGroup g fresh ok s.m).1))) ∧
  (∀ (s : State) (src : Nat) (seq gid : BitVec 32) (yes ok : Bool) (x : Creation) (n : Mach), nextMsg s.m ZMsg.isGroup = some (src, seq, .groupAns gid yes) →
    n = inboxDone (src, seq, .groupAns gid yes) s.m → s.m.dsv.creation = some x → x.grp.gid = gid →
    Does (.zgpGroupDef ok) s (if yes then creationGoes src n else creationFails n)) ∧
  (∀ (s : State) (src : Nat) (seq gid : BitVec 32) (excepts assigned : List Override), nextMsg s.m ZMsg.isState = some (src, seq, .state gid excepts assigned) →
    Does .zgpState s (zgpFlow (changeGroup gid (fun g => excepts.foldl Group_.merge (assigned.foldl Group_.take g)) []
      (inboxDone (src, seq, .state gid excepts assigned) s.m)))) ∧
  (∀ (s : State) (src col row : Nat) (seq gid : BitVec 32) (g : Group_), nextMsg s.m ZMsg.isRead = some (src, seq, .reconRead gid col row) →
    groupOf s.m gid = some g → g.holderAt col (row * rowLbas) = s.m.dsv.module →
    Does .zgpReconRead s ((List.range rowLbas).foldl (fun (m : Mach) i =>
      sendZ src (.reconData gid col (row * rowLbas + i) [plainOf m (g.place col (row * rowLbas + i)).1 (g.place col (row * rowLbas + i)).2]) none m)
      (inboxDone (src, seq, .reconRead gid col row) s.m))) ∧
  (∀ (s : State) (src col lba : Nat) (seq gid : BitVec 32) (secs : List (BitVec 32768 × BitVec 128)) (ok : Bool) (g : Group_) (w : Mach × Nat),
    nextMsg s.m ZMsg.isData = some (src, seq, .reconData gid col lba secs) → groupOf s.m gid = some g → g.holderAt col lba = s.m.dsv.module →
    w = putRow g col (secs.zipIdx.map (fun d => (lba + d.2, d.1))) 0 s.m → secs.length ≤ w.2 →
    Does (.zgpReconData ok) s (zgpFlow (inboxDone (src, seq, .reconData gid col lba secs) w.1))) ∧
  (∀ (s : State) (src col lba : Nat) (seq gid : BitVec 32) (secs : List (BitVec 32768 × BitVec 128)) (ok : Bool) (g : Group_)
      (xs : List (Nat × BitVec 32768 × BitVec 128)), nextMsg s.m ZMsg.isData = some (src, seq, .reconData gid col lba secs) → groupOf s.m gid = some g →
    g.holderAt col lba ≠ s.m.dsv.module → xs = secs.zipIdx.map (fun d => (lba + d.2, d.1)) →
    Does (.zgpReconData ok) s (rebuildsEnd ok (zgpFlow (inboxDone (src, seq, .reconData gid col lba secs) { s.m with
      dsv.rebuilds := s.m.dsv.rebuilds.map (fun r =>
        if r.gid == gid && r.asked.contains col && (r.rows.head?.map (fun x => x.2 == lba / rowLbas)).getD false then
          { r with got := r.got.filter (fun y => !(y.1 == col && xs.any (fun q => q.1 == y.2.1))) ++ xs.map (fun q => (col, q.1, q.2)) } else r) }))))

/-- The peer-group requests (R6, R873, R874, R878, R882, R883, R887, R898 to R902, Table 17-6): each completes with its own effect, and
IXD-5260-S0 answers NOT_PRESENT. -/
def Obligations.GroupRequestEffects : Prop :=
  (∀ (s : State) (h : Hdr) (ok : Bool), Served s.m h lvMaint → s.m.id.variant ≠ .s0 → h.p3 = 1 → s.m.dsv.groups = [] → s.m.dsv.creation = none →
    s.m.svc.commit = none →
    Completes (.zgpDomainJoin h [] ok) s (fun m => ∃ n, n = accept h 0x0B01 false s.m ∧
      m = reply h (if commitOk n ok then stOk else stHwFault) 0 [] (changeRecs [0x1182] zgpRecs (commitOk n ok) (fun m => { m with
        dsv.log := [], dsv.inbox := [], dsv.rebuilds := [], dsv.rowsDone := [], dsv.joined := false, dsv.module := 0, dsv.domain := 0, dsv.domKey := []
        dsv.peers := m.dsv.peers.map (fun p => { p with up := false, down := false, held := [] }) }) n))) ∧
  (∀ (s : State) (h : Hdr) (payload : List Byte) (ok : Bool) (t : List (Nat × Nat × Nat)), Served s.m h lvMaint → s.m.id.variant ≠ .s0 → h.p3 = 0 →
    t = tableOf payload → payload.length = 32 + 20 * t.length → t.length ≤ 512 → h.p0.toNat ≤ 511 →
    t.any (fun x => decide (511 < x.1) || x.2.1 != 0) = false → (nubList (t.map (fun x => x.1))).length = t.length → zgpPort s.m = true →
    s.m.dsv.groups = [] → s.m.dsv.creation = none → s.m.sup.pcycle ≠ 0xFFFFFFFF → s.m.svc.commit = none →
    Completes (.zgpDomainJoin h payload ok) s (fun m => ∃ n, n = accept h 0x0B01 false s.m ∧
      m = reply h (if commitOk n ok then stOk else stHwFault) 0 [] (changeRecs [0x1182] zgpRecs (commitOk n ok) (fun m => { m with
        dsv.log := [], dsv.inbox := [], dsv.rebuilds := [], dsv.rowsDone := [], dsv.joined := true, dsv.module := h.p0.toNat
        dsv.domain := h.p2 ++ h.p1, dsv.domKey := payload.take 32
        dsv.peers := (t.filter (fun x => x.1 != h.p0.toNat)).map (fun x => { num := x.1, addr := BitVec.ofNat 128 x.2.2
                                                                             next := ((m.dsv.peers.find? (fun p => p.num == x.1)).map (fun p => p.next)).getD 0 : Peer }) }) n))) ∧
  (∀ (s : State) (h : Hdr) (payload : List Byte) (g : Group_) (n : Mach) (r : Mach × Bool), Served s.m h lvMaint → s.m.id.variant ≠ .s0 →
    s.m.dsv.joined = true → h.p3 >>> 1 = 0 → h.p1 &&& 0xFFFFF0C0 = 0 → g = groupAsked h payload → payload.length = 8 * g.n →
    2 ≤ g.k → 1 ≤ g.m → g.m ≤ 8 → g.n ≤ 64 → g.c ≠ 0 → (nubList (g.cols.map (fun c => c.1))).length = g.n →
    g.cols.any (fun c => c.1 == s.m.dsv.module) = true → (∀ c ∈ g.cols, c.1 = s.m.dsv.module ∨ (peerOf s.m c.1).any (fun p => !p.down) = true) →
    peerOf s.m s.m.dsv.module = none → s.m.dsv.creation = none → n = accept h 0x0B02 false s.m → memberRefuses n g = false → s.m.svc.commit = none →
    r = takeGroup g (h.p3.getLsbD 0) true n → r.2 = true →
    Completes (.zgpGroupCreate h payload true) s (fun m => ∃ k, k = sendAll g (.groupDef g.gid g.k g.m g.c (h.p3.getLsbD 0) g.cols) r.1 ∧
      m = { k with dsv.creation := some ⟨h, g, h.p3.getLsbD 0, others k g⟩ })) ∧
  (∀ (s : State) (h : Hdr) (g : Group_), Served s.m h lvHost → s.m.id.variant ≠ .s0 → h.p1 = 0 → h.p2 = 0 → h.p3 = 0 → groupOf s.m h.p0 = some g →
    Does (.zgpGroupStatus h) s (reply h stOk 0 (leBytes 1 g.state ++ leBytes 1 g.k ++ leBytes 1 g.m ++ leBytes 1 0 ++ leBytes 4 g.c
      ++ ((List.range g.n).map (fun c => ([ColState.up, .down, .stale, .rebuilding].map (fun st => leBytes 4 (g.extents c st))).flatten)).flatten)
      (accept h 0x0B03 false s.m))) ∧
  (∀ (s : State) (h : Hdr) (ok : Bool) (g : Group_) (n : Mach), Served s.m h lvMaint → s.m.id.variant ≠ .s0 →
    s.m.dsv.rebuilds.any (fun r => r.req == some h) = false → groupOf s.m h.p0 = some g → n = accept h 0x0B04 false s.m → rebuildSound n g h = true →
    s.m.dsv.rebuilds.any (fun r => r.req.isSome && r.gid == h.p0) = false →
    Does (.zgpRebuild h ok) s (rebuildsEnd ok (zgpFlow (rebuildBegin h g n)))) ∧
  (∀ (s : State) (h : Hdr), Served s.m h lvHost → s.m.id.variant = .s0 →
    Does (.zgpGroupStatus h) s (reply h stNotPresent 0 [] (accept h 0x0B03 false s.m)))

/-- A step takes the command at the front of the queue and is that command's meaning on the state with the queue's rest. -/
def Obligations.StepRunsFrontCommand : Prop :=
  ∀ (c : Instr) (rest : List Instr) (s : State), step { s with pending := c :: rest } = exec c { s with pending := rest }

/-- With no command waiting the block idles: the step answers the same state (the model's choice, log entry 4). -/
def Obligations.EmptyQueueIdles : Prop :=
  ∀ s : State, s.pending = [] → step s = .next s

/-- Every command completes in every state and leaves the queue alone, so every step is safe: the spec names no condition that stops the module. -/
def Obligations.EveryCommandAnswers : Prop :=
  (∀ (c : Instr) (s : State), Completes c s (fun _ => True)) ∧ (∀ s : State, SafeStep s)

/-- One-time memory: no step changes it but by one raise of MIN_SVN, to a greater value, while fewer than 64 raises have been used (R872). -/
def Obligations.OneTimeMemoryKept : Prop :=
  ∀ s t : State, step s = .next t → t.m.id = s.m.id ∨ Raised s.m.id t.m.id

/-- MIN_SVN is raised at most 64 times: no step takes the number of raises past 64, and none lowers MIN_SVN (R872). -/
def Obligations.FuseBudgetKept : Prop :=
  ∀ s t : State, s.m.id.svnRaises ≤ 64 → step s = .next t → t.m.id.svnRaises ≤ 64 ∧ s.m.id.minSvn.toNat ≤ t.m.id.minSvn.toNat

/-- The module after reset has used no raise of MIN_SVN beyond the 64 (R872; that it has used none is the model's choice, log entry 3). -/
def Obligations.FuseBudgetAtReset : Prop := State.reset.m.id.svnRaises ≤ 64

/-- Reaching controller-ready is the one command that may change one-time memory (R872). -/
def Obligations.OnlyControllerReadyRaisesMinSvn : Prop :=
  ∀ (c : Instr) (s t : State), (∀ x, c ≠ .controllerReady x) → exec c s = .next t → t.m.id = s.m.id

/-- After reset no command waits; every register with a reset value other than 0 in the tables of the spec reads that value, and the status,
event and mode registers of the other blocks read 0. BCM.BUDGET is that of variant U0, the model's choice (log entry 1). -/
def Obligations.ResetValues : Prop :=
  State.reset.pending = [] ∧
  (∀ x ∈ ([(0x01, 0x1C, 1), (0x02, 0x08, 1000000), (0x02, 0x0C, 1000000), (0x02, 0x10, 0x01FF0000), (0x03, 0x1C, 15),
      (0x06, 0x00, 0xF000), (0x06, 0x20, 1), (0x07, 0x00, 0xF000), (0x07, 0x20, 1), (0x08, 0x08, 0x01040303), (0x08, 0x0C, 0x28620CAF),
      (0x08, 0x28, 1), (0x09, 0x08, 0x01040303), (0x09, 0x0C, 0x28620CAF), (0x09, 0x28, 1), (0x0A, 0x00, 0x00200000),
      (0x0B, 0x00, 0x00200000), (0x0E, 0x10, 32768), (0x0F, 0x00, 0x80), (0x10, 0x10, 100), (0x10, 0x14, 64), (0x11, 0x0C, 64)] :
        List (Nat × Nat × Nat)), plainWord State.reset.m x.1 x.2.1 = BitVec.ofNat 32 x.2.2) ∧
  (∀ x ∈ ([(0x00, 0x00), (0x00, 0x04), (0x00, 0x08), (0x00, 0x0C), (0x00, 0x10), (0x00, 0x200), (0x00, 0x204), (0x01, 0x00), (0x01, 0x04),
      (0x02, 0x00), (0x02, 0x04), (0x03, 0x00), (0x03, 0x04), (0x03, 0x08), (0x04, 0x00), (0x04, 0x04), (0x04, 0x0C), (0x05, 0x00),
      (0x05, 0x04), (0x06, 0x04), (0x08, 0x00), (0x08, 0x04), (0x0A, 0x04), (0x0A, 0x28), (0x0A, 0x2C), (0x0C, 0x00), (0x0C, 0x04),
      (0x0D, 0x00), (0x0D, 0x04), (0x0E, 0x00), (0x0E, 0x04), (0x0E, 0x08), (0x0F, 0x04), (0x0F, 0x08), (0x0F, 0x10), (0x0F, 0x14),
      (0x10, 0x00), (0x10, 0x04), (0x11, 0x00), (0x11, 0x04), (0x12, 0x04), (0x13, 0x00), (0x13, 0x08), (0x14, 0x00), (0x14, 0x04)] :
        List (Nat × Nat)), plainWord State.reset.m x.1 x.2 = 0)

/-- R18: serial-number arithmetic with a window of 2^31. -/
def Obligations.SequenceNumberOrder : Prop :=
  ∀ a b : BitVec 32, newer a b = true ↔
    1 ≤ ((a.toNat : Int) - (b.toNat : Int)) % 4294967296 ∧ ((a.toNat : Int) - (b.toNat : Int)) % 4294967296 ≤ 2147483647

/-- R116: an interruption shorter than 12 ms (the operand counts 0.1 ms) raises DROPCNT, is reported as PWR 0x0105, and does nothing else. -/
def Obligations.InputDropoutOnlyCounted : Prop :=
  ∀ (s : State) (d : BitVec 16), s.m.pwr.inputOk = true → d.toNat < 120 →
    Does (.inputDropout d) s (report 0x0105 nowhere (leBytes 4 d.toNat) { s.m with pwr.dropCnt := s.m.pwr.dropCnt.inc })

/-- R373: SETTLE that has not led to FOLLOW within SETTLE_TMO is reported as event 0x52 of the servo unit once, and the unit stays in SETTLE. -/
def Obligations.SettleTimeoutReportedOnce : Prop :=
  (∀ (s : State) (a : Act), (s.m.srv.get a).st = .settle → (s.m.srv.get a).settleLate = false →
    Does (.settleTimeout a) s (report (0x0452 + 0x100 * a.idx) (onHead a (s.m.srv.get a).head.toNat) (leBytes 4 (s.m.srv.get a).pesMax)
      (s.m.onSrv a (fun c => { c with settleLate := true })))) ∧
  (∀ (s : State) (a : Act), (s.m.srv.get a).st = .settle → (s.m.srv.get a).settleLate = true → Does (.settleTimeout a) s s.m) ∧
  (∀ (s t : State) (a : Act), (s.m.srv.get a).st = .settle → exec (.settleTimeout a) s = .next t → (t.m.srv.get a).st = .settle)

/-- R974: under IXD-3 log mode a new record that finds no free slot is dropped: the held records, the newest number and the other counts stay,
and the dropped count of its severity rises by 1. -/
def Obligations.LogModeDropsNewRecord : Prop :=
  ∀ (s : State) (code : BitVec 16) (act head : Byte) (zone : BitVec 24) (ps : List Byte) (i : EventInfo), eventInfo code.toNat = some i →
    s.m.evr.ixd3 = true → storeSlots ≤ s.m.evr.held.length →
    bumpRepeat code.toNat (placeOf code.toNat ⟨act, head, zone⟩ ps) s.m.sup.opSec s.m.sup.pcycle (paramBytes ps) 4 s.m.evr.held = none →
    Completes (.eventReport code act head zone ps) s (fun m => m.evr = { s.m.evr with
      drop0 := if i.sev = .info then s.m.evr.drop0.inc else s.m.evr.drop0
      drop1 := if i.sev = .notice then s.m.evr.drop1.inc else s.m.evr.drop1
      drop2 := if i.sev = .error then s.m.evr.drop2.inc else s.m.evr.drop2
      drop3 := if i.sev = .critical then s.m.evr.drop3.inc else s.m.evr.drop3 })

/-- R981: Set Features with the Timestamp feature completes with Invalid Field in Command. -/
def Obligations.TimestampFeatureRefused : Prop :=
  ∀ (s : State) (c : NvCmd), Admits s.m c → Does (.nvmeSetFeaturesTimestamp c) s (finish c .invalidField (Decoded c s.m))

/-- R939: DISCARD_ALL drops every record that host requests staged and keeps the results that the module staged itself. -/
def Obligations.DiscardAllKeepsModuleStagings : Prop :=
  ∀ (s : State) (h : Hdr), Served s.m h lvMaint → h.p0 = 0 → h.p1 = 0 → h.p2 = 0 → h.p3 = 2 →
    Completes (.stageRecord h []) s (fun m => ∀ (r : SRec) (del own : Bool),
      (r, del, own) ∈ m.svc.staged ↔ (r, del, own) ∈ s.m.svc.staged ∧ own = true)

/-- Events and strobes that concern one unit leave the rest of the machine alone: each command changes at most the parts named beside it,
the recorder, the sticky event bits and the pins among them where it may report an event, the channel and the medium where it may raise a write
inhibit, which spoils the sector being written (R504, R947, R965 to R967, R1001). The three that can cut a write off in the power-loss sequence are
stated outside it (R439). -/
def Obligations.LocalCommandsKeepTheRest : Prop :=
  (∀ a pn bg, Only (.syncDecision a pn bg) (fun m n => { m with ch := n.ch })) ∧
  (∀ num events data acked, Only (.crossingTransfer num events data acked) (fun m n => { m with clk := n.clk })) ∧
  (Only (.crystalReturn) (fun m n => { m with clk := n.clk })) ∧
  (∀ a, Only (.freqSettled a) (fun m n => { m with clk := n.clk })) ∧
  (∀ dst seq, Only (.zgpRetransmit dst seq) (fun m n => { m with dsv := n.dsv })) ∧
  (∀ overlap, Only (.fenceConfirmed overlap) (fun m n => { m with fe := n.fe })) ∧
  (Only (.watchdogRefresh) (fun m n => { m with fe := n.fe })) ∧
  (∀ who ref page, Only (.identityPageProgram who ref page) (fun m n => { m with hda := n.hda })) ∧
  (∀ a, Only (.heaterReady a) (fun m n => { m with hif := n.hif })) ∧
  (∀ a, Only (.wusNRelease a) (fun m n => { m with hda := n.hda, hif := n.hif, ch := n.ch })) ∧
  (Only (.actLedHoldExpiry) (fun m n => { m with pins := n.pins })) ∧
  (∀ addr, Only (.i3cDynamicAddress addr) (fun m n => { m with pins := n.pins })) ∧
  (Only (.rstdaa) (fun m n => { m with pins := n.pins })) ∧
  (∀ vmot us, Only (.brakeChopperGate vmot us) (fun m n => { m with pwr := n.pwr, evr := n.evr, events := n.events, spn := n.spn, srv := n.srv, pins := n.pins })) ∧
  (∀ vmot us, Only (.brakeChopperRelease vmot us) (fun m n => { m with pwr := n.pwr, evr := n.evr, events := n.events, spn := n.spn, srv := n.srv, pins := n.pins })) ∧
  (∀ vmot us, Only (.chopperUnwithhold vmot us) (fun m n => { m with pwr := n.pwr, evr := n.evr, events := n.events, spn := n.spn, srv := n.srv, pins := n.pins })) ∧
  (Only (.faultClr) (fun m n => { m with pwr := n.pwr })) ∧
  (∀ dc vinPk freq, Only (.inputKindClassify dc vinPk freq) (fun m n => { m with pwr := n.pwr })) ∧
  (∀ a, Only (.tclr a) (fun m n => { m with srv := n.srv })) ∧
  (∀ who, Only (.authLockoutEnd who) (fun m n => { m with svc := n.svc })) ∧
  (∀ ref, Only (.sessionIdleClose ref) (fun m n => { m with svc := n.svc })) ∧
  (∀ a, Only (.chPllRelock a) (fun m n => { m with hda := n.hda, clk := n.clk, hif := n.hif, ch := n.ch })) ∧
  (∀ iph, Only (.pwmPeriod iph) (fun m n => { m with spn := n.spn, drawn := n.drawn })) ∧
  (∀ a, Only (.shockHoldExpiry a) (fun m n => { m with hda := n.hda, srv := n.srv, hif := n.hif, ch := n.ch })) ∧
  (∀ a, Only (.acqLimitExpiry a) (fun m n => { m with evr := n.evr, events := n.events, pins := n.pins })) ∧
  (∀ a, Only (.cleanStarved a) (fun m n => { m with evr := n.evr, events := n.events, pins := n.pins })) ∧
  (∀ code act head zone params, Only (.eventReport code act head zone params) (fun m n => { m with evr := n.evr, events := n.events, pins := n.pins })) ∧
  (∀ leaf ns, Only (.mediaDeadlineMiss leaf ns) (fun m n => { m with evr := n.evr, events := n.events, pins := n.pins })) ∧
  (∀ num, Only (.islandTorn num) (fun m n => { m with clk := n.clk, evr := n.evr, events := n.events, pins := n.pins })) ∧
  (∀ us, Only (.rootPllRelock us) (fun m n => { m with clk := n.clk, evr := n.evr, events := n.events, pins := n.pins })) ∧
  (∀ a diff, Only (.onceAroundMark a diff) (fun m n => { m with evr := n.evr, events := n.events, spn := n.spn, pins := n.pins })) ∧
  (∀ a, Only (.settleTimeout a) (fun m n => { m with evr := n.evr, events := n.events, srv := n.srv, pins := n.pins })) ∧
  (∀ a, Only (.markMissing a) (fun m n => { m with evr := n.evr, events := n.events, srvRef := n.srvRef, pins := n.pins })) ∧
  (∀ dur, Only (.inputDropout dur) (fun m n => { m with pwr := n.pwr, evr := n.evr, events := n.events, pins := n.pins })) ∧
  (∀ vinPk freq, Only (.inputOutOfRange vinPk freq) (fun m n => { m with pwr := n.pwr, evr := n.evr, events := n.events, pins := n.pins })) ∧
  (∀ vinPk, Only (.inputOvervoltage vinPk) (fun m n => { m with pwr := n.pwr, evr := n.evr, events := n.events, pins := n.pins })) ∧
  (∀ pin, Only (.ps1CapFail pin) (fun m n => { m with pwr := n.pwr, evr := n.evr, events := n.events, pins := n.pins })) ∧
  (∀ num rail volt, Only (.railFault num rail volt) (fun m n => { m with pwr := n.pwr, evr := n.evr, events := n.events, pins := n.pins })) ∧
  (∀ a temp, Only (.assistOtEnd a temp) (fun m n => { m with hda := n.hda, evr := n.evr, events := n.events, hif := n.hif, pre := n.pre, ch := n.ch, pins := n.pins })) ∧
  (∀ a f acks, OnlyCalm (.headBusFrame a f acks) (fun m n => { m with hda := n.hda, evr := n.evr, events := n.events, hif := n.hif, pre := n.pre, ch := n.ch, pins := n.pins })) ∧
  (∀ a imeas limited, OnlyCalm (.currentLoopSample a imeas limited) (fun m n => { m with hda := n.hda, evr := n.evr, events := n.events, srv := n.srv, hif := n.hif, ch := n.ch, pins := n.pins })) ∧
  (∀ a peak, OnlyCalm (.shockWi a peak) (fun m n => { m with hda := n.hda, evr := n.evr, events := n.events, srv := n.srv, hif := n.hif, ch := n.ch, pins := n.pins })) ∧
  (∀ a set lane symbols amp, Only (.indexFrame a set lane symbols amp) (fun m n => { m with hda := n.hda, evr := n.evr, events := n.events, srvRef := n.srvRef, srv := n.srv, hif := n.hif, ch := n.ch, pins := n.pins }))

/-- A request that only reads changes nothing but the record of requests and the front end's contexts and notices, whatever it answers; the two that
serve the alert may release the alert pin as well, and IDENTIFY_MODULE draws the values that the spec leaves open (log entry 7) (R907, R912 to R918, R927, R1001). -/
def Obligations.ReadingRequestsChangeNothing : Prop :=
  (∀ h : Hdr, Only (.getMode h) (fun m n => { m with svc := n.svc, fe := n.fe }) ∧
    Only (.readRecord h) (fun m n => { m with svc := n.svc, fe := n.fe }) ∧
    Only (.settingsStatus h) (fun m n => { m with svc := n.svc, fe := n.fe }) ∧
    Only (.evrRead h) (fun m n => { m with svc := n.svc, fe := n.fe }) ∧
    Only (.srvGetState h) (fun m n => { m with svc := n.svc, fe := n.fe }) ∧
    Only (.spnGetState h) (fun m n => { m with svc := n.svc, fe := n.fe }) ∧
    Only (.chGetMetrics h) (fun m n => { m with svc := n.svc, fe := n.fe }) ∧
    Only (.cfxStatus h) (fun m n => { m with svc := n.svc, fe := n.fe }) ∧
    Only (.calStatus h) (fun m n => { m with svc := n.svc, fe := n.fe }) ∧
    Only (.cacheStatus h) (fun m n => { m with svc := n.svc, fe := n.fe }) ∧
    Only (.armRead h) (fun m n => { m with svc := n.svc, fe := n.fe }) ∧
    Only (.spareStatus h) (fun m n => { m with svc := n.svc, fe := n.fe }) ∧
    Only (.vaultStatus h) (fun m n => { m with svc := n.svc, fe := n.fe }) ∧
    Only (.zgpGroupStatus h) (fun m n => { m with svc := n.svc, fe := n.fe }) ∧
    Only (.feStatus h) (fun m n => { m with svc := n.svc, fe := n.fe }) ∧
    Only (.diagCrossStatus h) (fun m n => { m with svc := n.svc, fe := n.fe })) ∧
  (∀ h : Hdr, Only (.getHealth h) (fun m n => { m with svc := n.svc, fe := n.fe, pins := n.pins }) ∧
    Only (.evrStatus h) (fun m n => { m with svc := n.svc, fe := n.fe, pins := n.pins })) ∧
  (∀ h : Hdr, Only (.identifyModule h) (fun m n => { m with svc := n.svc, fe := n.fe, drawn := n.drawn }))

/-- The first checks of every service request, in the order of Table 18-4 (R6, R7, R908, R911, R914, R918, R919, R926, R927): a carrier that takes no
frame leaves everything as it is; an outstanding TAG and a full set of contexts refuse it before acceptance; an accepted request for what the
variant lacks is answered NOT_PRESENT, whatever its authority, and one without the authority of its row NOT_AUTHORISED. In each case nothing else
changes. -/
def Obligations.RequestChecksInOrder : Prop :=
  ∀ (c : Instr) (op : Nat) (h : Hdr) (need : Nat) (s : State), requestOf c = some (op, h, need) →
    (carried s.m h = false → Does c s s.m) ∧
    (carried s.m h = true → waiting s.m h op = false → tagHeld s.m h.who h.tag = true → Does c s (refuse h stDupTag s.m)) ∧
    (carried s.m h = true → tagHeld s.m h.who h.tag = false → rsvFull s.m = true → Does c s (refuse h stBusy s.m)) ∧
    (carried s.m h = true → tagHeld s.m h.who h.tag = false → rsvFull s.m = false → objectAbsent c op s.m = true →
      Does c s (reply h stNotPresent 0 [] (accept h op false s.m))) ∧
    (carried s.m h = true → tagHeld s.m h.who h.tag = false → rsvFull s.m = false → objectAbsent c op s.m = false → hasAuth s.m h need = false →
      Does c s (reply h stNotAuth 0 [] (accept h op false s.m)))

/-- On IXD-5260-S0 every peer-group request that is accepted completes with NOT_PRESENT, whatever authority its sender has, and has no other
effect (R6, R926). -/
def Obligations.PeerGroupsAbsentOnS0 : Prop :=
  ∀ (s : State) (h : Hdr), s.m.id.variant = .s0 → carried s.m h = true → tagHeld s.m h.who h.tag = false → rsvFull s.m = false →
    Does (.zgpGroupStatus h) s (reply h stNotPresent 0 [] (accept h 0x0B03 false s.m)) ∧
    (∀ (p : List Byte) (ok : Bool),
      Does (.zgpDomainJoin h p ok) s (reply h stNotPresent 0 [] (accept h 0x0B01 false s.m)) ∧
      Does (.zgpGroupCreate h p ok) s (reply h stNotPresent 0 [] (accept h 0x0B02 false s.m)) ∧
      (s.m.dsv.rebuilds.any (fun r => r.req == some h) = false →
        Does (.zgpRebuild h ok) s (reply h stNotPresent 0 [] (accept h 0x0B04 false s.m))))

/-- Reading the low register of a 64-bit counter latches the high register: the next read of the high register gives the counter's value of
that instant, whatever the counter has become (R20, R932). -/
def Obligations.CounterReadLatchesHigh : Prop :=
  ∀ (m : Mach) (addr : Nat) (c : Counter), blockDark m (regBlock addr) = false → counterAt m (regBlock addr) (regOff addr) = some c →
    regBlock (addr + 4) = regBlock addr → regOff (addr + 4) = regOff addr + 4 →
    (readReg addr m).1 = c.lo ∧
    (∀ (k : Mach) (d : Counter), k.svc.latch = (readReg addr m).2.svc.latch → blockDark k (regBlock addr) = false →
      counterAt k (regBlock addr) (regOff addr + 4) = none → counterAt k (regBlock addr) (regOff addr) = some d → (readReg (addr + 4) k).1 = c.hi)

/-- Proofs of a credential (R920 to R924): under a lockout AUTH_OPEN and EVR_CLEAR answer NOT_AUTHORISED with DETAIL 1 and change nothing else; a
wrong proof uses up its challenge, is counted and reported; the fifth wrong proof on one carrier within 60 s starts the lockout. -/
def Obligations.WrongProofsLockOut : Prop :=
  (∀ (s : State) (h : Hdr) (proof : List Byte), Served s.m h lvHost → h.p1 = 0 → h.p2 = 0 → h.p3 = 0 → (h.p0 = 1 ∨ h.p0 = 2) →
    proof.length = 32 → factoryBarred s.m h.p0.toNat = false → lockedOut s.m h.who = true →
    Does (.authOpen h proof) s (reply h stNotAuth 1 [] (accept h 0x0107 false s.m))) ∧
  (∀ (s : State) (h : Hdr) (proof : List Byte), Served s.m h lvHost → h.p0 = 0 → h.p1 = 0 → h.p2 = 0 → h.p3 = 0 →
    proof.length = 32 → lockedOut s.m h.who = true →
    Does (.evrClear h proof) s (reply h stNotAuth 1 [] (accept h 0x0304 false s.m))) ∧
  (∀ (s : State) (h : Hdr) (proof : List Byte), Served s.m h lvHost → h.p1 = 0 → h.p2 = 0 → h.p3 = 0 → (h.p0 = 1 ∨ h.p0 = 2) →
    proof.length = 32 → factoryBarred s.m h.p0.toNat = false → lockedOut s.m h.who = false → proofGood s.m h.who h.p0.toNat proof = false →
    Does (.authOpen h proof) s (reply h stNotAuth 0 [] (proofFailed h.who h.p0.toNat
      (dropChallenge h.who false h.p0.toNat (accept h 0x0107 false s.m))))) ∧
  (∀ (m : Mach) (who : Transport) (level : Nat), (proofFailed who level m).svc.authFail = m.svc.authFail.inc) ∧
  (∀ (m : Mach) (who : Transport) (level : Nat),
    4 ≤ (m.svc.fails.filter (fun f => f.1 == who && decide (m.sup.opSec.toNat < f.2.toNat + 60))).length →
    lockedOut (proofFailed who level m) who = true) ∧
  (∀ (m : Mach) (who : Transport) (level : Nat),
    (m.svc.fails.filter (fun f => f.1 == who && decide (m.sup.opSec.toNat < f.2.toNat + 60))).length < 4 →
    lockedOut (proofFailed who level m) who = lockedOut m who)

/-- The commands of position sensing complete: DEMOD_WINDOW, INDEX_FRAME, ACQ_LIMIT_EXPIRY, MARK_MISSING and ALIGNMENT_FIELD each answer a next state
with their own effect under conditions on the state and the operands alone (R316, R318, R321, R333, R335, R336, R339): a window of which neither set
passes; a frame within half a pitch of the word held; the acquisition limit of a loaded actuator that still seeks; the second mark missed in a row; a
field whose mark was not found, short of the miss limit. -/
def Obligations.PositionSensingCompletes : Prop :=
  (∀ (s : State) (a : Act) (magA magB : List Nat) (angle : BitVec 16) (settled : Bool), demodulates s.m a = true →
    setPasses s.m a (magA.map (fun v => v * (s.m.srvRef.get a).gain / 65536)) = false →
    setPasses s.m a (magB.map (fun v => v * (s.m.srvRef.get a).gain / 65536)) = false →
    ∃ t, Machine.exec (.demodWindow a magA magB angle settled) s = .next t ∧ t.pending = s.pending ∧
      (t.m.srvRef.get a).aOk = false ∧ (t.m.srvRef.get a).bOk = false ∧ (t.m.srvRef.get a).validRun = 0 ∧
      (t.m.srvRef.get a).invRun = (s.m.srvRef.get a).invRun + 1 ∧ (t.m.srv.get a).angle = angle ∧
      (t.m.srv.get a).cycAge = (s.m.srv.get a).cycAge + 1 ∧
      (t.m.srvRef.get a).acquired = ((s.m.srvRef.get a).acquired || (settled && (s.m.srvRef.get a).indexValid))) ∧
  (∀ (s : State) (a : Act) (set : LaneSet) (lane : BitVec 2) (x : BitVec 40) (amp : BitVec 16) (w : BitVec 32), demodulates s.m a = true →
    frameValid x amp = true → (s.m.srvRef.get a).word1 = some w →
    (laneCentre set lane.toNat (framePeriod x) - (w.toNat : Int)).natAbs ≤ 2048 →
    Machine.exec (.indexFrame a set lane x amp) s = .next { s with m := s.m.onRef a (fun r => { r with
      indexValid := true, markOk := r.markOk || frameNumber x == 0, markLost := r.markLost && frameNumber x != 0 }) }) ∧
  (∀ (s : State) (a : Act), (s.m.srv.get a).st = .seek → (s.m.srvRef.get a).acquired = false → loaded s.m a = true →
    Machine.exec (.acqLimitExpiry a) s = .next { s with m := (report (actCode 0x0430 a) (onHead a 0)
      (leBytes 2 (s.m.srvRef.get a).ampA.toNat ++ leBytes 2 (s.m.srvRef.get a).ampB.toNat) s.m) }) ∧
  (∀ (s : State) (a : Act), demodulates s.m a = true → (s.m.srvRef.get a).indexValid = true → (s.m.srvRef.get a).markLost = false →
    (s.m.srvRef.get a).acquired = false →
    Machine.exec (.markMissing a) s = .next { s with m := s.m.onRef a (fun r => { r with markOk := false, markLost := true }) }) ∧
  (∀ (s : State) (a : Act), demodulates s.m a = true → (s.m.srvRef.get a).indexValid = true → (s.m.srvRef.get a).markLost = false →
    (s.m.srvRef.get a).acquired = true → (s.m.srv.get a).st ≠ .opened → (s.m.srv.get a).st ≠ .retract →
    Machine.exec (.markMissing a) s = .next { s with m := (report (actCode 0x0443 a) (onHead a 0) []
      (s.m.onRef a (fun r => { r with markOk := false, markLost := true }))) }) ∧
  (∀ (s : State) (a : Act) (f : BitVec 7) (code : BitVec 12) (q0 q1 : Int), demodulates s.m a = true →
    ((s.m.srv.get a).st = .settle ∨ (s.m.srv.get a).st = .follow) → (s.m.srvRef.get a).missRun + 1 ≠ (s.m.srvRef.get a).missLimit.toNat →
    Machine.exec (.alignmentField a (s.m.srv.get a).head f false code q0 q1) s = .next { s with m := ((s.m.onRef a (fun r => { r with
      fieldNo := f, fieldValid := false, amissCnt := r.amissCnt.inc, missRun := r.missRun + 1, goodFields := 0
      missFirst := if r.missRun = 0 then f else r.missFirst })).onSrv a (fun c => { c with fieldOk := c.st == .follow })) })

/-- The I/O commands that read or report complete the step in which they run: NVME_READ, NVME_COMPARE, NVME_VERIFY, NVME_ZONE_MANAGEMENT_RECEIVE and
NVME_FLUSH each answer a next state when their context is fetched and nothing bars, fails or holds them (R229, R232, R619, R821, R1038). A read, a
compare and a verify note their stream and try every LBA; a report and a flush end. -/
def Obligations.ReadingCommandsComplete : Prop :=
  ∀ (s : State) (c : NvCmd) (nsid : BitVec 32) (lba : BitVec 64) (cnt : BitVec 17) (p : Prot) (d : List (Sector × BitVec 128)) (n : Ns),
    (Runs s.m c (.read nsid.toNat lba.toNat cnt.toNat p) n →
      Machine.exec (.nvmeRead c nsid lba cnt p) s = .next { s with m := flow (runIo c (.read nsid.toNat lba.toNat cnt.toNat p) n
        (Woken c (.read nsid.toNat lba.toNat cnt.toNat p) s.m)) }) ∧
    (Runs s.m c (.compare nsid.toNat lba.toNat d.length p d) n →
      Machine.exec (.nvmeCompare c nsid lba p d) s = .next { s with m := flow (runIo c (.compare nsid.toNat lba.toNat d.length p d) n
        (Woken c (.compare nsid.toNat lba.toNat d.length p d) s.m)) }) ∧
    (Runs s.m c (.verify nsid.toNat lba.toNat cnt.toNat p) n →
      Machine.exec (.nvmeVerify c nsid lba cnt p) s = .next { s with m := flow (runIo c (.verify nsid.toNat lba.toNat cnt.toNat p) n
        (Woken c (.verify nsid.toNat lba.toNat cnt.toNat p) s.m)) }) ∧
    (Runs s.m c (.zoneReport nsid.toNat lba.toNat) n →
      Machine.exec (.nvmeZoneManagementReceive c nsid lba) s = .next { s with m := flow (reportZones c n lba.toNat
        (InMedia c (.zoneReport nsid.toNat lba.toNat) s.m)) }) ∧
    (Runs s.m c (.flush nsid.toNat) n →
      Machine.exec (.nvmeFlush c nsid) s = .next { s with m := flow (finish c .success (InMedia c (.flush nsid.toNat) s.m)) })

/-- The I/O commands that write complete the step in which they run: NVME_WRITE, NVME_WRITE_ZEROES, NVME_ZONE_APPEND and NVME_DATASET_MANAGEMENT each
answer a next state under the same conditions (R229, R232, R684, R710, R821, R1038). To a zoned namespace a write waits its turn in its zone, to
another its sectors are staged for the cache; a deallocation ends. -/
def Obligations.WritingCommandsComplete : Prop :=
  ∀ (s : State) (c : NvCmd) (nsid : BitVec 32) (lba : BitVec 64) (cnt : BitVec 17) (p : Prot) (d : List (Sector × BitVec 128))
    (rs : List (BitVec 64 × BitVec 32)) (n : Ns),
    (Runs s.m c (.write nsid.toNat lba.toNat d.length p d) n →
      Machine.exec (.nvmeWrite c nsid lba p d) s = .next { s with m := flow (runIo c (.write nsid.toNat lba.toNat d.length p d) n
        (Woken c (.write nsid.toNat lba.toNat d.length p d) s.m)) }) ∧
    (Runs s.m c (.writeZeroes nsid.toNat lba.toNat cnt.toNat p) n →
      Machine.exec (.nvmeWriteZeroes c nsid lba cnt p) s = .next { s with m := flow (runIo c (.writeZeroes nsid.toNat lba.toNat cnt.toNat p) n
        (Woken c (.writeZeroes nsid.toNat lba.toNat cnt.toNat p) s.m)) }) ∧
    (Runs s.m c (.append nsid.toNat lba.toNat d.length p d) n →
      Machine.exec (.nvmeZoneAppend c nsid lba p d) s = .next { s with m := flow (runIo c (.append nsid.toNat lba.toNat d.length p d) n
        (Woken c (.append nsid.toNat lba.toNat d.length p d) s.m)) }) ∧
    (Runs s.m c (.deallocate nsid.toNat ((rs.take 256).map (fun r => (r.1.toNat, r.2.toNat)))) n →
      Machine.exec (.nvmeDatasetManagement c nsid rs) s = .next { s with m := flow (deallocate c n ((rs.take 256).map (fun r => (r.1.toNat, r.2.toNat)))
        (InMedia c (.deallocate nsid.toNat ((rs.take 256).map (fun r => (r.1.toNat, r.2.toNat)))) s.m)) })

/-- The zone commands complete the step in which they run: NVME_OPEN_ZONE, NVME_CLOSE_ZONE, NVME_FINISH_ZONE and NVME_RESET_ZONE each answer a next
state under the same conditions, in which the command waits its turn in every zone it names (R229, R232, R686, R821, R1038). -/
def Obligations.ZoneCommandsComplete : Prop :=
  ∀ (s : State) (c : NvCmd) (nsid : BitVec 32) (lba : BitVec 64) (al : Bool) (n : Ns),
    (Runs s.m c (.zoneOpen nsid.toNat lba.toNat al) n → Machine.exec (.nvmeOpenZone c nsid lba al) s = .next { s with m := flow (runIo c
      (.zoneOpen nsid.toNat lba.toNat al) n (Woken c (.zoneOpen nsid.toNat lba.toNat al) s.m)) }) ∧
    (Runs s.m c (.zoneClose nsid.toNat lba.toNat al) n → Machine.exec (.nvmeCloseZone c nsid lba al) s = .next { s with m := flow (runIo c
      (.zoneClose nsid.toNat lba.toNat al) n (Woken c (.zoneClose nsid.toNat lba.toNat al) s.m)) }) ∧
    (Runs s.m c (.zoneFinish nsid.toNat lba.toNat al) n → Machine.exec (.nvmeFinishZone c nsid lba al) s = .next { s with m := flow (runIo c
      (.zoneFinish nsid.toNat lba.toNat al) n (Woken c (.zoneFinish nsid.toNat lba.toNat al) s.m)) }) ∧
    (Runs s.m c (.zoneReset nsid.toNat lba.toNat al) n → Machine.exec (.nvmeResetZone c nsid lba al) s = .next { s with m := flow (runIo c
      (.zoneReset nsid.toNat lba.toNat al) n (Woken c (.zoneReset nsid.toNat lba.toNat al) s.m)) })

/-- NVME_ABORT and MEDIA_HOLD_EXPIRY complete (R230, R825): an abort answers 0 when it takes the command it names, 1 when there is none to take or it
has ended; the expiry fails every command held too long, and reports the first time in a power cycle. -/
def Obligations.AbortAndHoldExpiryComplete : Prop :=
  (∀ (s : State) (c : NvCmd) (sqid cid : BitVec 16), c.sqid = 0 → fresh s.m c = true →
    (ctxOf (Decoded c s.m) ⟨c.port, c.cntlid, sqid, cid⟩).any (fun x => x.status.isNone) = true →
    Machine.exec (.nvmeAbort c sqid cid) s =
      .next { s with m := finishWith c 0 [] (abortWins ⟨c.port, c.cntlid, sqid, cid⟩ (Decoded c s.m)) }) ∧
  (∀ (s : State) (c : NvCmd) (sqid cid : BitVec 16), c.sqid = 0 → fresh s.m c = true →
    (ctxOf (Decoded c s.m) ⟨c.port, c.cntlid, sqid, cid⟩).any (fun x => x.status.isNone) = false →
    Machine.exec (.nvmeAbort c sqid cid) s = .next { s with m := finishWith c 1 [] (Decoded c s.m) }) ∧
  (∀ (s : State) (now : BitVec 48), heldTooLong (clockTo now.toNat s.m) ≠ [] → s.m.sup.holdReported = true →
    Machine.exec (.mediaHoldExpiry now) s = .next { s with
      m := (heldTooLong (clockTo now.toNat s.m)).foldl (fun m x => finish x.id .namespaceNotReady m) (clockTo now.toNat s.m) }) ∧
  (∀ (s : State) (now : BitVec 48), heldTooLong (clockTo now.toNat s.m) ≠ [] → s.m.sup.holdReported = false →
    ∃ t n, Machine.exec (.mediaHoldExpiry now) s = .next t ∧ t.pending = s.pending ∧
      n = (heldTooLong (clockTo now.toNat s.m)).foldl (fun m x => finish x.id .namespaceNotReady m) (clockTo now.toNat s.m) ∧
      t.m = report 0x0025 nowhere (leBytes 1 ((!n.sup.actReady.p0).toNat + 2 * (!n.sup.actReady.p1).toNat) ++ leBytes 1 (stagesInOrder n.sup.stages))
        { n with sup.holdReported := true })
end

