-- ==== Sys2Proof/Laws/Report.lean ====
section
/-! SUPPORT. What reporting an event leaves alone: every part of the machine but the recorder, the sticky event bits and the
pins (spec/19 R965 to R967, R1001). -/

namespace Sys2Proof.Machine

@[simp] theorem report_id (c : Nat) (w : Place) (ps : List Byte) (m : Mach) : (report c w ps m).id = m.id := by unfold report; split <;> rfl
@[simp] theorem report_hda (c : Nat) (w : Place) (ps : List Byte) (m : Mach) : (report c w ps m).hda = m.hda := by unfold report; split <;> rfl
@[simp] theorem report_pwr (c : Nat) (w : Place) (ps : List Byte) (m : Mach) : (report c w ps m).pwr = m.pwr := by unfold report; split <;> rfl
@[simp] theorem report_clk (c : Nat) (w : Place) (ps : List Byte) (m : Mach) : (report c w ps m).clk = m.clk := by unfold report; split <;> rfl
@[simp] theorem report_sup (c : Nat) (w : Place) (ps : List Byte) (m : Mach) : (report c w ps m).sup = m.sup := by unfold report; split <;> rfl
@[simp] theorem report_svc (c : Nat) (w : Place) (ps : List Byte) (m : Mach) : (report c w ps m).svc = m.svc := by unfold report; split <;> rfl
@[simp] theorem report_spn (c : Nat) (w : Place) (ps : List Byte) (m : Mach) : (report c w ps m).spn = m.spn := by unfold report; split <;> rfl
@[simp] theorem report_srvRef (c : Nat) (w : Place) (ps : List Byte) (m : Mach) : (report c w ps m).srvRef = m.srvRef := by unfold report; split <;> rfl
@[simp] theorem report_srv (c : Nat) (w : Place) (ps : List Byte) (m : Mach) : (report c w ps m).srv = m.srv := by unfold report; split <;> rfl
@[simp] theorem report_hif (c : Nat) (w : Place) (ps : List Byte) (m : Mach) : (report c w ps m).hif = m.hif := by unfold report; split <;> rfl
@[simp] theorem report_pre (c : Nat) (w : Place) (ps : List Byte) (m : Mach) : (report c w ps m).pre = m.pre := by unfold report; split <;> rfl
@[simp] theorem report_ch (c : Nat) (w : Place) (ps : List Byte) (m : Mach) : (report c w ps m).ch = m.ch := by unfold report; split <;> rfl
@[simp] theorem report_cfx (c : Nat) (w : Place) (ps : List Byte) (m : Mach) : (report c w ps m).cfx = m.cfx := by unfold report; split <;> rfl
@[simp] theorem report_cal (c : Nat) (w : Place) (ps : List Byte) (m : Mach) : (report c w ps m).cal = m.cal := by unfold report; split <;> rfl
@[simp] theorem report_sch (c : Nat) (w : Place) (ps : List Byte) (m : Mach) : (report c w ps m).sch = m.sch := by unfold report; split <;> rfl
@[simp] theorem report_zmg (c : Nat) (w : Place) (ps : List Byte) (m : Mach) : (report c w ps m).zmg = m.zmg := by unfold report; split <;> rfl
@[simp] theorem report_bcm (c : Nat) (w : Place) (ps : List Byte) (m : Mach) : (report c w ps m).bcm = m.bcm := by unfold report; split <;> rfl
@[simp] theorem report_vlt (c : Nat) (w : Place) (ps : List Byte) (m : Mach) : (report c w ps m).vlt = m.vlt := by unfold report; split <;> rfl
@[simp] theorem report_fe (c : Nat) (w : Place) (ps : List Byte) (m : Mach) : (report c w ps m).fe = m.fe := by unfold report; split <;> rfl
@[simp] theorem report_prt (c : Nat) (w : Place) (ps : List Byte) (m : Mach) : (report c w ps m).prt = m.prt := by unfold report; split <;> rfl
@[simp] theorem report_dsv (c : Nat) (w : Place) (ps : List Byte) (m : Mach) : (report c w ps m).dsv = m.dsv := by unfold report; split <;> rfl
@[simp] theorem report_nor (c : Nat) (w : Place) (ps : List Byte) (m : Mach) : (report c w ps m).nor = m.nor := by unfold report; split <;> rfl
@[simp] theorem report_drawn (c : Nat) (w : Place) (ps : List Byte) (m : Mach) : (report c w ps m).drawn = m.drawn := by unfold report; split <;> rfl

/-- Recording an event leaves the session's arming table alone (R952, R967, R973). -/
theorem record_arming (e : Evr) (code : Nat) (sev : Sev) (w : Place) (opsec : BitVec 40) (pcycle : BitVec 32) (ps : List Byte) :
    (e.record code sev w opsec pcycle ps).arming = e.arming := by
  unfold Evr.record
  (repeat' split) <;> first | rfl | (cases sev <;> rfl)

/-- An event changes the response in force for no condition. -/
theorem report_armed (c : Nat) (w : Place) (ps : List Byte) (m : Mach) (x : Nat) : armed (report c w ps m) x = armed m x := by
  have h : (report c w ps m).evr.arming = m.evr.arming := by
    unfold report; split
    · rfl
    · exact record_arming ..
  simp [armed, h, committedArm, recVal]


end Sys2Proof.Machine
end

