-- ==== Sys2Proof/Laws/State.lean ====
section
/-! SUPPORT. The small lemmas of the state and of its updates: a pair of parts, a part of one actuator, the queue, a drawn free value. -/

namespace Sys2Proof.Machine

@[simp] theorem Pair.get_upd_same {α : Type} (p : Pair α) (a : Act) (f : α → α) : (p.upd a f).get a = f (p.get a) := by
  cases a <;> rfl

@[simp] theorem Pair.get_upd_other {α : Type} (p : Pair α) (a : Act) (f : α → α) : (p.upd a f).get a.other = p.get a.other := by
  cases a <;> rfl

@[simp] theorem Pair.get_upd_to_other {α : Type} (p : Pair α) (a : Act) (f : α → α) : (p.upd a.other f).get a = p.get a := by
  cases a <;> rfl

@[simp] theorem Pair.get_both {α : Type} (x : α) (a : Act) : (Pair.both x).get a = x := by cases a <;> rfl

@[simp] theorem Act.other_other (a : Act) : a.other.other = a := by cases a <;> rfl

theorem Pair.ext_get {α : Type} (p q : Pair α) (h : ∀ a, p.get a = q.get a) : p = q := by
  have h0 : p.p0 = q.p0 := h .a0
  have h1 : p.p1 = q.p1 := h .a1
  cases p; cases q; cases h0; cases h1; rfl

@[simp] theorem State.run_eq (s : State) (f : Mach → Mach) : s.run f = .next { s with m := f s.m } := rfl

@[simp] theorem ifDo_true (f : Mach → Mach) (m : Mach) : ifDo true f m = f m := rfl

@[simp] theorem ifDo_false (f : Mach → Mach) (m : Mach) : ifDo false f m = m := rfl

theorem ifDo_view {α : Type} (view : Mach → α) (b : Bool) (f : Mach → Mach) (m : Mach) (h : view (f m) = view m) :
    view (ifDo b f m) = view m := by
  cases b
  · rfl
  · exact h

@[simp] theorem drew_drawn (m : Mach) : (drew m).drawn = m.drawn + 1 := by rfl

@[simp] theorem Mach.onSrv_id (m : Mach) (a : Act) (f : SrvCtl → SrvCtl) : (m.onSrv a f).id = m.id := by rfl
@[simp] theorem Mach.onSrv_hda (m : Mach) (a : Act) (f : SrvCtl → SrvCtl) : (m.onSrv a f).hda = m.hda := by rfl
@[simp] theorem Mach.onSrv_pwr (m : Mach) (a : Act) (f : SrvCtl → SrvCtl) : (m.onSrv a f).pwr = m.pwr := by rfl
@[simp] theorem Mach.onSrv_clk (m : Mach) (a : Act) (f : SrvCtl → SrvCtl) : (m.onSrv a f).clk = m.clk := by rfl
@[simp] theorem Mach.onSrv_sup (m : Mach) (a : Act) (f : SrvCtl → SrvCtl) : (m.onSrv a f).sup = m.sup := by rfl
@[simp] theorem Mach.onSrv_svc (m : Mach) (a : Act) (f : SrvCtl → SrvCtl) : (m.onSrv a f).svc = m.svc := by rfl
@[simp] theorem Mach.onSrv_evr (m : Mach) (a : Act) (f : SrvCtl → SrvCtl) : (m.onSrv a f).evr = m.evr := by rfl
@[simp] theorem Mach.onSrv_events (m : Mach) (a : Act) (f : SrvCtl → SrvCtl) : (m.onSrv a f).events = m.events := by rfl
@[simp] theorem Mach.onSrv_spn (m : Mach) (a : Act) (f : SrvCtl → SrvCtl) : (m.onSrv a f).spn = m.spn := by rfl
@[simp] theorem Mach.onSrv_srvRef (m : Mach) (a : Act) (f : SrvCtl → SrvCtl) : (m.onSrv a f).srvRef = m.srvRef := by rfl
@[simp] theorem Mach.onSrv_srv (m : Mach) (a : Act) (f : SrvCtl → SrvCtl) : (m.onSrv a f).srv = m.srv.upd a f := by rfl
@[simp] theorem Mach.onSrv_hif (m : Mach) (a : Act) (f : SrvCtl → SrvCtl) : (m.onSrv a f).hif = m.hif := by rfl
@[simp] theorem Mach.onSrv_pre (m : Mach) (a : Act) (f : SrvCtl → SrvCtl) : (m.onSrv a f).pre = m.pre := by rfl
@[simp] theorem Mach.onSrv_ch (m : Mach) (a : Act) (f : SrvCtl → SrvCtl) : (m.onSrv a f).ch = m.ch := by rfl
@[simp] theorem Mach.onSrv_cfx (m : Mach) (a : Act) (f : SrvCtl → SrvCtl) : (m.onSrv a f).cfx = m.cfx := by rfl
@[simp] theorem Mach.onSrv_cal (m : Mach) (a : Act) (f : SrvCtl → SrvCtl) : (m.onSrv a f).cal = m.cal := by rfl
@[simp] theorem Mach.onSrv_sch (m : Mach) (a : Act) (f : SrvCtl → SrvCtl) : (m.onSrv a f).sch = m.sch := by rfl
@[simp] theorem Mach.onSrv_zmg (m : Mach) (a : Act) (f : SrvCtl → SrvCtl) : (m.onSrv a f).zmg = m.zmg := by rfl
@[simp] theorem Mach.onSrv_bcm (m : Mach) (a : Act) (f : SrvCtl → SrvCtl) : (m.onSrv a f).bcm = m.bcm := by rfl
@[simp] theorem Mach.onSrv_vlt (m : Mach) (a : Act) (f : SrvCtl → SrvCtl) : (m.onSrv a f).vlt = m.vlt := by rfl
@[simp] theorem Mach.onSrv_fe (m : Mach) (a : Act) (f : SrvCtl → SrvCtl) : (m.onSrv a f).fe = m.fe := by rfl
@[simp] theorem Mach.onSrv_prt (m : Mach) (a : Act) (f : SrvCtl → SrvCtl) : (m.onSrv a f).prt = m.prt := by rfl
@[simp] theorem Mach.onSrv_dsv (m : Mach) (a : Act) (f : SrvCtl → SrvCtl) : (m.onSrv a f).dsv = m.dsv := by rfl
@[simp] theorem Mach.onSrv_pins (m : Mach) (a : Act) (f : SrvCtl → SrvCtl) : (m.onSrv a f).pins = m.pins := by rfl
@[simp] theorem Mach.onSrv_nor (m : Mach) (a : Act) (f : SrvCtl → SrvCtl) : (m.onSrv a f).nor = m.nor := by rfl
@[simp] theorem Mach.onSrv_drawn (m : Mach) (a : Act) (f : SrvCtl → SrvCtl) : (m.onSrv a f).drawn = m.drawn := by rfl
@[simp] theorem Mach.onRef_id (m : Mach) (a : Act) (f : SrvRef → SrvRef) : (m.onRef a f).id = m.id := by rfl
@[simp] theorem Mach.onRef_hda (m : Mach) (a : Act) (f : SrvRef → SrvRef) : (m.onRef a f).hda = m.hda := by rfl
@[simp] theorem Mach.onRef_pwr (m : Mach) (a : Act) (f : SrvRef → SrvRef) : (m.onRef a f).pwr = m.pwr := by rfl
@[simp] theorem Mach.onRef_clk (m : Mach) (a : Act) (f : SrvRef → SrvRef) : (m.onRef a f).clk = m.clk := by rfl
@[simp] theorem Mach.onRef_sup (m : Mach) (a : Act) (f : SrvRef → SrvRef) : (m.onRef a f).sup = m.sup := by rfl
@[simp] theorem Mach.onRef_svc (m : Mach) (a : Act) (f : SrvRef → SrvRef) : (m.onRef a f).svc = m.svc := by rfl
@[simp] theorem Mach.onRef_evr (m : Mach) (a : Act) (f : SrvRef → SrvRef) : (m.onRef a f).evr = m.evr := by rfl
@[simp] theorem Mach.onRef_events (m : Mach) (a : Act) (f : SrvRef → SrvRef) : (m.onRef a f).events = m.events := by rfl
@[simp] theorem Mach.onRef_spn (m : Mach) (a : Act) (f : SrvRef → SrvRef) : (m.onRef a f).spn = m.spn := by rfl
@[simp] theorem Mach.onRef_srvRef (m : Mach) (a : Act) (f : SrvRef → SrvRef) : (m.onRef a f).srvRef = m.srvRef.upd a f := by rfl
@[simp] theorem Mach.onRef_srv (m : Mach) (a : Act) (f : SrvRef → SrvRef) : (m.onRef a f).srv = m.srv := by rfl
@[simp] theorem Mach.onRef_hif (m : Mach) (a : Act) (f : SrvRef → SrvRef) : (m.onRef a f).hif = m.hif := by rfl
@[simp] theorem Mach.onRef_pre (m : Mach) (a : Act) (f : SrvRef → SrvRef) : (m.onRef a f).pre = m.pre := by rfl
@[simp] theorem Mach.onRef_ch (m : Mach) (a : Act) (f : SrvRef → SrvRef) : (m.onRef a f).ch = m.ch := by rfl
@[simp] theorem Mach.onRef_cfx (m : Mach) (a : Act) (f : SrvRef → SrvRef) : (m.onRef a f).cfx = m.cfx := by rfl
@[simp] theorem Mach.onRef_cal (m : Mach) (a : Act) (f : SrvRef → SrvRef) : (m.onRef a f).cal = m.cal := by rfl
@[simp] theorem Mach.onRef_sch (m : Mach) (a : Act) (f : SrvRef → SrvRef) : (m.onRef a f).sch = m.sch := by rfl
@[simp] theorem Mach.onRef_zmg (m : Mach) (a : Act) (f : SrvRef → SrvRef) : (m.onRef a f).zmg = m.zmg := by rfl
@[simp] theorem Mach.onRef_bcm (m : Mach) (a : Act) (f : SrvRef → SrvRef) : (m.onRef a f).bcm = m.bcm := by rfl
@[simp] theorem Mach.onRef_vlt (m : Mach) (a : Act) (f : SrvRef → SrvRef) : (m.onRef a f).vlt = m.vlt := by rfl
@[simp] theorem Mach.onRef_fe (m : Mach) (a : Act) (f : SrvRef → SrvRef) : (m.onRef a f).fe = m.fe := by rfl
@[simp] theorem Mach.onRef_prt (m : Mach) (a : Act) (f : SrvRef → SrvRef) : (m.onRef a f).prt = m.prt := by rfl
@[simp] theorem Mach.onRef_dsv (m : Mach) (a : Act) (f : SrvRef → SrvRef) : (m.onRef a f).dsv = m.dsv := by rfl
@[simp] theorem Mach.onRef_pins (m : Mach) (a : Act) (f : SrvRef → SrvRef) : (m.onRef a f).pins = m.pins := by rfl
@[simp] theorem Mach.onRef_nor (m : Mach) (a : Act) (f : SrvRef → SrvRef) : (m.onRef a f).nor = m.nor := by rfl
@[simp] theorem Mach.onRef_drawn (m : Mach) (a : Act) (f : SrvRef → SrvRef) : (m.onRef a f).drawn = m.drawn := by rfl
@[simp] theorem Mach.onHif_id (m : Mach) (a : Act) (f : Hif → Hif) : (m.onHif a f).id = m.id := by rfl
@[simp] theorem Mach.onHif_hda (m : Mach) (a : Act) (f : Hif → Hif) : (m.onHif a f).hda = m.hda := by rfl
@[simp] theorem Mach.onHif_pwr (m : Mach) (a : Act) (f : Hif → Hif) : (m.onHif a f).pwr = m.pwr := by rfl
@[simp] theorem Mach.onHif_clk (m : Mach) (a : Act) (f : Hif → Hif) : (m.onHif a f).clk = m.clk := by rfl
@[simp] theorem Mach.onHif_sup (m : Mach) (a : Act) (f : Hif → Hif) : (m.onHif a f).sup = m.sup := by rfl
@[simp] theorem Mach.onHif_svc (m : Mach) (a : Act) (f : Hif → Hif) : (m.onHif a f).svc = m.svc := by rfl
@[simp] theorem Mach.onHif_evr (m : Mach) (a : Act) (f : Hif → Hif) : (m.onHif a f).evr = m.evr := by rfl
@[simp] theorem Mach.onHif_events (m : Mach) (a : Act) (f : Hif → Hif) : (m.onHif a f).events = m.events := by rfl
@[simp] theorem Mach.onHif_spn (m : Mach) (a : Act) (f : Hif → Hif) : (m.onHif a f).spn = m.spn := by rfl
@[simp] theorem Mach.onHif_srvRef (m : Mach) (a : Act) (f : Hif → Hif) : (m.onHif a f).srvRef = m.srvRef := by rfl
@[simp] theorem Mach.onHif_srv (m : Mach) (a : Act) (f : Hif → Hif) : (m.onHif a f).srv = m.srv := by rfl
@[simp] theorem Mach.onHif_hif (m : Mach) (a : Act) (f : Hif → Hif) : (m.onHif a f).hif = m.hif.upd a f := by rfl
@[simp] theorem Mach.onHif_pre (m : Mach) (a : Act) (f : Hif → Hif) : (m.onHif a f).pre = m.pre := by rfl
@[simp] theorem Mach.onHif_ch (m : Mach) (a : Act) (f : Hif → Hif) : (m.onHif a f).ch = m.ch := by rfl
@[simp] theorem Mach.onHif_cfx (m : Mach) (a : Act) (f : Hif → Hif) : (m.onHif a f).cfx = m.cfx := by rfl
@[simp] theorem Mach.onHif_cal (m : Mach) (a : Act) (f : Hif → Hif) : (m.onHif a f).cal = m.cal := by rfl
@[simp] theorem Mach.onHif_sch (m : Mach) (a : Act) (f : Hif → Hif) : (m.onHif a f).sch = m.sch := by rfl
@[simp] theorem Mach.onHif_zmg (m : Mach) (a : Act) (f : Hif → Hif) : (m.onHif a f).zmg = m.zmg := by rfl
@[simp] theorem Mach.onHif_bcm (m : Mach) (a : Act) (f : Hif → Hif) : (m.onHif a f).bcm = m.bcm := by rfl
@[simp] theorem Mach.onHif_vlt (m : Mach) (a : Act) (f : Hif → Hif) : (m.onHif a f).vlt = m.vlt := by rfl
@[simp] theorem Mach.onHif_fe (m : Mach) (a : Act) (f : Hif → Hif) : (m.onHif a f).fe = m.fe := by rfl
@[simp] theorem Mach.onHif_prt (m : Mach) (a : Act) (f : Hif → Hif) : (m.onHif a f).prt = m.prt := by rfl
@[simp] theorem Mach.onHif_dsv (m : Mach) (a : Act) (f : Hif → Hif) : (m.onHif a f).dsv = m.dsv := by rfl
@[simp] theorem Mach.onHif_pins (m : Mach) (a : Act) (f : Hif → Hif) : (m.onHif a f).pins = m.pins := by rfl
@[simp] theorem Mach.onHif_nor (m : Mach) (a : Act) (f : Hif → Hif) : (m.onHif a f).nor = m.nor := by rfl
@[simp] theorem Mach.onHif_drawn (m : Mach) (a : Act) (f : Hif → Hif) : (m.onHif a f).drawn = m.drawn := by rfl
@[simp] theorem Mach.onPre_id (m : Mach) (a : Act) (f : Preamp → Preamp) : (m.onPre a f).id = m.id := by rfl
@[simp] theorem Mach.onPre_hda (m : Mach) (a : Act) (f : Preamp → Preamp) : (m.onPre a f).hda = m.hda := by rfl
@[simp] theorem Mach.onPre_pwr (m : Mach) (a : Act) (f : Preamp → Preamp) : (m.onPre a f).pwr = m.pwr := by rfl
@[simp] theorem Mach.onPre_clk (m : Mach) (a : Act) (f : Preamp → Preamp) : (m.onPre a f).clk = m.clk := by rfl
@[simp] theorem Mach.onPre_sup (m : Mach) (a : Act) (f : Preamp → Preamp) : (m.onPre a f).sup = m.sup := by rfl
@[simp] theorem Mach.onPre_svc (m : Mach) (a : Act) (f : Preamp → Preamp) : (m.onPre a f).svc = m.svc := by rfl
@[simp] theorem Mach.onPre_evr (m : Mach) (a : Act) (f : Preamp → Preamp) : (m.onPre a f).evr = m.evr := by rfl
@[simp] theorem Mach.onPre_events (m : Mach) (a : Act) (f : Preamp → Preamp) : (m.onPre a f).events = m.events := by rfl
@[simp] theorem Mach.onPre_spn (m : Mach) (a : Act) (f : Preamp → Preamp) : (m.onPre a f).spn = m.spn := by rfl
@[simp] theorem Mach.onPre_srvRef (m : Mach) (a : Act) (f : Preamp → Preamp) : (m.onPre a f).srvRef = m.srvRef := by rfl
@[simp] theorem Mach.onPre_srv (m : Mach) (a : Act) (f : Preamp → Preamp) : (m.onPre a f).srv = m.srv := by rfl
@[simp] theorem Mach.onPre_hif (m : Mach) (a : Act) (f : Preamp → Preamp) : (m.onPre a f).hif = m.hif := by rfl
@[simp] theorem Mach.onPre_pre (m : Mach) (a : Act) (f : Preamp → Preamp) : (m.onPre a f).pre = m.pre.upd a f := by rfl
@[simp] theorem Mach.onPre_ch (m : Mach) (a : Act) (f : Preamp → Preamp) : (m.onPre a f).ch = m.ch := by rfl
@[simp] theorem Mach.onPre_cfx (m : Mach) (a : Act) (f : Preamp → Preamp) : (m.onPre a f).cfx = m.cfx := by rfl
@[simp] theorem Mach.onPre_cal (m : Mach) (a : Act) (f : Preamp → Preamp) : (m.onPre a f).cal = m.cal := by rfl
@[simp] theorem Mach.onPre_sch (m : Mach) (a : Act) (f : Preamp → Preamp) : (m.onPre a f).sch = m.sch := by rfl
@[simp] theorem Mach.onPre_zmg (m : Mach) (a : Act) (f : Preamp → Preamp) : (m.onPre a f).zmg = m.zmg := by rfl
@[simp] theorem Mach.onPre_bcm (m : Mach) (a : Act) (f : Preamp → Preamp) : (m.onPre a f).bcm = m.bcm := by rfl
@[simp] theorem Mach.onPre_vlt (m : Mach) (a : Act) (f : Preamp → Preamp) : (m.onPre a f).vlt = m.vlt := by rfl
@[simp] theorem Mach.onPre_fe (m : Mach) (a : Act) (f : Preamp → Preamp) : (m.onPre a f).fe = m.fe := by rfl
@[simp] theorem Mach.onPre_prt (m : Mach) (a : Act) (f : Preamp → Preamp) : (m.onPre a f).prt = m.prt := by rfl
@[simp] theorem Mach.onPre_dsv (m : Mach) (a : Act) (f : Preamp → Preamp) : (m.onPre a f).dsv = m.dsv := by rfl
@[simp] theorem Mach.onPre_pins (m : Mach) (a : Act) (f : Preamp → Preamp) : (m.onPre a f).pins = m.pins := by rfl
@[simp] theorem Mach.onPre_nor (m : Mach) (a : Act) (f : Preamp → Preamp) : (m.onPre a f).nor = m.nor := by rfl
@[simp] theorem Mach.onPre_drawn (m : Mach) (a : Act) (f : Preamp → Preamp) : (m.onPre a f).drawn = m.drawn := by rfl
@[simp] theorem Mach.onCh_id (m : Mach) (a : Act) (f : Chan → Chan) : (m.onCh a f).id = m.id := by rfl
@[simp] theorem Mach.onCh_hda (m : Mach) (a : Act) (f : Chan → Chan) : (m.onCh a f).hda = m.hda := by rfl
@[simp] theorem Mach.onCh_pwr (m : Mach) (a : Act) (f : Chan → Chan) : (m.onCh a f).pwr = m.pwr := by rfl
@[simp] theorem Mach.onCh_clk (m : Mach) (a : Act) (f : Chan → Chan) : (m.onCh a f).clk = m.clk := by rfl
@[simp] theorem Mach.onCh_sup (m : Mach) (a : Act) (f : Chan → Chan) : (m.onCh a f).sup = m.sup := by rfl
@[simp] theorem Mach.onCh_svc (m : Mach) (a : Act) (f : Chan → Chan) : (m.onCh a f).svc = m.svc := by rfl
@[simp] theorem Mach.onCh_evr (m : Mach) (a : Act) (f : Chan → Chan) : (m.onCh a f).evr = m.evr := by rfl
@[simp] theorem Mach.onCh_events (m : Mach) (a : Act) (f : Chan → Chan) : (m.onCh a f).events = m.events := by rfl
@[simp] theorem Mach.onCh_spn (m : Mach) (a : Act) (f : Chan → Chan) : (m.onCh a f).spn = m.spn := by rfl
@[simp] theorem Mach.onCh_srvRef (m : Mach) (a : Act) (f : Chan → Chan) : (m.onCh a f).srvRef = m.srvRef := by rfl
@[simp] theorem Mach.onCh_srv (m : Mach) (a : Act) (f : Chan → Chan) : (m.onCh a f).srv = m.srv := by rfl
@[simp] theorem Mach.onCh_hif (m : Mach) (a : Act) (f : Chan → Chan) : (m.onCh a f).hif = m.hif := by rfl
@[simp] theorem Mach.onCh_pre (m : Mach) (a : Act) (f : Chan → Chan) : (m.onCh a f).pre = m.pre := by rfl
@[simp] theorem Mach.onCh_ch (m : Mach) (a : Act) (f : Chan → Chan) : (m.onCh a f).ch = m.ch.upd a f := by rfl
@[simp] theorem Mach.onCh_cfx (m : Mach) (a : Act) (f : Chan → Chan) : (m.onCh a f).cfx = m.cfx := by rfl
@[simp] theorem Mach.onCh_cal (m : Mach) (a : Act) (f : Chan → Chan) : (m.onCh a f).cal = m.cal := by rfl
@[simp] theorem Mach.onCh_sch (m : Mach) (a : Act) (f : Chan → Chan) : (m.onCh a f).sch = m.sch := by rfl
@[simp] theorem Mach.onCh_zmg (m : Mach) (a : Act) (f : Chan → Chan) : (m.onCh a f).zmg = m.zmg := by rfl
@[simp] theorem Mach.onCh_bcm (m : Mach) (a : Act) (f : Chan → Chan) : (m.onCh a f).bcm = m.bcm := by rfl
@[simp] theorem Mach.onCh_vlt (m : Mach) (a : Act) (f : Chan → Chan) : (m.onCh a f).vlt = m.vlt := by rfl
@[simp] theorem Mach.onCh_fe (m : Mach) (a : Act) (f : Chan → Chan) : (m.onCh a f).fe = m.fe := by rfl
@[simp] theorem Mach.onCh_prt (m : Mach) (a : Act) (f : Chan → Chan) : (m.onCh a f).prt = m.prt := by rfl
@[simp] theorem Mach.onCh_dsv (m : Mach) (a : Act) (f : Chan → Chan) : (m.onCh a f).dsv = m.dsv := by rfl
@[simp] theorem Mach.onCh_pins (m : Mach) (a : Act) (f : Chan → Chan) : (m.onCh a f).pins = m.pins := by rfl
@[simp] theorem Mach.onCh_nor (m : Mach) (a : Act) (f : Chan → Chan) : (m.onCh a f).nor = m.nor := by rfl
@[simp] theorem Mach.onCh_drawn (m : Mach) (a : Act) (f : Chan → Chan) : (m.onCh a f).drawn = m.drawn := by rfl
@[simp] theorem Mach.onCfx_id (m : Mach) (a : Act) (f : Cfx → Cfx) : (m.onCfx a f).id = m.id := by rfl
@[simp] theorem Mach.onCfx_hda (m : Mach) (a : Act) (f : Cfx → Cfx) : (m.onCfx a f).hda = m.hda := by rfl
@[simp] theorem Mach.onCfx_pwr (m : Mach) (a : Act) (f : Cfx → Cfx) : (m.onCfx a f).pwr = m.pwr := by rfl
@[simp] theorem Mach.onCfx_clk (m : Mach) (a : Act) (f : Cfx → Cfx) : (m.onCfx a f).clk = m.clk := by rfl
@[simp] theorem Mach.onCfx_sup (m : Mach) (a : Act) (f : Cfx → Cfx) : (m.onCfx a f).sup = m.sup := by rfl
@[simp] theorem Mach.onCfx_svc (m : Mach) (a : Act) (f : Cfx → Cfx) : (m.onCfx a f).svc = m.svc := by rfl
@[simp] theorem Mach.onCfx_evr (m : Mach) (a : Act) (f : Cfx → Cfx) : (m.onCfx a f).evr = m.evr := by rfl
@[simp] theorem Mach.onCfx_events (m : Mach) (a : Act) (f : Cfx → Cfx) : (m.onCfx a f).events = m.events := by rfl
@[simp] theorem Mach.onCfx_spn (m : Mach) (a : Act) (f : Cfx → Cfx) : (m.onCfx a f).spn = m.spn := by rfl
@[simp] theorem Mach.onCfx_srvRef (m : Mach) (a : Act) (f : Cfx → Cfx) : (m.onCfx a f).srvRef = m.srvRef := by rfl
@[simp] theorem Mach.onCfx_srv (m : Mach) (a : Act) (f : Cfx → Cfx) : (m.onCfx a f).srv = m.srv := by rfl
@[simp] theorem Mach.onCfx_hif (m : Mach) (a : Act) (f : Cfx → Cfx) : (m.onCfx a f).hif = m.hif := by rfl
@[simp] theorem Mach.onCfx_pre (m : Mach) (a : Act) (f : Cfx → Cfx) : (m.onCfx a f).pre = m.pre := by rfl
@[simp] theorem Mach.onCfx_ch (m : Mach) (a : Act) (f : Cfx → Cfx) : (m.onCfx a f).ch = m.ch := by rfl
@[simp] theorem Mach.onCfx_cfx (m : Mach) (a : Act) (f : Cfx → Cfx) : (m.onCfx a f).cfx = m.cfx.upd a f := by rfl
@[simp] theorem Mach.onCfx_cal (m : Mach) (a : Act) (f : Cfx → Cfx) : (m.onCfx a f).cal = m.cal := by rfl
@[simp] theorem Mach.onCfx_sch (m : Mach) (a : Act) (f : Cfx → Cfx) : (m.onCfx a f).sch = m.sch := by rfl
@[simp] theorem Mach.onCfx_zmg (m : Mach) (a : Act) (f : Cfx → Cfx) : (m.onCfx a f).zmg = m.zmg := by rfl
@[simp] theorem Mach.onCfx_bcm (m : Mach) (a : Act) (f : Cfx → Cfx) : (m.onCfx a f).bcm = m.bcm := by rfl
@[simp] theorem Mach.onCfx_vlt (m : Mach) (a : Act) (f : Cfx → Cfx) : (m.onCfx a f).vlt = m.vlt := by rfl
@[simp] theorem Mach.onCfx_fe (m : Mach) (a : Act) (f : Cfx → Cfx) : (m.onCfx a f).fe = m.fe := by rfl
@[simp] theorem Mach.onCfx_prt (m : Mach) (a : Act) (f : Cfx → Cfx) : (m.onCfx a f).prt = m.prt := by rfl
@[simp] theorem Mach.onCfx_dsv (m : Mach) (a : Act) (f : Cfx → Cfx) : (m.onCfx a f).dsv = m.dsv := by rfl
@[simp] theorem Mach.onCfx_pins (m : Mach) (a : Act) (f : Cfx → Cfx) : (m.onCfx a f).pins = m.pins := by rfl
@[simp] theorem Mach.onCfx_nor (m : Mach) (a : Act) (f : Cfx → Cfx) : (m.onCfx a f).nor = m.nor := by rfl
@[simp] theorem Mach.onCfx_drawn (m : Mach) (a : Act) (f : Cfx → Cfx) : (m.onCfx a f).drawn = m.drawn := by rfl

@[simp] theorem drew_id (m : Mach) : (drew m).id = m.id := by rfl
@[simp] theorem drew_hda (m : Mach) : (drew m).hda = m.hda := by rfl
@[simp] theorem drew_pwr (m : Mach) : (drew m).pwr = m.pwr := by rfl
@[simp] theorem drew_clk (m : Mach) : (drew m).clk = m.clk := by rfl
@[simp] theorem drew_sup (m : Mach) : (drew m).sup = m.sup := by rfl
@[simp] theorem drew_svc (m : Mach) : (drew m).svc = m.svc := by rfl
@[simp] theorem drew_evr (m : Mach) : (drew m).evr = m.evr := by rfl
@[simp] theorem drew_events (m : Mach) : (drew m).events = m.events := by rfl
@[simp] theorem drew_spn (m : Mach) : (drew m).spn = m.spn := by rfl
@[simp] theorem drew_srvRef (m : Mach) : (drew m).srvRef = m.srvRef := by rfl
@[simp] theorem drew_srv (m : Mach) : (drew m).srv = m.srv := by rfl
@[simp] theorem drew_hif (m : Mach) : (drew m).hif = m.hif := by rfl
@[simp] theorem drew_pre (m : Mach) : (drew m).pre = m.pre := by rfl
@[simp] theorem drew_ch (m : Mach) : (drew m).ch = m.ch := by rfl
@[simp] theorem drew_cfx (m : Mach) : (drew m).cfx = m.cfx := by rfl
@[simp] theorem drew_cal (m : Mach) : (drew m).cal = m.cal := by rfl
@[simp] theorem drew_sch (m : Mach) : (drew m).sch = m.sch := by rfl
@[simp] theorem drew_zmg (m : Mach) : (drew m).zmg = m.zmg := by rfl
@[simp] theorem drew_bcm (m : Mach) : (drew m).bcm = m.bcm := by rfl
@[simp] theorem drew_vlt (m : Mach) : (drew m).vlt = m.vlt := by rfl
@[simp] theorem drew_fe (m : Mach) : (drew m).fe = m.fe := by rfl
@[simp] theorem drew_prt (m : Mach) : (drew m).prt = m.prt := by rfl
@[simp] theorem drew_dsv (m : Mach) : (drew m).dsv = m.dsv := by rfl
@[simp] theorem drew_pins (m : Mach) : (drew m).pins = m.pins := by rfl
@[simp] theorem drew_nor (m : Mach) : (drew m).nor = m.nor := by rfl

end Sys2Proof.Machine
end

