-- ==== Sys2Proof/Laws/Head.lean ====
section
/-! SUPPORT. What the write inhibit of an actuator changes (spec/08 R436), and what a frame of the head bus leaves alone (R413 to R416). -/

namespace Sys2Proof.Machine

/-! A writer that is cut off changes the sector on the media and its entry of the channel (R504). -/

@[simp] theorem slotSpoil_id (a : Act) (h t k : Nat) (m : Mach) : (slotSpoil a h t k m).id = m.id := by rfl
@[simp] theorem slotSpoil_pwr (a : Act) (h t k : Nat) (m : Mach) : (slotSpoil a h t k m).pwr = m.pwr := by rfl
@[simp] theorem slotSpoil_clk (a : Act) (h t k : Nat) (m : Mach) : (slotSpoil a h t k m).clk = m.clk := by rfl
@[simp] theorem slotSpoil_sup (a : Act) (h t k : Nat) (m : Mach) : (slotSpoil a h t k m).sup = m.sup := by rfl
@[simp] theorem slotSpoil_svc (a : Act) (h t k : Nat) (m : Mach) : (slotSpoil a h t k m).svc = m.svc := by rfl
@[simp] theorem slotSpoil_evr (a : Act) (h t k : Nat) (m : Mach) : (slotSpoil a h t k m).evr = m.evr := by rfl
@[simp] theorem slotSpoil_events (a : Act) (h t k : Nat) (m : Mach) : (slotSpoil a h t k m).events = m.events := by rfl
@[simp] theorem slotSpoil_spn (a : Act) (h t k : Nat) (m : Mach) : (slotSpoil a h t k m).spn = m.spn := by rfl
@[simp] theorem slotSpoil_srvRef (a : Act) (h t k : Nat) (m : Mach) : (slotSpoil a h t k m).srvRef = m.srvRef := by rfl
@[simp] theorem slotSpoil_srv (a : Act) (h t k : Nat) (m : Mach) : (slotSpoil a h t k m).srv = m.srv := by rfl
@[simp] theorem slotSpoil_hif (a : Act) (h t k : Nat) (m : Mach) : (slotSpoil a h t k m).hif = m.hif := by rfl
@[simp] theorem slotSpoil_pre (a : Act) (h t k : Nat) (m : Mach) : (slotSpoil a h t k m).pre = m.pre := by rfl
@[simp] theorem slotSpoil_ch (a : Act) (h t k : Nat) (m : Mach) : (slotSpoil a h t k m).ch = m.ch := by rfl
@[simp] theorem slotSpoil_cfx (a : Act) (h t k : Nat) (m : Mach) : (slotSpoil a h t k m).cfx = m.cfx := by rfl
@[simp] theorem slotSpoil_cal (a : Act) (h t k : Nat) (m : Mach) : (slotSpoil a h t k m).cal = m.cal := by rfl
@[simp] theorem slotSpoil_sch (a : Act) (h t k : Nat) (m : Mach) : (slotSpoil a h t k m).sch = m.sch := by rfl
@[simp] theorem slotSpoil_zmg (a : Act) (h t k : Nat) (m : Mach) : (slotSpoil a h t k m).zmg = m.zmg := by rfl
@[simp] theorem slotSpoil_bcm (a : Act) (h t k : Nat) (m : Mach) : (slotSpoil a h t k m).bcm = m.bcm := by rfl
@[simp] theorem slotSpoil_vlt (a : Act) (h t k : Nat) (m : Mach) : (slotSpoil a h t k m).vlt = m.vlt := by rfl
@[simp] theorem slotSpoil_fe (a : Act) (h t k : Nat) (m : Mach) : (slotSpoil a h t k m).fe = m.fe := by rfl
@[simp] theorem slotSpoil_prt (a : Act) (h t k : Nat) (m : Mach) : (slotSpoil a h t k m).prt = m.prt := by rfl
@[simp] theorem slotSpoil_dsv (a : Act) (h t k : Nat) (m : Mach) : (slotSpoil a h t k m).dsv = m.dsv := by rfl
@[simp] theorem slotSpoil_pins (a : Act) (h t k : Nat) (m : Mach) : (slotSpoil a h t k m).pins = m.pins := by rfl
@[simp] theorem slotSpoil_nor (a : Act) (h t k : Nat) (m : Mach) : (slotSpoil a h t k m).nor = m.nor := by rfl
@[simp] theorem slotSpoil_drawn (a : Act) (h t k : Nat) (m : Mach) : (slotSpoil a h t k m).drawn = m.drawn := by rfl
@[simp] theorem spoilWrite_id (a : Act) (m : Mach) : (spoilWrite a m).id = m.id := by unfold spoilWrite; (repeat' split) <;> simp
@[simp] theorem spoilWrite_pwr (a : Act) (m : Mach) : (spoilWrite a m).pwr = m.pwr := by unfold spoilWrite; (repeat' split) <;> simp
@[simp] theorem spoilWrite_clk (a : Act) (m : Mach) : (spoilWrite a m).clk = m.clk := by unfold spoilWrite; (repeat' split) <;> simp
@[simp] theorem spoilWrite_sup (a : Act) (m : Mach) : (spoilWrite a m).sup = m.sup := by unfold spoilWrite; (repeat' split) <;> simp
@[simp] theorem spoilWrite_svc (a : Act) (m : Mach) : (spoilWrite a m).svc = m.svc := by unfold spoilWrite; (repeat' split) <;> simp
@[simp] theorem spoilWrite_evr (a : Act) (m : Mach) : (spoilWrite a m).evr = m.evr := by unfold spoilWrite; (repeat' split) <;> simp
@[simp] theorem spoilWrite_events (a : Act) (m : Mach) : (spoilWrite a m).events = m.events := by unfold spoilWrite; (repeat' split) <;> simp
@[simp] theorem spoilWrite_spn (a : Act) (m : Mach) : (spoilWrite a m).spn = m.spn := by unfold spoilWrite; (repeat' split) <;> simp
@[simp] theorem spoilWrite_srvRef (a : Act) (m : Mach) : (spoilWrite a m).srvRef = m.srvRef := by unfold spoilWrite; (repeat' split) <;> simp
@[simp] theorem spoilWrite_srv (a : Act) (m : Mach) : (spoilWrite a m).srv = m.srv := by unfold spoilWrite; (repeat' split) <;> simp
@[simp] theorem spoilWrite_hif (a : Act) (m : Mach) : (spoilWrite a m).hif = m.hif := by unfold spoilWrite; (repeat' split) <;> simp
@[simp] theorem spoilWrite_pre (a : Act) (m : Mach) : (spoilWrite a m).pre = m.pre := by unfold spoilWrite; (repeat' split) <;> simp
@[simp] theorem spoilWrite_cfx (a : Act) (m : Mach) : (spoilWrite a m).cfx = m.cfx := by unfold spoilWrite; (repeat' split) <;> simp
@[simp] theorem spoilWrite_cal (a : Act) (m : Mach) : (spoilWrite a m).cal = m.cal := by unfold spoilWrite; (repeat' split) <;> simp
@[simp] theorem spoilWrite_sch (a : Act) (m : Mach) : (spoilWrite a m).sch = m.sch := by unfold spoilWrite; (repeat' split) <;> simp
@[simp] theorem spoilWrite_zmg (a : Act) (m : Mach) : (spoilWrite a m).zmg = m.zmg := by unfold spoilWrite; (repeat' split) <;> simp
@[simp] theorem spoilWrite_bcm (a : Act) (m : Mach) : (spoilWrite a m).bcm = m.bcm := by unfold spoilWrite; (repeat' split) <;> simp
@[simp] theorem spoilWrite_vlt (a : Act) (m : Mach) : (spoilWrite a m).vlt = m.vlt := by unfold spoilWrite; (repeat' split) <;> simp
@[simp] theorem spoilWrite_fe (a : Act) (m : Mach) : (spoilWrite a m).fe = m.fe := by unfold spoilWrite; (repeat' split) <;> simp
@[simp] theorem spoilWrite_prt (a : Act) (m : Mach) : (spoilWrite a m).prt = m.prt := by unfold spoilWrite; (repeat' split) <;> simp
@[simp] theorem spoilWrite_dsv (a : Act) (m : Mach) : (spoilWrite a m).dsv = m.dsv := by unfold spoilWrite; (repeat' split) <;> simp
@[simp] theorem spoilWrite_pins (a : Act) (m : Mach) : (spoilWrite a m).pins = m.pins := by unfold spoilWrite; (repeat' split) <;> simp
@[simp] theorem spoilWrite_nor (a : Act) (m : Mach) : (spoilWrite a m).nor = m.nor := by unfold spoilWrite; (repeat' split) <;> simp
@[simp] theorem spoilWrite_drawn (a : Act) (m : Mach) : (spoilWrite a m).drawn = m.drawn := by unfold spoilWrite; (repeat' split) <;> simp

@[simp] theorem refreshInhibit_id (a : Act) (m : Mach) : (refreshInhibit a m).id = m.id := by unfold refreshInhibit; (repeat' split) <;> simp
@[simp] theorem refreshInhibit_pwr (a : Act) (m : Mach) : (refreshInhibit a m).pwr = m.pwr := by unfold refreshInhibit; (repeat' split) <;> simp
@[simp] theorem refreshInhibit_clk (a : Act) (m : Mach) : (refreshInhibit a m).clk = m.clk := by unfold refreshInhibit; (repeat' split) <;> simp
@[simp] theorem refreshInhibit_sup (a : Act) (m : Mach) : (refreshInhibit a m).sup = m.sup := by unfold refreshInhibit; (repeat' split) <;> simp
@[simp] theorem refreshInhibit_svc (a : Act) (m : Mach) : (refreshInhibit a m).svc = m.svc := by unfold refreshInhibit; (repeat' split) <;> simp
@[simp] theorem refreshInhibit_evr (a : Act) (m : Mach) : (refreshInhibit a m).evr = m.evr := by unfold refreshInhibit; (repeat' split) <;> simp
@[simp] theorem refreshInhibit_events (a : Act) (m : Mach) : (refreshInhibit a m).events = m.events := by unfold refreshInhibit; (repeat' split) <;> simp
@[simp] theorem refreshInhibit_spn (a : Act) (m : Mach) : (refreshInhibit a m).spn = m.spn := by unfold refreshInhibit; (repeat' split) <;> simp
@[simp] theorem refreshInhibit_srvRef (a : Act) (m : Mach) : (refreshInhibit a m).srvRef = m.srvRef := by unfold refreshInhibit; (repeat' split) <;> simp
@[simp] theorem refreshInhibit_srv (a : Act) (m : Mach) : (refreshInhibit a m).srv = m.srv := by unfold refreshInhibit; (repeat' split) <;> simp
@[simp] theorem refreshInhibit_pre (a : Act) (m : Mach) : (refreshInhibit a m).pre = m.pre := by unfold refreshInhibit; (repeat' split) <;> simp
@[simp] theorem refreshInhibit_cfx (a : Act) (m : Mach) : (refreshInhibit a m).cfx = m.cfx := by unfold refreshInhibit; (repeat' split) <;> simp
@[simp] theorem refreshInhibit_cal (a : Act) (m : Mach) : (refreshInhibit a m).cal = m.cal := by unfold refreshInhibit; (repeat' split) <;> simp
@[simp] theorem refreshInhibit_sch (a : Act) (m : Mach) : (refreshInhibit a m).sch = m.sch := by unfold refreshInhibit; (repeat' split) <;> simp
@[simp] theorem refreshInhibit_zmg (a : Act) (m : Mach) : (refreshInhibit a m).zmg = m.zmg := by unfold refreshInhibit; (repeat' split) <;> simp
@[simp] theorem refreshInhibit_bcm (a : Act) (m : Mach) : (refreshInhibit a m).bcm = m.bcm := by unfold refreshInhibit; (repeat' split) <;> simp
@[simp] theorem refreshInhibit_vlt (a : Act) (m : Mach) : (refreshInhibit a m).vlt = m.vlt := by unfold refreshInhibit; (repeat' split) <;> simp
@[simp] theorem refreshInhibit_fe (a : Act) (m : Mach) : (refreshInhibit a m).fe = m.fe := by unfold refreshInhibit; (repeat' split) <;> simp
@[simp] theorem refreshInhibit_prt (a : Act) (m : Mach) : (refreshInhibit a m).prt = m.prt := by unfold refreshInhibit; (repeat' split) <;> simp
@[simp] theorem refreshInhibit_dsv (a : Act) (m : Mach) : (refreshInhibit a m).dsv = m.dsv := by unfold refreshInhibit; (repeat' split) <;> simp
@[simp] theorem refreshInhibit_pins (a : Act) (m : Mach) : (refreshInhibit a m).pins = m.pins := by unfold refreshInhibit; (repeat' split) <;> simp
@[simp] theorem refreshInhibit_nor (a : Act) (m : Mach) : (refreshInhibit a m).nor = m.nor := by unfold refreshInhibit; (repeat' split) <;> simp
@[simp] theorem refreshInhibit_drawn (a : Act) (m : Mach) : (refreshInhibit a m).drawn = m.drawn := by unfold refreshInhibit; (repeat' split) <;> simp

@[simp] theorem spoilWrite_ch_other (a : Act) (m : Mach) : (spoilWrite a m).ch.get a.other = m.ch.get a.other := by
  unfold spoilWrite; (repeat' split) <;> simp

@[simp] theorem refreshInhibit_ch_other (a : Act) (m : Mach) : (refreshInhibit a m).ch.get a.other = m.ch.get a.other := by
  unfold refreshInhibit; (repeat' split) <;> simp

/-- Raising or releasing write inhibit changes nothing of the other actuator. -/
@[simp] theorem refreshInhibit_hif_other (a : Act) (m : Mach) : (refreshInhibit a m).hif.get a.other = m.hif.get a.other := by
  unfold refreshInhibit; (repeat' split) <;> simp

@[simp] theorem refreshInhibit_wusClk (a b : Act) (m : Mach) : ((refreshInhibit a m).hif.get b).wusClk = (m.hif.get b).wusClk := by
  unfold refreshInhibit; (repeat' split) <;> cases a <;> cases b <;> simp [Pair.get, Pair.upd]

/-- A head has its write inhibit exactly when a source of it stands (R436). -/
theorem refreshInhibit_inhibit (a : Act) (m : Mach) : ((refreshInhibit a m).hif.get a).inhibit = inhibitSource m a := by
  unfold refreshInhibit; (repeat' split) <;> simp_all

@[simp] theorem sendFrame_id (a : Act) (f : Frame) (acks : List Ack) (x : Bool) (m : Mach) : (sendFrame a f acks x m).id = m.id := by simp only [sendFrame, ifDo]; (repeat' split) <;> simp
@[simp] theorem sendFrame_pwr (a : Act) (f : Frame) (acks : List Ack) (x : Bool) (m : Mach) : (sendFrame a f acks x m).pwr = m.pwr := by simp only [sendFrame, ifDo]; (repeat' split) <;> simp
@[simp] theorem sendFrame_clk (a : Act) (f : Frame) (acks : List Ack) (x : Bool) (m : Mach) : (sendFrame a f acks x m).clk = m.clk := by simp only [sendFrame, ifDo]; (repeat' split) <;> simp
@[simp] theorem sendFrame_sup (a : Act) (f : Frame) (acks : List Ack) (x : Bool) (m : Mach) : (sendFrame a f acks x m).sup = m.sup := by simp only [sendFrame, ifDo]; (repeat' split) <;> simp
@[simp] theorem sendFrame_svc (a : Act) (f : Frame) (acks : List Ack) (x : Bool) (m : Mach) : (sendFrame a f acks x m).svc = m.svc := by simp only [sendFrame, ifDo]; (repeat' split) <;> simp
@[simp] theorem sendFrame_spn (a : Act) (f : Frame) (acks : List Ack) (x : Bool) (m : Mach) : (sendFrame a f acks x m).spn = m.spn := by simp only [sendFrame, ifDo]; (repeat' split) <;> simp
@[simp] theorem sendFrame_srvRef (a : Act) (f : Frame) (acks : List Ack) (x : Bool) (m : Mach) : (sendFrame a f acks x m).srvRef = m.srvRef := by simp only [sendFrame, ifDo]; (repeat' split) <;> simp
@[simp] theorem sendFrame_srv (a : Act) (f : Frame) (acks : List Ack) (x : Bool) (m : Mach) : (sendFrame a f acks x m).srv = m.srv := by simp only [sendFrame, ifDo]; (repeat' split) <;> simp
@[simp] theorem sendFrame_cfx (a : Act) (f : Frame) (acks : List Ack) (x : Bool) (m : Mach) : (sendFrame a f acks x m).cfx = m.cfx := by simp only [sendFrame, ifDo]; (repeat' split) <;> simp
@[simp] theorem sendFrame_cal (a : Act) (f : Frame) (acks : List Ack) (x : Bool) (m : Mach) : (sendFrame a f acks x m).cal = m.cal := by simp only [sendFrame, ifDo]; (repeat' split) <;> simp
@[simp] theorem sendFrame_sch (a : Act) (f : Frame) (acks : List Ack) (x : Bool) (m : Mach) : (sendFrame a f acks x m).sch = m.sch := by simp only [sendFrame, ifDo]; (repeat' split) <;> simp
@[simp] theorem sendFrame_zmg (a : Act) (f : Frame) (acks : List Ack) (x : Bool) (m : Mach) : (sendFrame a f acks x m).zmg = m.zmg := by simp only [sendFrame, ifDo]; (repeat' split) <;> simp
@[simp] theorem sendFrame_bcm (a : Act) (f : Frame) (acks : List Ack) (x : Bool) (m : Mach) : (sendFrame a f acks x m).bcm = m.bcm := by simp only [sendFrame, ifDo]; (repeat' split) <;> simp
@[simp] theorem sendFrame_vlt (a : Act) (f : Frame) (acks : List Ack) (x : Bool) (m : Mach) : (sendFrame a f acks x m).vlt = m.vlt := by simp only [sendFrame, ifDo]; (repeat' split) <;> simp
@[simp] theorem sendFrame_fe (a : Act) (f : Frame) (acks : List Ack) (x : Bool) (m : Mach) : (sendFrame a f acks x m).fe = m.fe := by simp only [sendFrame, ifDo]; (repeat' split) <;> simp
@[simp] theorem sendFrame_prt (a : Act) (f : Frame) (acks : List Ack) (x : Bool) (m : Mach) : (sendFrame a f acks x m).prt = m.prt := by simp only [sendFrame, ifDo]; (repeat' split) <;> simp
@[simp] theorem sendFrame_dsv (a : Act) (f : Frame) (acks : List Ack) (x : Bool) (m : Mach) : (sendFrame a f acks x m).dsv = m.dsv := by simp only [sendFrame, ifDo]; (repeat' split) <;> simp
@[simp] theorem sendFrame_nor (a : Act) (f : Frame) (acks : List Ack) (x : Bool) (m : Mach) : (sendFrame a f acks x m).nor = m.nor := by simp only [sendFrame, ifDo]; (repeat' split) <;> simp
@[simp] theorem sendFrame_drawn (a : Act) (f : Frame) (acks : List Ack) (x : Bool) (m : Mach) : (sendFrame a f acks x m).drawn = m.drawn := by simp only [sendFrame, ifDo]; (repeat' split) <;> simp

/-- The supplies of a preamp change nothing of the clock unit. -/
@[simp] theorem lossSupply_clk (a : Act) (m : Mach) : (lossSupply a m).clk = m.clk := by unfold lossSupply; split <;> rfl

/-- Outside a power loss the supplies stay as they are at the end of a retract. -/
theorem lossSupply_of_no_loss (a : Act) (m : Mach) (h : m.pwr.loss = false) : lossSupply a m = m := by simp [lossSupply, h]

end Sys2Proof.Machine
end

