-- ==== Sys2Proof/Laws/Boot.lean ====
section
/-! SUPPORT. What loading the microcode does when a block stays rejected (spec/04 R226). -/

namespace Sys2Proof.Machine

@[simp] theorem loadLife_image (a b : Act) (m : Mach) : imageInForce (loadLife a m) b = imageInForce m b := rfl
@[simp] theorem loadChannel_image (a b : Act) (m : Mach) : imageInForce (loadChannel a m) b = imageInForce m b := by
  simp only [loadChannel, loadChCfg]; (repeat' split) <;> rfl
@[simp] theorem loadLife_sup (a : Act) (m : Mach) : (loadLife a m).sup = m.sup := rfl
@[simp] theorem loadChannel_sup (a : Act) (m : Mach) : (loadChannel a m).sup = m.sup := by
  simp only [loadChannel, loadChCfg]; (repeat' split) <;> rfl
@[simp] theorem resetInit_sup (a : Act) (m : Mach) : (resetInit a m).sup = m.sup := by
  unfold resetInit; split <;> rfl

/-- A load never clears the failure. -/
theorem loadStore_keeps (a : Act) (arr : List (Act × BitVec 16 × List (List Byte))) (m : Mach) (h : m.sup.ucodeFail = true) :
    (loadStore a arr m).sup.ucodeFail = true := by
  unfold loadStore; (repeat' (first | assumption | split | simp_all))

/-- A rejected block is a failure (R226). -/
theorem loadStore_fails (a : Act) (arr : List (Act × BitVec 16 × List (List Byte))) (v : List Byte) (m : Mach) (h : imageInForce m a = some v)
    (hb : (takeBlocks arr a v).any (fun b => b.isNone) = true) : (loadStore a arr m).sup.ucodeFail = true := by
  have e : ∃ k, (takeBlocks arr a v).findIdx? (fun b => b.isNone) = some k := by
    rw [← Option.isSome_iff_exists, List.findIdx?_isSome, hb]
  obtain ⟨k, e⟩ := e
  simp only [loadStore, h, e, report_sup]

/-- The image of one actuator is no matter of another's load. -/
theorem loadStore_image (a : Act) (arr : List (Act × BitVec 16 × List (List Byte))) (m : Mach) :
    imageInForce (loadStore a arr m) a.other = imageInForce m a.other := by
  have e : ∀ n : Mach, n.cfx.get a.other = m.cfx.get a.other → n.sup.records = m.sup.records → imageInForce n a.other = imageInForce m a.other := by
    intro n h1 h2; simp only [imageInForce, recVal, h1, h2]
  refine e _ ?_ ?_
  · unfold loadStore; split
    · rfl
    · dsimp only; (repeat' split) <;> simp
  · unfold loadStore; split
    · rfl
    · dsimp only; (repeat' split) <;> simp

theorem resetInit_image (a : Act) (m : Mach) : imageInForce (resetInit a m) a.other = imageInForce m a.other := by
  unfold resetInit; split <;> simp [imageInForce, recVal]

theorem actBoot_sup (a : Act) (arr : List (Act × BitVec 16 × List (List Byte))) (m : Mach) :
    (actBoot a arr m).sup = (loadStore a arr (loadChannel a (loadLife a m))).sup := by
  simp only [actBoot]; split <;> simp

theorem actBoot_image (a : Act) (arr : List (Act × BitVec 16 × List (List Byte))) (m : Mach) :
    imageInForce (actBoot a arr m) a.other = imageInForce m a.other := by
  have e : ∀ n : Mach, imageInForce ((n.onSrv a (srvCtlInit n a)).onRef a (srvRefInit n a)) a.other = imageInForce n a.other := fun _ => rfl
  simp only [actBoot]; split
  · exact (loadStore_image a arr _).trans (by simp)
  · exact (resetInit_image a _).trans ((loadStore_image a arr _).trans (by simp))

/-- Stage 8 fails when a block of either sequencer's image stays rejected (R226). -/
theorem mediaBoot_fails (arr : List (Act × BitVec 16 × List (List Byte))) (a : Act) (v : List Byte) (m : Mach) (h : imageInForce m a = some v)
    (hb : (takeBlocks arr a v).any (fun b => b.isNone) = true) : (mediaBoot arr m).sup.ucodeFail = true := by
  show (actBoot .a1 arr (actBoot .a0 arr m)).sup.ucodeFail = true
  cases a
  · rw [actBoot_sup]
    refine loadStore_keeps _ _ _ ?_
    rw [loadChannel_sup, loadLife_sup, actBoot_sup]
    exact loadStore_fails .a0 arr v _ (by simpa using h) hb
  · rw [actBoot_sup]
    exact loadStore_fails .a1 arr v _ (by rw [loadChannel_image, loadLife_image]; exact (actBoot_image .a0 arr m).trans h) hb

end Sys2Proof.Machine
end

