-- ==== Sys2Proof/Laws/Channel.lean ====
section
/-! SUPPORT. What the parts of a sector's decoding change in a read channel (spec/09 R458, R459, R464, R487 to R498). -/

namespace Sys2Proof.Machine

/-- Adaptation leaves counters and results alone. -/
theorem Chan.adaptFrom_keeps (c : Chan) (g : SecSignal) : (c.adaptFrom g).1.secCnt = c.secCnt ∧ (c.adaptFrom g).1.failCnt = c.failCnt ∧
    (c.adaptFrom g).1.corrBits = c.corrBits ∧ (c.adaptFrom g).1.lastSec = c.lastSec ∧ (c.adaptFrom g).1.secs = c.secs := by
  unfold Chan.adaptFrom
  split
  · exact ⟨rfl, rfl, rfl, rfl, rfl⟩
  · dsimp only
    refine ⟨?_, ?_, ?_, ?_, ?_⟩ <;> (split <;> first | rfl | (split <;> first | rfl | (split <;> rfl)))

/-- A conditional change keeps what the change keeps. -/
theorem ifDo_keeps {α : Type} (view : Mach → α) (c : Bool) (f : Mach → Mach) (m : Mach) (h : ∀ m, view (f m) = view m) :
    view (ifDo c f m) = view m := by
  unfold ifDo
  split
  · exact h m
  · rfl

/-- The findings of a sector change no channel. -/
@[simp] theorem sectorReports_ch (a : Act) (x : Sec) (v : Verdict) (w : Reg) (f : Option Payload) (g : SecSignal) (m : Mach) :
    (sectorReports a x v w f g m).ch = m.ch := by
  unfold sectorReports
  dsimp only
  iterate 4 rw [ifDo_keeps Mach.ch _ _ _ (fun m => report_ch _ _ _ m)]

/-- The channel after it has adapted. -/
theorem sectorAdapt_ch (a : Act) (x : Sec) (g : SecSignal) (m : Mach) : (sectorAdapt a x g m).ch.get a.other = m.ch.get a.other ∧
    ((sectorAdapt a x g m).ch.get a).secCnt = (m.ch.get a).secCnt ∧ ((sectorAdapt a x g m).ch.get a).failCnt = (m.ch.get a).failCnt ∧
    ((sectorAdapt a x g m).ch.get a).corrBits = (m.ch.get a).corrBits ∧ ((sectorAdapt a x g m).ch.get a).lastSec = (m.ch.get a).lastSec ∧
    ((sectorAdapt a x g m).ch.get a).secs = (m.ch.get a).secs := by
  obtain ⟨h1, h2, h3, h4, h5⟩ := Chan.adaptFrom_keeps (m.ch.get a) g
  unfold sectorAdapt
  dsimp only
  split
  · simp [h1, h2, h3, h4, h5]
  · split <;> simp [h1, h2, h3, h4, h5]

end Sys2Proof.Machine
end

