-- ==== Sys2Proof/Laws/Clock.lean ====
section
/-! SUPPORT. Gray code (spec/03 R171) and what the loss of a channel clock leaves alone (R161). -/

namespace Sys2Proof.Machine

/-- The conversion from Gray code undoes the conversion to it (R171). -/
theorem fromGray_toGray (b : BitVec 8) : fromGray (toGray b) = b := by
  revert b; decide +kernel

/-- A transfer delivers every event that its source has counted, by the count itself (R171 to R174). -/
theorem transfer_eq (c : Crossing) (n : Byte) (data : BitVec 64) (acked : Bool) : c.transfer n data acked =
    if acked then { c with
        count := c.count + n, bundle := if c.busy then c.bundle else data, taken := if c.busy then c.bundle else data
        delta := c.count + n - c.last, last := c.count + n, busy := false }
    else { c with count := c.count + n, bundle := if c.busy then c.bundle else data, busy := true } := by
  simp only [Crossing.transfer, fromGray_toGray]

/-- Outside the power-loss sequence a command that can raise a write inhibit has its own effect alone (R439). -/
theorem runCut_calm (s : State) (f : Mach → Mach) (h : (f s.m).pwr.loss = false) : s.runCut f = .next { s with m := f s.m } := by
  simp [State.runCut, lossCut, h]

@[simp] theorem chLost_pwr (a : Act) (m : Mach) : (chLost a m).pwr = m.pwr := by simp [chLost]

theorem chLost_clk (a : Act) (m : Mach) :
    (chLost a m).clk = { m.clk with chLock := m.clk.chLock.upd a (fun _ => false), lolCnt := m.clk.lolCnt.inc } := by simp [chLost]

end Sys2Proof.Machine
end

