-- ==== Sys2Proof/Laws/Service.lean ====
section
/-! SUPPORT. What accepting, refusing and answering a service request changes, and what a request row does (spec/18 R905 to R927). -/

namespace Sys2Proof.Machine

@[simp] theorem accept_id (h : Hdr) (op : Nat) (x : Bool) (m : Mach) : (accept h op x m).id = m.id := by rfl
@[simp] theorem accept_hda (h : Hdr) (op : Nat) (x : Bool) (m : Mach) : (accept h op x m).hda = m.hda := by rfl
@[simp] theorem accept_pwr (h : Hdr) (op : Nat) (x : Bool) (m : Mach) : (accept h op x m).pwr = m.pwr := by rfl
@[simp] theorem accept_clk (h : Hdr) (op : Nat) (x : Bool) (m : Mach) : (accept h op x m).clk = m.clk := by rfl
@[simp] theorem accept_sup (h : Hdr) (op : Nat) (x : Bool) (m : Mach) : (accept h op x m).sup = m.sup := by rfl
@[simp] theorem accept_evr (h : Hdr) (op : Nat) (x : Bool) (m : Mach) : (accept h op x m).evr = m.evr := by rfl
@[simp] theorem accept_events (h : Hdr) (op : Nat) (x : Bool) (m : Mach) : (accept h op x m).events = m.events := by rfl
@[simp] theorem accept_spn (h : Hdr) (op : Nat) (x : Bool) (m : Mach) : (accept h op x m).spn = m.spn := by rfl
@[simp] theorem accept_srvRef (h : Hdr) (op : Nat) (x : Bool) (m : Mach) : (accept h op x m).srvRef = m.srvRef := by rfl
@[simp] theorem accept_srv (h : Hdr) (op : Nat) (x : Bool) (m : Mach) : (accept h op x m).srv = m.srv := by rfl
@[simp] theorem accept_hif (h : Hdr) (op : Nat) (x : Bool) (m : Mach) : (accept h op x m).hif = m.hif := by rfl
@[simp] theorem accept_pre (h : Hdr) (op : Nat) (x : Bool) (m : Mach) : (accept h op x m).pre = m.pre := by rfl
@[simp] theorem accept_ch (h : Hdr) (op : Nat) (x : Bool) (m : Mach) : (accept h op x m).ch = m.ch := by rfl
@[simp] theorem accept_cfx (h : Hdr) (op : Nat) (x : Bool) (m : Mach) : (accept h op x m).cfx = m.cfx := by rfl
@[simp] theorem accept_cal (h : Hdr) (op : Nat) (x : Bool) (m : Mach) : (accept h op x m).cal = m.cal := by rfl
@[simp] theorem accept_sch (h : Hdr) (op : Nat) (x : Bool) (m : Mach) : (accept h op x m).sch = m.sch := by rfl
@[simp] theorem accept_zmg (h : Hdr) (op : Nat) (x : Bool) (m : Mach) : (accept h op x m).zmg = m.zmg := by rfl
@[simp] theorem accept_bcm (h : Hdr) (op : Nat) (x : Bool) (m : Mach) : (accept h op x m).bcm = m.bcm := by rfl
@[simp] theorem accept_vlt (h : Hdr) (op : Nat) (x : Bool) (m : Mach) : (accept h op x m).vlt = m.vlt := by rfl
@[simp] theorem accept_fe (h : Hdr) (op : Nat) (x : Bool) (m : Mach) : (accept h op x m).fe = m.fe := by rfl
@[simp] theorem accept_prt (h : Hdr) (op : Nat) (x : Bool) (m : Mach) : (accept h op x m).prt = m.prt := by rfl
@[simp] theorem accept_dsv (h : Hdr) (op : Nat) (x : Bool) (m : Mach) : (accept h op x m).dsv = m.dsv := by rfl
@[simp] theorem accept_pins (h : Hdr) (op : Nat) (x : Bool) (m : Mach) : (accept h op x m).pins = m.pins := by rfl
@[simp] theorem accept_nor (h : Hdr) (op : Nat) (x : Bool) (m : Mach) : (accept h op x m).nor = m.nor := by rfl
@[simp] theorem accept_drawn (h : Hdr) (op : Nat) (x : Bool) (m : Mach) : (accept h op x m).drawn = m.drawn := by rfl
@[simp] theorem postNotice_id (p : Ctrlr → Bool) (dw : Nat) (m : Mach) : (postNotice p dw m).id = m.id := by rfl
@[simp] theorem postNotice_hda (p : Ctrlr → Bool) (dw : Nat) (m : Mach) : (postNotice p dw m).hda = m.hda := by rfl
@[simp] theorem postNotice_pwr (p : Ctrlr → Bool) (dw : Nat) (m : Mach) : (postNotice p dw m).pwr = m.pwr := by rfl
@[simp] theorem postNotice_clk (p : Ctrlr → Bool) (dw : Nat) (m : Mach) : (postNotice p dw m).clk = m.clk := by rfl
@[simp] theorem postNotice_sup (p : Ctrlr → Bool) (dw : Nat) (m : Mach) : (postNotice p dw m).sup = m.sup := by rfl
@[simp] theorem postNotice_svc (p : Ctrlr → Bool) (dw : Nat) (m : Mach) : (postNotice p dw m).svc = m.svc := by rfl
@[simp] theorem postNotice_evr (p : Ctrlr → Bool) (dw : Nat) (m : Mach) : (postNotice p dw m).evr = m.evr := by rfl
@[simp] theorem postNotice_events (p : Ctrlr → Bool) (dw : Nat) (m : Mach) : (postNotice p dw m).events = m.events := by rfl
@[simp] theorem postNotice_spn (p : Ctrlr → Bool) (dw : Nat) (m : Mach) : (postNotice p dw m).spn = m.spn := by rfl
@[simp] theorem postNotice_srvRef (p : Ctrlr → Bool) (dw : Nat) (m : Mach) : (postNotice p dw m).srvRef = m.srvRef := by rfl
@[simp] theorem postNotice_srv (p : Ctrlr → Bool) (dw : Nat) (m : Mach) : (postNotice p dw m).srv = m.srv := by rfl
@[simp] theorem postNotice_hif (p : Ctrlr → Bool) (dw : Nat) (m : Mach) : (postNotice p dw m).hif = m.hif := by rfl
@[simp] theorem postNotice_pre (p : Ctrlr → Bool) (dw : Nat) (m : Mach) : (postNotice p dw m).pre = m.pre := by rfl
@[simp] theorem postNotice_ch (p : Ctrlr → Bool) (dw : Nat) (m : Mach) : (postNotice p dw m).ch = m.ch := by rfl
@[simp] theorem postNotice_cfx (p : Ctrlr → Bool) (dw : Nat) (m : Mach) : (postNotice p dw m).cfx = m.cfx := by rfl
@[simp] theorem postNotice_cal (p : Ctrlr → Bool) (dw : Nat) (m : Mach) : (postNotice p dw m).cal = m.cal := by rfl
@[simp] theorem postNotice_sch (p : Ctrlr → Bool) (dw : Nat) (m : Mach) : (postNotice p dw m).sch = m.sch := by rfl
@[simp] theorem postNotice_zmg (p : Ctrlr → Bool) (dw : Nat) (m : Mach) : (postNotice p dw m).zmg = m.zmg := by rfl
@[simp] theorem postNotice_bcm (p : Ctrlr → Bool) (dw : Nat) (m : Mach) : (postNotice p dw m).bcm = m.bcm := by rfl
@[simp] theorem postNotice_vlt (p : Ctrlr → Bool) (dw : Nat) (m : Mach) : (postNotice p dw m).vlt = m.vlt := by rfl
@[simp] theorem postNotice_prt (p : Ctrlr → Bool) (dw : Nat) (m : Mach) : (postNotice p dw m).prt = m.prt := by rfl
@[simp] theorem postNotice_dsv (p : Ctrlr → Bool) (dw : Nat) (m : Mach) : (postNotice p dw m).dsv = m.dsv := by rfl
@[simp] theorem postNotice_pins (p : Ctrlr → Bool) (dw : Nat) (m : Mach) : (postNotice p dw m).pins = m.pins := by rfl
@[simp] theorem postNotice_nor (p : Ctrlr → Bool) (dw : Nat) (m : Mach) : (postNotice p dw m).nor = m.nor := by rfl
@[simp] theorem postNotice_drawn (p : Ctrlr → Bool) (dw : Nat) (m : Mach) : (postNotice p dw m).drawn = m.drawn := by rfl
@[simp] theorem replyNotice_id (h : Hdr) (m : Mach) : (replyNotice h m).id = m.id := by unfold replyNotice; (repeat' split) <;> rfl
@[simp] theorem replyNotice_hda (h : Hdr) (m : Mach) : (replyNotice h m).hda = m.hda := by unfold replyNotice; (repeat' split) <;> rfl
@[simp] theorem replyNotice_pwr (h : Hdr) (m : Mach) : (replyNotice h m).pwr = m.pwr := by unfold replyNotice; (repeat' split) <;> rfl
@[simp] theorem replyNotice_clk (h : Hdr) (m : Mach) : (replyNotice h m).clk = m.clk := by unfold replyNotice; (repeat' split) <;> rfl
@[simp] theorem replyNotice_sup (h : Hdr) (m : Mach) : (replyNotice h m).sup = m.sup := by unfold replyNotice; (repeat' split) <;> rfl
@[simp] theorem replyNotice_svc (h : Hdr) (m : Mach) : (replyNotice h m).svc = m.svc := by unfold replyNotice; (repeat' split) <;> rfl
@[simp] theorem replyNotice_evr (h : Hdr) (m : Mach) : (replyNotice h m).evr = m.evr := by unfold replyNotice; (repeat' split) <;> rfl
@[simp] theorem replyNotice_events (h : Hdr) (m : Mach) : (replyNotice h m).events = m.events := by unfold replyNotice; (repeat' split) <;> rfl
@[simp] theorem replyNotice_spn (h : Hdr) (m : Mach) : (replyNotice h m).spn = m.spn := by unfold replyNotice; (repeat' split) <;> rfl
@[simp] theorem replyNotice_srvRef (h : Hdr) (m : Mach) : (replyNotice h m).srvRef = m.srvRef := by unfold replyNotice; (repeat' split) <;> rfl
@[simp] theorem replyNotice_srv (h : Hdr) (m : Mach) : (replyNotice h m).srv = m.srv := by unfold replyNotice; (repeat' split) <;> rfl
@[simp] theorem replyNotice_hif (h : Hdr) (m : Mach) : (replyNotice h m).hif = m.hif := by unfold replyNotice; (repeat' split) <;> rfl
@[simp] theorem replyNotice_pre (h : Hdr) (m : Mach) : (replyNotice h m).pre = m.pre := by unfold replyNotice; (repeat' split) <;> rfl
@[simp] theorem replyNotice_ch (h : Hdr) (m : Mach) : (replyNotice h m).ch = m.ch := by unfold replyNotice; (repeat' split) <;> rfl
@[simp] theorem replyNotice_cfx (h : Hdr) (m : Mach) : (replyNotice h m).cfx = m.cfx := by unfold replyNotice; (repeat' split) <;> rfl
@[simp] theorem replyNotice_cal (h : Hdr) (m : Mach) : (replyNotice h m).cal = m.cal := by unfold replyNotice; (repeat' split) <;> rfl
@[simp] theorem replyNotice_sch (h : Hdr) (m : Mach) : (replyNotice h m).sch = m.sch := by unfold replyNotice; (repeat' split) <;> rfl
@[simp] theorem replyNotice_zmg (h : Hdr) (m : Mach) : (replyNotice h m).zmg = m.zmg := by unfold replyNotice; (repeat' split) <;> rfl
@[simp] theorem replyNotice_bcm (h : Hdr) (m : Mach) : (replyNotice h m).bcm = m.bcm := by unfold replyNotice; (repeat' split) <;> rfl
@[simp] theorem replyNotice_vlt (h : Hdr) (m : Mach) : (replyNotice h m).vlt = m.vlt := by unfold replyNotice; (repeat' split) <;> rfl
@[simp] theorem replyNotice_prt (h : Hdr) (m : Mach) : (replyNotice h m).prt = m.prt := by unfold replyNotice; (repeat' split) <;> rfl
@[simp] theorem replyNotice_dsv (h : Hdr) (m : Mach) : (replyNotice h m).dsv = m.dsv := by unfold replyNotice; (repeat' split) <;> rfl
@[simp] theorem replyNotice_pins (h : Hdr) (m : Mach) : (replyNotice h m).pins = m.pins := by unfold replyNotice; (repeat' split) <;> rfl
@[simp] theorem replyNotice_nor (h : Hdr) (m : Mach) : (replyNotice h m).nor = m.nor := by unfold replyNotice; (repeat' split) <;> rfl
@[simp] theorem replyNotice_drawn (h : Hdr) (m : Mach) : (replyNotice h m).drawn = m.drawn := by unfold replyNotice; (repeat' split) <;> rfl
@[simp] theorem reply_id (h : Hdr) (st d : Nat) (bs : List Byte) (m : Mach) : (reply h st d bs m).id = m.id := by unfold reply replyRaw; split <;> simp
@[simp] theorem reply_hda (h : Hdr) (st d : Nat) (bs : List Byte) (m : Mach) : (reply h st d bs m).hda = m.hda := by unfold reply replyRaw; split <;> simp
@[simp] theorem reply_pwr (h : Hdr) (st d : Nat) (bs : List Byte) (m : Mach) : (reply h st d bs m).pwr = m.pwr := by unfold reply replyRaw; split <;> simp
@[simp] theorem reply_clk (h : Hdr) (st d : Nat) (bs : List Byte) (m : Mach) : (reply h st d bs m).clk = m.clk := by unfold reply replyRaw; split <;> simp
@[simp] theorem reply_sup (h : Hdr) (st d : Nat) (bs : List Byte) (m : Mach) : (reply h st d bs m).sup = m.sup := by unfold reply replyRaw; split <;> simp
@[simp] theorem reply_evr (h : Hdr) (st d : Nat) (bs : List Byte) (m : Mach) : (reply h st d bs m).evr = m.evr := by unfold reply replyRaw; split <;> simp
@[simp] theorem reply_events (h : Hdr) (st d : Nat) (bs : List Byte) (m : Mach) : (reply h st d bs m).events = m.events := by unfold reply replyRaw; split <;> simp
@[simp] theorem reply_spn (h : Hdr) (st d : Nat) (bs : List Byte) (m : Mach) : (reply h st d bs m).spn = m.spn := by unfold reply replyRaw; split <;> simp
@[simp] theorem reply_srvRef (h : Hdr) (st d : Nat) (bs : List Byte) (m : Mach) : (reply h st d bs m).srvRef = m.srvRef := by unfold reply replyRaw; split <;> simp
@[simp] theorem reply_srv (h : Hdr) (st d : Nat) (bs : List Byte) (m : Mach) : (reply h st d bs m).srv = m.srv := by unfold reply replyRaw; split <;> simp
@[simp] theorem reply_hif (h : Hdr) (st d : Nat) (bs : List Byte) (m : Mach) : (reply h st d bs m).hif = m.hif := by unfold reply replyRaw; split <;> simp
@[simp] theorem reply_pre (h : Hdr) (st d : Nat) (bs : List Byte) (m : Mach) : (reply h st d bs m).pre = m.pre := by unfold reply replyRaw; split <;> simp
@[simp] theorem reply_ch (h : Hdr) (st d : Nat) (bs : List Byte) (m : Mach) : (reply h st d bs m).ch = m.ch := by unfold reply replyRaw; split <;> simp
@[simp] theorem reply_cfx (h : Hdr) (st d : Nat) (bs : List Byte) (m : Mach) : (reply h st d bs m).cfx = m.cfx := by unfold reply replyRaw; split <;> simp
@[simp] theorem reply_cal (h : Hdr) (st d : Nat) (bs : List Byte) (m : Mach) : (reply h st d bs m).cal = m.cal := by unfold reply replyRaw; split <;> simp
@[simp] theorem reply_sch (h : Hdr) (st d : Nat) (bs : List Byte) (m : Mach) : (reply h st d bs m).sch = m.sch := by unfold reply replyRaw; split <;> simp
@[simp] theorem reply_zmg (h : Hdr) (st d : Nat) (bs : List Byte) (m : Mach) : (reply h st d bs m).zmg = m.zmg := by unfold reply replyRaw; split <;> simp
@[simp] theorem reply_bcm (h : Hdr) (st d : Nat) (bs : List Byte) (m : Mach) : (reply h st d bs m).bcm = m.bcm := by unfold reply replyRaw; split <;> simp
@[simp] theorem reply_vlt (h : Hdr) (st d : Nat) (bs : List Byte) (m : Mach) : (reply h st d bs m).vlt = m.vlt := by unfold reply replyRaw; split <;> simp
@[simp] theorem reply_prt (h : Hdr) (st d : Nat) (bs : List Byte) (m : Mach) : (reply h st d bs m).prt = m.prt := by unfold reply replyRaw; split <;> simp
@[simp] theorem reply_dsv (h : Hdr) (st d : Nat) (bs : List Byte) (m : Mach) : (reply h st d bs m).dsv = m.dsv := by unfold reply replyRaw; split <;> simp
@[simp] theorem reply_pins (h : Hdr) (st d : Nat) (bs : List Byte) (m : Mach) : (reply h st d bs m).pins = m.pins := by unfold reply replyRaw; split <;> simp
@[simp] theorem reply_nor (h : Hdr) (st d : Nat) (bs : List Byte) (m : Mach) : (reply h st d bs m).nor = m.nor := by unfold reply replyRaw; split <;> simp
@[simp] theorem reply_drawn (h : Hdr) (st d : Nat) (bs : List Byte) (m : Mach) : (reply h st d bs m).drawn = m.drawn := by unfold reply replyRaw; split <;> simp
@[simp] theorem refuse_id (h : Hdr) (st : Nat) (m : Mach) : (refuse h st m).id = m.id := by unfold refuse; split <;> rfl
@[simp] theorem refuse_hda (h : Hdr) (st : Nat) (m : Mach) : (refuse h st m).hda = m.hda := by unfold refuse; split <;> rfl
@[simp] theorem refuse_pwr (h : Hdr) (st : Nat) (m : Mach) : (refuse h st m).pwr = m.pwr := by unfold refuse; split <;> rfl
@[simp] theorem refuse_clk (h : Hdr) (st : Nat) (m : Mach) : (refuse h st m).clk = m.clk := by unfold refuse; split <;> rfl
@[simp] theorem refuse_sup (h : Hdr) (st : Nat) (m : Mach) : (refuse h st m).sup = m.sup := by unfold refuse; split <;> rfl
@[simp] theorem refuse_evr (h : Hdr) (st : Nat) (m : Mach) : (refuse h st m).evr = m.evr := by unfold refuse; split <;> rfl
@[simp] theorem refuse_events (h : Hdr) (st : Nat) (m : Mach) : (refuse h st m).events = m.events := by unfold refuse; split <;> rfl
@[simp] theorem refuse_spn (h : Hdr) (st : Nat) (m : Mach) : (refuse h st m).spn = m.spn := by unfold refuse; split <;> rfl
@[simp] theorem refuse_srvRef (h : Hdr) (st : Nat) (m : Mach) : (refuse h st m).srvRef = m.srvRef := by unfold refuse; split <;> rfl
@[simp] theorem refuse_srv (h : Hdr) (st : Nat) (m : Mach) : (refuse h st m).srv = m.srv := by unfold refuse; split <;> rfl
@[simp] theorem refuse_hif (h : Hdr) (st : Nat) (m : Mach) : (refuse h st m).hif = m.hif := by unfold refuse; split <;> rfl
@[simp] theorem refuse_pre (h : Hdr) (st : Nat) (m : Mach) : (refuse h st m).pre = m.pre := by unfold refuse; split <;> rfl
@[simp] theorem refuse_ch (h : Hdr) (st : Nat) (m : Mach) : (refuse h st m).ch = m.ch := by unfold refuse; split <;> rfl
@[simp] theorem refuse_cfx (h : Hdr) (st : Nat) (m : Mach) : (refuse h st m).cfx = m.cfx := by unfold refuse; split <;> rfl
@[simp] theorem refuse_cal (h : Hdr) (st : Nat) (m : Mach) : (refuse h st m).cal = m.cal := by unfold refuse; split <;> rfl
@[simp] theorem refuse_sch (h : Hdr) (st : Nat) (m : Mach) : (refuse h st m).sch = m.sch := by unfold refuse; split <;> rfl
@[simp] theorem refuse_zmg (h : Hdr) (st : Nat) (m : Mach) : (refuse h st m).zmg = m.zmg := by unfold refuse; split <;> rfl
@[simp] theorem refuse_bcm (h : Hdr) (st : Nat) (m : Mach) : (refuse h st m).bcm = m.bcm := by unfold refuse; split <;> rfl
@[simp] theorem refuse_vlt (h : Hdr) (st : Nat) (m : Mach) : (refuse h st m).vlt = m.vlt := by unfold refuse; split <;> rfl
@[simp] theorem refuse_fe (h : Hdr) (st : Nat) (m : Mach) : (refuse h st m).fe = m.fe := by unfold refuse; split <;> rfl
@[simp] theorem refuse_prt (h : Hdr) (st : Nat) (m : Mach) : (refuse h st m).prt = m.prt := by unfold refuse; split <;> rfl
@[simp] theorem refuse_dsv (h : Hdr) (st : Nat) (m : Mach) : (refuse h st m).dsv = m.dsv := by unfold refuse; split <;> rfl
@[simp] theorem refuse_pins (h : Hdr) (st : Nat) (m : Mach) : (refuse h st m).pins = m.pins := by unfold refuse; split <;> rfl
@[simp] theorem refuse_nor (h : Hdr) (st : Nat) (m : Mach) : (refuse h st m).nor = m.nor := by unfold refuse; split <;> rfl
@[simp] theorem refuse_drawn (h : Hdr) (st : Nat) (m : Mach) : (refuse h st m).drawn = m.drawn := by unfold refuse; split <;> rfl

/-- Accepting a request changes no session's level, so no request's authority (R919). -/
@[simp] theorem authOf_accept (h k : Hdr) (op : Nat) (x : Bool) (m : Mach) : authOf (accept h op x m) k = authOf m k := by
  unfold authOf accept
  split
  · rfl
  · simp only [List.find?_map, Option.map_map]
    have e : ((fun y : Session => y.serves k) ∘ fun (y : Session) => if y.serves h then { y with lastUse := m.sup.opSec } else y) = fun y => y.serves k := by
      funext y; simp only [Function.comp]; split <;> rfl
    have e2 : ((fun y : Session => y.level) ∘ fun (y : Session) => if y.serves h then { y with lastUse := m.sup.opSec } else y) = fun y => y.level := by
      funext y; simp only [Function.comp]; split <;> rfl
    rw [e, e2]

@[simp] theorem hasAuth_accept (h k : Hdr) (op need : Nat) (x : Bool) (m : Mach) : hasAuth (accept h op x m) k need = hasAuth m k need := by
  simp [hasAuth]

/-- A request whose TAG is free waits for nothing. -/
theorem waiting_of_free (m : Mach) (h : Hdr) (op : Nat) (hf : tagHeld m h.who h.tag = false) : waiting m h op = false := by
  simp only [tagHeld, List.any_eq_false] at hf
  simp only [waiting, List.any_eq_false]
  intro o ho
  simp [hf o ho]

/-- A request just accepted without a payload of its own carries none. -/
theorem hasExtra_accept (m : Mach) (h : Hdr) (op : Nat) (hf : tagHeld m h.who h.tag = false) : hasExtra (accept h op false m) h = false := by
  simp only [tagHeld, List.any_eq_false] at hf
  simp only [hasExtra, accept, List.any_append, List.any_cons, List.any_nil, Bool.or_false, Bool.and_false, List.any_eq_false]
  intro o ho
  simp [hf o ho]

/-- Accepting a request does not bear on step 7 of Table 18-4. -/
@[simp] theorem familyAbsent_accept (op k : Nat) (h : Hdr) (x : Bool) (m : Mach) : familyAbsent op (accept h k x m) = familyAbsent op m := by
  simp [familyAbsent]

/-- A request whose TAG is free and that is authorised goes straight to its own checks once its object exists (R926, R927). -/
theorem serviceFor_served (absent : Mach → Bool) (op : Nat) (h : Hdr) (need : Nat) (checks : Mach → List (Bool × Nat)) (body : Mach → Mach) (m : Mach)
    (hs : Served m h need) (ha : absent (accept h op false m) = false) :
    serviceFor absent op h need checks body m = match firstFail (checks (accept h op false m)) with
      | some st => reply h st 0 [] (accept h op false m)
      | none => body (accept h op false m) := by
  obtain ⟨h1, h2, h3, h4⟩ := hs
  simp only [serviceFor, serviceFor.go, h1, waiting_of_free m h op h2, h2, h3, h4, ha, hasExtra_accept m h op h2, hasAuth_accept]
  cases firstFail (checks (accept h op false m)) <;> rfl

/-- A request that is served and passes its row's checks is accepted and has its row's effect (R926, R927). -/
theorem service_served (op : Nat) (h : Hdr) (need : Nat) (checks : Mach → List (Bool × Nat)) (body : Mach → Mach) (m : Mach)
    (hs : Served m h need) (hc : firstFail (checks (accept h op false m)) = none)
    (ha : familyAbsent op m = false := by simp [familyAbsent, *]) :
    service op h need checks body m = body (accept h op false m) := by
  rw [service, serviceFor_served _ op h need checks body m hs (by simpa using ha), hc]

/-- A request that is served and fails a check of its row is answered with that status and changes nothing else (R927). -/
theorem service_fails (op : Nat) (h : Hdr) (need : Nat) (checks : Mach → List (Bool × Nat)) (body : Mach → Mach) (m : Mach) (st : Nat)
    (hs : Served m h need) (hc : firstFail (checks (accept h op false m)) = some st)
    (ha : familyAbsent op m = false := by simp [familyAbsent, *]) :
    service op h need checks body m = reply h st 0 [] (accept h op false m) := by
  rw [service, serviceFor_served _ op h need checks body m hs (by simpa using ha), hc]

/-- A request whose opcode the variant lacks is answered NOT_PRESENT, whatever authority its sender has (R6, Table 18-4 step 7). -/
theorem absent_step (s : State) (op : Nat) (h : Hdr) (need : Nat) (checks : Mach → List (Bool × Nat)) (body : Mach → Mach)
    (h1 : carried s.m h = true) (h2 : tagHeld s.m h.who h.tag = false) (h3 : rsvFull s.m = false) (ha : familyAbsent op s.m = true) :
    s.run (service op h need checks body) = .next { s with m := reply h stNotPresent 0 [] (accept h op false s.m) } := by
  have ha' : familyAbsent op (accept h op false s.m) = true := by simpa using ha
  simp [State.run_eq, service, serviceFor, serviceFor.go, h1, waiting_of_free s.m h op h2, h2, h3, ha']

/-- `service_served` in the shape of a step: what a request row answers when its request is served and passes its checks. -/
theorem service_step (s : State) (op : Nat) (h : Hdr) (need : Nat) (checks : Mach → List (Bool × Nat)) (body : Mach → Mach) (m' : Mach)
    (hs : Served s.m h need) (hc : firstFail (checks (accept h op false s.m)) = none) (hb : body (accept h op false s.m) = m')
    (ha : familyAbsent op s.m = false := by simp [familyAbsent, *]) :
    s.run (service op h need checks body) = .next { s with m := m' } := by
  rw [State.run_eq, service_served op h need checks body s.m hs hc ha, hb]

/-- The same for a request whose object step 7 looks for. -/
theorem serviceFor_step (s : State) (absent : Mach → Bool) (op : Nat) (h : Hdr) (need : Nat) (checks : Mach → List (Bool × Nat)) (body : Mach → Mach)
    (m' : Mach) (hs : Served s.m h need) (ha : absent (accept h op false s.m) = false)
    (hc : firstFail (checks (accept h op false s.m)) = none) (hb : body (accept h op false s.m) = m') :
    s.run (serviceFor absent op h need checks body) = .next { s with m := m' } := by
  rw [State.run_eq, serviceFor_served absent op h need checks body s.m hs ha, hc, ← hb]

theorem firstFail_cons_false (st : Nat) (r : List (Bool × Nat)) : firstFail ((false, st) :: r) = firstFail r := rfl

/-- A row's checks all pass exactly when none of its conditions holds. -/
theorem firstFail_eq_none (l : List (Bool × Nat)) : firstFail l = none ↔ ∀ x ∈ l, x.1 = false := by
  induction l with
  | nil => simp [firstFail]
  | cons x r ih =>
    obtain ⟨b, st⟩ := x
    cases b <;> simp [firstFail, ih]

theorem firstFail_nil : firstFail [] = none := rfl

end Sys2Proof.Machine
end

