-- ==== Sys2Proof/Laws/Servo.lean ====
section
/-! SUPPORT. What the parts of a position cycle leave alone (spec/07 R345 to R403). -/

namespace Sys2Proof.Machine

/-- The table's sample changes neither the state nor the error nor the hand-off's record of a unit (R388 to R390). -/
theorem rroSample_keeps (l : Bool) (b : Nat) (c : SrvCtl) :
    (rroSample l b c).st = c.st ∧ (rroSample l b c).pes = c.pes ∧ (rroSample l b c).spLast = c.spLast ∧
    (rroSample l b c).ovrRun = c.ovrRun ∧ (rroSample l b c).ovrCnt = c.ovrCnt ∧ (rroSample l b c).isp = c.isp := by
  simp only [rroSample]; (repeat' split) <;> simp [learnBin] <;> (repeat' split) <;> simp

/-- Every control law keeps, of a unit, its state, its error and the record of its set-point hand-off. -/
structure SameCourse (c d : SrvCtl) : Prop where
  st : d.st = c.st
  pes : d.pes = c.pes
  spLast : d.spLast = c.spLast
  ovrRun : d.ovrRun = c.ovrRun
  ovrCnt : d.ovrCnt = c.ovrCnt

theorem due_sameCourse (c : SrvCtl) (l : Loop) (b : Bool) : SameCourse c (c.due l b) := by
  cases l <;> exact ⟨rfl, rfl, rfl, rfl, rfl⟩

theorem micro_sameCourse (m : Mach) (a : Act) (c : SrvCtl) : SameCourse c (microUpdate m a c) := by
  have h := due_sameCourse c .micro false
  unfold microUpdate; split
  · exact ⟨h.st, h.pes, h.spLast, h.ovrRun, h.ovrCnt⟩
  · exact ⟨rfl, rfl, rfl, rfl, rfl⟩

theorem position_sameCourse (m : Mach) (a : Act) (c : SrvCtl) : SameCourse c (positionUpdate m a c) := by
  have h := due_sameCourse c .position false
  exact ⟨h.st, h.pes, h.spLast, h.ovrRun, h.ovrCnt⟩

theorem SameCourse.trans {c d e : SrvCtl} (h : SameCourse c d) (g : SameCourse d e) : SameCourse c e :=
  ⟨g.st.trans h.st, g.pes.trans h.pes, g.spLast.trans h.spLast, g.ovrRun.trans h.ovrRun, g.ovrCnt.trans h.ovrCnt⟩

/-- The set-point's law changes neither the state nor the error nor the hand-off's record of a unit (R353 to R359). -/
theorem computeSetpoint_keeps (m : Mach) (a : Act) (t v : Int) (c : SrvCtl) : SameCourse c (computeSetpoint m a t v c) := by
  unfold computeSetpoint; split
  · exact ⟨rfl, rfl, rfl, rfl, rfl⟩
  · exact ⟨rfl, rfl, rfl, rfl, rfl⟩
  · exact ⟨rfl, rfl, rfl, rfl, rfl⟩
  · have base : SameCourse c (if (c.st == SrvState.seek) = true then { c with ispBase := seekBase m a t } else positionUpdate m a c) := by
      split
      · exact ⟨rfl, rfl, rfl, rfl, rfl⟩
      · exact position_sameCourse m a c
    have h := base.trans (micro_sameCourse m a _)
    exact ⟨h.st, h.pes, h.spLast, h.ovrRun, h.ovrCnt⟩

/-- The driver's test changes only its own record (R360). -/
theorem driverClean_keeps (c : SrvCtl) :
    (driverClean c).st = c.st ∧ (driverClean c).pes = c.pes ∧ (driverClean c).spLast = c.spLast ∧
    (driverClean c).ovrRun = c.ovrRun ∧ (driverClean c).ovrCnt = c.ovrCnt ∧ (driverClean c).isp = c.isp := by simp [driverClean]

/-- The microactuator's saturation count changes nothing else of a unit (R394). -/
theorem microSat_keeps (a : Act) (m : Mach) :
    (microSat a m).srv = m.srv.upd a (fun c => { c with maRun := ((microSat a m).srv.get a).maRun }) := by
  apply Pair.ext_get; intro b
  cases a <;> cases b <;> simp [microSat, apply_ite Mach.srv] <;> simp [Pair.get, Pair.upd]

/-- The off-track test and the on-track signals of a cycle change no position, state or hand-off record (R368, R403). -/
theorem onTrack_keeps (a : Act) (m : Mach) :
    ((onTrack a (offTrackTest a m)).srv.get a).st = (m.srv.get a).st ∧ ((onTrack a (offTrackTest a m)).srv.get a).pes = (m.srv.get a).pes ∧
    ((onTrack a (offTrackTest a m)).srv.get a).spLast = (m.srv.get a).spLast ∧
    ((onTrack a (offTrackTest a m)).srv.get a).ovrRun = (m.srv.get a).ovrRun ∧
    ((onTrack a (offTrackTest a m)).srv.get a).ovrCnt = (m.srv.get a).ovrCnt ∧
    ((onTrack a (offTrackTest a m)).srv.get a).isp = (m.srv.get a).isp ∧
    (onTrack a (offTrackTest a m)).srv.get a.other = m.srv.get a.other := by
  simp only [offTrackTest]
  split <;> simp [onTrack]

/-- A unit in FOLLOW is neither seeking nor settling (R367). -/
theorem seekTest_follow (a : Act) (t : Int) (m : Mach) (h : (m.srv.get a).st = .follow) : seekTest a t m = m := by simp [seekTest, h]

/-- A unit in FOLLOW is not settling (R367). -/
theorem settleTest_follow (a : Act) (b : BitVec 12) (m : Mach) (h : (m.srv.get a).st = .follow) : settleTest a b m = m := by
  simp [settleTest, h]

end Sys2Proof.Machine
end

