-- ==== Sys2Proof/Laws/ServoPosition.lean ====
section
/-! SUPPORT. What the events and the write-unsafe of position sensing change (spec/06 Table 6-5). -/

namespace Sys2Proof.Machine

@[simp] theorem reportPos_id (a : Act) (c : Nat) (ps : List Byte) (m : Mach) : (reportPos a c ps m).id = m.id := by unfold reportPos ifDo; split <;> simp
@[simp] theorem reportPos_hda (a : Act) (c : Nat) (ps : List Byte) (m : Mach) : (reportPos a c ps m).hda = m.hda := by unfold reportPos ifDo; split <;> simp
@[simp] theorem reportPos_pwr (a : Act) (c : Nat) (ps : List Byte) (m : Mach) : (reportPos a c ps m).pwr = m.pwr := by unfold reportPos ifDo; split <;> simp
@[simp] theorem reportPos_clk (a : Act) (c : Nat) (ps : List Byte) (m : Mach) : (reportPos a c ps m).clk = m.clk := by unfold reportPos ifDo; split <;> simp
@[simp] theorem reportPos_sup (a : Act) (c : Nat) (ps : List Byte) (m : Mach) : (reportPos a c ps m).sup = m.sup := by unfold reportPos ifDo; split <;> simp
@[simp] theorem reportPos_svc (a : Act) (c : Nat) (ps : List Byte) (m : Mach) : (reportPos a c ps m).svc = m.svc := by unfold reportPos ifDo; split <;> simp
@[simp] theorem reportPos_spn (a : Act) (c : Nat) (ps : List Byte) (m : Mach) : (reportPos a c ps m).spn = m.spn := by unfold reportPos ifDo; split <;> simp
@[simp] theorem reportPos_srvRef (a : Act) (c : Nat) (ps : List Byte) (m : Mach) : (reportPos a c ps m).srvRef = m.srvRef := by unfold reportPos ifDo; split <;> simp
@[simp] theorem reportPos_srv (a : Act) (c : Nat) (ps : List Byte) (m : Mach) : (reportPos a c ps m).srv = m.srv := by unfold reportPos ifDo; split <;> simp
@[simp] theorem reportPos_hif (a : Act) (c : Nat) (ps : List Byte) (m : Mach) : (reportPos a c ps m).hif = m.hif := by unfold reportPos ifDo; split <;> simp
@[simp] theorem reportPos_pre (a : Act) (c : Nat) (ps : List Byte) (m : Mach) : (reportPos a c ps m).pre = m.pre := by unfold reportPos ifDo; split <;> simp
@[simp] theorem reportPos_ch (a : Act) (c : Nat) (ps : List Byte) (m : Mach) : (reportPos a c ps m).ch = m.ch := by unfold reportPos ifDo; split <;> simp
@[simp] theorem reportPos_cfx (a : Act) (c : Nat) (ps : List Byte) (m : Mach) : (reportPos a c ps m).cfx = m.cfx := by unfold reportPos ifDo; split <;> simp
@[simp] theorem reportPos_cal (a : Act) (c : Nat) (ps : List Byte) (m : Mach) : (reportPos a c ps m).cal = m.cal := by unfold reportPos ifDo; split <;> simp
@[simp] theorem reportPos_sch (a : Act) (c : Nat) (ps : List Byte) (m : Mach) : (reportPos a c ps m).sch = m.sch := by unfold reportPos ifDo; split <;> simp
@[simp] theorem reportPos_zmg (a : Act) (c : Nat) (ps : List Byte) (m : Mach) : (reportPos a c ps m).zmg = m.zmg := by unfold reportPos ifDo; split <;> simp
@[simp] theorem reportPos_bcm (a : Act) (c : Nat) (ps : List Byte) (m : Mach) : (reportPos a c ps m).bcm = m.bcm := by unfold reportPos ifDo; split <;> simp
@[simp] theorem reportPos_vlt (a : Act) (c : Nat) (ps : List Byte) (m : Mach) : (reportPos a c ps m).vlt = m.vlt := by unfold reportPos ifDo; split <;> simp
@[simp] theorem reportPos_fe (a : Act) (c : Nat) (ps : List Byte) (m : Mach) : (reportPos a c ps m).fe = m.fe := by unfold reportPos ifDo; split <;> simp
@[simp] theorem reportPos_prt (a : Act) (c : Nat) (ps : List Byte) (m : Mach) : (reportPos a c ps m).prt = m.prt := by unfold reportPos ifDo; split <;> simp
@[simp] theorem reportPos_dsv (a : Act) (c : Nat) (ps : List Byte) (m : Mach) : (reportPos a c ps m).dsv = m.dsv := by unfold reportPos ifDo; split <;> simp
@[simp] theorem reportPos_nor (a : Act) (c : Nat) (ps : List Byte) (m : Mach) : (reportPos a c ps m).nor = m.nor := by unfold reportPos ifDo; split <;> simp
@[simp] theorem reportPos_drawn (a : Act) (c : Nat) (ps : List Byte) (m : Mach) : (reportPos a c ps m).drawn = m.drawn := by unfold reportPos ifDo; split <;> simp
@[simp] theorem reportRef_id (a : Act) (c : Nat) (ps : List Byte) (m : Mach) : (reportRef a c ps m).id = m.id := by unfold reportRef ifDo; split <;> simp
@[simp] theorem reportRef_hda (a : Act) (c : Nat) (ps : List Byte) (m : Mach) : (reportRef a c ps m).hda = m.hda := by unfold reportRef ifDo; split <;> simp
@[simp] theorem reportRef_pwr (a : Act) (c : Nat) (ps : List Byte) (m : Mach) : (reportRef a c ps m).pwr = m.pwr := by unfold reportRef ifDo; split <;> simp
@[simp] theorem reportRef_clk (a : Act) (c : Nat) (ps : List Byte) (m : Mach) : (reportRef a c ps m).clk = m.clk := by unfold reportRef ifDo; split <;> simp
@[simp] theorem reportRef_sup (a : Act) (c : Nat) (ps : List Byte) (m : Mach) : (reportRef a c ps m).sup = m.sup := by unfold reportRef ifDo; split <;> simp
@[simp] theorem reportRef_svc (a : Act) (c : Nat) (ps : List Byte) (m : Mach) : (reportRef a c ps m).svc = m.svc := by unfold reportRef ifDo; split <;> simp
@[simp] theorem reportRef_spn (a : Act) (c : Nat) (ps : List Byte) (m : Mach) : (reportRef a c ps m).spn = m.spn := by unfold reportRef ifDo; split <;> simp
@[simp] theorem reportRef_srvRef (a : Act) (c : Nat) (ps : List Byte) (m : Mach) : (reportRef a c ps m).srvRef = m.srvRef := by unfold reportRef ifDo; split <;> simp
@[simp] theorem reportRef_srv (a : Act) (c : Nat) (ps : List Byte) (m : Mach) : (reportRef a c ps m).srv = m.srv := by unfold reportRef ifDo; split <;> simp
@[simp] theorem reportRef_hif (a : Act) (c : Nat) (ps : List Byte) (m : Mach) : (reportRef a c ps m).hif = m.hif := by unfold reportRef ifDo; split <;> simp
@[simp] theorem reportRef_pre (a : Act) (c : Nat) (ps : List Byte) (m : Mach) : (reportRef a c ps m).pre = m.pre := by unfold reportRef ifDo; split <;> simp
@[simp] theorem reportRef_ch (a : Act) (c : Nat) (ps : List Byte) (m : Mach) : (reportRef a c ps m).ch = m.ch := by unfold reportRef ifDo; split <;> simp
@[simp] theorem reportRef_cfx (a : Act) (c : Nat) (ps : List Byte) (m : Mach) : (reportRef a c ps m).cfx = m.cfx := by unfold reportRef ifDo; split <;> simp
@[simp] theorem reportRef_cal (a : Act) (c : Nat) (ps : List Byte) (m : Mach) : (reportRef a c ps m).cal = m.cal := by unfold reportRef ifDo; split <;> simp
@[simp] theorem reportRef_sch (a : Act) (c : Nat) (ps : List Byte) (m : Mach) : (reportRef a c ps m).sch = m.sch := by unfold reportRef ifDo; split <;> simp
@[simp] theorem reportRef_zmg (a : Act) (c : Nat) (ps : List Byte) (m : Mach) : (reportRef a c ps m).zmg = m.zmg := by unfold reportRef ifDo; split <;> simp
@[simp] theorem reportRef_bcm (a : Act) (c : Nat) (ps : List Byte) (m : Mach) : (reportRef a c ps m).bcm = m.bcm := by unfold reportRef ifDo; split <;> simp
@[simp] theorem reportRef_vlt (a : Act) (c : Nat) (ps : List Byte) (m : Mach) : (reportRef a c ps m).vlt = m.vlt := by unfold reportRef ifDo; split <;> simp
@[simp] theorem reportRef_fe (a : Act) (c : Nat) (ps : List Byte) (m : Mach) : (reportRef a c ps m).fe = m.fe := by unfold reportRef ifDo; split <;> simp
@[simp] theorem reportRef_prt (a : Act) (c : Nat) (ps : List Byte) (m : Mach) : (reportRef a c ps m).prt = m.prt := by unfold reportRef ifDo; split <;> simp
@[simp] theorem reportRef_dsv (a : Act) (c : Nat) (ps : List Byte) (m : Mach) : (reportRef a c ps m).dsv = m.dsv := by unfold reportRef ifDo; split <;> simp
@[simp] theorem reportRef_nor (a : Act) (c : Nat) (ps : List Byte) (m : Mach) : (reportRef a c ps m).nor = m.nor := by unfold reportRef ifDo; split <;> simp
@[simp] theorem reportRef_drawn (a : Act) (c : Nat) (ps : List Byte) (m : Mach) : (reportRef a c ps m).drawn = m.drawn := by unfold reportRef ifDo; split <;> simp
@[simp] theorem posUnsafe_id (a : Act) (x : Bool) (m : Mach) : (posUnsafe a x m).id = m.id := by simp [posUnsafe]
@[simp] theorem posUnsafe_pwr (a : Act) (x : Bool) (m : Mach) : (posUnsafe a x m).pwr = m.pwr := by simp [posUnsafe]
@[simp] theorem posUnsafe_clk (a : Act) (x : Bool) (m : Mach) : (posUnsafe a x m).clk = m.clk := by simp [posUnsafe]
@[simp] theorem posUnsafe_sup (a : Act) (x : Bool) (m : Mach) : (posUnsafe a x m).sup = m.sup := by simp [posUnsafe]
@[simp] theorem posUnsafe_svc (a : Act) (x : Bool) (m : Mach) : (posUnsafe a x m).svc = m.svc := by simp [posUnsafe]
@[simp] theorem posUnsafe_evr (a : Act) (x : Bool) (m : Mach) : (posUnsafe a x m).evr = m.evr := by simp [posUnsafe]
@[simp] theorem posUnsafe_events (a : Act) (x : Bool) (m : Mach) : (posUnsafe a x m).events = m.events := by simp [posUnsafe]
@[simp] theorem posUnsafe_spn (a : Act) (x : Bool) (m : Mach) : (posUnsafe a x m).spn = m.spn := by simp [posUnsafe]
@[simp] theorem posUnsafe_srv (a : Act) (x : Bool) (m : Mach) : (posUnsafe a x m).srv = m.srv := by simp [posUnsafe]
@[simp] theorem posUnsafe_pre (a : Act) (x : Bool) (m : Mach) : (posUnsafe a x m).pre = m.pre := by simp [posUnsafe]
@[simp] theorem posUnsafe_cfx (a : Act) (x : Bool) (m : Mach) : (posUnsafe a x m).cfx = m.cfx := by simp [posUnsafe]
@[simp] theorem posUnsafe_cal (a : Act) (x : Bool) (m : Mach) : (posUnsafe a x m).cal = m.cal := by simp [posUnsafe]
@[simp] theorem posUnsafe_sch (a : Act) (x : Bool) (m : Mach) : (posUnsafe a x m).sch = m.sch := by simp [posUnsafe]
@[simp] theorem posUnsafe_zmg (a : Act) (x : Bool) (m : Mach) : (posUnsafe a x m).zmg = m.zmg := by simp [posUnsafe]
@[simp] theorem posUnsafe_bcm (a : Act) (x : Bool) (m : Mach) : (posUnsafe a x m).bcm = m.bcm := by simp [posUnsafe]
@[simp] theorem posUnsafe_vlt (a : Act) (x : Bool) (m : Mach) : (posUnsafe a x m).vlt = m.vlt := by simp [posUnsafe]
@[simp] theorem posUnsafe_fe (a : Act) (x : Bool) (m : Mach) : (posUnsafe a x m).fe = m.fe := by simp [posUnsafe]
@[simp] theorem posUnsafe_prt (a : Act) (x : Bool) (m : Mach) : (posUnsafe a x m).prt = m.prt := by simp [posUnsafe]
@[simp] theorem posUnsafe_dsv (a : Act) (x : Bool) (m : Mach) : (posUnsafe a x m).dsv = m.dsv := by simp [posUnsafe]
@[simp] theorem posUnsafe_pins (a : Act) (x : Bool) (m : Mach) : (posUnsafe a x m).pins = m.pins := by simp [posUnsafe]
@[simp] theorem posUnsafe_nor (a : Act) (x : Bool) (m : Mach) : (posUnsafe a x m).nor = m.nor := by simp [posUnsafe]
@[simp] theorem posUnsafe_drawn (a : Act) (x : Bool) (m : Mach) : (posUnsafe a x m).drawn = m.drawn := by simp [posUnsafe]
@[simp] theorem posRelease_id (a : Act) (m : Mach) : (posRelease a m).id = m.id := by simp only [posRelease]; split <;> simp
@[simp] theorem posRelease_pwr (a : Act) (m : Mach) : (posRelease a m).pwr = m.pwr := by simp only [posRelease]; split <;> simp
@[simp] theorem posRelease_clk (a : Act) (m : Mach) : (posRelease a m).clk = m.clk := by simp only [posRelease]; split <;> simp
@[simp] theorem posRelease_sup (a : Act) (m : Mach) : (posRelease a m).sup = m.sup := by simp only [posRelease]; split <;> simp
@[simp] theorem posRelease_svc (a : Act) (m : Mach) : (posRelease a m).svc = m.svc := by simp only [posRelease]; split <;> simp
@[simp] theorem posRelease_evr (a : Act) (m : Mach) : (posRelease a m).evr = m.evr := by simp only [posRelease]; split <;> simp
@[simp] theorem posRelease_events (a : Act) (m : Mach) : (posRelease a m).events = m.events := by simp only [posRelease]; split <;> simp
@[simp] theorem posRelease_spn (a : Act) (m : Mach) : (posRelease a m).spn = m.spn := by simp only [posRelease]; split <;> simp
@[simp] theorem posRelease_srv (a : Act) (m : Mach) : (posRelease a m).srv = m.srv := by simp only [posRelease]; split <;> simp
@[simp] theorem posRelease_pre (a : Act) (m : Mach) : (posRelease a m).pre = m.pre := by simp only [posRelease]; split <;> simp
@[simp] theorem posRelease_cfx (a : Act) (m : Mach) : (posRelease a m).cfx = m.cfx := by simp only [posRelease]; split <;> simp
@[simp] theorem posRelease_cal (a : Act) (m : Mach) : (posRelease a m).cal = m.cal := by simp only [posRelease]; split <;> simp
@[simp] theorem posRelease_sch (a : Act) (m : Mach) : (posRelease a m).sch = m.sch := by simp only [posRelease]; split <;> simp
@[simp] theorem posRelease_zmg (a : Act) (m : Mach) : (posRelease a m).zmg = m.zmg := by simp only [posRelease]; split <;> simp
@[simp] theorem posRelease_bcm (a : Act) (m : Mach) : (posRelease a m).bcm = m.bcm := by simp only [posRelease]; split <;> simp
@[simp] theorem posRelease_vlt (a : Act) (m : Mach) : (posRelease a m).vlt = m.vlt := by simp only [posRelease]; split <;> simp
@[simp] theorem posRelease_fe (a : Act) (m : Mach) : (posRelease a m).fe = m.fe := by simp only [posRelease]; split <;> simp
@[simp] theorem posRelease_prt (a : Act) (m : Mach) : (posRelease a m).prt = m.prt := by simp only [posRelease]; split <;> simp
@[simp] theorem posRelease_dsv (a : Act) (m : Mach) : (posRelease a m).dsv = m.dsv := by simp only [posRelease]; split <;> simp
@[simp] theorem posRelease_pins (a : Act) (m : Mach) : (posRelease a m).pins = m.pins := by simp only [posRelease]; split <;> simp
@[simp] theorem posRelease_nor (a : Act) (m : Mach) : (posRelease a m).nor = m.nor := by simp only [posRelease]; split <;> simp
@[simp] theorem posRelease_drawn (a : Act) (m : Mach) : (posRelease a m).drawn = m.drawn := by simp only [posRelease]; split <;> simp
@[simp] theorem posRelease_srvRef_acquired (a : Act) (m : Mach) : ((posRelease a m).srvRef.get a).acquired = (m.srvRef.get a).acquired := by simp only [posRelease]; split <;> simp
@[simp] theorem posRelease_srvRef_indexValid (a : Act) (m : Mach) : ((posRelease a m).srvRef.get a).indexValid = (m.srvRef.get a).indexValid := by simp only [posRelease]; split <;> simp
@[simp] theorem posRelease_srvRef_alignTrust (a : Act) (m : Mach) : ((posRelease a m).srvRef.get a).alignTrust = (m.srvRef.get a).alignTrust := by simp only [posRelease]; split <;> simp
@[simp] theorem posRelease_srvRef_markOk (a : Act) (m : Mach) : ((posRelease a m).srvRef.get a).markOk = (m.srvRef.get a).markOk := by simp only [posRelease]; split <;> simp
@[simp] theorem posRelease_srvRef_setInUse (a : Act) (m : Mach) : ((posRelease a m).srvRef.get a).setInUse = (m.srvRef.get a).setInUse := by simp only [posRelease]; split <;> simp
@[simp] theorem posRelease_srvRef_aOk (a : Act) (m : Mach) : ((posRelease a m).srvRef.get a).aOk = (m.srvRef.get a).aOk := by simp only [posRelease]; split <;> simp
@[simp] theorem posRelease_srvRef_bOk (a : Act) (m : Mach) : ((posRelease a m).srvRef.get a).bOk = (m.srvRef.get a).bOk := by simp only [posRelease]; split <;> simp
@[simp] theorem posRelease_srvRef_pos (a : Act) (m : Mach) : ((posRelease a m).srvRef.get a).pos = (m.srvRef.get a).pos := by simp only [posRelease]; split <;> simp
@[simp] theorem posRelease_srvRef_dataPos (a : Act) (m : Mach) : ((posRelease a m).srvRef.get a).dataPos = (m.srvRef.get a).dataPos := by simp only [posRelease]; split <;> simp
@[simp] theorem posRelease_srvRef_fieldNo (a : Act) (m : Mach) : ((posRelease a m).srvRef.get a).fieldNo = (m.srvRef.get a).fieldNo := by simp only [posRelease]; split <;> simp
@[simp] theorem posRelease_srvRef_fieldValid (a : Act) (m : Mach) : ((posRelease a m).srvRef.get a).fieldValid = (m.srvRef.get a).fieldValid := by simp only [posRelease]; split <;> simp
@[simp] theorem posRelease_srvRef_fieldErr (a : Act) (m : Mach) : ((posRelease a m).srvRef.get a).fieldErr = (m.srvRef.get a).fieldErr := by simp only [posRelease]; split <;> simp
@[simp] theorem posRelease_srvRef_ampA (a : Act) (m : Mach) : ((posRelease a m).srvRef.get a).ampA = (m.srvRef.get a).ampA := by simp only [posRelease]; split <;> simp
@[simp] theorem posRelease_srvRef_ampB (a : Act) (m : Mach) : ((posRelease a m).srvRef.get a).ampB = (m.srvRef.get a).ampB := by simp only [posRelease]; split <;> simp
@[simp] theorem posRelease_srvRef_alignLimit (a : Act) (m : Mach) : ((posRelease a m).srvRef.get a).alignLimit = (m.srvRef.get a).alignLimit := by simp only [posRelease]; split <;> simp
@[simp] theorem posRelease_srvRef_laneAgree (a : Act) (m : Mach) : ((posRelease a m).srvRef.get a).laneAgree = (m.srvRef.get a).laneAgree := by simp only [posRelease]; split <;> simp
@[simp] theorem posRelease_srvRef_invLimit (a : Act) (m : Mach) : ((posRelease a m).srvRef.get a).invLimit = (m.srvRef.get a).invLimit := by simp only [posRelease]; split <;> simp
@[simp] theorem posRelease_srvRef_missLimit (a : Act) (m : Mach) : ((posRelease a m).srvRef.get a).missLimit = (m.srvRef.get a).missLimit := by simp only [posRelease]; split <;> simp
@[simp] theorem posRelease_srvRef_alignReader (a : Act) (m : Mach) : ((posRelease a m).srvRef.get a).alignReader = (m.srvRef.get a).alignReader := by simp only [posRelease]; split <;> simp
@[simp] theorem posRelease_srvRef_invRun (a : Act) (m : Mach) : ((posRelease a m).srvRef.get a).invRun = (m.srvRef.get a).invRun := by simp only [posRelease]; split <;> simp
@[simp] theorem posRelease_srvRef_validRun (a : Act) (m : Mach) : ((posRelease a m).srvRef.get a).validRun = (m.srvRef.get a).validRun := by simp only [posRelease]; split <;> simp
@[simp] theorem posRelease_srvRef_missRun (a : Act) (m : Mach) : ((posRelease a m).srvRef.get a).missRun = (m.srvRef.get a).missRun := by simp only [posRelease]; split <;> simp
@[simp] theorem posRelease_srvRef_missFirst (a : Act) (m : Mach) : ((posRelease a m).srvRef.get a).missFirst = (m.srvRef.get a).missFirst := by simp only [posRelease]; split <;> simp
@[simp] theorem posRelease_srvRef_goodFields (a : Act) (m : Mach) : ((posRelease a m).srvRef.get a).goodFields = (m.srvRef.get a).goodFields := by simp only [posRelease]; split <;> simp
@[simp] theorem posRelease_srvRef_word1 (a : Act) (m : Mach) : ((posRelease a m).srvRef.get a).word1 = (m.srvRef.get a).word1 := by simp only [posRelease]; split <;> simp
@[simp] theorem posRelease_srvRef_word2 (a : Act) (m : Mach) : ((posRelease a m).srvRef.get a).word2 = (m.srvRef.get a).word2 := by simp only [posRelease]; split <;> simp
@[simp] theorem posRelease_srvRef_agcFrozen (a : Act) (m : Mach) : ((posRelease a m).srvRef.get a).agcFrozen = (m.srvRef.get a).agcFrozen := by simp only [posRelease]; split <;> simp
@[simp] theorem posRelease_srvRef_correcting (a : Act) (m : Mach) : ((posRelease a m).srvRef.get a).correcting = (m.srvRef.get a).correcting := by simp only [posRelease]; split <;> simp
@[simp] theorem posRelease_srvRef_markLost (a : Act) (m : Mach) : ((posRelease a m).srvRef.get a).markLost = (m.srvRef.get a).markLost := by simp only [posRelease]; split <;> simp
@[simp] theorem posRelease_srvRef_laneFails (a : Act) (m : Mach) : ((posRelease a m).srvRef.get a).laneFails = (m.srvRef.get a).laneFails := by simp only [posRelease]; split <;> simp
@[simp] theorem posRelease_srvRef_damage (a : Act) (m : Mach) : ((posRelease a m).srvRef.get a).damage = (m.srvRef.get a).damage := by simp only [posRelease]; split <;> simp
@[simp] theorem posRelease_srvRef_invCnt (a : Act) (m : Mach) : ((posRelease a m).srvRef.get a).invCnt = (m.srvRef.get a).invCnt := by simp only [posRelease]; split <;> simp
@[simp] theorem posRelease_srvRef_fbCnt (a : Act) (m : Mach) : ((posRelease a m).srvRef.get a).fbCnt = (m.srvRef.get a).fbCnt := by simp only [posRelease]; split <;> simp
@[simp] theorem posRelease_srvRef_amissCnt (a : Act) (m : Mach) : ((posRelease a m).srvRef.get a).amissCnt = (m.srvRef.get a).amissCnt := by simp only [posRelease]; split <;> simp
@[simp] theorem posRelease_srvRef_other (a : Act) (m : Mach) : (posRelease a m).srvRef.get a.other = m.srvRef.get a.other := by simp only [posRelease]; split <;> simp
@[simp] theorem posUnsafe_srvRef_other (a : Act) (x : Bool) (m : Mach) : (posUnsafe a x m).srvRef.get a.other = m.srvRef.get a.other := by simp [posUnsafe]

/-- What the search for lane damage leaves alone: every part but the sensing of the actuator, the staging area and what an event changes. -/
@[simp] theorem laneDamage_srv (a : Act) (set : LaneSet) (f : Bool) (p : Nat) (m : Mach) : (laneDamage a set f p m).srv = m.srv := by
  simp [laneDamage, apply_ite Mach.srv, stageOwn]

/-! The search for lane damage changes, of the sensing of a unit, only its run of failures and its map (R341). -/

@[simp] theorem laneDamage_srvRef_acquired (a : Act) (set : LaneSet) (x : Bool) (p : Nat) (m : Mach) : ((laneDamage a set x p m).srvRef.get a).acquired = (m.srvRef.get a).acquired := by
  simp only [laneDamage]; (repeat' split) <;> simp [stageOwn]
@[simp] theorem laneDamage_srvRef_indexValid (a : Act) (set : LaneSet) (x : Bool) (p : Nat) (m : Mach) : ((laneDamage a set x p m).srvRef.get a).indexValid = (m.srvRef.get a).indexValid := by
  simp only [laneDamage]; (repeat' split) <;> simp [stageOwn]
@[simp] theorem laneDamage_srvRef_alignTrust (a : Act) (set : LaneSet) (x : Bool) (p : Nat) (m : Mach) : ((laneDamage a set x p m).srvRef.get a).alignTrust = (m.srvRef.get a).alignTrust := by
  simp only [laneDamage]; (repeat' split) <;> simp [stageOwn]
@[simp] theorem laneDamage_srvRef_wusPos (a : Act) (set : LaneSet) (x : Bool) (p : Nat) (m : Mach) : ((laneDamage a set x p m).srvRef.get a).wusPos = (m.srvRef.get a).wusPos := by
  simp only [laneDamage]; (repeat' split) <;> simp [stageOwn]
@[simp] theorem laneDamage_srvRef_wusAlign (a : Act) (set : LaneSet) (x : Bool) (p : Nat) (m : Mach) : ((laneDamage a set x p m).srvRef.get a).wusAlign = (m.srvRef.get a).wusAlign := by
  simp only [laneDamage]; (repeat' split) <;> simp [stageOwn]
@[simp] theorem laneDamage_srvRef_markOk (a : Act) (set : LaneSet) (x : Bool) (p : Nat) (m : Mach) : ((laneDamage a set x p m).srvRef.get a).markOk = (m.srvRef.get a).markOk := by
  simp only [laneDamage]; (repeat' split) <;> simp [stageOwn]
@[simp] theorem laneDamage_srvRef_setInUse (a : Act) (set : LaneSet) (x : Bool) (p : Nat) (m : Mach) : ((laneDamage a set x p m).srvRef.get a).setInUse = (m.srvRef.get a).setInUse := by
  simp only [laneDamage]; (repeat' split) <;> simp [stageOwn]
@[simp] theorem laneDamage_srvRef_aOk (a : Act) (set : LaneSet) (x : Bool) (p : Nat) (m : Mach) : ((laneDamage a set x p m).srvRef.get a).aOk = (m.srvRef.get a).aOk := by
  simp only [laneDamage]; (repeat' split) <;> simp [stageOwn]
@[simp] theorem laneDamage_srvRef_bOk (a : Act) (set : LaneSet) (x : Bool) (p : Nat) (m : Mach) : ((laneDamage a set x p m).srvRef.get a).bOk = (m.srvRef.get a).bOk := by
  simp only [laneDamage]; (repeat' split) <;> simp [stageOwn]
@[simp] theorem laneDamage_srvRef_pos (a : Act) (set : LaneSet) (x : Bool) (p : Nat) (m : Mach) : ((laneDamage a set x p m).srvRef.get a).pos = (m.srvRef.get a).pos := by
  simp only [laneDamage]; (repeat' split) <;> simp [stageOwn]
@[simp] theorem laneDamage_srvRef_dataPos (a : Act) (set : LaneSet) (x : Bool) (p : Nat) (m : Mach) : ((laneDamage a set x p m).srvRef.get a).dataPos = (m.srvRef.get a).dataPos := by
  simp only [laneDamage]; (repeat' split) <;> simp [stageOwn]
@[simp] theorem laneDamage_srvRef_fieldNo (a : Act) (set : LaneSet) (x : Bool) (p : Nat) (m : Mach) : ((laneDamage a set x p m).srvRef.get a).fieldNo = (m.srvRef.get a).fieldNo := by
  simp only [laneDamage]; (repeat' split) <;> simp [stageOwn]
@[simp] theorem laneDamage_srvRef_fieldValid (a : Act) (set : LaneSet) (x : Bool) (p : Nat) (m : Mach) : ((laneDamage a set x p m).srvRef.get a).fieldValid = (m.srvRef.get a).fieldValid := by
  simp only [laneDamage]; (repeat' split) <;> simp [stageOwn]
@[simp] theorem laneDamage_srvRef_fieldErr (a : Act) (set : LaneSet) (x : Bool) (p : Nat) (m : Mach) : ((laneDamage a set x p m).srvRef.get a).fieldErr = (m.srvRef.get a).fieldErr := by
  simp only [laneDamage]; (repeat' split) <;> simp [stageOwn]
@[simp] theorem laneDamage_srvRef_ampA (a : Act) (set : LaneSet) (x : Bool) (p : Nat) (m : Mach) : ((laneDamage a set x p m).srvRef.get a).ampA = (m.srvRef.get a).ampA := by
  simp only [laneDamage]; (repeat' split) <;> simp [stageOwn]
@[simp] theorem laneDamage_srvRef_ampB (a : Act) (set : LaneSet) (x : Bool) (p : Nat) (m : Mach) : ((laneDamage a set x p m).srvRef.get a).ampB = (m.srvRef.get a).ampB := by
  simp only [laneDamage]; (repeat' split) <;> simp [stageOwn]
@[simp] theorem laneDamage_srvRef_alignLimit (a : Act) (set : LaneSet) (x : Bool) (p : Nat) (m : Mach) : ((laneDamage a set x p m).srvRef.get a).alignLimit = (m.srvRef.get a).alignLimit := by
  simp only [laneDamage]; (repeat' split) <;> simp [stageOwn]
@[simp] theorem laneDamage_srvRef_laneAgree (a : Act) (set : LaneSet) (x : Bool) (p : Nat) (m : Mach) : ((laneDamage a set x p m).srvRef.get a).laneAgree = (m.srvRef.get a).laneAgree := by
  simp only [laneDamage]; (repeat' split) <;> simp [stageOwn]
@[simp] theorem laneDamage_srvRef_invLimit (a : Act) (set : LaneSet) (x : Bool) (p : Nat) (m : Mach) : ((laneDamage a set x p m).srvRef.get a).invLimit = (m.srvRef.get a).invLimit := by
  simp only [laneDamage]; (repeat' split) <;> simp [stageOwn]
@[simp] theorem laneDamage_srvRef_missLimit (a : Act) (set : LaneSet) (x : Bool) (p : Nat) (m : Mach) : ((laneDamage a set x p m).srvRef.get a).missLimit = (m.srvRef.get a).missLimit := by
  simp only [laneDamage]; (repeat' split) <;> simp [stageOwn]
@[simp] theorem laneDamage_srvRef_alignReader (a : Act) (set : LaneSet) (x : Bool) (p : Nat) (m : Mach) : ((laneDamage a set x p m).srvRef.get a).alignReader = (m.srvRef.get a).alignReader := by
  simp only [laneDamage]; (repeat' split) <;> simp [stageOwn]
@[simp] theorem laneDamage_srvRef_invRun (a : Act) (set : LaneSet) (x : Bool) (p : Nat) (m : Mach) : ((laneDamage a set x p m).srvRef.get a).invRun = (m.srvRef.get a).invRun := by
  simp only [laneDamage]; (repeat' split) <;> simp [stageOwn]
@[simp] theorem laneDamage_srvRef_validRun (a : Act) (set : LaneSet) (x : Bool) (p : Nat) (m : Mach) : ((laneDamage a set x p m).srvRef.get a).validRun = (m.srvRef.get a).validRun := by
  simp only [laneDamage]; (repeat' split) <;> simp [stageOwn]
@[simp] theorem laneDamage_srvRef_missRun (a : Act) (set : LaneSet) (x : Bool) (p : Nat) (m : Mach) : ((laneDamage a set x p m).srvRef.get a).missRun = (m.srvRef.get a).missRun := by
  simp only [laneDamage]; (repeat' split) <;> simp [stageOwn]
@[simp] theorem laneDamage_srvRef_missFirst (a : Act) (set : LaneSet) (x : Bool) (p : Nat) (m : Mach) : ((laneDamage a set x p m).srvRef.get a).missFirst = (m.srvRef.get a).missFirst := by
  simp only [laneDamage]; (repeat' split) <;> simp [stageOwn]
@[simp] theorem laneDamage_srvRef_goodFields (a : Act) (set : LaneSet) (x : Bool) (p : Nat) (m : Mach) : ((laneDamage a set x p m).srvRef.get a).goodFields = (m.srvRef.get a).goodFields := by
  simp only [laneDamage]; (repeat' split) <;> simp [stageOwn]
@[simp] theorem laneDamage_srvRef_word1 (a : Act) (set : LaneSet) (x : Bool) (p : Nat) (m : Mach) : ((laneDamage a set x p m).srvRef.get a).word1 = (m.srvRef.get a).word1 := by
  simp only [laneDamage]; (repeat' split) <;> simp [stageOwn]
@[simp] theorem laneDamage_srvRef_word2 (a : Act) (set : LaneSet) (x : Bool) (p : Nat) (m : Mach) : ((laneDamage a set x p m).srvRef.get a).word2 = (m.srvRef.get a).word2 := by
  simp only [laneDamage]; (repeat' split) <;> simp [stageOwn]
@[simp] theorem laneDamage_srvRef_agcFrozen (a : Act) (set : LaneSet) (x : Bool) (p : Nat) (m : Mach) : ((laneDamage a set x p m).srvRef.get a).agcFrozen = (m.srvRef.get a).agcFrozen := by
  simp only [laneDamage]; (repeat' split) <;> simp [stageOwn]
@[simp] theorem laneDamage_srvRef_gain (a : Act) (set : LaneSet) (x : Bool) (p : Nat) (m : Mach) : ((laneDamage a set x p m).srvRef.get a).gain = (m.srvRef.get a).gain := by
  simp only [laneDamage]; (repeat' split) <;> simp [stageOwn]
@[simp] theorem laneDamage_srvRef_correcting (a : Act) (set : LaneSet) (x : Bool) (p : Nat) (m : Mach) : ((laneDamage a set x p m).srvRef.get a).correcting = (m.srvRef.get a).correcting := by
  simp only [laneDamage]; (repeat' split) <;> simp [stageOwn]
@[simp] theorem laneDamage_srvRef_markLost (a : Act) (set : LaneSet) (x : Bool) (p : Nat) (m : Mach) : ((laneDamage a set x p m).srvRef.get a).markLost = (m.srvRef.get a).markLost := by
  simp only [laneDamage]; (repeat' split) <;> simp [stageOwn]
@[simp] theorem laneDamage_srvRef_invCnt (a : Act) (set : LaneSet) (x : Bool) (p : Nat) (m : Mach) : ((laneDamage a set x p m).srvRef.get a).invCnt = (m.srvRef.get a).invCnt := by
  simp only [laneDamage]; (repeat' split) <;> simp [stageOwn]
@[simp] theorem laneDamage_srvRef_fbCnt (a : Act) (set : LaneSet) (x : Bool) (p : Nat) (m : Mach) : ((laneDamage a set x p m).srvRef.get a).fbCnt = (m.srvRef.get a).fbCnt := by
  simp only [laneDamage]; (repeat' split) <;> simp [stageOwn]
@[simp] theorem laneDamage_srvRef_amissCnt (a : Act) (set : LaneSet) (x : Bool) (p : Nat) (m : Mach) : ((laneDamage a set x p m).srvRef.get a).amissCnt = (m.srvRef.get a).amissCnt := by
  simp only [laneDamage]; (repeat' split) <;> simp [stageOwn]
@[simp] theorem laneDamage_srvRef_other (a : Act) (set : LaneSet) (x : Bool) (p : Nat) (m : Mach) : (laneDamage a set x p m).srvRef.get a.other = m.srvRef.get a.other := by
  simp only [laneDamage]; (repeat' split) <;> simp [stageOwn]

/-- Two sets that agree deliver their mean (Table 6-3). -/
theorem windowFraction_agree (m : Mach) (a : Act) (ua ub : Nat)
    (h : (wrap12 ((ub : Int) - ua)).natAbs ≤ (m.srvRef.get a).laneAgree.toNat) :
    windowFraction m a true true ua ub = some ((((ua : Int) + (wrap12 ((ub : Int) - ua)).tdiv 2) % 4096).toNat, 3) := by
  simp only [windowFraction, h, if_true]

/-- Two sets that agree raise no event and no count (Table 6-5). -/
theorem windowEvents_agree (m : Mach) (a : Act) (ua ub p : Nat) (k : Bool)
    (h : (wrap12 ((ub : Int) - ua)).natAbs ≤ (m.srvRef.get a).laneAgree.toNat) : windowEvents a true true ua ub p k m = m := by
  simp only [windowEvents]; exact if_neg (by omega)

/-- The search for lane damage loads no other record than its own (R341). -/
theorem laneDamage_records (a : Act) (set : LaneSet) (x : Bool) (p : Nat) (m : Mach) : (laneDamage a set x p m).sup.records = m.sup.records := by
  simp only [laneDamage]; (repeat' split) <;> simp [stageOwn]

end Sys2Proof.Machine
end

