-- ==== Sys2Proof/Laws/Frames.lean ====
section
/-! SUPPORT. What the shared operations of a measure, of a torn island and of an index frame leave alone, one law for each operation. -/

namespace Sys2Proof.Machine

/-- A measured VBULK reaches the power unit and the pins alone. -/
@[simp] theorem setVbulk_rest (v : BitVec 16) (m : Mach) :
    (setVbulk v m).id = m.id ∧ (setVbulk v m).hda = m.hda ∧ (setVbulk v m).clk = m.clk ∧ (setVbulk v m).sup = m.sup ∧ (setVbulk v m).svc = m.svc ∧
    (setVbulk v m).evr = m.evr ∧ (setVbulk v m).events = m.events ∧ (setVbulk v m).spn = m.spn ∧ (setVbulk v m).srvRef = m.srvRef ∧
    (setVbulk v m).srv = m.srv ∧ (setVbulk v m).hif = m.hif ∧ (setVbulk v m).pre = m.pre ∧ (setVbulk v m).ch = m.ch ∧ (setVbulk v m).cfx = m.cfx ∧
    (setVbulk v m).cal = m.cal ∧ (setVbulk v m).sch = m.sch ∧ (setVbulk v m).zmg = m.zmg ∧ (setVbulk v m).bcm = m.bcm ∧ (setVbulk v m).vlt = m.vlt ∧
    (setVbulk v m).fe = m.fe ∧ (setVbulk v m).prt = m.prt ∧ (setVbulk v m).dsv = m.dsv ∧ (setVbulk v m).nor = m.nor ∧
    (setVbulk v m).drawn = m.drawn := by
  simp [setVbulk]

/-- A measured input peak, and VBULK with it, reach the power unit and the pins alone. -/
@[simp] theorem vinSeen_rest (v : BitVec 16) (m : Mach) :
    (vinSeen v m).id = m.id ∧ (vinSeen v m).hda = m.hda ∧ (vinSeen v m).clk = m.clk ∧ (vinSeen v m).sup = m.sup ∧ (vinSeen v m).svc = m.svc ∧
    (vinSeen v m).evr = m.evr ∧ (vinSeen v m).events = m.events ∧ (vinSeen v m).spn = m.spn ∧ (vinSeen v m).srvRef = m.srvRef ∧
    (vinSeen v m).srv = m.srv ∧ (vinSeen v m).hif = m.hif ∧ (vinSeen v m).pre = m.pre ∧ (vinSeen v m).ch = m.ch ∧ (vinSeen v m).cfx = m.cfx ∧
    (vinSeen v m).cal = m.cal ∧ (vinSeen v m).sch = m.sch ∧ (vinSeen v m).zmg = m.zmg ∧ (vinSeen v m).bcm = m.bcm ∧ (vinSeen v m).vlt = m.vlt ∧
    (vinSeen v m).fe = m.fe ∧ (vinSeen v m).prt = m.prt ∧ (vinSeen v m).dsv = m.dsv ∧ (vinSeen v m).nor = m.nor ∧ (vinSeen v m).drawn = m.drawn := by
  unfold vinSeen; dsimp only; split <;> simp

/-- A torn island reaches the clock unit and the recorder alone. -/
@[simp] theorem tornAt_rest (g : Group) (n : BitVec 16) (m : Mach) :
    (tornAt g n m).id = m.id ∧ (tornAt g n m).hda = m.hda ∧ (tornAt g n m).pwr = m.pwr ∧ (tornAt g n m).sup = m.sup ∧ (tornAt g n m).svc = m.svc ∧
    (tornAt g n m).spn = m.spn ∧ (tornAt g n m).srvRef = m.srvRef ∧ (tornAt g n m).srv = m.srv ∧ (tornAt g n m).hif = m.hif ∧
    (tornAt g n m).pre = m.pre ∧ (tornAt g n m).ch = m.ch ∧ (tornAt g n m).cfx = m.cfx ∧ (tornAt g n m).cal = m.cal ∧ (tornAt g n m).sch = m.sch ∧
    (tornAt g n m).zmg = m.zmg ∧ (tornAt g n m).bcm = m.bcm ∧ (tornAt g n m).vlt = m.vlt ∧ (tornAt g n m).fe = m.fe ∧ (tornAt g n m).prt = m.prt ∧
    (tornAt g n m).dsv = m.dsv ∧ (tornAt g n m).nor = m.nor ∧ (tornAt g n m).drawn = m.drawn := by
  simp [tornAt]

/-- Replacing a brake reaches the spindle and the recorder alone. -/
@[simp] theorem replaceBrake_rest (r : Nat) (m : Mach) :
    (replaceBrake r m).id = m.id ∧ (replaceBrake r m).hda = m.hda ∧ (replaceBrake r m).pwr = m.pwr ∧ (replaceBrake r m).clk = m.clk ∧
    (replaceBrake r m).sup = m.sup ∧ (replaceBrake r m).svc = m.svc ∧ (replaceBrake r m).srvRef = m.srvRef ∧ (replaceBrake r m).srv = m.srv ∧
    (replaceBrake r m).hif = m.hif ∧ (replaceBrake r m).pre = m.pre ∧ (replaceBrake r m).ch = m.ch ∧ (replaceBrake r m).cfx = m.cfx ∧
    (replaceBrake r m).cal = m.cal ∧ (replaceBrake r m).sch = m.sch ∧ (replaceBrake r m).zmg = m.zmg ∧ (replaceBrake r m).bcm = m.bcm ∧
    (replaceBrake r m).vlt = m.vlt ∧ (replaceBrake r m).fe = m.fe ∧ (replaceBrake r m).prt = m.prt ∧ (replaceBrake r m).dsv = m.dsv ∧
    (replaceBrake r m).nor = m.nor ∧ (replaceBrake r m).drawn = m.drawn := by
  unfold replaceBrake; dsimp only; split <;> simp

/-- A chopper that fails reaches the power unit, the spindle and the recorder alone. -/
@[simp] theorem chopFails_rest (t : Byte) (m : Mach) :
    (chopFails t m).id = m.id ∧ (chopFails t m).hda = m.hda ∧ (chopFails t m).clk = m.clk ∧ (chopFails t m).sup = m.sup ∧
    (chopFails t m).svc = m.svc ∧ (chopFails t m).srvRef = m.srvRef ∧ (chopFails t m).srv = m.srv ∧ (chopFails t m).hif = m.hif ∧
    (chopFails t m).pre = m.pre ∧ (chopFails t m).ch = m.ch ∧ (chopFails t m).cfx = m.cfx ∧ (chopFails t m).cal = m.cal ∧
    (chopFails t m).sch = m.sch ∧ (chopFails t m).zmg = m.zmg ∧ (chopFails t m).bcm = m.bcm ∧ (chopFails t m).vlt = m.vlt ∧
    (chopFails t m).fe = m.fe ∧ (chopFails t m).prt = m.prt ∧ (chopFails t m).dsv = m.dsv ∧ (chopFails t m).nor = m.nor ∧
    (chopFails t m).drawn = m.drawn := by
  simp [chopFails]

/-- So does its VMOT test, -/
@[simp] theorem chopVmotTest_rest (m : Mach) :
    (chopVmotTest m).id = m.id ∧ (chopVmotTest m).hda = m.hda ∧ (chopVmotTest m).clk = m.clk ∧ (chopVmotTest m).sup = m.sup ∧
    (chopVmotTest m).svc = m.svc ∧ (chopVmotTest m).srvRef = m.srvRef ∧ (chopVmotTest m).srv = m.srv ∧ (chopVmotTest m).hif = m.hif ∧
    (chopVmotTest m).pre = m.pre ∧ (chopVmotTest m).ch = m.ch ∧ (chopVmotTest m).cfx = m.cfx ∧ (chopVmotTest m).cal = m.cal ∧
    (chopVmotTest m).sch = m.sch ∧ (chopVmotTest m).zmg = m.zmg ∧ (chopVmotTest m).bcm = m.bcm ∧ (chopVmotTest m).vlt = m.vlt ∧
    (chopVmotTest m).fe = m.fe ∧ (chopVmotTest m).prt = m.prt ∧ (chopVmotTest m).dsv = m.dsv ∧ (chopVmotTest m).nor = m.nor ∧
    (chopVmotTest m).drawn = m.drawn := by
  unfold chopVmotTest; split <;> simp

/-- its thermal limit, -/
@[simp] theorem chopLimit_rest (m : Mach) :
    (chopLimit m).id = m.id ∧ (chopLimit m).hda = m.hda ∧ (chopLimit m).clk = m.clk ∧ (chopLimit m).sup = m.sup ∧ (chopLimit m).svc = m.svc ∧
    (chopLimit m).srvRef = m.srvRef ∧ (chopLimit m).srv = m.srv ∧ (chopLimit m).hif = m.hif ∧ (chopLimit m).pre = m.pre ∧ (chopLimit m).ch = m.ch ∧
    (chopLimit m).cfx = m.cfx ∧ (chopLimit m).cal = m.cal ∧ (chopLimit m).sch = m.sch ∧ (chopLimit m).zmg = m.zmg ∧ (chopLimit m).bcm = m.bcm ∧
    (chopLimit m).vlt = m.vlt ∧ (chopLimit m).fe = m.fe ∧ (chopLimit m).prt = m.prt ∧ (chopLimit m).dsv = m.dsv ∧ (chopLimit m).nor = m.nor ∧
    (chopLimit m).drawn = m.drawn := by
  unfold chopLimit; (repeat' split) <;> simp

/-- and a measured VMOT, which reaches the servo as well. -/
@[simp] theorem vmotSeen_rest (v : BitVec 16) (us : BitVec 20) (m : Mach) :
    (vmotSeen v us m).id = m.id ∧ (vmotSeen v us m).hda = m.hda ∧ (vmotSeen v us m).clk = m.clk ∧ (vmotSeen v us m).sup = m.sup ∧
    (vmotSeen v us m).svc = m.svc ∧ (vmotSeen v us m).srvRef = m.srvRef ∧ (vmotSeen v us m).hif = m.hif ∧ (vmotSeen v us m).pre = m.pre ∧
    (vmotSeen v us m).ch = m.ch ∧ (vmotSeen v us m).cfx = m.cfx ∧ (vmotSeen v us m).cal = m.cal ∧ (vmotSeen v us m).sch = m.sch ∧
    (vmotSeen v us m).zmg = m.zmg ∧ (vmotSeen v us m).bcm = m.bcm ∧ (vmotSeen v us m).vlt = m.vlt ∧ (vmotSeen v us m).fe = m.fe ∧
    (vmotSeen v us m).prt = m.prt ∧ (vmotSeen v us m).dsv = m.dsv ∧ (vmotSeen v us m).nor = m.nor ∧ (vmotSeen v us m).drawn = m.drawn := by
  simp [vmotSeen, retractSource, brakeHeat]

/-- An index frame reaches the servo, the head interface with the write it may inhibit, and the recorder alone. -/
@[simp] theorem frameSeen_rest (a : Act) (set : LaneSet) (lane period : Nat) (mark : Bool) (m : Mach) :
    (frameSeen a set lane period mark m).id = m.id ∧ (frameSeen a set lane period mark m).pwr = m.pwr ∧
    (frameSeen a set lane period mark m).clk = m.clk ∧ (frameSeen a set lane period mark m).sup = m.sup ∧
    (frameSeen a set lane period mark m).svc = m.svc ∧ (frameSeen a set lane period mark m).spn = m.spn ∧
    (frameSeen a set lane period mark m).pre = m.pre ∧ (frameSeen a set lane period mark m).cfx = m.cfx ∧
    (frameSeen a set lane period mark m).cal = m.cal ∧ (frameSeen a set lane period mark m).sch = m.sch ∧
    (frameSeen a set lane period mark m).zmg = m.zmg ∧ (frameSeen a set lane period mark m).bcm = m.bcm ∧
    (frameSeen a set lane period mark m).vlt = m.vlt ∧ (frameSeen a set lane period mark m).fe = m.fe ∧
    (frameSeen a set lane period mark m).prt = m.prt ∧ (frameSeen a set lane period mark m).dsv = m.dsv ∧
    (frameSeen a set lane period mark m).nor = m.nor ∧ (frameSeen a set lane period mark m).drawn = m.drawn := by
  unfold frameSeen; dsimp only; (repeat' split) <;> simp [posUnsafe]

end Sys2Proof.Machine
end

