-- ==== Sys2Proof/Laws/Sequencer.lean ====
section
/-! SUPPORT. What a word of the sequencer does when its PC fetches it (spec/11). -/

namespace Sys2Proof.Machine

/-- A word that its PC fetches without a correction is executed by the command of its opcode (R555, R590). -/
theorem execWord_fetches (a : Act) (pick : Nat → Bool) (act : BitVec 32 → Mach → Mach) (m : Mach) (w : Reg) (h : Fetches m a w)
    (hp : pick (wOp w) = true) : execWord a pick act m = act w m := by
  obtain ⟨h1, h2⟩ := h
  simp [execWord, h1, h2, hp]

/-- `execWord_fetches` in the shape of a step. -/
theorem word_step (s : State) (a : Act) (pick : Nat → Bool) (act : BitVec 32 → Mach → Mach) (m' : Mach) (w : Reg) (h : Fetches s.m a w)
    (hp : pick (wOp w) = true) (hb : act w s.m = m') : s.run (execWord a pick act) = .next { s with m := m' } := by
  rw [State.run_eq, execWord_fetches a pick act s.m w h hp, hb]

/-- A sequencer that does not execute a word lets every word's command pass (R555). -/
theorem execWord_idle (a : Act) (pick : Nat → Bool) (act : BitVec 32 → Mach → Mach) (m : Mach) (h : cfxReady (m.cfx.get a) = false) :
    execWord a pick act m = m := by simp [execWord, h]

end Sys2Proof.Machine
end

