-- ==== Sys2Proof/Laws/Identity1.lean ====
section
/-! SUPPORT. What one-time memory and the identity of the module are after each operation and command: unchanged, but for the raise of MIN_SVN (spec/17
R870 to R872, spec/18 R921). -/

set_option linter.unusedSimpArgs false

namespace Sys2Proof.Machine

/-- A fold of steps that each keep it. -/
@[simp] theorem foldl_id {α : Type} (g : Mach → α → Mach) (l : List α) (m : Mach) (h : ∀ m x, (g m x).id = m.id) : (l.foldl g m).id = m.id := by
  induction l generalizing m with
  | nil => rfl
  | cons x r ih => rw [List.foldl_cons, ih, h]
theorem foldl_fst_id {α β : Type} (g : Mach × β → α → Mach × β) (l : List α) (a : Mach × β) (h : ∀ a x, (g a x).1.id = a.1.id) :
    (l.foldl g a).1.id = a.1.id := by
  induction l generalizing a with
  | nil => rfl
  | cons x r ih => rw [List.foldl_cons, ih, h]
theorem foldl_bind_id {α : Type} (f : α → Mach → Option Mach) (hf : ∀ c m n, f c m = some n → n.id = m.id) (i : Ident) (k : Mach) :
    ∀ (l : List α) (x : Option Mach), (∀ m, x = some m → m.id = i) → l.foldl (fun x c => x.bind (f c)) x = some k → k.id = i
  | [], _, hx, h => hx _ h
  | c :: l, x, hx, h => foldl_bind_id f hf i k l _ (fun m e => by
      obtain ⟨n, hn, e⟩ := Option.bind_eq_some_iff.mp e
      exact (hf _ _ _ e).trans (hx _ hn)) h

@[simp] theorem ifDo_id (x0 : Bool) (x1 : Mach → Mach) (m2 : Mach) (h1 : ∀ m, (x1 m).id = m.id) : (ifDo x0 x1 m2).id = m2.id := by
  unfold ifDo
  (repeat' (first | with_reducible rfl | assumption | (simp; done) | (simp [*]; done) | (intro _) | (rw [foldl_id]) | (rw [foldl_fst_id]) | split | dsimp only | simp))
@[simp] theorem slotPut_id (x0 : Act) (x1 : Nat) (x2 : Nat) (x3 : Nat) (x4 : Payload) (m5 : Mach) : (slotPut x0 x1 x2 x3 x4 m5).id = m5.id := by simp [slotPut]
@[simp] theorem refreshInhibits_id (m0 : Mach) : (refreshInhibits m0).id = m0.id := by simp [refreshInhibits]
@[simp] theorem dropGates_id (x0 : Act) (m1 : Mach) : (dropGates x0 m1).id = m1.id := by simp [dropGates]
@[simp] theorem retractGates_id (x0 : Act) (m1 : Mach) : (retractGates x0 m1).id = m1.id := by simp [retractGates]
@[simp] theorem openAssist_id (x0 : Act) (m1 : Mach) : (openAssist x0 m1).id = m1.id := by simp [openAssist]
@[simp] theorem closeAssist_id (x0 : Act) (m1 : Mach) : (closeAssist x0 m1).id = m1.id := by simp [closeAssist]
@[simp] theorem openWrite_id (x0 : Act) (m1 : Mach) : (openWrite x0 m1).id = m1.id := by simp [openWrite, apply_ite Mach.id]
@[simp] theorem closeWrite_id (x0 : Act) (m1 : Mach) : (closeWrite x0 m1).id = m1.id := by simp [closeWrite]
@[simp] theorem heaterChanged_id (x0 : Act) (m1 : Mach) : (heaterChanged x0 m1).id = m1.id := by simp [heaterChanged]
@[simp] theorem setBoost_id (x0 : Act) (x1 : Bool) (m2 : Mach) : (setBoost x0 x1 m2).id = m2.id := by simp [setBoost, apply_ite Mach.id]
@[simp] theorem selectRegion_id (x0 : Act) (x1 : Nat) (x2 : Nat) (x3 : Bool) (x4 : List Ack) (x5 : List Ack) (x6 : Nat) (m7 : Mach) : (selectRegion x0 x1 x2 x3 x4 x5 x6 m7).id = m7.id := by simp [selectRegion, apply_ite Mach.id]
@[simp] theorem preampSupply_id (x0 : Bool) (x1 : Act) (m2 : Mach) : (preampSupply x0 x1 m2).id = m2.id := by simp [preampSupply]
@[simp] theorem lossSupply_id (x0 : Act) (m1 : Mach) : (lossSupply x0 m1).id = m1.id := by simp [lossSupply, apply_ite Mach.id]
@[simp] theorem assistCutoff_id (x0 : Act) (x1 : BitVec 16) (m2 : Mach) : (assistCutoff x0 x1 m2).id = m2.id := by simp [assistCutoff, apply_ite Mach.id]
@[simp] theorem addLife_id (x0 : Act) (x1 : Nat) (x2 : Nat) (x3 : Nat) (m4 : Mach) : (addLife x0 x1 x2 x3 m4).id = m4.id := by simp [addLife, apply_ite Mach.id]
@[simp] theorem addHeat_id (x0 : Act) (m1 : Mach) : (addHeat x0 m1).id = m1.id := by simp [addHeat, apply_ite Mach.id]
@[simp] theorem spnGo_id (x0 : SpnState) (x1 : Bridge) (m2 : Mach) : (spnGo x0 x1 m2).id = m2.id := by simp [spnGo]
@[simp] theorem takeUp_id (x0 : SpnState) (x1 : Bridge) (m2 : Mach) : (takeUp x0 x1 m2).id = m2.id := by simp [takeUp]
@[simp] theorem spnWusRelease_id (m0 : Mach) : (spnWusRelease m0).id = m0.id := by simp [spnWusRelease, apply_ite Mach.id]
@[simp] theorem unanchor_id (m0 : Mach) : (unanchor m0).id = m0.id := by simp [unanchor]
@[simp] theorem brakeRegen_id (m0 : Mach) : (brakeRegen m0).id = m0.id := by
  unfold brakeRegen
  split <;> simp [apply_ite Mach.id]
@[simp] theorem spnBrake_id (m0 : Mach) : (spnBrake m0).id = m0.id := by
  unfold spnBrake
  (repeat' split) <;> simp [apply_ite Mach.id]
@[simp] theorem replaceBrake_id (x0 : Nat) (m1 : Mach) : (replaceBrake x0 m1).id = m1.id := by simp [replaceBrake, apply_ite Mach.id]
@[simp] theorem spnStart_id (m0 : Mach) : (spnStart m0).id = m0.id := by simp [spnStart, apply_ite Mach.id]
@[simp] theorem spnResume_id (m0 : Mach) : (spnResume m0).id = m0.id := by
  unfold spnResume
  split <;> simp [apply_ite Mach.id]
@[simp] theorem spnFollowTarget_id (m0 : Mach) : (spnFollowTarget m0).id = m0.id := by
  unfold spnFollowTarget
  (repeat' split) <;> simp [apply_ite Mach.id]
@[simp] theorem spnReleased_id (m0 : Mach) : (spnReleased m0).id = m0.id := by
  unfold spnReleased
  split <;> simp [apply_ite Mach.id]
@[simp] theorem spnApplyTarget_id (x0 : Nat) (m1 : Mach) : (spnApplyTarget x0 m1).id = m1.id := by simp [spnApplyTarget]
@[simp] theorem spnSetTarget_id (x0 : Nat) (m1 : Mach) : (spnSetTarget x0 m1).id = m1.id := by simp [spnSetTarget, apply_ite Mach.id]
@[simp] theorem spnEvaluate_id (m0 : Mach) : (spnEvaluate m0).id = m0.id := by simp [spnEvaluate]
@[simp] theorem setDemand_id (x0 : Nat) (m1 : Mach) : (setDemand x0 m1).id = m1.id := by simp [setDemand]
@[simp] theorem spnParked_id (m0 : Mach) : (spnParked m0).id = m0.id := by
  unfold spnParked
  split <;> simp [apply_ite Mach.id]
@[simp] theorem spnCoast_id (m0 : Mach) : (spnCoast m0).id = m0.id := by simp [spnCoast, apply_ite Mach.id]
@[simp] theorem spnStop_id (m0 : Mach) : (spnStop m0).id = m0.id := by simp [spnStop]
@[simp] theorem spnLossSteps_id (x0 : Nat) (m1 : Mach) : (spnLossSteps x0 m1).id = m1.id := by simp [spnLossSteps]
@[simp] theorem loseRotor_id (x0 : Nat) (m1 : Mach) : (loseRotor x0 m1).id = m1.id := by
  unfold loseRotor
  split <;> simp [apply_ite Mach.id]
@[simp] theorem putBank_id (x0 : Act) (x1 : Option Bank) (m2 : Mach) : (putBank x0 x1 m2).id = m2.id := by
  unfold putBank
  split <;> simp [apply_ite Mach.id]
@[simp] theorem replyRaw_id (x0 : Hdr) (x1 : Reply) (m2 : Mach) : (replyRaw x0 x1 m2).id = m2.id := by
  unfold replyRaw
  split <;> simp [apply_ite Mach.id]
@[simp] theorem serviceFor.go_id (x0 : Mach → Bool) (x1 : Hdr) (x2 : Nat) (x3 : Mach → List (Bool × Nat)) (x4 : Mach → Mach) (m5 : Mach) (h4 : ∀ m, (x4 m).id = m.id) : (serviceFor.go x0 x1 x2 x3 x4 m5).id = m5.id := by
  unfold serviceFor.go
  (repeat' (first | with_reducible rfl | assumption | (simp; done) | (simp [*]; done) | (intro _) | (rw [foldl_id]) | (rw [foldl_fst_id]) | split | dsimp only | simp))
@[simp] theorem serviceFor_id (x0 : Mach → Bool) (x1 : Nat) (x2 : Hdr) (x3 : Nat) (x4 : Mach → List (Bool × Nat)) (x5 : Mach → Mach) (m6 : Mach) (h5 : ∀ m, (x5 m).id = m.id) : (serviceFor x0 x1 x2 x3 x4 x5 m6).id = m6.id := by
  unfold serviceFor
  (repeat' (first | with_reducible rfl | assumption | (simp; done) | (simp [*]; done) | (intro _) | (rw [foldl_id]) | (rw [foldl_fst_id]) | split | dsimp only | simp))
@[simp] theorem service_id (x0 : Nat) (x1 : Hdr) (x2 : Nat) (x3 : Mach → List (Bool × Nat)) (x4 : Mach → Mach) (m5 : Mach) (h4 : ∀ m, (x4 m).id = m.id) : (service x0 x1 x2 x3 x4 m5).id = m5.id := by
  unfold service
  (repeat' (first | with_reducible rfl | assumption | (simp; done) | (simp [*]; done) | (intro _) | (rw [foldl_id]) | (rw [foldl_fst_id]) | split | dsimp only | simp))
@[simp] theorem closeFactory_id (m0 : Mach) : (closeFactory m0).id = m0.id := by simp [closeFactory]
@[simp] theorem dropTransport_id (x0 : Transport → Bool) (m1 : Mach) : (dropTransport x0 m1).id = m1.id := by simp [dropTransport]
@[simp] theorem stageOwn_id (x0 : SRec) (m1 : Mach) : (stageOwn x0 m1).id = m1.id := by simp [stageOwn]
@[simp] theorem putRecord_id (x0 : Nat) (x1 : List Byte) (x2 : Option (List Byte)) (m3 : Mach) : (putRecord x0 x1 x2 m3).id = m3.id := by simp [putRecord]
@[simp] theorem calApply_id (x0 : Act) (x1 : CalJob) (m2 : Mach) : (calApply x0 x1 m2).id = m2.id := by simp [calApply, apply_ite Mach.id]
@[simp] theorem calRestore_id (x0 : Act) (x1 : CalRun) (m2 : Mach) : (calRestore x0 x1 m2).id = m2.id := by simp [calRestore]
@[simp] theorem Mach.onCal_id (m0 : Mach) (x1 : Act) (x2 : CalAct → CalAct) : (Mach.onCal m0 x1 x2).id = m0.id := by simp [Mach.onCal]
@[simp] theorem calReqDone_id (x0 : Act) (x1 : CalJob) (x2 : Nat) (m3 : Mach) : (calReqDone x0 x1 x2 m3).id = m3.id := by simp [calReqDone]
@[simp] theorem calRelease_id (x0 : Act) (m1 : Mach) : (calRelease x0 m1).id = m1.id := by simp [calRelease]
@[simp] theorem calAbandon_id (x0 : Act) (x1 : Nat) (m2 : Mach) : (calAbandon x0 x1 m2).id = m2.id := by
  unfold calAbandon
  split <;> simp [apply_ite Mach.id]
@[simp] theorem calAbandonAll_id (x0 : Nat) (m1 : Mach) : (calAbandonAll x0 m1).id = m1.id := by simp [calAbandonAll]
@[simp] theorem calBulkDone_id (x0 : Bool) (m1 : Mach) : (calBulkDone x0 m1).id = m1.id := by simp [calBulkDone]
@[simp] theorem startSeek_id (x0 : Act) (x1 : Nat) (x2 : Nat) (x3 : SeekPhase) (m4 : Mach) : (startSeek x0 x1 x2 x3 m4).id = m4.id := by simp [startSeek]
@[simp] theorem enterSettle_id (x0 : Act) (m1 : Mach) : (enterSettle x0 m1).id = m1.id := by simp [enterSettle]
@[simp] theorem seekTo_id (x0 : Act) (x1 : Nat) (x2 : Nat) (m3 : Mach) : (seekTo x0 x1 x2 m3).id = m3.id := by
  unfold seekTo
  dsimp only
  (repeat' split) <;> simp [*, apply_ite Mach.id]
@[simp] theorem enterOpen_id (x0 : Act) (m1 : Mach) : (enterOpen x0 m1).id = m1.id := by simp [enterOpen]
@[simp] theorem answerHold_id (x0 : Act) (x1 : Nat) (x2 : Nat) (m3 : Mach) : (answerHold x0 x1 x2 m3).id = m3.id := by
  unfold answerHold
  dsimp only
  (repeat' split) <;> simp [*, apply_ite Mach.id]
@[simp] theorem answerClose_id (x0 : Act) (x1 : Nat) (m2 : Mach) : (answerClose x0 x1 m2).id = m2.id := by
  unfold answerClose
  split <;> simp [apply_ite Mach.id]
@[simp] theorem retract_id (x0 : Act) (x1 : Nat) (m2 : Mach) : (retract x0 x1 m2).id = m2.id := by simp [retract, apply_ite Mach.id]
@[simp] theorem retractBoth_id (x0 : Nat) (m1 : Mach) : (retractBoth x0 m1).id = m1.id := by simp [retractBoth]
@[simp] theorem unload_id (x0 : Act) (m1 : Mach) : (unload x0 m1).id = m1.id := by simp [unload, apply_ite Mach.id]
@[simp] theorem unloadBoth_id (m0 : Mach) : (unloadBoth m0).id = m0.id := by simp [unloadBoth]
@[simp] theorem loadTo_id (x0 : Act) (x1 : Nat) (x2 : Nat) (m3 : Mach) : (loadTo x0 x1 x2 m3).id = m3.id := by simp [loadTo, apply_ite Mach.id]
@[simp] theorem load_id (x0 : Act) (m1 : Mach) : (load x0 m1).id = m1.id := by simp [load, apply_ite Mach.id]
@[simp] theorem loadChCfg_id (x0 : Act) (m1 : Mach) : (loadChCfg x0 m1).id = m1.id := by simp [loadChCfg]
@[simp] theorem loadChannel_id (x0 : Act) (m1 : Mach) : (loadChannel x0 m1).id = m1.id := by simp [loadChannel]
@[simp] theorem elapse_id (x0 : Act) (x1 : Nat) (m2 : Mach) : (elapse x0 x1 m2).id = m2.id := by simp [elapse]
@[simp] theorem timePasses_id (x0 : Act) (x1 : Nat) (m2 : Mach) : (timePasses x0 x1 m2).id = m2.id := by simp [timePasses]
@[simp] theorem lowerAssist_id (x0 : Act) (m1 : Mach) : (lowerAssist x0 m1).id = m1.id := by simp [lowerAssist, apply_ite Mach.id]
@[simp] theorem lowerWrite_id (x0 : Act) (m1 : Mach) : (lowerWrite x0 m1).id = m1.id := by simp [lowerWrite, apply_ite Mach.id]
@[simp] theorem endWrite_id (x0 : Act) (m1 : Mach) : (endWrite x0 m1).id = m1.id := by
  unfold endWrite
  dsimp only
  (repeat' split) <;> simp [*, apply_ite Mach.id]
@[simp] theorem lossCut_id (x0 : Act) (m1 : Mach) : (lossCut x0 m1).id = m1.id := by simp [lossCut, apply_ite Mach.id]
@[simp] theorem lowerRead_id (x0 : Act) (m1 : Mach) : (lowerRead x0 m1).id = m1.id := by simp [lowerRead]
@[simp] theorem lowerBoost_id (x0 : Act) (m1 : Mach) : (lowerBoost x0 m1).id = m1.id := by simp [lowerBoost, apply_ite Mach.id]
@[simp] theorem loadStore_id (x0 : Act) (x1 : List (Act × BitVec 16 × List (List Byte))) (m2 : Mach) : (loadStore x0 x1 m2).id = m2.id := by
  unfold loadStore
  dsimp only
  (repeat' split) <;> simp [*, apply_ite Mach.id]
@[simp] theorem finishLoad_id (x0 : Act) (m1 : Mach) : (finishLoad x0 m1).id = m1.id := by
  unfold finishLoad
  (repeat' split) <;> simp [apply_ite Mach.id]
@[simp] theorem dropImage_id (x0 : Act) (m1 : Mach) : (dropImage x0 m1).id = m1.id := by simp [dropImage]
@[simp] theorem writeBack_id (x0 : Act) (m1 : Mach) : (writeBack x0 m1).id = m1.id := by simp [writeBack, apply_ite Mach.id]
@[simp] theorem reportUnrecovered_id (x0 : Act) (x1 : TrackOp) (m2 : Mach) : (reportUnrecovered x0 x1 m2).id = m2.id := by simp [reportUnrecovered, apply_ite Mach.id]
@[simp] theorem endOp_id (x0 : Act) (x1 : Nat) (m2 : Mach) : (endOp x0 x1 m2).id = m2.id := by simp [endOp]
@[simp] theorem cfxTrap_id (x0 : Act) (x1 : Nat) (m2 : Mach) : (cfxTrap x0 x1 m2).id = m2.id := by simp [cfxTrap, apply_ite Mach.id]
@[simp] theorem cfxPloss_id (x0 : Act) (m1 : Mach) : (cfxPloss x0 m1).id = m1.id := by simp [cfxPloss, apply_ite Mach.id]
@[simp] theorem cfxAbort_id (x0 : Act) (m1 : Mach) : (cfxAbort x0 m1).id = m1.id := by simp [cfxAbort, apply_ite Mach.id]
@[simp] theorem resetInit_id (x0 : Act) (m1 : Mach) : (resetInit x0 m1).id = m1.id := by
  unfold resetInit
  split <;> simp [apply_ite Mach.id]
@[simp] theorem cfxResetInit_id (x0 : Act) (m1 : Mach) : (cfxResetInit x0 m1).id = m1.id := by simp [cfxResetInit]
@[simp] theorem resetMedia_id (x0 : Act) (m1 : Mach) : (resetMedia x0 m1).id = m1.id := by
  unfold resetMedia
  dsimp only
  split <;> simp [apply_ite Mach.id]
@[simp] theorem seekSettled_id (x0 : Act) (m1 : Mach) : (seekSettled x0 m1).id = m1.id := by simp [seekSettled, apply_ite Mach.id]
@[simp] theorem calMakeDue_id (x0 : Nat) (x1 : Nat) (m2 : Mach) : (calMakeDue x0 x1 m2).id = m2.id := by simp [calMakeDue]
@[simp] theorem calCheck_id (x0 : Act) (x1 : Bool) (x2 : Nat) (x3 : Nat) (m4 : Mach) : (calCheck x0 x1 x2 x3 m4).id = m4.id := by
  unfold calCheck
  (repeat' split) <;> simp [apply_ite Mach.id]
@[simp] theorem calEvaluate_id (x0 : Act) (x1 : Bool) (m2 : Mach) : (calEvaluate x0 x1 m2).id = m2.id := by simp [calEvaluate]
@[simp] theorem putTap_id (x0 : Act) (x1 : CalRun) (x2 : Int) (m3 : Mach) : (putTap x0 x1 x2 m3).id = m3.id := by simp [putTap]
@[simp] theorem onRun_id (x0 : Act) (x1 : CalRun → CalRun) (m2 : Mach) : (onRun x0 x1 m2).id = m2.id := by simp [onRun]
@[simp] theorem calStart_id (x0 : Act) (x1 : CalJob) (m2 : Mach) : (calStart x0 x1 m2).id = m2.id := by simp [calStart]
@[simp] theorem sliceStart_id (x0 : Act) (m1 : Mach) : (sliceStart x0 m1).id = m1.id := by
  unfold sliceStart
  dsimp only
  (repeat' split) <;> simp [*, apply_ite Mach.id]
@[simp] theorem preemptEnd_id (x0 : Act) (m1 : Mach) : (preemptEnd x0 m1).id = m1.id := by simp [preemptEnd, apply_ite Mach.id]
@[simp] theorem sliceEnd_id (x0 : Act) (x1 : Bool) (x2 : Bool) (m3 : Mach) : (sliceEnd x0 x1 x2 m3).id = m3.id := by simp [sliceEnd, apply_ite Mach.id]
@[simp] theorem putBase_id (x0 : Nat) (x1 : Nat) (x2 : CalBase) (m3 : Mach) : (putBase x0 x1 x2 m3).id = m3.id := by simp [putBase, apply_ite Mach.id]
@[simp] theorem calClear_id (x0 : Nat) (x1 : Nat) (m2 : Mach) : (calClear x0 x1 m2).id = m2.id := by simp [calClear]
@[simp] theorem calFail_id (x0 : Act) (x1 : Int) (x2 : Int) (x3 : BitVec 16) (m4 : Mach) : (calFail x0 x1 x2 x3 m4).id = m4.id := by
  unfold calFail
  split <;> simp [apply_ite Mach.id]
@[simp] theorem calSucceed_id (x0 : Act) (x1 : Int) (x2 : Int) (x3 : BitVec 16) (m4 : Mach) : (calSucceed x0 x1 x2 x3 m4).id = m4.id := by
  unfold calSucceed
  split <;> simp [apply_ite Mach.id]
@[simp] theorem putTrims_id (x0 : Act) (x1 : CalJob) (x2 : List (Int × Nat)) (m3 : Mach) : (putTrims x0 x1 x2 m3).id = m3.id := by simp [putTrims]
@[simp] theorem tapRunEnd_id (x0 : Act) (x1 : CalRun) (x2 : List (Int × Nat)) (x3 : BitVec 16) (m4 : Mach) : (tapRunEnd x0 x1 x2 x3 m4).id = m4.id := by
  unfold tapRunEnd
  dsimp only
  split <;> simp [apply_ite Mach.id]
@[simp] theorem tapEnd_id (x0 : Act) (x1 : CalRun) (x2 : List (Int × Nat)) (x3 : BitVec 16) (m4 : Mach) : (tapEnd x0 x1 x2 x3 m4).id = m4.id := by simp [tapEnd, apply_ite Mach.id]
@[simp] theorem tapNext_id (x0 : Act) (x1 : CalRun) (x2 : List (Int × Nat)) (x3 : BitVec 16) (m4 : Mach) : (tapNext x0 x1 x2 x3 m4).id = m4.id := by simp [tapNext, apply_ite Mach.id]
@[simp] theorem tapStep_id (x0 : Act) (x1 : CalRun) (x2 : Int) (x3 : Int) (x4 : Nat) (x5 : List (Int × Nat)) (x6 : BitVec 16) (m7 : Mach) : (tapStep x0 x1 x2 x3 x4 x5 x6 m7).id = m7.id := by simp [tapStep, apply_ite Mach.id]
@[simp] theorem alignEnd_id (x0 : Act) (x1 : CalRun) (x2 : BitVec 16) (m3 : Mach) : (alignEnd x0 x1 x2 m3).id = m3.id := by simp [alignEnd, apply_ite Mach.id]
@[simp] theorem calOnLoad_id (x0 : Act) (m1 : Mach) : (calOnLoad x0 m1).id = m1.id := by simp [calOnLoad, apply_ite Mach.id]
@[simp] theorem calBoot_id (m0 : Mach) : (calBoot m0).id = m0.id := by simp [calBoot]
@[simp] theorem calForce_id (x0 : Act) (x1 : Nat) (m2 : Mach) : (calForce x0 x1 m2).id = m2.id := by simp [calForce]
@[simp] theorem onZoneDo_id (x0 : Nat) (x1 : Nat) (x2 : Zone → Zone) (m3 : Mach) : (onZoneDo x0 x1 x2 m3).id = m3.id := by simp [onZoneDo]
@[simp] theorem onMan_id (x0 : Nat) (x1 : Act) (x2 : Managed → Managed) (m3 : Mach) : (onMan x0 x1 x2 m3).id = m3.id := by simp [onMan]
@[simp] theorem judgePorch_id (x0 : Act) (m1 : Mach) : (judgePorch x0 m1).id = m1.id := by simp [judgePorch]
@[simp] theorem cellarCheck_id (x0 : Act) (m1 : Mach) : (cellarCheck x0 m1).id = m1.id := by simp [cellarCheck, apply_ite Mach.id]
@[simp] theorem saveMaps_id (m0 : Mach) : (saveMaps m0).id = m0.id := by simp [saveMaps]
@[simp] theorem pendEnter_id (x0 : Act) (x1 : Nat) (x2 : Nat) (x3 : Nat) (m4 : Mach) : (pendEnter x0 x1 x2 x3 m4).id = m4.id := by simp [pendEnter, apply_ite Mach.id]
@[simp] theorem pendLeave_id (x0 : Nat × Nat → Bool) (m1 : Mach) : (pendLeave x0 m1).id = m1.id := by simp [pendLeave]
@[simp] theorem onFrame_id (x0 : Nat) (x1 : Line → Line) (m2 : Mach) : (onFrame x0 x1 m2).id = m2.id := by simp [onFrame]
@[simp] theorem touch_id (x0 : Nat) (m1 : Mach) : (touch x0 m1).id = m1.id := by simp [touch]
@[simp] theorem leaveFrame_id (x0 : Nat) (m1 : Mach) : (leaveFrame x0 m1).id = m1.id := by simp [leaveFrame, apply_ite Mach.id]
@[simp] theorem takeFrame_id (x0 : Nat) (x1 : Nat) (x2 : Nat) (m3 : Mach) : (takeFrame x0 x1 x2 m3).id = m3.id := by simp [takeFrame]
@[simp] theorem atticDrop_id (x0 : Nat) (x1 : Nat) (m2 : Mach) : (atticDrop x0 x1 m2).id = m2.id := by simp [atticDrop]
@[simp] theorem onCtx_id (x0 : NvCmd) (x1 : Ctx → Ctx) (m2 : Mach) : (onCtx x0 x1 m2).id = m2.id := by simp [onCtx]
@[simp] theorem finish_id (x0 : NvCmd) (x1 : NvSt) (m2 : Mach) : (finish x0 x1 m2).id = m2.id := by simp [finish]
@[simp] theorem deliver_id (x0 : NvCmd) (x1 : Nat) (x2 : CSec) (m3 : Mach) : (deliver x0 x1 x2 m3).id = m3.id := by simp [deliver]
@[simp] theorem offer_id (x0 : Act) (x1 : Nat) (x2 : Nat) (x3 : Nat) (x4 : List NvCmd) (x5 : Origin) (x6 : Phys) (x7 : List Desc) (m8 : Mach) : (offer x0 x1 x2 x3 x4 x5 x6 x7 m8).id = m8.id := by simp [offer]
@[simp] theorem offerAll_id (x0 : Act) (x1 : Nat) (x2 : Nat) (x3 : Nat) (x4 : List NvCmd) (x5 : Origin) (x6 : List (Phys × List Desc)) (m7 : Mach) : (offerAll x0 x1 x2 x3 x4 x5 x6 m7).id = m7.id := by simp [offerAll]
@[simp] theorem onMiss_id (x0 : Nat) (x1 : Nat) (x2 : Miss → Miss) (m3 : Mach) : (onMiss x0 x1 x2 m3).id = m3.id := by simp [onMiss]
@[simp] theorem offerFill_id (x0 : Ns) (x1 : Miss) (x2 : Nat) (x3 : Nat) (x4 : Origin) (m5 : Mach) : (offerFill x0 x1 x2 x3 x4 m5).id = m5.id := by simp [offerFill]
@[simp] theorem askDestage_id (x0 : Nat) (m1 : Mach) : (askDestage x0 m1).id = m1.id := by simp [askDestage, apply_ite Mach.id]
@[simp] theorem askSet_id (x0 : Nat) (m1 : Mach) : (askSet x0 m1).id = m1.id := by
  unfold askSet
  split <;> simp [apply_ite Mach.id]
@[simp] theorem allocMiss_id (x0 : Ns) (x1 : Nat) (x2 : Nat) (x3 : Nat) (x4 : List NvCmd) (x5 : Bool) (x6 : Origin) (m7 : Mach) : (allocMiss x0 x1 x2 x3 x4 x5 x6 m7).id = m7.id := by
  unfold allocMiss
  dsimp only
  split <;> simp [apply_ite Mach.id]
@[simp] theorem missRetry_id (m0 : Mach) : (missRetry m0).id = m0.id := by
  unfold missRetry
  (repeat' (first | with_reducible rfl | assumption | (simp; done) | (simp [*]; done) | (intro _) | (rw [foldl_id]) | (rw [foldl_fst_id]) | split | dsimp only | simp))
@[simp] theorem drainCheck_id (m0 : Mach) : (drainCheck m0).id = m0.id := by
  unfold drainCheck
  dsimp only
  (repeat' split) <;> simp [*, apply_ite Mach.id]
@[simp] theorem retireClean_id (x0 : Nat) (m1 : Mach) : (retireClean x0 m1).id = m1.id := by simp [retireClean, apply_ite Mach.id]
@[simp] theorem releaseTransient_id (x0 : Nat) (m1 : Mach) : (releaseTransient x0 m1).id = m1.id := by simp [releaseTransient, apply_ite Mach.id]
@[simp] theorem wroteFor_id (x0 : Nat) (x1 : Nat) (m2 : Mach) : (wroteFor x0 x1 m2).id = m2.id := by
  unfold wroteFor
  (repeat' (first | with_reducible rfl | assumption | (simp; done) | (simp [*]; done) | (intro _) | (rw [foldl_id]) | (rw [foldl_fst_id]) | split | dsimp only | simp))
@[simp] theorem countDestaged_id (m0 : Mach) : (countDestaged m0).id = m0.id := by simp [countDestaged, apply_ite Mach.id]
@[simp] theorem destageEnd_id (x0 : Nat) (x1 : Nat) (x2 : Bool) (m3 : Mach) : (destageEnd x0 x1 x2 m3).id = m3.id := by
  unfold destageEnd
  split <;> simp [apply_ite Mach.id]
@[simp] theorem dropFlight_id (x0 : Nat) (x1 : Nat) (m2 : Mach) : (dropFlight x0 x1 m2).id = m2.id := by
  unfold dropFlight
  split <;> simp [apply_ite Mach.id]
theorem enterSector_id (x0 : Nat) (x1 : Nat) (x2 : CSec) (m3 : Mach) (n : Mach) (h : (enterSector x0 x1 x2 m3) = some n) : n.id = m3.id := by
  simp only [enterSector, Option.map_eq_some_iff] at h
  obtain ⟨p, hp, rfl⟩ := h
  simp only [touch_id, onFrame_id]
  split at hp
  · obtain rfl := Option.some.inj hp
    simp [apply_ite Mach.id]
  · simp only [Option.map_eq_some_iff] at hp
    obtain ⟨k, -, rfl⟩ := hp
    simp [apply_ite Mach.id]
@[simp] theorem invalLine_id (x0 : Nat) (x1 : Nat) (x2 : BitVec 8) (m3 : Mach) : (invalLine x0 x1 x2 m3).id = m3.id := by
  unfold invalLine
  dsimp only
  (repeat' split) <;> simp [*, apply_ite Mach.id]
@[simp] theorem readDone_id (x0 : NvCmd) (m1 : Mach) : (readDone x0 m1).id = m1.id := by
  unfold readDone
  dsimp only
  (repeat' split) <;> simp [*, apply_ite Mach.id]
@[simp] theorem deliverLine_id (x0 : NvCmd) (x1 : Nat) (x2 : List Nat) (x3 : Line) (m4 : Mach) : (deliverLine x0 x1 x2 x3 m4).id = m4.id := by
  unfold deliverLine
  (repeat' (first | with_reducible rfl | assumption | (simp; done) | (simp [*]; done) | (intro _) | (rw [foldl_id]) | (rw [foldl_fst_id]) | split | dsimp only | simp))
@[simp] theorem waitMiss_id (x0 : NvCmd) (x1 : Bool) (m2 : Mach) : (waitMiss x0 x1 m2).id = m2.id := by simp [waitMiss, apply_ite Mach.id]
@[simp] theorem promote_id (x0 : Act) (x1 : Nat) (x2 : Nat) (x3 : Nat) (x4 : Nat) (x5 : NvCmd) (m6 : Mach) : (promote x0 x1 x2 x3 x4 x5 m6).id = m6.id := by simp [promote]
@[simp] theorem readLine_id (x0 : NvCmd) (x1 : Nat) (x2 : Nat) (x3 : Ns) (x4 : Nat) (x5 : List Nat) (m6 : Mach) : (readLine x0 x1 x2 x3 x4 x5 m6).id = m6.id := by
  unfold readLine
  dsimp only
  (repeat' split) <;> simp [*, apply_ite Mach.id]
@[simp] theorem readTry_id (x0 : NvCmd) (m1 : Mach) : (readTry x0 m1).id = m1.id := by
  unfold readTry
  (repeat' (first | with_reducible rfl | assumption | (simp; done) | (simp [*]; done) | (intro _) | (rw [foldl_id]) | (rw [foldl_fst_id]) | split | dsimp only | simp))
theorem lockLine_id (x0 : Ns) (x1 : Nat) (m2 : Mach) (n : Mach) (h : (lockLine x0 x1 m2) = some n) : n.id = m2.id := by
  unfold lockLine at h
  dsimp only at h
  repeat' (first | (simp at h; done) | split at h | (obtain ⟨x, hx, rfl⟩ := Option.map_eq_some_iff.mp h; simp [apply_ite Mach.id]; done) | (obtain rfl := Option.some.inj h; simp [apply_ite Mach.id]; done))
@[simp] theorem lockStep_id (m0 : Mach) : (lockStep m0).id = m0.id := by
  unfold lockStep
  split
  · rfl
  · rename_i j _
    dsimp only
    have key : ∀ (acc : Mach × LockJob) (p : Nat × Nat), ((match nsOf acc.1 (p.1 + 1) with
      | none => (acc.1, { acc.2 with wait := acc.2.wait.filter (· != p) })
      | some n => match lockLine n p.2 acc.1 with
        | none => (askSet (setOf p.1 p.2) acc.1, acc.2)
        | some m => (m, { acc.2 with
            wait := acc.2.wait.filter (· != p), count := acc.2.count + 1
            fills := if acc.2.fill && lockMissing m n p.2 then acc.2.fills ++ [p] else acc.2.fills })) : Mach × LockJob).1.id = acc.1.id := by
      intro acc p
      split
      · rfl
      · split
        · simp
        · exact lockLine_id _ _ _ _ (by assumption)
    split
    · rw [reply_id]
      dsimp only
      rw [foldl_id _ _ _ (by intro m x; (repeat' split) <;> simp)]
      exact foldl_fst_id _ _ _ key
    · dsimp only
      rw [foldl_id _ _ _ (by intro m x; (repeat' split) <;> simp)]
      exact foldl_fst_id _ _ _ key
@[simp] theorem missKick_id (m0 : Mach) : (missKick m0).id = m0.id := by simp [missKick]
@[simp] theorem missEnd_id (x0 : Miss) (m1 : Mach) : (missEnd x0 m1).id = m1.id := by
  unfold missEnd
  (repeat' (first | with_reducible rfl | assumption | (simp; done) | (simp [*]; done) | (intro _) | (rw [foldl_id]) | (rw [foldl_fst_id]) | split | dsimp only | simp))
@[simp] theorem fillResult_id (x0 : Nat) (x1 : Nat) (x2 : Option Payload) (m3 : Mach) : (fillResult x0 x1 x2 m3).id = m3.id := by
  unfold fillResult
  (repeat' (first | with_reducible rfl | assumption | (simp; done) | (simp [*]; done) | (intro _) | (rw [foldl_id]) | (rw [foldl_fst_id]) | split | dsimp only | simp))
@[simp] theorem advanceWp_id (x0 : Nat) (x1 : Nat) (m2 : Mach) : (advanceWp x0 x1 m2).id = m2.id := by
  unfold advanceWp
  split <;> simp [apply_ite Mach.id]
@[simp] theorem pumpWrites_id (x0 : Nat) (m1 : Mach) : (pumpWrites x0 m1).id = m1.id := by
  induction x0 generalizing m1 with
  | zero => rfl
  | succ f ih =>
    unfold pumpWrites
    (repeat' split) <;> first
      | rfl
      | (simp [ih]; done)
      | (have e := enterSector_id _ _ _ _ _ (by assumption)
         simp [ih, apply_ite Mach.id, e])
@[simp] theorem pump_id (m0 : Mach) : (pump m0).id = m0.id := by simp [pump]
@[simp] theorem onSch_id (x0 : Act) (x1 : SchAct → SchAct) (m2 : Mach) : (onSch x0 x1 m2).id = m2.id := by simp [onSch]
@[simp] theorem clockTo_id (x0 : Nat) (m1 : Mach) : (clockTo x0 m1).id = m1.id := by simp [clockTo]
@[simp] theorem judgePromote_id (m0 : Mach) : (judgePromote m0).id = m0.id := by simp [judgePromote]
@[simp] theorem withdraw_id (x0 : Act) (m1 : Mach) : (withdraw x0 m1).id = m1.id := by simp [withdraw, apply_ite Mach.id]
@[simp] theorem placeNext_id (x0 : Act) (m1 : Mach) : (placeNext x0 m1).id = m1.id := by
  unfold placeNext
  dsimp only
  (repeat' split) <;> simp [*, apply_ite Mach.id]
@[simp] theorem releaseSpec_id (x0 : List Entry) (m1 : Mach) : (releaseSpec x0 m1).id = m1.id := by
  unfold releaseSpec
  (repeat' (first | with_reducible rfl | assumption | (simp; done) | (simp [*]; done) | (intro _) | (rw [foldl_id]) | (rw [foldl_fst_id]) | split | dsimp only | simp))
@[simp] theorem stopSpec_id (x0 : Act) (m1 : Mach) : (stopSpec x0 m1).id = m1.id := by simp [stopSpec, apply_ite Mach.id]
@[simp] theorem entryReady_id (x0 : Act) (m1 : Mach) : (entryReady x0 m1).id = m1.id := by simp [entryReady, apply_ite Mach.id]
@[simp] theorem queueEnter_id (x0 : Act) (m1 : Mach) : (queueEnter x0 m1).id = m1.id := by
  unfold queueEnter
  dsimp only
  split <;> simp [apply_ite Mach.id]
@[simp] theorem opTakenDo_id (x0 : Act) (m1 : Mach) : (opTakenDo x0 m1).id = m1.id := by simp [opTakenDo, apply_ite Mach.id]
@[simp] theorem dropMedia_id (x0 : Act) (m1 : Mach) : (dropMedia x0 m1).id = m1.id := by simp [dropMedia]
@[simp] theorem requeue_id (x0 : Act) (x1 : Entry) (x2 : List Desc) (m3 : Mach) : (requeue x0 x1 x2 m3).id = m3.id := by simp [requeue]
@[simp] theorem requeued_id (x0 : Act) (x1 : Nat) (m2 : Mach) : (requeued x0 x1 m2).id = m2.id := by simp [requeued, apply_ite Mach.id]
@[simp] theorem schReset_id (x0 : Act) (m1 : Mach) : (schReset x0 m1).id = m1.id := by simp [schReset]
@[simp] theorem schServe_id (x0 : Act) (m1 : Mach) : (schServe x0 m1).id = m1.id := by simp [schServe]
theorem porchAppend_id (x0 : Nat) (x1 : Act) (m2 : Mach) (n : _) (h : (porchAppend x0 x1 m2) = some n) : n.1.id = m2.id := by
  unfold porchAppend at h
  dsimp only at h
  repeat' (first | (simp at h; done) | split at h | (obtain ⟨x, hx, rfl⟩ := Option.map_eq_some_iff.mp h; simp [apply_ite Mach.id]; done) | (obtain rfl := Option.some.inj h; simp [apply_ite Mach.id]; done))
@[simp] theorem porchRun_id (x0 : Nat) (x1 : Act) (x2 : List Nat) (m3 : Mach) : (porchRun x0 x1 x2 m3).1.id = m3.id := by
  induction x2 generalizing m3 with
  | nil => rfl
  | cons x r ih =>
    unfold porchRun
    split
    · rfl
    · split
      · rfl
      · exact (ih _).trans (porchAppend_id _ _ _ _ (by assumption))
@[simp] theorem rewriteRun_id (x0 : Nat) (x1 : Act) (x2 : Rewrite) (x3 : Nat) (x4 : List Nat) (m5 : Mach) : (rewriteRun x0 x1 x2 x3 x4 m5).1.id = m5.id := by simp [rewriteRun]
@[simp] theorem routeManaged_id (x0 : Nat) (x1 : Act) (x2 : List Nat) (m3 : Mach) : (routeManaged x0 x1 x2 m3).1.id = m3.id := by
  unfold routeManaged
  dsimp only
  (repeat' split) <;> simp [*, apply_ite Mach.id]
@[simp] theorem offerWrites_id (x0 : Act) (x1 : List (Phys × Use × Bool)) (m2 : Mach) : (offerWrites x0 x1 m2).id = m2.id := by simp [offerWrites]
@[simp] theorem routeRequest_id (x0 : Act) (m1 : Mach) : (routeRequest x0 m1).id = m1.id := by
  unfold routeRequest
  split
  · rfl
  · dsimp only
    split
    · rfl
    · split
      · exact onFrame_id _ _ _
      · rw [judgePorch_id, offerWrites_id, foldl_id _ _ _ (fun m x => dropFlight_id _ _ _)]
        split
        · exact foldl_fst_id _ _ _ (fun a x => routeManaged_id _ _ _ _)
        · rfl
@[simp] theorem judgeVerify_id (m0 : Mach) : (judgeVerify m0).id = m0.id := by simp [judgeVerify]
@[simp] theorem awaitVerify_id (x0 : Act) (x1 : Entry) (x2 : Desc) (m3 : Mach) : (awaitVerify x0 x1 x2 m3).id = m3.id := by
  unfold awaitVerify
  split <;> simp [apply_ite Mach.id]
@[simp] theorem offerVerify_id (x0 : Act) (m1 : Mach) : (offerVerify x0 m1).id = m1.id := by
  unfold offerVerify
  (repeat' (first | with_reducible rfl | assumption | (simp; done) | (simp [*]; done) | (intro _) | (rw [foldl_id]) | (rw [foldl_fst_id]) | split | dsimp only | simp))
@[simp] theorem rewriteDone_id (x0 : Nat) (x1 : Act) (m2 : Mach) : (rewriteDone x0 x1 m2).id = m2.id := by
  unfold rewriteDone
  split <;> simp [apply_ite Mach.id]
@[simp] theorem remapCleaned_id (x0 : Nat) (x1 : Act) (m2 : Mach) : (remapCleaned x0 x1 m2).id = m2.id := by
  unfold remapCleaned
  split <;> simp [apply_ite Mach.id]
@[simp] theorem cleanMeets_id (x0 : Nat) (x1 : Act) (x2 : Nat) (m3 : Mach) : (cleanMeets x0 x1 x2 m3).id = m3.id := by
  unfold cleanMeets
  dsimp only
  split <;> simp [apply_ite Mach.id]
@[simp] theorem releasePorch_id (x0 : Nat) (x1 : Act) (x2 : Nat) (m3 : Mach) : (releasePorch x0 x1 x2 m3).id = m3.id := by
  induction x2 generalizing m3 with
  | zero => simp [releasePorch]
  | succ n ih =>
    unfold releasePorch
    (repeat' (first | with_reducible rfl | assumption | (simp; done) | (simp [*]; done) | (intro _) | (rw [foldl_id]) | (rw [foldl_fst_id]) | split | dsimp only | simp))
@[simp] theorem sectorWritten_id (x0 : Act) (x1 : Nat) (x2 : Nat) (x3 : Nat) (x4 : Nat) (m5 : Mach) : (sectorWritten x0 x1 x2 x3 x4 m5).id = m5.id := by
  unfold sectorWritten
  (repeat' split) <;> simp [apply_ite Mach.id]
@[simp] theorem sectorUnwritten_id (x0 : Act) (x1 : Nat) (x2 : Nat) (x3 : Nat) (m4 : Mach) : (sectorUnwritten x0 x1 x2 x3 m4).id = m4.id := by
  unfold sectorUnwritten
  split <;> simp [apply_ite Mach.id]
@[simp] theorem addGrown_id (x0 : Act) (x1 : Phys) (m2 : Mach) : (addGrown x0 x1 m2).id = m2.id := by simp [addGrown, apply_ite Mach.id]
@[simp] theorem addSubst_id (x0 : Act) (x1 : Nat) (x2 : Nat) (m3 : Mach) : (addSubst x0 x1 x2 m3).id = m3.id := by simp [addSubst]
@[simp] theorem pinLine_id (x0 : Nat) (x1 : Nat) (m2 : Mach) : (pinLine x0 x1 m2).id = m2.id := by
  unfold pinLine
  split <;> simp [apply_ite Mach.id]
@[simp] theorem pinSector_id (x0 : Nat) (x1 : Nat) (m2 : Mach) : (pinSector x0 x1 m2).id = m2.id := by simp [pinSector, apply_ite Mach.id]
@[simp] theorem unpinSector_id (x0 : Nat) (x1 : Nat) (m2 : Mach) : (unpinSector x0 x1 m2).id = m2.id := by
  unfold unpinSector
  dsimp only
  (repeat' split) <;> simp [*, apply_ite Mach.id]
@[simp] theorem flyAgain_id (x0 : Nat) (x1 : Nat) (m2 : Mach) : (flyAgain x0 x1 m2).id = m2.id := by
  unfold flyAgain
  split <;> simp [apply_ite Mach.id]
@[simp] theorem offerSector_id (x0 : Act) (x1 : Ns) (x2 : Nat) (x3 : Nat) (x4 : Nat) (m5 : Mach) : (offerSector x0 x1 x2 x3 x4 m5).id = m5.id := by
  unfold offerSector
  split <;> simp [apply_ite Mach.id]
@[simp] theorem copySlot_id (x0 : Act) (x1 : Phys) (x2 : Phys) (x3 : Nat) (m4 : Mach) : (copySlot x0 x1 x2 x3 m4).id = m4.id := by
  unfold copySlot
  split <;> simp [apply_ite Mach.id]
@[simp] theorem putSlot_id (x0 : Act) (x1 : Phys) (x2 : Ns) (x3 : Nat) (x4 : Nat) (x5 : Nat) (m6 : Mach) : (putSlot x0 x1 x2 x3 x4 x5 m6).id = m6.id := by
  unfold putSlot
  split <;> simp [apply_ite Mach.id]
@[simp] theorem substitute_id (x0 : Act) (x1 : Ns) (x2 : Nat) (x3 : Nat) (x4 : Nat) (m5 : Mach) : (substitute x0 x1 x2 x3 x4 m5).id = m5.id := by
  unfold substitute
  (repeat' (first | with_reducible rfl | assumption | (simp; done) | (simp [*]; done) | (intro _) | (rw [foldl_id]) | (rw [foldl_fst_id]) | split | dsimp only | simp))
@[simp] theorem zoneLost_id (x0 : Act) (x1 : Ns) (x2 : Nat) (x3 : ZoneSt) (m4 : Mach) : (zoneLost x0 x1 x2 x3 m4).id = m4.id := by simp [zoneLost]
@[simp] theorem outOfSpares_id (x0 : Act) (x1 : Ns) (x2 : Nat) (x3 : Nat) (m4 : Mach) : (outOfSpares x0 x1 x2 x3 m4).id = m4.id := by
  unfold outOfSpares
  split <;> simp [apply_ite Mach.id]
@[simp] theorem takeSpare_id (x0 : Act) (x1 : Ns) (x2 : Nat) (x3 : Nat) (x4 : Nat) (m5 : Mach) : (takeSpare x0 x1 x2 x3 x4 m5).id = m5.id := by simp [takeSpare, apply_ite Mach.id]
@[simp] theorem spareWrites_id (x0 : Act) (x1 : Ns) (x2 : Nat) (m3 : Mach) : (spareWrites x0 x1 x2 m3).id = m3.id := by
  unfold spareWrites
  split <;> simp [apply_ite Mach.id]

end Sys2Proof.Machine
end

