-- ==== Sys2Proof/Laws/Identity2.lean ====
section
/-! SUPPORT. What one-time memory and the identity of the module are after each operation and command: unchanged, but for the raise of MIN_SVN (spec/17
R870 to R872, spec/18 R921). -/

set_option linter.unusedSimpArgs false

namespace Sys2Proof.Machine

@[simp] theorem reallocate_id (x0 : Act) (x1 : Ns) (x2 : Nat) (x3 : Nat) (x4 : Nat) (m5 : Mach) : (reallocate x0 x1 x2 x3 x4 m5).id = m5.id := by
  unfold reallocate
  dsimp only
  (repeat' split) <;> simp [*, apply_ite Mach.id]
@[simp] theorem verifyFailed_id (x0 : Act) (x1 : Nat) (x2 : Nat) (x3 : Nat) (x4 : Nat) (m5 : Mach) : (verifyFailed x0 x1 x2 x3 x4 m5).id = m5.id := by
  unfold verifyFailed
  dsimp only
  split <;> simp [apply_ite Mach.id]
@[simp] theorem sectorDone_id (x0 : Act) (x1 : Entry) (x2 : Desc) (m3 : Mach) : (sectorDone x0 x1 x2 m3).id = m3.id := by
  unfold sectorDone
  dsimp only
  (repeat' split) <;> simp [*, apply_ite Mach.id]
@[simp] theorem sectorFailed_id (x0 : Act) (x1 : Entry) (x2 : Desc) (m3 : Mach) : (sectorFailed x0 x1 x2 m3).id = m3.id := by
  unfold sectorFailed
  (repeat' split) <;> simp [apply_ite Mach.id]
/-- One sector of an ended entry leaves the identity alone. -/
theorem entrySector_id (a : Act) (e : Entry) (k : Nat) (o g : Bool) (d : Desc) (m : Mach) :
    (if d.failed then sectorFailed a e d m
      else if d.taken then sectorDone a e d m
      else if e.origin.isSpec || o then (match d.use with
        | .fill n l => fillResult n l none m
        | _ => m)
      else if k = 3 then m
      else if g then sectorFailed a e d m
      else m).id = m.id := by
  split
  · exact sectorFailed_id a e d m
  split
  · exact sectorDone_id a e d m
  split
  · split
    · exact fillResult_id ..
    · rfl
  split
  · rfl
  split
  · exact sectorFailed_id a e d m
  · rfl
@[simp] theorem entryEnded_id (x0 : Act) (x1 : Nat) (x2 : Entry) (x3 : List Desc) (m4 : Mach) : (entryEnded x0 x1 x2 x3 m4).1.id = m4.id := by
  unfold entryEnded
  extract_lets sh ds g o m back
  have h : m.id = m4.id := foldl_id _ _ _ (fun m d => entrySector_id x0 x2 x1 o g d m)
  split
  · exact h
  · exact (requeue_id ..).trans h
@[simp] theorem completeOp_id (x0 : Act) (x1 : Nat) (m2 : Mach) : (completeOp x0 x1 m2).id = m2.id := by
  unfold completeOp
  (repeat' (first | with_reducible rfl | assumption | (simp; done) | (simp [*]; done) | (intro _) | (rw [foldl_id]) | (rw [foldl_fst_id]) | split | dsimp only | simp))
@[simp] theorem cacheModeTo_id (x0 : CacheMode) (x1 : Nat) (m2 : Mach) : (cacheModeTo x0 x1 m2).id = m2.id := by simp [cacheModeTo, apply_ite Mach.id]
@[simp] theorem modeReqEnd_id (x0 : Nat) (x1 : Nat) (m2 : Mach) : (modeReqEnd x0 x1 m2).id = m2.id := by
  unfold modeReqEnd
  split <;> simp [apply_ite Mach.id]
@[simp] theorem drainDone_id (m0 : Mach) : (drainDone m0).id = m0.id := by simp [drainDone, apply_ite Mach.id]
@[simp] theorem cacheTarget_id (x0 : CacheMode) (x1 : Nat) (x2 : Option Hdr) (m3 : Mach) : (cacheTarget x0 x1 x2 m3).id = m3.id := by
  unfold cacheTarget
  split <;> simp [apply_ite Mach.id]
@[simp] theorem forceWt_id (m0 : Mach) : (forceWt m0).id = m0.id := by simp [forceWt, apply_ite Mach.id]
@[simp] theorem endForceWt_id (m0 : Mach) : (endForceWt m0).id = m0.id := by
  unfold endForceWt
  dsimp only
  (repeat' split) <;> simp [*, apply_ite Mach.id]
@[simp] theorem serviceCache_id (m0 : Mach) : (serviceCache m0).id = m0.id := by simp [serviceCache]
@[simp] theorem leaveServiceCache_id (m0 : Mach) : (leaveServiceCache m0).id = m0.id := by
  unfold leaveServiceCache
  dsimp only
  (repeat' split) <;> simp [*, apply_ite Mach.id]
@[simp] theorem retireFrame_id (x0 : Nat) (m1 : Mach) : (retireFrame x0 m1).id = m1.id := by simp [retireFrame, apply_ite Mach.id]
@[simp] theorem remapPage_id (x0 : Nat) (m1 : Mach) : (remapPage x0 m1).1.id = m1.id := by
  unfold remapPage
  split
  · rw [report_id]
  · exact report_id _ _ _ _
@[simp] theorem contextRow_id (x0 : Nat) (m1 : Mach) : (contextRow x0 m1).id = m1.id := by simp [contextRow, apply_ite Mach.id]
@[simp] theorem persistentPage_id (x0 : Nat) (m1 : Mach) : (persistentPage x0 m1).id = m1.id := by simp [persistentPage, apply_ite Mach.id]
@[simp] theorem dramInit_id (m0 : Mach) : (dramInit m0).id = m0.id := by simp [dramInit]
@[simp] theorem bcmReset_id (m0 : Mach) : (bcmReset m0).id = m0.id := by simp [bcmReset]
@[simp] theorem schFabReset_id (m0 : Mach) : (schFabReset m0).id = m0.id := by simp [schFabReset]
@[simp] theorem zmgReset_id (m0 : Mach) : (zmgReset m0).id = m0.id := by simp [zmgReset]
@[simp] theorem calReset_id (m0 : Mach) : (calReset m0).id = m0.id := by simp [calReset]
@[simp] theorem retireBlock_id (x0 : Nat) (m1 : Mach) : (retireBlock x0 m1).id = m1.id := by simp [retireBlock, apply_ite Mach.id]
@[simp] theorem programFail_id (x0 : Nat) (x1 : Nat) (x2 : Nat) (m3 : Mach) : (programFail x0 x1 x2 m3).id = m3.id := by simp [programFail]
@[simp] theorem vaultBegin_id (x0 : Nat) (x1 : BitVec 8) (x2 : Bool) (m3 : Mach) : (vaultBegin x0 x1 x2 m3).id = m3.id := by
  unfold vaultBegin
  split <;> simp [apply_ite Mach.id]
@[simp] theorem lostSlot_id (m0 : Mach) : (lostSlot m0).id = m0.id := by
  unfold lostSlot
  (repeat' split) <;> simp [apply_ite Mach.id]
@[simp] theorem spendBlocks_id (x0 : List Nat) (m1 : Mach) : (spendBlocks x0 m1).id = m1.id := by simp [spendBlocks]
@[simp] theorem importOver_id (m0 : Mach) : (importOver m0).id = m0.id := by simp [importOver]
@[simp] theorem vaultLoss_id (m0 : Mach) : (vaultLoss m0).id = m0.id := by simp [vaultLoss, apply_ite Mach.id]
@[simp] theorem vaultShutdown_id (m0 : Mach) : (vaultShutdown m0).id = m0.id := by simp [vaultShutdown]
@[simp] theorem vaultDrop_id (m0 : Mach) : (vaultDrop m0).id = m0.id := by
  unfold vaultDrop
  split <;> simp [apply_ite Mach.id]
@[simp] theorem vaultBulkGone_id (m0 : Mach) : (vaultBulkGone m0).id = m0.id := by simp [vaultBulkGone]
@[simp] theorem consume_id (x0 : VImage → Bool) (m1 : Mach) : (consume x0 m1).id = m1.id := by simp [consume]
@[simp] theorem vaultHeader_id (x0 : Nat) (x1 : Nat) (x2 : Nat) (x3 : Bool) (m4 : Mach) : (vaultHeader x0 x1 x2 x3 m4).id = m4.id := by
  unfold vaultHeader
  dsimp only
  (repeat' split) <;> simp [*, apply_ite Mach.id]
@[simp] theorem protectionLost_id (m0 : Mach) : (protectionLost m0).id = m0.id := by simp [protectionLost, apply_ite Mach.id]
@[simp] theorem protectionReturn_id (m0 : Mach) : (protectionReturn m0).id = m0.id := by simp [protectionReturn, apply_ite Mach.id]
@[simp] theorem protectionTick_id (m0 : Mach) : (protectionTick m0).id = m0.id := by simp [protectionTick, apply_ite Mach.id]
@[simp] theorem replayEntry_id (x0 : VEntry) (m1 : Mach) : (replayEntry x0 m1).id = m1.id := by
  unfold replayEntry
  split
  · rfl
  · have e := enterSector_id _ _ _ _ _ (by assumption)
    split
    · exact e
    · split
      · exact (onFrame_id _ _ _).trans e
      · exact e
@[simp] theorem replayMaps_id (x0 : VImage) (m1 : Mach) : (replayMaps x0 m1).id = m1.id := by
  unfold replayMaps
  split <;> simp [apply_ite Mach.id]
@[simp] theorem replayEnd_id (x0 : VImage) (m1 : Mach) : (replayEnd x0 m1).id = m1.id := by simp [replayEnd]
@[simp] theorem replaySome_id (x0 : VImage) (x1 : Nat) (x2 : Nat) (m3 : Mach) : (replaySome x0 x1 x2 m3).id = m3.id := by simp [replaySome, apply_ite Mach.id]
@[simp] theorem replayStart_id (x0 : VImage) (x1 : Nat) (m2 : Mach) : (replayStart x0 x1 m2).id = m2.id := by simp [replayStart]
@[simp] theorem holdLoss_id (m0 : Mach) : (holdLoss m0).id = m0.id := by simp [holdLoss]
@[simp] theorem replayDecide_id (x0 : Option Slot) (x1 : Nat) (m2 : Mach) : (replayDecide x0 x1 m2).id = m2.id := by
  unfold replayDecide
  dsimp only
  (repeat' split) <;> simp [*, apply_ite Mach.id]
@[simp] theorem resolveLoss_id (x0 : Nat) (x1 : BitVec 32) (m2 : Mach) : (resolveLoss x0 x1 m2).id = m2.id := by simp [resolveLoss]
@[simp] theorem vltReset_id (m0 : Mach) : (vltReset m0).id = m0.id := by simp [vltReset]
@[simp] theorem onPrt_id (x0 : Act) (x1 : Port → Port) (m2 : Mach) : (onPrt x0 x1 m2).id = m2.id := by simp [onPrt]
@[simp] theorem dropCtxs_id (x0 : Ctx → Bool) (m1 : Mach) : (dropCtxs x0 m1).id = m1.id := by simp [dropCtxs]
@[simp] theorem endControllers_id (x0 : Act) (m1 : Mach) : (endControllers x0 m1).id = m1.id := by simp [endControllers]
@[simp] theorem linkDownAt_id (x0 : Act) (x1 : Nat) (m2 : Mach) : (linkDownAt x0 x1 m2).id = m2.id := by simp [linkDownAt, apply_ite Mach.id]
@[simp] theorem prtRegs_id (x0 : Act) (m1 : Mach) : (prtRegs x0 m1).id = m1.id := by simp [prtRegs]
@[simp] theorem portHeld_id (x0 : Act) (x1 : Nat) (m2 : Mach) : (portHeld x0 x1 m2).id = m2.id := by simp [portHeld]
@[simp] theorem portReset_id (x0 : Act) (m1 : Mach) : (portReset x0 m1).id = m1.id := by simp [portReset]
@[simp] theorem portsDown_id (m0 : Mach) : (portsDown m0).id = m0.id := by simp [portsDown]
@[simp] theorem engineReset_id (x0 : Act) (m1 : Mach) : (engineReset x0 m1).id = m1.id := by simp [engineReset]
@[simp] theorem feLoss_id (m0 : Mach) : (feLoss m0).id = m0.id := by simp [feLoss]
@[simp] theorem portPersonality_id (x0 : Act) (m1 : Mach) : (portPersonality x0 m1).id = m1.id := by simp [portPersonality, apply_ite Mach.id]
@[simp] theorem feBoot_id (m0 : Mach) : (feBoot m0).id = m0.id := by simp [feBoot]
@[simp] theorem feReleased_id (x0 : Act) (m1 : Mach) : (feReleased x0 m1).id = m1.id := by simp [feReleased, apply_ite Mach.id]
@[simp] theorem portReleased_id (x0 : Act) (m1 : Mach) : (portReleased x0 m1).id = m1.id := by simp [portReleased]
@[simp] theorem feReset_id (m0 : Mach) : (feReset m0).id = m0.id := by simp [feReset]
@[simp] theorem dropResv_id (m0 : Mach) : (dropResv m0).id = m0.id := by simp [dropResv]
@[simp] theorem dsvReset_id (m0 : Mach) : (dsvReset m0).id = m0.id := by simp [dsvReset]
@[simp] theorem fabReset_id (m0 : Mach) : (fabReset m0).id = m0.id := by simp [fabReset]
@[simp] theorem standbyMedia_id (m0 : Mach) : (standbyMedia m0).id = m0.id := by simp [standbyMedia]
@[simp] theorem norWritten_id (x0 : Bool) (x1 : Nat) (m2 : Mach) : (norWritten x0 x1 m2).id = m2.id := by simp [norWritten, apply_ite Mach.id]
@[simp] theorem evrFlush_id (m0 : Mach) : (evrFlush m0).id = m0.id := by simp [evrFlush]
@[simp] theorem evrReload_id (m0 : Mach) : (evrReload m0).id = m0.id := by
  unfold evrReload
  dsimp only
  split <;> simp [apply_ite Mach.id]
@[simp] theorem alertServed_id (x0 : Hdr) (m1 : Mach) : (alertServed x0 m1).id = m1.id := by
  unfold alertServed
  split <;> simp [apply_ite Mach.id]
@[simp] theorem evrClear_id (x0 : Transport) (m1 : Mach) : (evrClear x0 m1).id = m1.id := by simp [evrClear]
@[simp] theorem wearCheck_id (m0 : Mach) : (wearCheck m0).id = m0.id := by simp [wearCheck, apply_ite Mach.id]
@[simp] theorem giveChallenge_id (x0 : Transport) (x1 : Bool) (x2 : Nat) (m3 : Mach) : (giveChallenge x0 x1 x2 m3).1.id = m3.id := by simp [giveChallenge]
@[simp] theorem dropChallenge_id (x0 : Transport) (x1 : Bool) (x2 : Nat) (m3 : Mach) : (dropChallenge x0 x1 x2 m3).id = m3.id := by simp [dropChallenge]
@[simp] theorem proofFailed_id (x0 : Transport) (x1 : Nat) (m2 : Mach) : (proofFailed x0 x1 m2).id = m2.id := by simp [proofFailed, apply_ite Mach.id]
@[simp] theorem cfxLoss_id (x0 : Act) (m1 : Mach) : (cfxLoss x0 m1).id = m1.id := by simp [cfxLoss]
@[simp] theorem mediaReset_id (x0 : Act) (m1 : Mach) : (mediaReset x0 m1).id = m1.id := by simp [mediaReset]
@[simp] theorem vaultSeqEnd_id (m0 : Mach) : (vaultSeqEnd m0).id = m0.id := by simp [vaultSeqEnd]
@[simp] theorem specStop_id (x0 : Act) (m1 : Mach) : (specStop x0 m1).id = m1.id := by simp [specStop]
@[simp] theorem xferRead_id (x0 : Act) (x1 : Use) (x2 : Payload) (m3 : Mach) : (xferRead x0 x1 x2 m3).id = m3.id := by
  unfold xferRead
  split <;> simp [apply_ite Mach.id]
@[simp] theorem xferWrite_id (x0 : Act) (x1 : Use) (m2 : Mach) : (xferWrite x0 x1 m2).id = m2.id := by simp [xferWrite]
@[simp] theorem opTaken_id (x0 : Act) (m1 : Mach) : (opTaken x0 m1).id = m1.id := by simp [opTaken]
@[simp] theorem resetReply_id (m0 : Mach) : (resetReply m0).id = m0.id := by simp [resetReply]
@[simp] theorem groupReply_id (x0 : Nat) (m1 : Mach) : (groupReply x0 m1).id = m1.id := by simp [groupReply]
@[simp] theorem setVbulk_id (x0 : BitVec 16) (m1 : Mach) : (setVbulk x0 m1).id = m1.id := by simp [setVbulk]
@[simp] theorem holdupCheck_id (x0 : Bool) (m1 : Mach) : (holdupCheck x0 m1).id = m1.id := by simp [holdupCheck, apply_ite Mach.id]
@[simp] theorem bulkStage_id (m0 : Mach) : (bulkStage m0).id = m0.id := by simp [bulkStage, apply_ite Mach.id]
@[simp] theorem bulkAbandon_id (x0 : AbandonReason) (m1 : Mach) : (bulkAbandon x0 m1).id = m1.id := by simp [bulkAbandon, apply_ite Mach.id]
@[simp] theorem bulkComplete_id (x0 : Nat) (m1 : Mach) : (bulkComplete x0 m1).id = m1.id := by simp [bulkComplete, apply_ite Mach.id]
@[simp] theorem brakeHeat_id (x0 : BitVec 16) (x1 : BitVec 20) (m2 : Mach) : (brakeHeat x0 x1 m2).id = m2.id := by simp [brakeHeat]
@[simp] theorem chopLimit_id (m0 : Mach) : (chopLimit m0).id = m0.id := by simp [chopLimit, apply_ite Mach.id]
@[simp] theorem chopFails_id (x0 : Byte) (m1 : Mach) : (chopFails x0 m1).id = m1.id := by simp [chopFails]
@[simp] theorem chopVmotTest_id (m0 : Mach) : (chopVmotTest m0).id = m0.id := by simp [chopVmotTest, apply_ite Mach.id]
@[simp] theorem retractSource_id (m0 : Mach) : (retractSource m0).id = m0.id := by simp [retractSource]
@[simp] theorem vmotSeen_id (x0 : BitVec 16) (x1 : BitVec 20) (m2 : Mach) : (vmotSeen x0 x1 m2).id = m2.id := by simp [vmotSeen]
@[simp] theorem loadWanted_id (m0 : Mach) : (loadWanted m0).id = m0.id := by simp [loadWanted, apply_ite Mach.id]
@[simp] theorem leaveServiceAct_id (x0 : Act) (m1 : Mach) : (leaveServiceAct x0 m1).id = m1.id := by simp [leaveServiceAct]
@[simp] theorem leaveService_id (m0 : Mach) : (leaveService m0).id = m0.id := by simp [leaveService]
@[simp] theorem answerModes_id (x0 : Mode) (m1 : Mach) : (answerModes x0 m1).id = m1.id := by simp [answerModes]
@[simp] theorem abortModes_id (m0 : Mach) : (abortModes m0).id = m0.id := by simp [abortModes]
@[simp] theorem changeMode_id (x0 : Mode) (x1 : Nat) (m2 : Mach) : (changeMode x0 x1 m2).id = m2.id := by simp [changeMode, apply_ite Mach.id]
@[simp] theorem pursueTarget_id (m0 : Mach) : (pursueTarget m0).id = m0.id := by
  unfold pursueTarget
  split <;> simp [apply_ite Mach.id]
@[simp] theorem safeEntered_id (m0 : Mach) : (safeEntered m0).id = m0.id := by simp [safeEntered]
@[simp] theorem modeAdvance_id (m0 : Mach) : (modeAdvance m0).id = m0.id := by simp [modeAdvance, apply_ite Mach.id]
@[simp] theorem beginMode_id (x0 : Mode) (x1 : Nat) (m2 : Mach) : (beginMode x0 x1 m2).id = m2.id := by simp [beginMode, apply_ite Mach.id]
@[simp] theorem shutInSafe_id (m0 : Mach) : (shutInSafe m0).id = m0.id := by simp [shutInSafe, apply_ite Mach.id]
@[simp] theorem enterSafe_id (x0 : Nat) (m1 : Mach) : (enterSafe x0 m1).id = m1.id := by simp [enterSafe, apply_ite Mach.id]
@[simp] theorem assertReset_id (x0 : Group) (m1 : Mach) : (assertReset x0 m1).id = m1.id := by simp [assertReset]
@[simp] theorem releaseReset_id (x0 : Group) (m1 : Mach) : (releaseReset x0 m1).id = m1.id := by simp [releaseReset]
@[simp] theorem releaseIfReset_id (x0 : Group) (m1 : Mach) : (releaseIfReset x0 m1).id = m1.id := by simp [releaseIfReset, apply_ite Mach.id]
@[simp] theorem writeFreq_id (x0 : Act) (x1 : Nat) (m2 : Mach) : (writeFreq x0 x1 m2).id = m2.id := by simp [writeFreq, apply_ite Mach.id]
@[simp] theorem resetAct_id (x0 : Act) (m1 : Mach) : (resetAct x0 m1).id = m1.id := by simp [resetAct]
@[simp] theorem requestActReset_id (x0 : Act) (m1 : Mach) : (requestActReset x0 m1).id = m1.id := by simp [requestActReset, apply_ite Mach.id]
@[simp] theorem resetSpn_id (m0 : Mach) : (resetSpn m0).id = m0.id := by simp [resetSpn]
@[simp] theorem bootStart_id (m0 : Mach) : (bootStart m0).id = m0.id := by simp [bootStart]
@[simp] theorem serviceReset_id (m0 : Mach) : (serviceReset m0).id = m0.id := by simp [serviceReset]
@[simp] theorem moduleReset_id (m0 : Mach) : (moduleReset m0).id = m0.id := by simp [moduleReset, apply_ite Mach.id]
@[simp] theorem moduleResetAfterRetract_id (m0 : Mach) : (moduleResetAfterRetract m0).id = m0.id := by simp [moduleResetAfterRetract, apply_ite Mach.id]
@[simp] theorem spnModuleReset_id (m0 : Mach) : (spnModuleReset m0).id = m0.id := by simp [spnModuleReset]
@[simp] theorem fabSequence_id (x0 : BitVec 8) (m1 : Mach) : (fabSequence x0 m1).id = m1.id := by simp [fabSequence, apply_ite Mach.id]
@[simp] theorem resetOwner_id (x0 : Group) (m1 : Mach) : (resetOwner x0 m1).id = m1.id := by
  unfold resetOwner
  split <;> simp [apply_ite Mach.id]
@[simp] theorem poweredOn_id (x0 : Option Hda) (m1 : Mach) : (poweredOn x0 m1).id = m1.id := by simp [poweredOn]
@[simp] theorem persistLife_id (m0 : Mach) : (persistLife m0).id = m0.id := by simp [persistLife]
@[simp] theorem abandonCommit_id (m0 : Mach) : (abandonCommit m0).id = m0.id := by
  unfold abandonCommit
  split <;> simp [apply_ite Mach.id]
@[simp] theorem rebuildsCut_id (m0 : Mach) : (rebuildsCut m0).id = m0.id := by
  unfold rebuildsCut
  (repeat' (first | with_reducible rfl | assumption | (simp; done) | (simp [*]; done) | (intro _) | (rw [foldl_id]) | (rw [foldl_fst_id]) | split | dsimp only | simp))
@[simp] theorem lossRetract_id (x0 : Act) (m1 : Mach) : (lossRetract x0 m1).id = m1.id := by simp [lossRetract, apply_ite Mach.id]
@[simp] theorem assertLoss_id (x0 : Nat) (m1 : Mach) : (assertLoss x0 m1).id = m1.id := by
  unfold assertLoss
  dsimp only
  (repeat' split) <;> simp [*, apply_ite Mach.id]
@[simp] theorem abortResets_id (m0 : Mach) : (abortResets m0).id = m0.id := by simp [abortResets]
@[simp] theorem replaceEnd_id (x0 : ShutTrigger) (m1 : Mach) : (replaceEnd x0 m1).id = m1.id := by simp [replaceEnd]
@[simp] theorem startShutdown_id (x0 : ShutTrigger) (m1 : Mach) : (startShutdown x0 m1).id = m1.id := by simp [startShutdown, apply_ite Mach.id]
@[simp] theorem openRecord_id (m0 : Mach) : (openRecord m0).id = m0.id := by simp [openRecord]
@[simp] theorem closeRecord_id (x0 : SlotState) (x1 : BitVec 32) (m2 : Mach) : (closeRecord x0 x1 m2).id = m2.id := by simp [closeRecord]
@[simp] theorem resolveAgain_id (m0 : Mach) : (resolveAgain m0).id = m0.id := by
  unfold resolveAgain
  split <;> simp [apply_ite Mach.id]
@[simp] theorem powerDownToStandby_id (x0 : Nat) (m1 : Mach) : (powerDownToStandby x0 m1).id = m1.id := by simp [powerDownToStandby]
@[simp] theorem leaveStandby_id (x0 : Mode) (x1 : Nat) (m2 : Mach) : (leaveStandby x0 x1 m2).id = m2.id := by simp [leaveStandby]
@[simp] theorem preampInit_id (x0 : Act) (m1 : Mach) : (preampInit x0 m1).id = m1.id := by simp [preampInit, apply_ite Mach.id]
@[simp] theorem trajForPs_id (x0 : Act) (m1 : Mach) : (trajForPs x0 m1).id = m1.id := by simp [trajForPs]
@[simp] theorem psTo_id (x0 : BitVec 3) (m1 : Mach) : (psTo x0 m1).id = m1.id := by simp [psTo, apply_ite Mach.id]
@[simp] theorem ucodeSafe_id (m0 : Mach) : (ucodeSafe m0).id = m0.id := by simp [ucodeSafe, apply_ite Mach.id]
@[simp] theorem actReleased_id (x0 : Act) (m1 : Mach) : (actReleased x0 m1).id = m1.id := by simp [actReleased]
@[simp] theorem standbyReached_id (m0 : Mach) : (standbyReached m0).id = m0.id := by
  unfold standbyReached
  dsimp only
  split <;> simp [apply_ite Mach.id]
@[simp] theorem standbyIfDone_id (m0 : Mach) : (standbyIfDone m0).id = m0.id := by simp [standbyIfDone, apply_ite Mach.id]
@[simp] theorem shutTarget_id (m0 : Mach) : (shutTarget m0).id = m0.id := by
  unfold shutTarget
  split <;> simp [apply_ite Mach.id]
@[simp] theorem afterShutdown_id (m0 : Mach) : (afterShutdown m0).id = m0.id := by
  unfold afterShutdown
  (repeat' split) <;> simp [apply_ite Mach.id]
@[simp] theorem onPeer_id (x0 : Nat) (x1 : Peer → Peer) (m2 : Mach) : (onPeer x0 x1 m2).id = m2.id := by simp [onPeer]
@[simp] theorem sendZ_id (x0 : Nat) (x1 : ZMsg) (x2 : Option NvCmd) (m3 : Mach) : (sendZ x0 x1 x2 m3).id = m3.id := by
  unfold sendZ
  split <;> simp [apply_ite Mach.id]
@[simp] theorem sendAll_id (x0 : Group_) (x1 : ZMsg) (m2 : Mach) : (sendAll x0 x1 m2).id = m2.id := by simp [sendAll, apply_ite Mach.id]
@[simp] theorem writeMayEnd_id (x0 : NvCmd) (m1 : Mach) : (writeMayEnd x0 m1).id = m1.id := by
  unfold writeMayEnd
  split <;> simp [apply_ite Mach.id]
@[simp] theorem releaseWrites_id (x0 : List Logged) (m1 : Mach) : (releaseWrites x0 m1).id = m1.id := by
  unfold releaseWrites
  (repeat' (first | with_reducible rfl | assumption | (simp; done) | (simp [*]; done) | (intro _) | (rw [foldl_id]) | (rw [foldl_fst_id]) | split | dsimp only | simp))
@[simp] theorem ackLog_id (x0 : Nat) (x1 : BitVec 32) (m2 : Mach) : (ackLog x0 x1 m2).id = m2.id := by simp [ackLog]
@[simp] theorem inboxDone_id (x0 : Nat × BitVec 32 × ZMsg) (m1 : Mach) : (inboxDone x0 m1).id = m1.id := by simp [inboxDone]
@[simp] theorem putGroup_id (x0 : Group_) (m1 : Mach) : (putGroup x0 m1).id = m1.id := by simp [putGroup, apply_ite Mach.id]
@[simp] theorem changeGroup_id (x0 : BitVec 32) (x1 : Group_ → Group_) (x2 : List Override) (m3 : Mach) : (changeGroup x0 x1 x2 m3).id = m3.id := by
  unfold changeGroup
  split <;> simp [apply_ite Mach.id]
@[simp] theorem markStale_id (x0 : BitVec 32) (x1 : Nat) (m2 : Mach) : (markStale x0 x1 m2).id = m2.id := by
  unfold markStale
  split <;> simp [apply_ite Mach.id]
@[simp] theorem peerDown_id (x0 : Nat) (m1 : Mach) : (peerDown x0 m1).id = m1.id := by
  unfold peerDown
  split <;> simp [apply_ite Mach.id]
@[simp] theorem peerUp_id (x0 : Nat) (m1 : Mach) : (peerUp x0 m1).id = m1.id := by
  unfold peerUp
  split <;> simp [apply_ite Mach.id]
theorem putPlain_id (x0 : Nat) (x1 : Nat) (x2 : Sector × BitVec 128) (m3 : Mach) (n : Mach) (h : (putPlain x0 x1 x2 m3) = some n) : n.id = m3.id := by
  unfold putPlain at h
  split at h
  · cases h
  · exact enterSector_id _ _ _ _ _ h
@[simp] theorem sendDelta_id (x0 : NvCmd) (x1 : Nat) (x2 : Nat) (x3 : Sector × BitVec 128) (m4 : Mach) : (sendDelta x0 x1 x2 x3 m4).id = m4.id := by
  unfold sendDelta
  (repeat' (first | with_reducible rfl | assumption | (simp; done) | (simp [*]; done) | (intro _) | (rw [foldl_id]) | (rw [foldl_fst_id]) | split | dsimp only | simp))
@[simp] theorem putRow_id (x0 : Group_) (x1 : Nat) (x2 : List (Nat × Sector × BitVec 128)) (x3 : Nat) (m4 : Mach) : (putRow x0 x1 x2 x3 m4).1.id = m4.id := by
  induction x2 generalizing x3 m4 with
  | nil => rfl
  | cons x r ih =>
    unfold putRow
    dsimp only
    split
    · simp
    · exact (ih _ _).trans (putPlain_id _ _ _ _ _ (by assumption))
@[simp] theorem rowRestored_id (x0 : Rebuild) (x1 : Nat) (x2 : Nat) (m3 : Mach) : (rowRestored x0 x1 x2 m3).1.id = m3.id := by
  unfold rowRestored
  dsimp only
  (repeat' split) <;> simp [*, apply_ite Mach.id]
@[simp] theorem enterExtent_id (x0 : Rebuild) (x1 : Nat) (x2 : Nat) (m3 : Mach) : (enterExtent x0 x1 x2 m3).id = m3.id := by
  unfold enterExtent
  split <;> simp [apply_ite Mach.id]
@[simp] theorem rebuildStop_id (x0 : Rebuild) (x1 : Nat) (m2 : Mach) : (rebuildStop x0 x1 m2).id = m2.id := by
  unfold rebuildStop
  split <;> simp [apply_ite Mach.id]
@[simp] theorem rebuildStep_id (x0 : Rebuild) (m1 : Mach) : (rebuildStep x0 m1).1.id = m1.id := by
  unfold rebuildStep
  dsimp only
  (repeat' split) <;> simp [*, apply_ite Mach.id]
@[simp] theorem rebuildRun_id (x0 : Nat) (x1 : Rebuild) (m2 : Mach) : (rebuildRun x0 x1 m2).1.id = m2.id := by
  induction x0 generalizing x1 m2 with
  | zero => rfl
  | succ f ih =>
    have e := rebuildStep_id x1 m2
    unfold rebuildRun
    split
    · rename_i h
      rw [h] at e
      exact (ih _ _).trans e
    · rename_i h
      rw [h] at e
      exact e
@[simp] theorem rebuildKick_id (m0 : Mach) : (rebuildKick m0).id = m0.id := by simp [rebuildKick]
@[simp] theorem askRows_id (x0 : List (BitVec 32 × Nat × Nat)) (m1 : Mach) : (askRows x0 m1).id = m1.id := by simp [askRows, apply_ite Mach.id]
@[simp] theorem onCtrl_id (x0 : Act) (x1 : BitVec 16) (x2 : Ctrlr → Ctrlr) (m3 : Mach) : (onCtrl x0 x1 x2 m3).id = m3.id := by simp [onCtrl]
@[simp] theorem fetch_id (x0 : NvCmd) (m1 : Mach) : (fetch x0 m1).id = m1.id := by simp [fetch, apply_ite Mach.id]
@[simp] theorem begin_id (x0 : NvCmd) (x1 : Mach → Mach) (m2 : Mach) (h1 : ∀ m, (x1 m).id = m.id) : (begin x0 x1 m2).id = m2.id := by
  unfold begin
  dsimp only
  (repeat' split) <;> simp [*, apply_ite Mach.id]
@[simp] theorem finishWith_id (x0 : NvCmd) (x1 : Nat) (x2 : List Byte) (m3 : Mach) : (finishWith x0 x1 x2 m3).id = m3.id := by simp [finishWith]
@[simp] theorem commitCtx_id (x0 : NvCmd) (m1 : Mach) : (commitCtx x0 m1).id = m1.id := by simp [commitCtx]
@[simp] theorem wake_id (m0 : Mach) : (wake m0).id = m0.id := by
  unfold wake
  dsimp only
  split <;> simp [apply_ite Mach.id]
@[simp] theorem noteStream_id (x0 : Nat) (x1 : Bool) (x2 : Nat) (x3 : Nat) (x4 : Act) (m5 : Mach) : (noteStream x0 x1 x2 x3 x4 m5).id = m5.id := by
  unfold noteStream
  dsimp only
  split <;> simp [apply_ite Mach.id]
@[simp] theorem zoneAdmit_id (x0 : Nat) (x1 : Nat) (m2 : Mach) : (zoneAdmit x0 x1 m2).1.id = m2.id := by
  unfold zoneAdmit
  dsimp only
  (repeat' split) <;> simp [*, apply_ite Mach.id]
@[simp] theorem stageNow_id (x0 : NvCmd) (x1 : Ns) (x2 : Nat) (x3 : Prot) (x4 : List (Sector × BitVec 128)) (m5 : Mach) : (stageNow x0 x1 x2 x3 x4 m5).id = m5.id := by simp [stageNow, apply_ite Mach.id]
@[simp] theorem stageWrite_id (x0 : NvCmd) (x1 : Nat) (x2 : Nat) (x3 : Prot) (x4 : List (Sector × BitVec 128)) (m5 : Mach) : (stageWrite x0 x1 x2 x3 x4 m5).id = m5.id := by
  unfold stageWrite
  split <;> simp [apply_ite Mach.id]
@[simp] theorem stopWrites_id (x0 : Nat) (x1 : Nat → Bool) (x2 : Act) (m3 : Mach) : (stopWrites x0 x1 x2 m3).id = m3.id := by simp [stopWrites, apply_ite Mach.id]
@[simp] theorem invalidate_id (x0 : Nat) (x1 : Nat → Bool) (m2 : Mach) : (invalidate x0 x1 m2).1.id = m2.id := by simp [invalidate]
@[simp] theorem resetZone_id (x0 : Nat) (x1 : Nat) (m2 : Mach) : (resetZone x0 x1 m2).1.id = m2.id := by
  unfold resetZone
  dsimp only
  (repeat' split) <;> simp [*, apply_ite Mach.id]
@[simp] theorem zoneAction_id (x0 : IoCmd) (x1 : Nat) (x2 : Nat) (m3 : Mach) : (zoneAction x0 x1 x2 m3).1.id = m3.id := by
  have e := zoneAdmit_id x1 x2 m3
  unfold zoneAction
  dsimp only
  split
  · rfl
  · split
    · split
      · rfl
      · split
        · rename_i h; rw [h] at e; exact e
        · rename_i h; rw [h] at e; exact (onZoneDo_id _ _ _ _).trans e
    · split <;> simp
    · simp only [saveMaps_id]
      split <;> simp
    · simp
    · rfl
@[simp] theorem zoneTake_id (x0 : NvCmd) (x1 : Nat) (m2 : Mach) : (zoneTake x0 x1 m2).id = m2.id := by
  unfold zoneTake
  split
  · rfl
  · split
    · rfl
    · split
      · rfl
      · dsimp only
        split
        · split
          · simp
          · have e := zoneAdmit_id (ioSpan ‹IoCmd›).1 x1 m2
            split
            · rename_i h; rw [h] at e; exact (finish_id _ _ _).trans e
            · rename_i h; rw [h] at e; simpa [apply_ite Mach.id] using e
        · split
          · split
            · split
              · simp
              · split <;> simp [apply_ite Mach.id]
            · split
              · simp
              · split <;> simp [apply_ite Mach.id]
          · simp
@[simp] theorem zoneFree_id (m0 : Mach) : (zoneFree m0).id = m0.id := by simp [zoneFree]
@[simp] theorem zonePump_id (x0 : Nat) (m1 : Mach) : (zonePump x0 m1).id = m1.id := by
  induction x0 generalizing m1 with
  | zero => simp [zonePump]
  | succ n ih =>
    unfold zonePump
    (repeat' (first | with_reducible rfl | assumption | (simp; done) | (simp [*]; done) | (intro _) | (rw [foldl_id]) | (rw [foldl_fst_id]) | split | dsimp only | simp))
@[simp] theorem zoneRun_id (m0 : Mach) : (zoneRun m0).id = m0.id := by simp [zoneRun]
@[simp] theorem zgpKick_id (x0 : List NvCmd) (x1 : List NvCmd) (m2 : Mach) : (zgpKick x0 x1 m2).id = m2.id := by
  induction x1 generalizing m2 x0 with
  | nil => simp [zgpKick]
  | cons x r ih =>
    unfold zgpKick
    (repeat' (first | with_reducible rfl | assumption | (simp; done) | (simp [*]; done) | (intro _) | (rw [foldl_id]) | (rw [foldl_fst_id]) | split | dsimp only | simp))
@[simp] theorem flow_id (m0 : Mach) : (flow m0).id = m0.id := by simp [flow]
@[simp] theorem dropSectors_id (x0 : Ns) (x1 : List (Nat × Nat)) (m2 : Mach) : (dropSectors x0 x1 m2).1.id = m2.id := by simp [dropSectors, apply_ite Mach.id]
@[simp] theorem deallocate_id (x0 : NvCmd) (x1 : Ns) (x2 : List (Nat × Nat)) (m3 : Mach) : (deallocate x0 x1 x2 m3).id = m3.id := by simp [deallocate]
@[simp] theorem reportZones_id (x0 : NvCmd) (x1 : Ns) (x2 : Nat) (m3 : Mach) : (reportZones x0 x1 x2 m3).id = m3.id := by simp [reportZones]
@[simp] theorem runIo_id (x0 : NvCmd) (x1 : IoCmd) (x2 : Ns) (m3 : Mach) : (runIo x0 x1 x2 m3).id = m3.id := by
  unfold runIo
  dsimp only
  split <;> simp [apply_ite Mach.id]
@[simp] theorem holdOrRun_id (x0 : NvCmd) (x1 : IoCmd) (x2 : Ns) (m3 : Mach) : (holdOrRun x0 x1 x2 m3).id = m3.id := by simp [holdOrRun, apply_ite Mach.id]
@[simp] theorem doIo_id (x0 : NvCmd) (x1 : IoCmd) (m2 : Mach) : (doIo x0 x1 m2).id = m2.id := by
  unfold doIo
  dsimp only
  (repeat' split) <;> simp [*, apply_ite Mach.id]
@[simp] theorem ioRow_id (x0 : NvCmd) (x1 : IoCmd) (m2 : Mach) : (ioRow x0 x1 m2).id = m2.id := by simp [ioRow]
@[simp] theorem releaseHeldDo_id (m0 : Mach) : (releaseHeldDo m0).id = m0.id := by
  unfold releaseHeldDo
  (repeat' (first | with_reducible rfl | assumption | (simp; done) | (simp [*]; done) | (intro _) | (rw [foldl_id]) | (rw [foldl_fst_id]) | split | dsimp only | simp))
@[simp] theorem dropHost_id (x0 : NvCmd) (x1 : Act) (m2 : Mach) : (dropHost x0 x1 m2).id = m2.id := by simp [dropHost, apply_ite Mach.id]
@[simp] theorem abortWins_id (x0 : NvCmd) (m1 : Mach) : (abortWins x0 m1).id = m1.id := by simp [abortWins, apply_ite Mach.id]
@[simp] theorem abortLookup_id (x0 : NvCmd) (m1 : Mach) : (abortLookup x0 m1).1.id = m1.id := by
  unfold abortLookup
  (repeat' split) <;> simp [apply_ite Mach.id]
@[simp] theorem endCtxs_id (x0 : NvCmd → Bool) (m1 : Mach) : (endCtxs x0 m1).id = m1.id := by simp [endCtxs]
@[simp] theorem specRead_id (x0 : Act) (x1 : Ns) (x2 : Origin) (x3 : List Nat) (m4 : Mach) : (specRead x0 x1 x2 x3 m4).id = m4.id := by
  unfold specRead
  (repeat' (first | with_reducible rfl | assumption | (simp; done) | (simp [*]; done) | (intro _) | (rw [foldl_id]) | (rw [foldl_fst_id]) | split | dsimp only | simp))
@[simp] theorem readAhead_id (x0 : Act) (m1 : Mach) : (readAhead x0 m1).id = m1.id := by
  unfold readAhead
  dsimp only
  split <;> simp [apply_ite Mach.id]
@[simp] theorem preSeek_id (x0 : Act) (m1 : Mach) : (preSeek x0 m1).id = m1.id := by
  unfold preSeek
  (repeat' split) <;> simp [apply_ite Mach.id]
@[simp] theorem preRead_id (x0 : Act) (m1 : Mach) : (preRead x0 m1).id = m1.id := by
  unfold preRead
  split <;> simp [apply_ite Mach.id]
@[simp] theorem markStage_id (x0 : Nat) (m1 : Mach) : (markStage x0 m1).id = m1.id := by simp [markStage]
@[simp] theorem saveRro_id (x0 : Act) (m1 : Mach) : (saveRro x0 m1).id = m1.id := by simp [saveRro]
@[simp] theorem shutUnload_id (m0 : Mach) : (shutUnload m0).id = m0.id := by simp [shutUnload]
@[simp] theorem startTakeover_id (x0 : Nat) (x1 : Act) (x2 : Option Hdr) (m3 : Mach) : (startTakeover x0 x1 x2 m3).id = m3.id := by simp [startTakeover]
@[simp] theorem engineFault_id (x0 : Act) (x1 : Byte) (m2 : Mach) : (engineFault x0 x1 m2).id = m2.id := by
  unfold engineFault
  dsimp only
  (repeat' split) <;> simp [*, apply_ite Mach.id]
@[simp] theorem cqFree_id (x0 : Act) (x1 : BitVec 16) (x2 : BitVec 16) (x3 : BitVec 16) (m4 : Mach) : (cqFree x0 x1 x2 x3 m4).id = m4.id := by simp [cqFree]
@[simp] theorem takeHeld_id (x0 : Act) (m1 : Mach) : (takeHeld x0 m1).id = m1.id := by simp [takeHeld]
@[simp] theorem takeoverDone_id (x0 : BitVec 16) (m1 : Mach) : (takeoverDone x0 m1).id = m1.id := by
  unfold takeoverDone
  (repeat' split) <;> simp [apply_ite Mach.id]
@[simp] theorem shutCheck_id (m0 : Mach) : (shutCheck m0).id = m0.id := by simp [shutCheck, apply_ite Mach.id]
@[simp] theorem cqTake_id (x0 : NvCmd) (m1 : Mach) : (cqTake x0 m1).id = m1.id := by simp [cqTake]
@[simp] theorem post_id (x0 : NvCmd) (m1 : Mach) : (post x0 m1).id = m1.id := by
  unfold post
  split <;> simp [apply_ite Mach.id]
@[simp] theorem reopen_id (m0 : Mach) : (reopen m0).id = m0.id := by simp [reopen, apply_ite Mach.id]
@[simp] theorem controllersReady_id (m0 : Mach) : (controllersReady m0).id = m0.id := by simp [controllersReady]
@[simp] theorem refuseConnect_id (x0 : Act) (x1 : Nat) (m2 : Mach) : (refuseConnect x0 x1 m2).id = m2.id := by simp [refuseConnect]
@[simp] theorem bareContext_id (x0 : NvCmd) (m1 : Mach) : (bareContext x0 m1).id = m1.id := by simp [bareContext, apply_ite Mach.id]
@[simp] theorem bareRun_id (x0 : NvCmd) (x1 : Mach → Mach) (m2 : Mach) (h1 : ∀ m, (x1 m).id = m.id) : (bareRun x0 x1 m2).id = m2.id := by
  unfold bareRun
  dsimp only
  (repeat' split) <;> simp [*, apply_ite Mach.id]
@[simp] theorem endController_id (x0 : Act) (x1 : BitVec 16) (m2 : Mach) : (endController x0 x1 m2).id = m2.id := by simp [endController]
@[simp] theorem adminRow_id (x0 : NvCmd) (x1 : Mach → Mach) (m2 : Mach) (h1 : ∀ m, (x1 m).id = m.id) : (adminRow x0 x1 m2).id = m2.id := by
  unfold adminRow
  (repeat' (first | with_reducible rfl | assumption | (simp; done) | (simp [*]; done) | (intro _) | (rw [foldl_id]) | (rw [foldl_fst_id]) | split | dsimp only | simp))
@[simp] theorem putResv_id (x0 : Nat) (x1 : Resv) (m2 : Mach) : (putResv x0 x1 m2).id = m2.id := by simp [putResv]
@[simp] theorem resvRow_id (x0 : NvCmd) (x1 : Nat) (x2 : Resv → BitVec 128 → Mach → Mach) (m3 : Mach) (h2 : ∀ r x m, (x2 r x m).id = m.id) : (resvRow x0 x1 x2 m3).id = m3.id := by
  unfold resvRow
  split
  · rfl
  · refine begin_id _ _ _ ?_
    intro m
    split
    · simp
    · simp
    · split
      · exact h2 _ _ _
      · simp
@[simp] theorem dsvLoad_id (m0 : Mach) : (dsvLoad m0).id = m0.id := by
  unfold dsvLoad
  dsimp only
  split <;> simp [apply_ite Mach.id]
@[simp] theorem noteWrapped_id (m0 : Mach) : (noteWrapped m0).id = m0.id := by simp [noteWrapped]
@[simp] theorem withRecs_id (m0 : Mach) (x1 : List SRec) : (withRecs m0 x1).id = m0.id := by simp [withRecs]

end Sys2Proof.Machine
end

