-- ==== Sys2Proof/Laws/Identity3.lean ====
section
/-! SUPPORT. What one-time memory and the identity of the module are after each operation and command: unchanged, but for the raise of MIN_SVN (spec/17
R870 to R872, spec/18 R921). -/

set_option linter.unusedSimpArgs false

namespace Sys2Proof.Machine

@[simp] theorem fallback_id (m0 : Mach) : (fallback m0).id = m0.id := by
  unfold fallback
  (repeat' split) <;> simp [apply_ite Mach.id]
@[simp] theorem payloadLoaded_id (m0 : Mach) : (payloadLoaded m0).id = m0.id := by simp [payloadLoaded, apply_ite Mach.id]
@[simp] theorem bankWritten_id (x0 : Act × Bank × List SRec) (m1 : Mach) : (bankWritten x0 m1).id = m1.id := by simp [bankWritten]
@[simp] theorem commitFailed_id (m0 : Mach) : (commitFailed m0).id = m0.id := by simp [commitFailed]
@[simp] theorem unstage_id (x0 : List (SRec × Bool × Bool)) (m1 : Mach) : (unstage x0 m1).id = m1.id := by simp [unstage]
@[simp] theorem beginCommit_id (x0 : Option Hdr) (x1 : Bool) (m2 : Mach) : (beginCommit x0 x1 m2).id = m2.id := by
  unfold beginCommit
  dsimp only
  split <;> simp [apply_ite Mach.id]
@[simp] theorem startCommits_id (x0 : Nat) (m1 : Mach) : (startCommits x0 m1).id = m1.id := by
  induction x0 generalizing m1 with
  | zero => simp [startCommits]
  | succ n ih =>
    unfold startCommits
    (repeat' (first | with_reducible rfl | assumption | (simp; done) | (simp [*]; done) | (intro _) | (rw [foldl_id]) | (rw [foldl_fst_id]) | split | dsimp only | simp))
@[simp] theorem askCommit_id (x0 : Option Hdr) (x1 : Bool) (m2 : Mach) : (askCommit x0 x1 m2).id = m2.id := by simp [askCommit]
@[simp] theorem adaptiveCommit_id (m0 : Mach) : (adaptiveCommit m0).id = m0.id := by simp [adaptiveCommit, apply_ite Mach.id]
@[simp] theorem shutTail_id (m0 : Mach) : (shutTail m0).id = m0.id := by simp [shutTail, apply_ite Mach.id]
@[simp] theorem commitNow_id (x0 : List Nat) (x1 : List SRec) (x2 : Bool) (m3 : Mach) : (commitNow x0 x1 x2 m3).id = m3.id := by simp [commitNow, apply_ite Mach.id]
@[simp] theorem changeRecs_id (x0 : List Nat) (x1 : Mach → List SRec) (x2 : Bool) (x3 : Mach → Mach) (m4 : Mach) (h3 : ∀ m, (x3 m).id = m.id) : (changeRecs x0 x1 x2 x3 m4).id = m4.id := by
  unfold changeRecs
  dsimp only
  (repeat' split) <;> simp [*, apply_ite Mach.id]
@[simp] theorem takeStale_id (m0 : Mach) : (takeStale m0).id = m0.id := by
  unfold takeStale
  (repeat' (first | with_reducible rfl | assumption | (simp; done) | (simp [*]; done) | (intro _) | (rw [foldl_id]) | (rw [foldl_fst_id]) | split | dsimp only | simp))
@[simp] theorem loadLife_id (x0 : Act) (m1 : Mach) : (loadLife x0 m1).id = m1.id := by simp [loadLife]
@[simp] theorem actBoot_id (x0 : Act) (x1 : List (Act × BitVec 16 × List (List Byte))) (m2 : Mach) : (actBoot x0 x1 m2).id = m2.id := by simp [actBoot, apply_ite Mach.id]
@[simp] theorem mediaBoot_id (x0 : List (Act × BitVec 16 × List (List Byte))) (m1 : Mach) : (mediaBoot x0 m1).id = m1.id := by simp [mediaBoot]
@[simp] theorem heldRow_id (x0 : NvCmd) (x1 : Nat) (x2 : Mach → Mach) (x3 : Mach → Bool) (x4 : Mach → Mach) (m5 : Mach) (h2 : ∀ m, (x2 m).id = m.id) (h4 : ∀ m, (x4 m).id = m.id) : (heldRow x0 x1 x2 x3 x4 m5).id = m5.id := by
  unfold heldRow
  dsimp only
  (repeat' split) <;> simp [*, apply_ite Mach.id]
@[simp] theorem holdRanges_id (x0 : NvCmd) (x1 : List Nat) (m2 : Mach) : (holdRanges x0 x1 m2).id = m2.id := by simp [holdRanges]
@[simp] theorem freeRanges_id (x0 : NvCmd) (m1 : Mach) : (freeRanges x0 m1).id = m1.id := by simp [freeRanges]
@[simp] theorem dropRanges_id (x0 : List Nat) (m1 : Mach) : (dropRanges x0 m1).id = m1.id := by simp [dropRanges]
@[simp] theorem eraseRanges_id (x0 : List (BitVec 512)) (x1 : List Nat) (x2 : Bool) (x3 : Opal → Opal) (m4 : Mach) : (eraseRanges x0 x1 x2 x3 m4).id = m4.id := by simp [eraseRanges, apply_ite Mach.id]
@[simp] theorem emptyNs_id (x0 : Nat) (m1 : Mach) : (emptyNs x0 m1).id = m1.id := by
  unfold emptyNs
  split <;> simp [apply_ite Mach.id]
@[simp] theorem wipeNss_id (x0 : List Nat) (m1 : Mach) : (wipeNss x0 m1).id = m1.id := by simp [wipeNss]
@[simp] theorem createNs_id (x0 : NsKind) (x1 : Nat) (x2 : Nat) (x3 : Nat) (m4 : Mach) : (createNs x0 x1 x2 x3 m4).2.2.id = m4.id := by
  unfold createNs
  dsimp only
  (repeat' split) <;> simp [*, apply_ite Mach.id]
@[simp] theorem deleteNs_id (x0 : Nat) (m1 : Mach) : (deleteNs x0 m1).id = m1.id := by
  unfold deleteNs
  split <;> simp [apply_ite Mach.id]
@[simp] theorem setFormat_id (x0 : List Nat) (x1 : Nat) (x2 : Nat) (m3 : Mach) : (setFormat x0 x1 x2 m3).id = m3.id := by simp [setFormat]
theorem execNvmeFormatNvm_id (x0 : NvCmd) (x1 : BitVec 32) (x2 : BitVec 6) (x3 : BitVec 3) (x4 : BitVec 3) (x5 : List (BitVec 512)) (x6 : Bool) (x7 : State) : ∃ m', execNvmeFormatNvm x0 x1 x2 x3 x4 x5 x6 x7 = .next { x7 with m := m' } ∧ m'.id = x7.m.id := by
  refine ⟨_, rfl, ?_⟩
  simp [apply_ite Mach.id]
@[simp] theorem overwrite_id (x0 : BitVec 32) (m1 : Mach) : (overwrite x0 m1).id = m1.id := by
  unfold overwrite
  (repeat' (first | with_reducible rfl | assumption | (simp; done) | (simp [*]; done) | (intro _) | (rw [foldl_id]) | (rw [foldl_fst_id]) | split | dsimp only | simp))
theorem execNvmeSanitize_id (x0 : NvCmd) (x1 : BitVec 3) (x2 : BitVec 32) (x3 : List (BitVec 512)) (x4 : Bool) (x5 : State) : ∃ m', execNvmeSanitize x0 x1 x2 x3 x4 x5 = .next { x5 with m := m' } ∧ m'.id = x5.m.id := by
  refine ⟨_, rfl, ?_⟩
  simp [apply_ite Mach.id]
theorem execNvmeNamespaceManagement_id (x0 : NvCmd) (x1 : Bool) (x2 : BitVec 32) (x3 : Byte) (x4 : Byte) (x5 : BitVec 64) (x6 : BitVec 4) (x7 : BitVec 3) (x8 : State) : ∃ m', execNvmeNamespaceManagement x0 x1 x2 x3 x4 x5 x6 x7 x8 = .next { x8 with m := m' } ∧ m'.id = x8.m.id := by
  refine ⟨_, rfl, ?_⟩
  dsimp only
  (repeat' split) <;> simp [*, apply_ite Mach.id]
theorem execNvmeNamespaceAttachment_id (x0 : NvCmd) (x1 : BitVec 32) (x2 : Bool) (x3 : List (BitVec 16)) (x4 : State) : ∃ m', execNvmeNamespaceAttachment x0 x1 x2 x3 x4 = .next { x4 with m := m' } ∧ m'.id = x4.m.id := by
  refine ⟨_, rfl, ?_⟩
  first
    | refine adminRow_id _ _ _ (fun m => ?_)
    | refine service_id _ _ _ _ _ _ (fun m => ?_)
    | refine resvRow_id _ _ _ _ (fun r x m => ?_)
    | refine execWord_id _ _ _ _ (fun w m => ?_)
  dsimp only
  (repeat' split) <;> simp [apply_ite Mach.id]
theorem execNvmeIdentify_id (x0 : NvCmd) (x1 : Byte) (x2 : BitVec 32) (x3 : Byte) (x4 : State) : ∃ m', execNvmeIdentify x0 x1 x2 x3 x4 = .next { x4 with m := m' } ∧ m'.id = x4.m.id := by
  refine ⟨_, rfl, ?_⟩
  refine adminRow_id _ _ _ (fun m => ?_)
  (repeat' first | (rw [finish_id]; done) | (rw [finishWith_id]; done) | split | dsimp only)
theorem execNvmeGetLogPage_id (x0 : NvCmd) (x1 : Byte) (x2 : BitVec 64) (x3 : BitVec 32) (x4 : State) : ∃ m', execNvmeGetLogPage x0 x1 x2 x3 x4 = .next { x4 with m := m' } ∧ m'.id = x4.m.id := by
  refine ⟨_, rfl, ?_⟩
  simp [apply_ite Mach.id]
theorem execNvmeSetFeaturesTimestamp_id (x0 : NvCmd) (x1 : State) : ∃ m', execNvmeSetFeaturesTimestamp x0 x1 = .next { x1 with m := m' } ∧ m'.id = x1.m.id := by
  refine ⟨_, rfl, ?_⟩
  simp
theorem execNvmeDeviceSelfTest_id (x0 : NvCmd) (x1 : BitVec 4) (x2 : State) : ∃ m', execNvmeDeviceSelfTest x0 x1 x2 = .next { x2 with m := m' } ∧ m'.id = x2.m.id := by
  refine ⟨_, rfl, ?_⟩
  simp [apply_ite Mach.id]
theorem execNvmeFirmwareImageDownload_id (x0 : NvCmd) (x1 : BitVec 32) (x2 : List Byte) (x3 : State) : ∃ m', execNvmeFirmwareImageDownload x0 x1 x2 x3 = .next { x3 with m := m' } ∧ m'.id = x3.m.id := by
  refine ⟨_, rfl, ?_⟩
  simp [apply_ite Mach.id]
@[simp] theorem fillSlot_id (x0 : Act) (m1 : Mach) : (fillSlot x0 m1).1.id = m1.id := by
  unfold fillSlot
  dsimp only
  (repeat' split) <;> simp [*, apply_ite Mach.id]
theorem execNvmeFirmwareCommit_id (x0 : NvCmd) (x1 : BitVec 3) (x2 : BitVec 3) (x3 : State) : ∃ m', execNvmeFirmwareCommit x0 x1 x2 x3 = .next { x3 with m := m' } ∧ m'.id = x3.m.id := by
  refine ⟨_, rfl, ?_⟩
  first
    | refine adminRow_id _ _ _ (fun m => ?_)
    | refine service_id _ _ _ _ _ _ (fun m => ?_)
    | refine resvRow_id _ _ _ _ (fun r x m => ?_)
    | refine execWord_id _ _ _ _ (fun w m => ?_)
  dsimp only
  (repeat' split) <;> simp [apply_ite Mach.id]
theorem execPowerOnReset_id (x0 : Option Hda) (x1 : State) : ∃ m', execPowerOnReset x0 x1 = .next { x1 with m := m' } ∧ m'.id = x1.m.id := by
  refine ⟨_, rfl, ?_⟩
  simp
@[simp] theorem bringUpFail_id (x0 : Nat) (m1 : Mach) : (bringUpFail x0 m1).id = m1.id := by simp [bringUpFail]
theorem execIdentityCheck_id (x0 : State) : ∃ m', execIdentityCheck x0 = .next { x0 with m := m' } ∧ m'.id = x0.m.id := by
  refine ⟨_, rfl, ?_⟩
  dsimp only
  (repeat' split) <;> simp [*, apply_ite Mach.id]
@[simp] theorem runSlot_id (x0 : Act) (m1 : Mach) : (runSlot x0 m1).id = m1.id := by
  unfold runSlot
  split <;> simp [apply_ite Mach.id]
theorem execFirmwareSlotSelect_id (x0 : State) : ∃ m', execFirmwareSlotSelect x0 = .next { x0 with m := m' } ∧ m'.id = x0.m.id := by
  refine ⟨_, rfl, ?_⟩
  simp [apply_ite Mach.id]
@[simp] theorem readSlots_id (m0 : Mach) : (readSlots m0).id = m0.id := by
  unfold readSlots
  split
  · rfl
  · dsimp only
    split
    · split
      · rfl
      · rw [report_id]
    · rfl
@[simp] theorem selectBank_id (m0 : Mach) : (selectBank m0).id = m0.id := by
  unfold selectBank
  split <;> simp [apply_ite Mach.id]
theorem execSettingsBankSelect_id (x0 : State) : ∃ m', execSettingsBankSelect x0 = .next { x0 with m := m' } ∧ m'.id = x0.m.id := by
  refine ⟨_, rfl, ?_⟩
  simp [apply_ite Mach.id]
theorem execDramTrainingComplete_id (x0 : State) : ∃ m', execDramTrainingComplete x0 = .next { x0 with m := m' } ∧ m'.id = x0.m.id := by
  refine ⟨_, rfl, ?_⟩
  simp [apply_ite Mach.id]
theorem execPayloadReadComplete_id (x0 : State) : ∃ m', execPayloadReadComplete x0 = .next { x0 with m := m' } ∧ m'.id = x0.m.id := by
  refine ⟨_, rfl, ?_⟩
  simp [apply_ite Mach.id]
theorem execMicrocodeLoad_id (x0 : List (Act × BitVec 16 × List (List Byte))) (x1 : State) : ∃ m', execMicrocodeLoad x0 x1 = .next { x1 with m := m' } ∧ m'.id = x1.m.id := by
  refine ⟨_, rfl, ?_⟩
  simp [apply_ite Mach.id]
theorem execEngineBoot_id (x0 : State) : ∃ m', execEngineBoot x0 = .next { x0 with m := m' } ∧ m'.id = x0.m.id := by
  refine ⟨_, rfl, ?_⟩
  simp [apply_ite Mach.id]
theorem execSpinUpStart_id (x0 : State) : ∃ m', execSpinUpStart x0 = .next { x0 with m := m' } ∧ m'.id = x0.m.id := by
  refine ⟨_, rfl, ?_⟩
  simp [apply_ite Mach.id]
@[simp] theorem bootMode_id (m0 : Mach) : (bootMode m0).id = m0.id := by simp [bootMode, apply_ite Mach.id]
theorem execMediaReady_id (x0 : Act) (x1 : BitVec 16) (x2 : State) : ∃ m', execMediaReady x0 x1 x2 = .next { x2 with m := m' } ∧ m'.id = x2.m.id := by
  refine ⟨_, rfl, ?_⟩
  simp [apply_ite Mach.id]
theorem execLastShutdownResolve_id (x0 : State) : ∃ m', execLastShutdownResolve x0 = .next { x0 with m := m' } ∧ m'.id = x0.m.id := by
  refine ⟨_, rfl, ?_⟩
  simp [apply_ite Mach.id]
theorem execActiveIdleTimeout_id (x0 : State) : ∃ m', execActiveIdleTimeout x0 = .next { x0 with m := m' } ∧ m'.id = x0.m.id := by
  refine ⟨_, rfl, ?_⟩
  simp [apply_ite Mach.id]
theorem execApstTransition_id (x0 : BitVec 3) (x1 : State) : ∃ m', execApstTransition x0 x1 = .next { x1 with m := m' } ∧ m'.id = x1.m.id := by
  refine ⟨_, rfl, ?_⟩
  simp [apply_ite Mach.id]
theorem execPwrDisAssert_id (x0 : State) : ∃ m', execPwrDisAssert x0 = .next { x0 with m := m' } ∧ m'.id = x0.m.id := by
  refine ⟨_, rfl, ?_⟩
  dsimp only
  (repeat' split) <;> simp [*, apply_ite Mach.id]
theorem execPwrDisRelease_id (x0 : State) : ∃ m', execPwrDisRelease x0 = .next { x0 with m := m' } ∧ m'.id = x0.m.id := by
  refine ⟨_, rfl, ?_⟩
  simp [apply_ite Mach.id]
theorem execShutdownDestageDone_id (x0 : State) : ∃ m', execShutdownDestageDone x0 = .next { x0 with m := m' } ∧ m'.id = x0.m.id := by
  refine ⟨_, rfl, ?_⟩
  simp [apply_ite Mach.id]
theorem execShutLimitExpiry_id (x0 : State) : ∃ m', execShutLimitExpiry x0 = .next { x0 with m := m' } ∧ m'.id = x0.m.id := by
  refine ⟨_, rfl, ?_⟩
  simp [apply_ite Mach.id]
@[simp] theorem shutReported_id (m0 : Mach) : (shutReported m0).id = m0.id := by simp [shutReported]
@[simp] theorem shutSlot_id (m0 : Mach) : (shutSlot m0).id = m0.id := by
  unfold shutSlot
  (repeat' split) <;> simp [apply_ite Mach.id]
theorem execShutdownComplete_id (x0 : BitVec 32) (x1 : State) : ∃ m', execShutdownComplete x0 x1 = .next { x1 with m := m' } ∧ m'.id = x1.m.id := by
  refine ⟨_, rfl, ?_⟩
  simp [apply_ite Mach.id]
@[simp] theorem cleanCopy_id (x0 : Act) (x1 : Ns) (x2 : Nat) (x3 : Nat) (x4 : Nat) (m5 : Mach) : (cleanCopy x0 x1 x2 x3 x4 m5).id = m5.id := by
  unfold cleanCopy
  (repeat' (first | with_reducible rfl | assumption | (simp; done) | (simp [*]; done) | (intro _) | (rw [foldl_id]) | (rw [foldl_fst_id]) | split | dsimp only | simp))
@[simp] theorem cleanStart_id (x0 : Act) (x1 : Ns) (m2 : Mach) : (cleanStart x0 x1 m2).id = m2.id := by
  unfold cleanStart
  dsimp only
  split
  · rfl
  · split
    · rfl
    · split
      · rfl
      · rename_i f k m h
        have e : m.id = m2.id := by
          split at h
          · simp only [Option.some.injEq, Prod.mk.injEq] at h; rw [← h.2.2]
          · split at h
            · simp only [Option.some.injEq, Prod.mk.injEq] at h; rw [← h.2.2]; simp
            · cases h
        simpa using e
@[simp] theorem cleanJournal_id (x0 : Act) (x1 : Ns) (m2 : Mach) : (cleanJournal x0 x1 m2).id = m2.id := by
  unfold cleanJournal
  dsimp only
  split <;> simp [apply_ite Mach.id]
@[simp] theorem cleanRemap_id (x0 : Act) (x1 : Ns) (m2 : Mach) : (cleanRemap x0 x1 m2).id = m2.id := by simp [cleanRemap]
@[simp] theorem scanPorch_id (x0 : Act) (x1 : Ns) (m2 : Mach) : (scanPorch x0 x1 m2).1.id = m2.id := by
  unfold scanPorch
  split <;> simp [apply_ite Mach.id]
theorem execSectorEnterCache_id (x0 : BitVec 48) (x1 : State) : ∃ m', execSectorEnterCache x0 x1 = .next { x1 with m := m' } ∧ m'.id = x1.m.id := by
  refine ⟨_, rfl, ?_⟩
  simp [apply_ite Mach.id]
theorem execDestageRequest_id (x0 : Act) (x1 : BitVec 48) (x2 : State) : ∃ m', execDestageRequest x0 x1 x2 = .next { x2 with m := m' } ∧ m'.id = x2.m.id := by
  refine ⟨_, rfl, ?_⟩
  dsimp only
  (repeat' split) <;> simp [*, apply_ite Mach.id]
@[simp] theorem atticPut_id (x0 : Line) (m1 : Mach) : (atticPut x0 m1).id = m1.id := by simp [atticPut]
@[simp] theorem atticRecall_id (x0 : Nat) (x1 : Nat) (m2 : Mach) : (atticRecall x0 x1 m2).id = m2.id := by
  unfold atticRecall
  split <;> simp [apply_ite Mach.id]
theorem execAtticMoveComplete_id (x0 : State) : ∃ m', execAtticMoveComplete x0 = .next { x0 with m := m' } ∧ m'.id = x0.m.id := by
  refine ⟨_, rfl, ?_⟩
  dsimp only
  (repeat' split) <;> simp [*, apply_ite Mach.id]
theorem execCacheDrainComplete_id (x0 : State) : ∃ m', execCacheDrainComplete x0 = .next { x0 with m := m' } ∧ m'.id = x0.m.id := by
  refine ⟨_, rfl, ?_⟩
  simp
@[simp] theorem fabUncorrectable_id (x0 : Nat) (x1 : Nat) (x2 : BitVec 8) (m3 : Mach) : (fabUncorrectable x0 x1 x2 m3).id = m3.id := by simp [fabUncorrectable, apply_ite Mach.id]
@[simp] theorem storeWord_id (x0 : Nat) (x1 : BitVec 64) (m2 : Mach) : (storeWord x0 x1 m2).id = m2.id := by simp [storeWord, apply_ite Mach.id]
@[simp] theorem writeBackWord_id (x0 : Nat) (x1 : Nat) (m2 : Mach) : (writeBackWord x0 x1 m2).id = m2.id := by
  unfold writeBackWord
  (repeat' split) <;> simp [apply_ite Mach.id]
@[simp] theorem correctedAt_id (x0 : Nat) (x1 : Nat) (m2 : Mach) : (correctedAt x0 x1 m2).id = m2.id := by simp [correctedAt, apply_ite Mach.id]
@[simp] theorem cleanAt_id (x0 : Nat) (x1 : Nat) (m2 : Mach) : (cleanAt x0 x1 m2).id = m2.id := by simp [cleanAt, apply_ite Mach.id]
@[simp] theorem scrubLap_id (x0 : Nat) (x1 : Nat) (m2 : Mach) : (scrubLap x0 x1 m2).id = m2.id := by simp [scrubLap, apply_ite Mach.id]
theorem execDramScrub_id (x0 : BitVec 4) (x1 : BitVec 33) (x2 : BitVec 8) (x3 : EccFind) (x4 : Option (BitVec 48)) (x5 : State) : ∃ m', execDramScrub x0 x1 x2 x3 x4 x5 = .next { x5 with m := m' } ∧ m'.id = x5.m.id := by
  refine ⟨_, rfl, ?_⟩
  dsimp only
  (repeat' split) <;> simp [*, apply_ite Mach.id]
@[simp] theorem putTagBits_id (x0 : Nat) (x1 : BitVec 88) (x2 : BitVec 8) (m3 : Mach) : (putTagBits x0 x1 x2 m3).id = m3.id := by simp [putTagBits]
@[simp] theorem putWordBits_id (x0 : Nat) (x1 : BitVec 64) (x2 : BitVec 8) (m3 : Mach) : (putWordBits x0 x1 x2 m3).id = m3.id := by simp [putWordBits]
@[simp] theorem ecctestPut_id (m0 : Mach) : (ecctestPut m0).id = m0.id := by simp [ecctestPut, apply_ite Mach.id]
@[simp] theorem ecctestGet_id (x0 : Bool) (m1 : Mach) : (ecctestGet x0 m1).id = m1.id := by simp [ecctestGet, apply_ite Mach.id]
@[simp] theorem ecctestAccess_id (x0 : Reg) (m1 : Mach) : (ecctestAccess x0 m1).id = m1.id := by simp [ecctestAccess, apply_ite Mach.id]
theorem execEcctestWrite_id (x0 : BitVec 32) (x1 : State) : ∃ m', execEcctestWrite x0 x1 = .next { x1 with m := m' } ∧ m'.id = x1.m.id := by
  refine ⟨_, rfl, ?_⟩
  simp [apply_ite Mach.id]
theorem execEcctestRead_id (x0 : BitVec 32) (x1 : State) : ∃ m', execEcctestRead x0 x1 = .next { x1 with m := m' } ∧ m'.id = x1.m.id := by
  refine ⟨_, rfl, ?_⟩
  simp [apply_ite Mach.id]
@[simp] theorem grantLeaf_id (x0 : Nat) (m1 : Mach) : (grantLeaf x0 m1).id = m1.id := by simp [grantLeaf]
@[simp] theorem creditGrant_id (x0 : BitVec 11) (m1 : Mach) : (creditGrant x0 m1).id = m1.id := by
  unfold creditGrant
  dsimp only
  (repeat' split) <;> simp [*, apply_ite Mach.id]
theorem execArbiterGrant_id (x0 : BitVec 11) (x1 : BitVec 32) (x2 : BitVec 32) (x3 : BitVec 32) (x4 : State) : ∃ m', execArbiterGrant x0 x1 x2 x3 x4 = .next { x4 with m := m' } ∧ m'.id = x4.m.id := by
  refine ⟨_, rfl, ?_⟩
  dsimp only
  (repeat' split) <;> simp [*, apply_ite Mach.id]
theorem execMediaDeadlineMiss_id (x0 : BitVec 4) (x1 : BitVec 32) (x2 : State) : ∃ m', execMediaDeadlineMiss x0 x1 x2 = .next { x2 with m := m' } ∧ m'.id = x2.m.id := by
  refine ⟨_, rfl, ?_⟩
  simp [apply_ite Mach.id]
theorem execCacheSetMode_id (x0 : Hdr) (x1 : State) : ∃ m', execCacheSetMode x0 x1 = .next { x1 with m := m' } ∧ m'.id = x1.m.id := by
  refine ⟨_, rfl, ?_⟩
  (repeat' (first | with_reducible rfl | assumption | (simp; done) | (simp [*]; done) | (intro _) | (rw [foldl_id]) | (rw [foldl_fst_id]) | split | dsimp only | simp))
theorem execCacheStatus_id (x0 : Hdr) (x1 : State) : ∃ m', execCacheStatus x0 x1 = .next { x1 with m := m' } ∧ m'.id = x1.m.id := by
  refine ⟨_, rfl, ?_⟩
  simp
theorem execCacheLockRange_id (x0 : Hdr) (x1 : State) : ∃ m', execCacheLockRange x0 x1 = .next { x1 with m := m' } ∧ m'.id = x1.m.id := by
  refine ⟨_, rfl, ?_⟩
  first
    | refine adminRow_id _ _ _ (fun m => ?_)
    | refine service_id _ _ _ _ _ _ (fun m => ?_)
    | refine resvRow_id _ _ _ _ (fun r x m => ?_)
    | refine execWord_id _ _ _ _ (fun w m => ?_)
  dsimp only
  (repeat' split) <;> simp [apply_ite Mach.id]
theorem execCacheUnlockRange_id (x0 : Hdr) (x1 : State) : ∃ m', execCacheUnlockRange x0 x1 = .next { x1 with m := m' } ∧ m'.id = x1.m.id := by
  refine ⟨_, rfl, ?_⟩
  simp
theorem execCacheInvalidateRange_id (x0 : Hdr) (x1 : State) : ∃ m', execCacheInvalidateRange x0 x1 = .next { x1 with m := m' } ∧ m'.id = x1.m.id := by
  refine ⟨_, rfl, ?_⟩
  simp
theorem execDramRetirePage_id (x0 : Hdr) (x1 : State) : ∃ m', execDramRetirePage x0 x1 = .next { x1 with m := m' } ∧ m'.id = x1.m.id := by
  refine ⟨_, rfl, ?_⟩
  simp
theorem execCalTemperatureCheck_id (x0 : BitVec 16) (x1 : BitVec 16) (x2 : BitVec 16) (x3 : BitVec 16) (x4 : State) : ∃ m', execCalTemperatureCheck x0 x1 x2 x3 x4 = .next { x4 with m := m' } ∧ m'.id = x4.m.id := by
  refine ⟨_, rfl, ?_⟩
  simp
@[simp] theorem openSlice_id (x0 : Act) (m1 : Mach) : (openSlice x0 m1).id = m1.id := by simp [openSlice, apply_ite Mach.id]
theorem execCalSliceStart_id (x0 : Act) (x1 : State) : ∃ m', execCalSliceStart x0 x1 = .next { x1 with m := m' } ∧ m'.id = x1.m.id := by
  refine ⟨_, rfl, ?_⟩
  simp [apply_ite Mach.id]
@[simp] theorem beginPreempt_id (x0 : Act) (m1 : Mach) : (beginPreempt x0 m1).id = m1.id := by
  unfold beginPreempt
  (repeat' split) <;> simp [apply_ite Mach.id]
theorem execCalDeferExpiry_id (x0 : Act) (x1 : State) : ∃ m', execCalDeferExpiry x0 x1 = .next { x1 with m := m' } ∧ m'.id = x1.m.id := by
  refine ⟨_, rfl, ?_⟩
  simp [apply_ite Mach.id]
theorem execCalGapExpiry_id (x0 : Act) (x1 : State) : ∃ m', execCalGapExpiry x0 x1 = .next { x1 with m := m' } ∧ m'.id = x1.m.id := by
  refine ⟨_, rfl, ?_⟩
  simp [apply_ite Mach.id]
@[simp] theorem calApplyMeas_id (x0 : Act) (x1 : CalRun) (x2 : CalMeas) (x3 : BitVec 16) (m4 : Mach) : (calApplyMeas x0 x1 x2 x3 m4).id = m4.id := by
  unfold calApplyMeas
  (repeat' split) <;> simp [apply_ite Mach.id]
theorem execCalStep_id (x0 : Act) (x1 : Nat) (x2 : CalMeas) (x3 : BitVec 16) (x4 : State) : ∃ m', execCalStep x0 x1 x2 x3 x4 = .next { x4 with m := m' } ∧ m'.id = x4.m.id := by
  refine ⟨_, rfl, ?_⟩
  dsimp only
  split <;> simp [apply_ite Mach.id]
@[simp] theorem queueRuns_id (x0 : Hdr) (x1 : Act) (m2 : Mach) : (queueRuns x0 x1 m2).id = m2.id := by simp [queueRuns, apply_ite Mach.id]
theorem execCalRun_id (x0 : Hdr) (x1 : State) : ∃ m', execCalRun x0 x1 = .next { x1 with m := m' } ∧ m'.id = x1.m.id := by
  refine ⟨_, rfl, ?_⟩
  simp [apply_ite Mach.id]
theorem execCalStatus_id (x0 : Hdr) (x1 : State) : ∃ m', execCalStatus x0 x1 = .next { x1 with m := m' } ∧ m'.id = x1.m.id := by
  refine ⟨_, rfl, ?_⟩
  simp
theorem execCalSetTrigger_id (x0 : Hdr) (x1 : State) : ∃ m', execCalSetTrigger x0 x1 = .next { x1 with m := m' } ∧ m'.id = x1.m.id := by
  refine ⟨_, rfl, ?_⟩
  simp
theorem execSyncDecision_id (x0 : Act) (x1 : List (Int × Nat)) (x2 : List (Int × Nat)) (x3 : State) : ∃ m', execSyncDecision x0 x1 x2 x3 = .next { x3 with m := m' } ∧ m'.id = x3.m.id := by
  refine ⟨_, rfl, ?_⟩
  simp [apply_ite Mach.id]
@[simp] theorem sectorTake_id (x0 : Act) (x1 : Sec) (x2 : Verdict) (x3 : Reg) (x4 : Option Payload) (x5 : SecSignal) (m6 : Mach) : (sectorTake x0 x1 x2 x3 x4 x5 m6).id = m6.id := by simp [sectorTake]
@[simp] theorem sectorReports_id (x0 : Act) (x1 : Sec) (x2 : Verdict) (x3 : Reg) (x4 : Option Payload) (x5 : SecSignal) (m6 : Mach) : (sectorReports x0 x1 x2 x3 x4 x5 m6).id = m6.id := by simp [sectorReports]
@[simp] theorem sectorAdapt_id (x0 : Act) (x1 : Sec) (x2 : SecSignal) (m3 : Mach) : (sectorAdapt x0 x1 x2 m3).id = m3.id := by
  unfold sectorAdapt
  dsimp only
  split <;> simp [apply_ite Mach.id]
@[simp] theorem sectorResult_id (x0 : Act) (x1 : SecSignal) (m2 : Mach) : (sectorResult x0 x1 m2).id = m2.id := by
  unfold sectorResult
  (repeat' split) <;> simp [apply_ite Mach.id]
theorem execSectorResult_id (x0 : Act) (x1 : SecSignal) (x2 : State) : ∃ m', execSectorResult x0 x1 x2 = .next { x2 with m := m' } ∧ m'.id = x2.m.id := by
  refine ⟨_, rfl, ?_⟩
  simp
theorem execCaptureTrigger_id (x0 : Act) (x1 : Reg) (x2 : List Byte) (x3 : State) : ∃ m', execCaptureTrigger x0 x1 x2 x3 = .next { x3 with m := m' } ∧ m'.id = x3.m.id := by
  refine ⟨_, rfl, ?_⟩
  dsimp only
  split
  · rfl
  · rw [reply_id, Mach.onCh_id]
theorem execChGetMetrics_id (x0 : Hdr) (x1 : State) : ∃ m', execChGetMetrics x0 x1 = .next { x1 with m := m' } ∧ m'.id = x1.m.id := by
  refine ⟨_, rfl, ?_⟩
  simp
theorem execChCapture_id (x0 : Hdr) (x1 : State) : ∃ m', execChCapture x0 x1 = .next { x1 with m := m' } ∧ m'.id = x1.m.id := by
  refine ⟨_, rfl, ?_⟩
  simp
@[simp] theorem chLost_id (x0 : Act) (m1 : Mach) : (chLost x0 m1).id = m1.id := by simp [chLost]
@[simp] theorem chLoss_id (x0 : Act) (m1 : Mach) : (chLoss x0 m1).id = m1.id := by simp [chLoss, apply_ite Mach.id]
@[simp] theorem rootLoss_id (m0 : Mach) : (rootLoss m0).id = m0.id := by simp [rootLoss, apply_ite Mach.id]
theorem execRootPllLossOfLock_id (x0 : State) : ∃ m', execRootPllLossOfLock x0 = .next { x0 with m := m' } ∧ m'.id = x0.m.id := by
  refine ⟨_, rfl, ?_⟩
  simp
theorem execRootPllRelock_id (x0 : BitVec 32) (x1 : State) : ∃ m', execRootPllRelock x0 x1 = .next { x1 with m := m' } ∧ m'.id = x1.m.id := by
  refine ⟨_, rfl, ?_⟩
  simp [apply_ite Mach.id]
theorem execCrystalStop_id (x0 : State) : ∃ m', execCrystalStop x0 = .next { x0 with m := m' } ∧ m'.id = x0.m.id := by
  refine ⟨_, rfl, ?_⟩
  simp [apply_ite Mach.id]
theorem execCrystalReturn_id (x0 : State) : ∃ m', execCrystalReturn x0 = .next { x0 with m := m' } ∧ m'.id = x0.m.id := by
  refine ⟨_, rfl, ?_⟩
  simp
theorem execChPllLossOfLock_id (x0 : Act) (x1 : State) : ∃ m', execChPllLossOfLock x0 x1 = .next { x1 with m := m' } ∧ m'.id = x1.m.id := by
  refine ⟨_, rfl, ?_⟩
  simp
theorem execChPllRelock_id (x0 : Act) (x1 : State) : ∃ m', execChPllRelock x0 x1 = .next { x1 with m := m' } ∧ m'.id = x1.m.id := by
  refine ⟨_, rfl, ?_⟩
  simp [apply_ite Mach.id]
theorem execFreqKhzWrite_id (x0 : Act) (x1 : BitVec 22) (x2 : State) : ∃ m', execFreqKhzWrite x0 x1 x2 = .next { x2 with m := m' } ∧ m'.id = x2.m.id := by
  refine ⟨_, rfl, ?_⟩
  simp
theorem execFreqSettled_id (x0 : Act) (x1 : State) : ∃ m', execFreqSettled x0 x1 = .next { x1 with m := m' } ∧ m'.id = x1.m.id := by
  refine ⟨_, rfl, ?_⟩
  dsimp only
  split <;> simp [apply_ite Mach.id]
theorem execCrossingTransfer_id (x0 : BitVec 16) (x1 : Byte) (x2 : BitVec 64) (x3 : Bool) (x4 : State) : ∃ m', execCrossingTransfer x0 x1 x2 x3 x4 = .next { x4 with m := m' } ∧ m'.id = x4.m.id := by
  refine ⟨_, rfl, ?_⟩
  simp
@[simp] theorem tornAt_id (x0 : Group) (x1 : BitVec 16) (m2 : Mach) : (tornAt x0 x1 m2).id = m2.id := by simp [tornAt]
theorem execIslandTorn_id (x0 : BitVec 16) (x1 : State) : ∃ m', execIslandTorn x0 x1 = .next { x1 with m := m' } ∧ m'.id = x1.m.id := by
  refine ⟨_, rfl, ?_⟩
  dsimp only
  (repeat' split) <;> simp [*, apply_ite Mach.id]
theorem execGroupResetRelease_id (x0 : Group) (x1 : BitVec 24) (x2 : State) : ∃ m', execGroupResetRelease x0 x1 x2 = .next { x2 with m := m' } ∧ m'.id = x2.m.id := by
  refine ⟨_, rfl, ?_⟩
  dsimp only
  (repeat' split) <;> simp [*, apply_ite Mach.id]
theorem execHeadBusFrame_id (x0 : Act) (x1 : Frame) (x2 : List Ack) (x3 : State) : ∃ m', execHeadBusFrame x0 x1 x2 x3 = .next { x3 with m := m' } ∧ m'.id = x3.m.id := by
  refine ⟨_, rfl, ?_⟩
  simp [apply_ite Mach.id]
@[simp] theorem assistOver_id (x0 : Act) (m1 : Mach) : (assistOver x0 m1).id = m1.id := by simp [assistOver, apply_ite Mach.id]
@[simp] theorem statusActs_id (x0 : Act) (x1 : BitVec 8) (m2 : Mach) : (statusActs x0 x1 m2).id = m2.id := by simp [statusActs]
theorem execTelemetryPoll_id (x0 : Act) (x1 : BitVec 8) (x2 : BitVec 16) (x3 : BitVec 16) (x4 : BitVec 10) (x5 : Bool) (x6 : List Ack) (x7 : State) : ∃ m', execTelemetryPoll x0 x1 x2 x3 x4 x5 x6 x7 = .next { x7 with m := m' } ∧ m'.id = x7.m.id := by
  refine ⟨_, rfl, ?_⟩
  simp [apply_ite Mach.id]
@[simp] theorem hbctlGo_id (x0 : Act) (x1 : List Ack) (m2 : Mach) : (hbctlGo x0 x1 m2).id = m2.id := by simp [hbctlGo, apply_ite Mach.id]
theorem execHbctlGo_id (x0 : Act) (x1 : List Ack) (x2 : State) : ∃ m', execHbctlGo x0 x1 x2 = .next { x2 with m := m' } ∧ m'.id = x2.m.id := by
  refine ⟨_, rfl, ?_⟩
  simp [apply_ite Mach.id]
theorem execHeaterReady_id (x0 : Act) (x1 : State) : ∃ m', execHeaterReady x0 x1 = .next { x1 with m := m' } ∧ m'.id = x1.m.id := by
  refine ⟨_, rfl, ?_⟩
  simp [apply_ite Mach.id]
theorem execWusNAssert_id (x0 : Act) (x1 : BitVec 8) (x2 : State) : ∃ m', execWusNAssert x0 x1 x2 = .next { x2 with m := m' } ∧ m'.id = x2.m.id := by
  refine ⟨_, rfl, ?_⟩
  simp [apply_ite Mach.id]
theorem execAssistOtEnd_id (x0 : Act) (x1 : BitVec 16) (x2 : State) : ∃ m', execAssistOtEnd x0 x1 x2 = .next { x2 with m := m' } ∧ m'.id = x2.m.id := by
  refine ⟨_, rfl, ?_⟩
  simp [apply_ite Mach.id]
@[simp] theorem clearAstFault_id (x0 : Act) (x1 : BitVec 12) (m2 : Mach) : (clearAstFault x0 x1 m2).id = m2.id := by simp [clearAstFault]
theorem execAstfaultClear_id (x0 : Act) (x1 : BitVec 12) (x2 : State) : ∃ m', execAstfaultClear x0 x1 x2 = .next { x2 with m := m' } ∧ m'.id = x2.m.id := by
  refine ⟨_, rfl, ?_⟩
  simp
@[simp] theorem sensorLimit_id (x0 : Nat) (x1 : Nat) (x2 : Bool) (x3 : List Byte) (x4 : List Byte) (m5 : Mach) : (sensorLimit x0 x1 x2 x3 x4 m5).id = m5.id := by simp [sensorLimit, apply_ite Mach.id]
@[simp] theorem takeReadings_id (x0 x1 x2 x3 x4 x5 : BitVec 16) (m6 : Mach) : (takeReadings x0 x1 x2 x3 x4 x5 m6).id = m6.id := rfl
theorem execSensorSample_id (x0 : BitVec 16) (x1 : BitVec 16) (x2 : BitVec 16) (x3 : BitVec 16) (x4 : BitVec 16) (x5 : BitVec 16) (x6 : State) : ∃ m', execSensorSample x0 x1 x2 x3 x4 x5 x6 = .next { x6 with m := m' } ∧ m'.id = x6.m.id := by
  refine ⟨_, rfl, ?_⟩
  simp [apply_ite Mach.id]
theorem execWusNRelease_id (x0 : Act) (x1 : State) : ∃ m', execWusNRelease x0 x1 = .next { x1 with m := m' } ∧ m'.id = x1.m.id := by
  refine ⟨_, rfl, ?_⟩
  simp
@[simp] theorem ioOnly_id (x0 : NvCmd) (x1 : IoCmd) (m2 : Mach) : (ioOnly x0 x1 m2).id = m2.id := by simp [ioOnly, apply_ite Mach.id]
theorem execNvmeRead_id (x0 : NvCmd) (x1 : BitVec 32) (x2 : BitVec 64) (x3 : BitVec 17) (x4 : Prot) (x5 : State) : ∃ m', execNvmeRead x0 x1 x2 x3 x4 x5 = .next { x5 with m := m' } ∧ m'.id = x5.m.id := by
  refine ⟨_, rfl, ?_⟩
  simp
theorem execNvmeWrite_id (x0 : NvCmd) (x1 : BitVec 32) (x2 : BitVec 64) (x3 : Prot) (x4 : List (Sector × BitVec 128)) (x5 : State) : ∃ m', execNvmeWrite x0 x1 x2 x3 x4 x5 = .next { x5 with m := m' } ∧ m'.id = x5.m.id := by
  refine ⟨_, rfl, ?_⟩
  simp
theorem execNvmeZoneAppend_id (x0 : NvCmd) (x1 : BitVec 32) (x2 : BitVec 64) (x3 : Prot) (x4 : List (Sector × BitVec 128)) (x5 : State) : ∃ m', execNvmeZoneAppend x0 x1 x2 x3 x4 x5 = .next { x5 with m := m' } ∧ m'.id = x5.m.id := by
  refine ⟨_, rfl, ?_⟩
  simp
theorem execNvmeOpenZone_id (x0 : NvCmd) (x1 : BitVec 32) (x2 : BitVec 64) (x3 : Bool) (x4 : State) : ∃ m', execNvmeOpenZone x0 x1 x2 x3 x4 = .next { x4 with m := m' } ∧ m'.id = x4.m.id := by
  refine ⟨_, rfl, ?_⟩
  simp
theorem execNvmeCloseZone_id (x0 : NvCmd) (x1 : BitVec 32) (x2 : BitVec 64) (x3 : Bool) (x4 : State) : ∃ m', execNvmeCloseZone x0 x1 x2 x3 x4 = .next { x4 with m := m' } ∧ m'.id = x4.m.id := by
  refine ⟨_, rfl, ?_⟩
  simp
theorem execNvmeFinishZone_id (x0 : NvCmd) (x1 : BitVec 32) (x2 : BitVec 64) (x3 : Bool) (x4 : State) : ∃ m', execNvmeFinishZone x0 x1 x2 x3 x4 = .next { x4 with m := m' } ∧ m'.id = x4.m.id := by
  refine ⟨_, rfl, ?_⟩
  simp
theorem execNvmeResetZone_id (x0 : NvCmd) (x1 : BitVec 32) (x2 : BitVec 64) (x3 : Bool) (x4 : State) : ∃ m', execNvmeResetZone x0 x1 x2 x3 x4 = .next { x4 with m := m' } ∧ m'.id = x4.m.id := by
  refine ⟨_, rfl, ?_⟩
  simp
theorem execNvmeZoneManagementReceive_id (x0 : NvCmd) (x1 : BitVec 32) (x2 : BitVec 64) (x3 : State) : ∃ m', execNvmeZoneManagementReceive x0 x1 x2 x3 = .next { x3 with m := m' } ∧ m'.id = x3.m.id := by
  refine ⟨_, rfl, ?_⟩
  simp
theorem execNvmeDatasetManagement_id (x0 : NvCmd) (x1 : BitVec 32) (x2 : List (BitVec 64 × BitVec 32)) (x3 : State) : ∃ m', execNvmeDatasetManagement x0 x1 x2 x3 = .next { x3 with m := m' } ∧ m'.id = x3.m.id := by
  refine ⟨_, rfl, ?_⟩
  simp
theorem execNvmeWriteZeroes_id (x0 : NvCmd) (x1 : BitVec 32) (x2 : BitVec 64) (x3 : BitVec 17) (x4 : Prot) (x5 : State) : ∃ m', execNvmeWriteZeroes x0 x1 x2 x3 x4 x5 = .next { x5 with m := m' } ∧ m'.id = x5.m.id := by
  refine ⟨_, rfl, ?_⟩
  simp
theorem execNvmeCompare_id (x0 : NvCmd) (x1 : BitVec 32) (x2 : BitVec 64) (x3 : Prot) (x4 : List (Sector × BitVec 128)) (x5 : State) : ∃ m', execNvmeCompare x0 x1 x2 x3 x4 x5 = .next { x5 with m := m' } ∧ m'.id = x5.m.id := by
  refine ⟨_, rfl, ?_⟩
  simp
theorem execNvmeVerify_id (x0 : NvCmd) (x1 : BitVec 32) (x2 : BitVec 64) (x3 : BitVec 17) (x4 : Prot) (x5 : State) : ∃ m', execNvmeVerify x0 x1 x2 x3 x4 x5 = .next { x5 with m := m' } ∧ m'.id = x5.m.id := by
  refine ⟨_, rfl, ?_⟩
  simp
theorem execNvmeFlush_id (x0 : NvCmd) (x1 : BitVec 32) (x2 : State) : ∃ m', execNvmeFlush x0 x1 x2 = .next { x2 with m := m' } ∧ m'.id = x2.m.id := by
  refine ⟨_, rfl, ?_⟩
  simp
theorem execNvmeAbort_id (x0 : NvCmd) (x1 : BitVec 16) (x2 : BitVec 16) (x3 : State) : ∃ m', execNvmeAbort x0 x1 x2 x3 = .next { x3 with m := m' } ∧ m'.id = x3.m.id := by
  refine ⟨_, rfl, ?_⟩
  simp [apply_ite Mach.id]
theorem execMediaHoldExpiry_id (x0 : BitVec 48) (x1 : State) : ∃ m', execMediaHoldExpiry x0 x1 = .next { x1 with m := m' } ∧ m'.id = x1.m.id := by
  refine ⟨_, rfl, ?_⟩
  simp [apply_ite Mach.id]
@[simp] theorem answer_id (x0 : NvCmd) (x1 : Nat) (x2 : List Byte) (m3 : Mach) : (answer x0 x1 x2 m3).id = m3.id := by simp [answer]
@[simp] theorem opalChange_id (x0 : NvCmd) (x1 : Bool) (x2 : Opal → Opal) (m3 : Mach) : (opalChange x0 x1 x2 m3).id = m3.id := by simp [opalChange, apply_ite Mach.id]
@[simp] theorem revertRow_id (x0 : NvCmd) (x1 : Nat) (x2 : Nat) (x3 : List (BitVec 512)) (x4 : Bool) (x5 : Mach → Bool) (m6 : Mach) : (revertRow x0 x1 x2 x3 x4 x5 m6).id = m6.id := by simp [revertRow, apply_ite Mach.id]
@[simp] theorem rekeyRow_id (x0 : NvCmd) (x1 : Nat) (x2 : Nat) (x3 : List (BitVec 512)) (x4 : Bool) (m5 : Mach) : (rekeyRow x0 x1 x2 x3 x4 m5).id = m5.id := by simp [rekeyRow, apply_ite Mach.id]
theorem execNvmeSecuritySend_id (x0 : NvCmd) (x1 : Byte) (x2 : SecMsg) (x3 : State) : ∃ m', execNvmeSecuritySend x0 x1 x2 x3 = .next { x3 with m := m' } ∧ m'.id = x3.m.id := by
  refine ⟨_, rfl, ?_⟩
  dsimp only
  (repeat' split) <;> simp [*, apply_ite Mach.id]
theorem execNvmeSecurityReceive_id (x0 : NvCmd) (x1 : Byte) (x2 : State) : ∃ m', execNvmeSecurityReceive x0 x1 x2 = .next { x2 with m := m' } ∧ m'.id = x2.m.id := by
  refine ⟨_, rfl, ?_⟩
  first
    | refine adminRow_id _ _ _ (fun m => ?_)
    | refine service_id _ _ _ _ _ _ (fun m => ?_)
    | refine resvRow_id _ _ _ _ (fun r x m => ?_)
    | refine execWord_id _ _ _ _ (fun w m => ?_)
  dsimp only
  (repeat' split) <;> simp [apply_ite Mach.id]

end Sys2Proof.Machine
end

