-- ==== Sys2Proof/Laws/Identity4.lean ====
section
/-! SUPPORT. What one-time memory and the identity of the module are after each operation and command: unchanged, but for the raise of MIN_SVN (spec/17
R870 to R872, spec/18 R921). -/

set_option linter.unusedSimpArgs false

namespace Sys2Proof.Machine

theorem execOpalActivate_id (x0 : NvCmd) (x1 : Bool) (x2 : State) : ∃ m', execOpalActivate x0 x1 x2 = .next { x2 with m := m' } ∧ m'.id = x2.m.id := by
  refine ⟨_, rfl, ?_⟩
  simp [apply_ite Mach.id]
theorem execOpalRevert_id (x0 : NvCmd) (x1 : List (BitVec 512)) (x2 : Bool) (x3 : State) : ∃ m', execOpalRevert x0 x1 x2 x3 = .next { x3 with m := m' } ∧ m'.id = x3.m.id := by
  refine ⟨_, rfl, ?_⟩
  simp
theorem execOpalRevertsp_id (x0 : NvCmd) (x1 : List (BitVec 512)) (x2 : Bool) (x3 : State) : ∃ m', execOpalRevertsp x0 x1 x2 x3 = .next { x3 with m := m' } ∧ m'.id = x3.m.id := by
  refine ⟨_, rfl, ?_⟩
  simp
theorem execOpalGenkey_id (x0 : NvCmd) (x1 : BitVec 4) (x2 : List (BitVec 512)) (x3 : Bool) (x4 : State) : ∃ m', execOpalGenkey x0 x1 x2 x3 x4 = .next { x4 with m := m' } ∧ m'.id = x4.m.id := by
  refine ⟨_, rfl, ?_⟩
  simp
theorem execOpalErase_id (x0 : NvCmd) (x1 : BitVec 4) (x2 : List (BitVec 512)) (x3 : Bool) (x4 : State) : ∃ m', execOpalErase x0 x1 x2 x3 x4 = .next { x4 with m := m' } ∧ m'.id = x4.m.id := by
  refine ⟨_, rfl, ?_⟩
  simp
theorem execOpalGet_id (x0 : NvCmd) (x1 : OpalGet) (x2 : State) : ∃ m', execOpalGet x0 x1 x2 = .next { x2 with m := m' } ∧ m'.id = x2.m.id := by
  refine ⟨_, rfl, ?_⟩
  simp [apply_ite Mach.id]
theorem execOpalSet_id (x0 : NvCmd) (x1 : OpalSet) (x2 : Bool) (x3 : State) : ∃ m', execOpalSet x0 x1 x2 x3 = .next { x3 with m := m' } ∧ m'.id = x3.m.id := by
  refine ⟨_, rfl, ?_⟩
  simp [apply_ite Mach.id]
theorem execOpalAuthenticate_id (x0 : NvCmd) (x1 : BitVec 5) (x2 : List Byte) (x3 : State) : ∃ m', execOpalAuthenticate x0 x1 x2 x3 = .next { x3 with m := m' } ∧ m'.id = x3.m.id := by
  refine ⟨_, rfl, ?_⟩
  first
    | refine adminRow_id _ _ _ (fun m => ?_)
    | refine service_id _ _ _ _ _ _ (fun m => ?_)
    | refine resvRow_id _ _ _ _ (fun r x m => ?_)
    | refine execWord_id _ _ _ _ (fun w m => ?_)
  dsimp only
  (repeat' split) <;> simp [apply_ite Mach.id]
@[simp] theorem randomBytes_id (x0 : Nat) (m1 : Mach) : (randomBytes x0 m1).2.id = m1.id := by
  induction x0 generalizing m1 with
  | zero => simp [randomBytes]
  | succ n ih =>
    unfold randomBytes
    (repeat' (first | with_reducible rfl | assumption | (simp; done) | (simp [*]; done) | (intro _) | (rw [foldl_id]) | (rw [foldl_fst_id]) | split | dsimp only | simp))
theorem execOpalRandom_id (x0 : NvCmd) (x1 : BitVec 16) (x2 : State) : ∃ m', execOpalRandom x0 x1 x2 = .next { x2 with m := m' } ∧ m'.id = x2.m.id := by
  refine ⟨_, rfl, ?_⟩
  simp [apply_ite Mach.id]
theorem execI3cDynamicAddress_id (x0 : BitVec 7) (x1 : State) : ∃ m', execI3cDynamicAddress x0 x1 = .next { x1 with m := m' } ∧ m'.id = x1.m.id := by
  refine ⟨_, rfl, ?_⟩
  simp
theorem execRstdaa_id (x0 : State) : ∃ m', execRstdaa x0 = .next { x0 with m := m' } ∧ m'.id = x0.m.id := by
  refine ⟨_, rfl, ?_⟩
  simp
theorem execActLedHoldExpiry_id (x0 : State) : ∃ m', execActLedHoldExpiry x0 = .next { x0 with m := m' } ∧ m'.id = x0.m.id := by
  refine ⟨_, rfl, ?_⟩
  simp [apply_ite Mach.id]
theorem execVbulk60vCrossing_id (x0 : BitVec 16) (x1 : State) : ∃ m', execVbulk60vCrossing x0 x1 = .next { x1 with m := m' } ∧ m'.id = x1.m.id := by
  refine ⟨_, rfl, ?_⟩
  simp
@[simp] theorem secondCounts_id (x0 : SecondMeas) (m1 : Mach) : (secondCounts x0 m1).id = m1.id := by simp [secondCounts]
theorem execOperatingTimeTick_id (x0 : SecondMeas) (x1 : State) : ∃ m', execOperatingTimeTick x0 x1 = .next { x1 with m := m' } ∧ m'.id = x1.m.id := by
  refine ⟨_, rfl, ?_⟩
  simp
theorem execSetFeaturesApst_id (x0 : NvCmd) (x1 : Bool) (x2 : State) : ∃ m', execSetFeaturesApst x0 x1 x2 = .next { x2 with m := m' } ∧ m'.id = x2.m.id := by
  refine ⟨_, rfl, ?_⟩
  simp
@[simp] theorem takePowerState_id (x0 : Nat) (m1 : Mach) : (takePowerState x0 m1).id = m1.id := by simp [takePowerState, apply_ite Mach.id]
theorem execSetFeaturesPowerManagement_id (x0 : NvCmd) (x1 : BitVec 5) (x2 : State) : ∃ m', execSetFeaturesPowerManagement x0 x1 x2 = .next { x2 with m := m' } ∧ m'.id = x2.m.id := by
  refine ⟨_, rfl, ?_⟩
  simp [apply_ite Mach.id]
theorem execSubmissionFetch_id (x0 : NvCmd) (x1 : State) : ∃ m', execSubmissionFetch x0 x1 = .next { x1 with m := m' } ∧ m'.id = x1.m.id := by
  refine ⟨_, rfl, ?_⟩
  simp [apply_ite Mach.id]
theorem execCapsuleReceive_id (x0 : NvCmd) (x1 : State) : ∃ m', execCapsuleReceive x0 x1 = .next { x1 with m := m' } ∧ m'.id = x1.m.id := by
  refine ⟨_, rfl, ?_⟩
  simp [apply_ite Mach.id]
theorem execCompletionPost_id (x0 : NvCmd) (x1 : State) : ∃ m', execCompletionPost x0 x1 = .next { x1 with m := m' } ∧ m'.id = x1.m.id := by
  refine ⟨_, rfl, ?_⟩
  simp
theorem execCompletionQueueHeadDoorbell_id (x0 : Act) (x1 : BitVec 16) (x2 : BitVec 16) (x3 : BitVec 16) (x4 : State) : ∃ m', execCompletionQueueHeadDoorbell x0 x1 x2 x3 x4 = .next { x4 with m := m' } ∧ m'.id = x4.m.id := by
  refine ⟨_, rfl, ?_⟩
  simp [apply_ite Mach.id]
theorem execAsynchronousEventRequest_id (x0 : NvCmd) (x1 : State) : ∃ m', execAsynchronousEventRequest x0 x1 = .next { x1 with m := m' } ∧ m'.id = x1.m.id := by
  refine ⟨_, rfl, ?_⟩
  refine adminRow_id _ _ _ (fun m => ?_)
  (repeat' split) <;> simp
theorem execCreateIoQueue_id (x0 : NvCmd) (x1 : Bool) (x2 : BitVec 16) (x3 : BitVec 16) (x4 : BitVec 16) (x5 : Prio) (x6 : State) : ∃ m', execCreateIoQueue x0 x1 x2 x3 x4 x5 x6 = .next { x6 with m := m' } ∧ m'.id = x6.m.id := by
  refine ⟨_, rfl, ?_⟩
  refine adminRow_id _ _ _ (fun m => ?_)
  (repeat' split) <;> simp
theorem execDeleteIoQueue_id (x0 : NvCmd) (x1 : Bool) (x2 : BitVec 16) (x3 : State) : ∃ m', execDeleteIoQueue x0 x1 x2 x3 = .next { x3 with m := m' } ∧ m'.id = x3.m.id := by
  refine ⟨_, rfl, ?_⟩
  first
    | refine adminRow_id _ _ _ (fun m => ?_)
    | refine service_id _ _ _ _ _ _ (fun m => ?_)
    | refine resvRow_id _ _ _ _ (fun r x m => ?_)
    | refine execWord_id _ _ _ _ (fun w m => ?_)
  dsimp only
  (repeat' split) <;> simp [apply_ite Mach.id]
theorem execReservationRegister_id (x0 : NvCmd) (x1 : BitVec 32) (x2 : BitVec 3) (x3 : Bool) (x4 : BitVec 2) (x5 : BitVec 64) (x6 : BitVec 64) (x7 : State) : ∃ m', execReservationRegister x0 x1 x2 x3 x4 x5 x6 x7 = .next { x7 with m := m' } ∧ m'.id = x7.m.id := by
  refine ⟨_, rfl, ?_⟩
  refine resvRow_id _ _ _ _ (fun r x m => ?_)
  (repeat' split) <;> simp
theorem execReservationAcquire_id (x0 : NvCmd) (x1 : BitVec 32) (x2 : BitVec 8) (x3 : BitVec 8) (x4 : BitVec 64) (x5 : BitVec 64) (x6 : State) : ∃ m', execReservationAcquire x0 x1 x2 x3 x4 x5 x6 = .next { x6 with m := m' } ∧ m'.id = x6.m.id := by
  refine ⟨_, rfl, ?_⟩
  first
    | refine adminRow_id _ _ _ (fun m => ?_)
    | refine service_id _ _ _ _ _ _ (fun m => ?_)
    | refine resvRow_id _ _ _ _ (fun r x m => ?_)
    | refine execWord_id _ _ _ _ (fun w m => ?_)
  dsimp only
  (repeat' split) <;> simp [apply_ite Mach.id]
theorem execReservationRelease_id (x0 : NvCmd) (x1 : BitVec 32) (x2 : BitVec 8) (x3 : BitVec 8) (x4 : BitVec 64) (x5 : State) : ∃ m', execReservationRelease x0 x1 x2 x3 x4 x5 = .next { x5 with m := m' } ∧ m'.id = x5.m.id := by
  refine ⟨_, rfl, ?_⟩
  refine resvRow_id _ _ _ _ (fun r x m => ?_)
  (repeat' split) <;> simp
theorem execControllerEnable_id (x0 : Act) (x1 : BitVec 16) (x2 : HostCfg) (x3 : State) : ∃ m', execControllerEnable x0 x1 x2 x3 = .next { x3 with m := m' } ∧ m'.id = x3.m.id := by
  refine ⟨_, rfl, ?_⟩
  dsimp only
  split <;> simp [apply_ite Mach.id]
theorem execControllerDisable_id (x0 : Act) (x1 : BitVec 16) (x2 : State) : ∃ m', execControllerDisable x0 x1 x2 = .next { x2 with m := m' } ∧ m'.id = x2.m.id := by
  refine ⟨_, rfl, ?_⟩
  simp [apply_ite Mach.id]
theorem execShutdownNotification_id (x0 : Act) (x1 : BitVec 16) (x2 : State) : ∃ m', execShutdownNotification x0 x1 x2 = .next { x2 with m := m' } ∧ m'.id = x2.m.id := by
  refine ⟨_, rfl, ?_⟩
  dsimp only
  split <;> simp [apply_ite Mach.id]
theorem execNvmeKeepAlive_id (x0 : NvCmd) (x1 : State) : ∃ m', execNvmeKeepAlive x0 x1 = .next { x1 with m := m' } ∧ m'.id = x1.m.id := by
  refine ⟨_, rfl, ?_⟩
  simp
theorem execKeepAliveTimeout_id (x0 : Act) (x1 : BitVec 16) (x2 : State) : ∃ m', execKeepAliveTimeout x0 x1 x2 = .next { x2 with m := m' } ∧ m'.id = x2.m.id := by
  refine ⟨_, rfl, ?_⟩
  simp [apply_ite Mach.id]
theorem execNvmeConnect_id (x0 : NvCmd) (x1 : BitVec 16) (x2 : BitVec 128) (x3 : State) : ∃ m', execNvmeConnect x0 x1 x2 x3 = .next { x3 with m := m' } ∧ m'.id = x3.m.id := by
  refine ⟨_, rfl, ?_⟩
  dsimp only
  (repeat' split) <;> simp [*, apply_ite Mach.id]
theorem execWatchdogRefresh_id (x0 : State) : ∃ m', execWatchdogRefresh x0 = .next { x0 with m := m' } ∧ m'.id = x0.m.id := by
  refine ⟨_, rfl, ?_⟩
  simp [apply_ite Mach.id]
theorem execWatchdogExpiry_id (x0 : State) : ∃ m', execWatchdogExpiry x0 = .next { x0 with m := m' } ∧ m'.id = x0.m.id := by
  refine ⟨_, rfl, ?_⟩
  simp [apply_ite Mach.id]
theorem execFenceConfirmed_id (x0 : BitVec 9) (x1 : State) : ∃ m', execFenceConfirmed x0 x1 = .next { x1 with m := m' } ∧ m'.id = x1.m.id := by
  refine ⟨_, rfl, ?_⟩
  dsimp only
  split <;> simp [apply_ite Mach.id]
theorem execTakeoverComplete_id (x0 : BitVec 16) (x1 : State) : ∃ m', execTakeoverComplete x0 x1 = .next { x1 with m := m' } ∧ m'.id = x1.m.id := by
  refine ⟨_, rfl, ?_⟩
  simp
theorem execFeStatus_id (x0 : Hdr) (x1 : State) : ∃ m', execFeStatus x0 x1 = .next { x1 with m := m' } ∧ m'.id = x1.m.id := by
  refine ⟨_, rfl, ?_⟩
  simp
theorem execFeTakeover_id (x0 : Hdr) (x1 : State) : ∃ m', execFeTakeover x0 x1 = .next { x1 with m := m' } ∧ m'.id = x1.m.id := by
  refine ⟨_, rfl, ?_⟩
  simp [apply_ite Mach.id]
theorem execPerstAssert_id (x0 : Act) (x1 : State) : ∃ m', execPerstAssert x0 x1 = .next { x1 with m := m' } ∧ m'.id = x1.m.id := by
  refine ⟨_, rfl, ?_⟩
  simp [apply_ite Mach.id]
theorem execPerstRelease_id (x0 : Act) (x1 : State) : ∃ m', execPerstRelease x0 x1 = .next { x1 with m := m' } ∧ m'.id = x1.m.id := by
  refine ⟨_, rfl, ?_⟩
  simp [apply_ite Mach.id]
theorem execLinkUp_id (x0 : Act) (x1 : BitVec 4) (x2 : BitVec 4) (x3 : State) : ∃ m', execLinkUp x0 x1 x2 x3 = .next { x3 with m := m' } ∧ m'.id = x3.m.id := by
  refine ⟨_, rfl, ?_⟩
  simp [apply_ite Mach.id]
theorem execLinkDown_id (x0 : Act) (x1 : State) : ∃ m', execLinkDown x0 x1 = .next { x1 with m := m' } ∧ m'.id = x1.m.id := by
  refine ⟨_, rfl, ?_⟩
  simp
theorem execPhyPllLoss_id (x0 : Act) (x1 : State) : ∃ m', execPhyPllLoss x0 x1 = .next { x1 with m := m' } ∧ m'.id = x1.m.id := by
  refine ⟨_, rfl, ?_⟩
  simp [apply_ite Mach.id]
theorem execPhyPllRelock_id (x0 : Act) (x1 : State) : ∃ m', execPhyPllRelock x0 x1 = .next { x1 with m := m' } ∧ m'.id = x1.m.id := by
  refine ⟨_, rfl, ?_⟩
  simp [apply_ite Mach.id]
@[simp] theorem countCycle_id (m0 : Mach) : (countCycle m0).id = m0.id := by simp [countCycle]
@[simp] theorem lossRestart_id (m0 : Mach) : (lossRestart m0).id = m0.id := by simp [lossRestart]
theorem execInputKindClassify_id (x0 : Bool) (x1 : BitVec 16) (x2 : BitVec 16) (x3 : State) : ∃ m', execInputKindClassify x0 x1 x2 x3 = .next { x3 with m := m' } ∧ m'.id = x3.m.id := by
  refine ⟨_, rfl, ?_⟩
  simp [apply_ite Mach.id]
theorem execPfcStart_id (x0 : BitVec 16) (x1 : State) : ∃ m', execPfcStart x0 x1 = .next { x1 with m := m' } ∧ m'.id = x1.m.id := by
  refine ⟨_, rfl, ?_⟩
  simp [apply_ite Mach.id]
@[simp] theorem vinSeen_id (x0 : BitVec 16) (m1 : Mach) : (vinSeen x0 m1).id = m1.id := by simp [vinSeen, apply_ite Mach.id]
theorem execInputOutOfRange_id (x0 : BitVec 16) (x1 : BitVec 16) (x2 : State) : ∃ m', execInputOutOfRange x0 x1 x2 = .next { x2 with m := m' } ∧ m'.id = x2.m.id := by
  refine ⟨_, rfl, ?_⟩
  simp [apply_ite Mach.id]
theorem execInputOvervoltage_id (x0 : BitVec 16) (x1 : State) : ∃ m', execInputOvervoltage x0 x1 = .next { x1 with m := m' } ∧ m'.id = x1.m.id := by
  refine ⟨_, rfl, ?_⟩
  simp [apply_ite Mach.id]
theorem execPrechargeBypass_id (x0 : BitVec 16) (x1 : State) : ∃ m', execPrechargeBypass x0 x1 = .next { x1 with m := m' } ∧ m'.id = x1.m.id := by
  refine ⟨_, rfl, ?_⟩
  simp [apply_ite Mach.id]
theorem execLlcStart_id (x0 : BitVec 16) (x1 : BitVec 16) (x2 : State) : ∃ m', execLlcStart x0 x1 x2 = .next { x2 with m := m' } ∧ m'.id = x2.m.id := by
  refine ⟨_, rfl, ?_⟩
  simp [apply_ite Mach.id]
theorem execInputAbsentTimeout_id (x0 : BitVec 16) (x1 : BitVec 16) (x2 : State) : ∃ m', execInputAbsentTimeout x0 x1 x2 = .next { x2 with m := m' } ∧ m'.id = x2.m.id := by
  refine ⟨_, rfl, ?_⟩
  simp [apply_ite Mach.id]
theorem execVbulkBelow330_id (x0 : BitVec 16) (x1 : State) : ∃ m', execVbulkBelow330 x0 x1 = .next { x1 with m := m' } ∧ m'.id = x1.m.id := by
  refine ⟨_, rfl, ?_⟩
  simp [apply_ite Mach.id]
theorem execInputDropout_id (x0 : BitVec 16) (x1 : State) : ∃ m', execInputDropout x0 x1 = .next { x1 with m := m' } ∧ m'.id = x1.m.id := by
  refine ⟨_, rfl, ?_⟩
  simp [apply_ite Mach.id]
theorem execVbulkBelow180_id (x0 : BitVec 16) (x1 : State) : ∃ m', execVbulkBelow180 x0 x1 = .next { x1 with m := m' } ∧ m'.id = x1.m.id := by
  refine ⟨_, rfl, ?_⟩
  simp [apply_ite Mach.id]
theorem execPowerLossSequenceEnd_id (x0 : State) : ∃ m', execPowerLossSequenceEnd x0 = .next { x0 with m := m' } ∧ m'.id = x0.m.id := by
  refine ⟨_, rfl, ?_⟩
  simp [apply_ite Mach.id]
theorem execBulkcapStart_id (x0 : BitVec 16) (x1 : State) : ∃ m', execBulkcapStart x0 x1 = .next { x1 with m := m' } ∧ m'.id = x1.m.id := by
  refine ⟨_, rfl, ?_⟩
  simp [apply_ite Mach.id]
theorem execBulkcapComplete_id (x0 : BitVec 16) (x1 : State) : ∃ m', execBulkcapComplete x0 x1 = .next { x1 with m := m' } ∧ m'.id = x1.m.id := by
  refine ⟨_, rfl, ?_⟩
  simp [apply_ite Mach.id]
theorem execBulkcapAbandon_id (x0 : AbandonReason) (x1 : State) : ∃ m', execBulkcapAbandon x0 x1 = .next { x1 with m := m' } ∧ m'.id = x1.m.id := by
  refine ⟨_, rfl, ?_⟩
  simp [apply_ite Mach.id]
theorem execBrakeChopperGate_id (x0 : BitVec 16) (x1 : BitVec 20) (x2 : State) : ∃ m', execBrakeChopperGate x0 x1 x2 = .next { x2 with m := m' } ∧ m'.id = x2.m.id := by
  refine ⟨_, rfl, ?_⟩
  simp [apply_ite Mach.id]
theorem execBrakeChopperRelease_id (x0 : BitVec 16) (x1 : BitVec 20) (x2 : State) : ∃ m', execBrakeChopperRelease x0 x1 x2 = .next { x2 with m := m' } ∧ m'.id = x2.m.id := by
  refine ⟨_, rfl, ?_⟩
  simp [apply_ite Mach.id]
theorem execChopperFault_id (x0 : BitVec 16) (x1 : BitVec 16) (x2 : BitVec 20) (x3 : State) : ∃ m', execChopperFault x0 x1 x2 x3 = .next { x3 with m := m' } ∧ m'.id = x3.m.id := by
  refine ⟨_, rfl, ?_⟩
  simp [apply_ite Mach.id]
theorem execChopperWithhold_id (x0 : BitVec 16) (x1 : BitVec 20) (x2 : State) : ∃ m', execChopperWithhold x0 x1 x2 = .next { x2 with m := m' } ∧ m'.id = x2.m.id := by
  refine ⟨_, rfl, ?_⟩
  simp
theorem execChopperUnwithhold_id (x0 : BitVec 16) (x1 : BitVec 20) (x2 : State) : ∃ m', execChopperUnwithhold x0 x1 x2 = .next { x2 with m := m' } ∧ m'.id = x2.m.id := by
  refine ⟨_, rfl, ?_⟩
  simp
theorem execVmotOvpTrip_id (x0 : BitVec 16) (x1 : BitVec 20) (x2 : State) : ∃ m', execVmotOvpTrip x0 x1 x2 = .next { x2 with m := m' } ∧ m'.id = x2.m.id := by
  refine ⟨_, rfl, ?_⟩
  simp [apply_ite Mach.id]
theorem execVmotOvpRelease_id (x0 : BitVec 16) (x1 : BitVec 20) (x2 : State) : ∃ m', execVmotOvpRelease x0 x1 x2 = .next { x2 with m := m' } ∧ m'.id = x2.m.id := by
  refine ⟨_, rfl, ?_⟩
  simp [apply_ite Mach.id]
theorem execFaultClr_id (x0 : State) : ∃ m', execFaultClr x0 = .next { x0 with m := m' } ∧ m'.id = x0.m.id := by
  refine ⟨_, rfl, ?_⟩
  simp [apply_ite Mach.id]
theorem execRailFault_id (x0 : Byte) (x1 : Rail) (x2 : BitVec 16) (x3 : State) : ∃ m', execRailFault x0 x1 x2 x3 = .next { x3 with m := m' } ∧ m'.id = x3.m.id := by
  refine ⟨_, rfl, ?_⟩
  dsimp only
  split <;> simp [apply_ite Mach.id]
@[simp] theorem railReset_id (x0 : Group) (m1 : Mach) : (railReset x0 m1).id = m1.id := by
  unfold railReset
  split <;> simp [apply_ite Mach.id]
theorem execRailRecoveryReset_id (x0 : Rail) (x1 : State) : ∃ m', execRailRecoveryReset x0 x1 = .next { x1 with m := m' } ∧ m'.id = x1.m.id := by
  refine ⟨_, rfl, ?_⟩
  dsimp only
  split <;> simp [apply_ite Mach.id]
theorem execLifeCounterPersist_id (x0 : State) : ∃ m', execLifeCounterPersist x0 = .next { x0 with m := m' } ∧ m'.id = x0.m.id := by
  refine ⟨_, rfl, ?_⟩
  simp
theorem execEventReport_id (x0 : BitVec 16) (x1 : Byte) (x2 : Byte) (x3 : BitVec 24) (x4 : List Byte) (x5 : State) : ∃ m', execEventReport x0 x1 x2 x3 x4 x5 = .next { x5 with m := m' } ∧ m'.id = x5.m.id := by
  refine ⟨_, rfl, ?_⟩
  simp
theorem execEventNorProgram_id (x0 : Bool) (x1 : State) : ∃ m', execEventNorProgram x0 x1 = .next { x1 with m := m' } ∧ m'.id = x1.m.id := by
  refine ⟨_, rfl, ?_⟩
  dsimp only
  split <;> simp [apply_ite Mach.id]
theorem execEventSectorRewrite_id (x0 : BitVec 7) (x1 : NorOutcome) (x2 : State) : ∃ m', execEventSectorRewrite x0 x1 x2 = .next { x2 with m := m' } ∧ m'.id = x2.m.id := by
  refine ⟨_, rfl, ?_⟩
  dsimp only
  (repeat' split) <;> simp [*, apply_ite Mach.id]
theorem execEvrRead_id (x0 : Hdr) (x1 : State) : ∃ m', execEvrRead x0 x1 = .next { x1 with m := m' } ∧ m'.id = x1.m.id := by
  refine ⟨_, rfl, ?_⟩
  simp
theorem execEvrStatus_id (x0 : Hdr) (x1 : State) : ∃ m', execEvrStatus x0 x1 = .next { x1 with m := m' } ∧ m'.id = x1.m.id := by
  refine ⟨_, rfl, ?_⟩
  simp
theorem execEvrChallenge_id (x0 : Hdr) (x1 : State) : ∃ m', execEvrChallenge x0 x1 = .next { x1 with m := m' } ∧ m'.id = x1.m.id := by
  refine ⟨_, rfl, ?_⟩
  simp
theorem execEvrClear_id (x0 : Hdr) (x1 : List Byte) (x2 : State) : ∃ m', execEvrClear x0 x1 x2 = .next { x2 with m := m' } ∧ m'.id = x2.m.id := by
  refine ⟨_, rfl, ?_⟩
  simp [apply_ite Mach.id]
theorem execEvrSetPolicy_id (x0 : Hdr) (x1 : State) : ∃ m', execEvrSetPolicy x0 x1 = .next { x1 with m := m' } ∧ m'.id = x1.m.id := by
  refine ⟨_, rfl, ?_⟩
  simp
theorem execArmRead_id (x0 : Hdr) (x1 : State) : ∃ m', execArmRead x0 x1 = .next { x1 with m := m' } ∧ m'.id = x1.m.id := by
  refine ⟨_, rfl, ?_⟩
  simp
theorem execArmWrite_id (x0 : Hdr) (x1 : State) : ∃ m', execArmWrite x0 x1 = .next { x1 with m := m' } ∧ m'.id = x1.m.id := by
  refine ⟨_, rfl, ?_⟩
  simp
@[simp] theorem takeRequest_id (x0 : Transport) (x1 : Bool) (x2 : List Byte) (m3 : Mach) : (takeRequest x0 x1 x2 m3).1.id = m3.id := by
  unfold takeRequest
  dsimp only
  (repeat' split) <;> simp [*, apply_ite Mach.id]
@[simp] theorem dropReq_id (x0 : Transport) (x1 : Reg) (m2 : Mach) : (dropReq x0 x1 m2).id = m2.id := by simp [dropReq]
@[simp] theorem retrieve_id (x0 : Transport) (x1 : Nat) (x2 : Reg) (m3 : Mach) : (retrieve x0 x1 x2 m3).2.id = m3.id := by
  unfold retrieve
  (repeat' split) <;> simp [apply_ite Mach.id]
@[simp] theorem uartError_id (m0 : Mach) : (uartError m0).id = m0.id := by simp [uartError]
@[simp] theorem uartServe_id (x0 : Nat) (m1 : Mach) : (uartServe x0 m1).id = m1.id := by
  induction x0 generalizing m1 with
  | zero => simp [uartServe]
  | succ n ih =>
    unfold uartServe
    (repeat' (first | with_reducible rfl | assumption | (simp; done) | (simp [*]; done) | (intro _) | (rw [foldl_id]) | (rw [foldl_fst_id]) | split | dsimp only | simp))
theorem execDestageRun_id (x0 : Act) (x1 : BitVec 48) (x2 : State) : ∃ m', execDestageRun x0 x1 x2 = .next { x2 with m := m' } ∧ m'.id = x2.m.id := by
  refine ⟨_, rfl, ?_⟩
  simp
theorem execDirectRewriteTimeout_id (x0 : Act) (x1 : BitVec 6) (x2 : State) : ∃ m', execDirectRewriteTimeout x0 x1 x2 = .next { x2 with m := m' } ∧ m'.id = x2.m.id := by
  refine ⟨_, rfl, ?_⟩
  simp
theorem execCleaning_id (x0 : Act) (x1 : BitVec 6) (x2 : BitVec 2) (x3 : State) : ∃ m', execCleaning x0 x1 x2 x3 = .next { x3 with m := m' } ∧ m'.id = x3.m.id := by
  refine ⟨_, rfl, ?_⟩
  dsimp only
  (repeat' split) <;> simp [*, apply_ite Mach.id]
theorem execCleaningJournalComplete_id (x0 : Act) (x1 : BitVec 6) (x2 : State) : ∃ m', execCleaningJournalComplete x0 x1 x2 = .next { x2 with m := m' } ∧ m'.id = x2.m.id := by
  refine ⟨_, rfl, ?_⟩
  dsimp only
  split <;> simp [apply_ite Mach.id]
theorem execPorchScan_id (x0 : Act) (x1 : BitVec 6) (x2 : BitVec 32) (x3 : State) : ∃ m', execPorchScan x0 x1 x2 x3 = .next { x3 with m := m' } ∧ m'.id = x3.m.id := by
  refine ⟨_, rfl, ?_⟩
  dsimp only
  split <;> simp [apply_ite Mach.id]
theorem execTrackVerify_id (x0 : Act) (x1 : BitVec 48) (x2 : State) : ∃ m', execTrackVerify x0 x1 x2 = .next { x2 with m := m' } ∧ m'.id = x2.m.id := by
  refine ⟨_, rfl, ?_⟩
  simp
theorem execReservedCopyRepair_id (x0 : Act) (x1 : BitVec 4) (x2 : Byte) (x3 : Bool) (x4 : State) : ∃ m', execReservedCopyRepair x0 x1 x2 x3 x4 = .next { x4 with m := m' } ∧ m'.id = x4.m.id := by
  refine ⟨_, rfl, ?_⟩
  simp [apply_ite Mach.id]
theorem execVaultHeaderProgram_id (x0 : BitVec 32) (x1 : BitVec 16) (x2 : BitVec 16) (x3 : Bool) (x4 : State) : ∃ m', execVaultHeaderProgram x0 x1 x2 x3 x4 = .next { x4 with m := m' } ∧ m'.id = x4.m.id := by
  refine ⟨_, rfl, ?_⟩
  dsimp only
  split <;> simp [apply_ite Mach.id]
theorem execPageProgramFail_id (x0 : BitVec 1) (x1 : BitVec 2) (x2 : BitVec 11) (x3 : State) : ∃ m', execPageProgramFail x0 x1 x2 x3 = .next { x3 with m := m' } ∧ m'.id = x3.m.id := by
  refine ⟨_, rfl, ?_⟩
  simp [apply_ite Mach.id]
@[simp] theorem forgetImages_id (m0 : Mach) : (forgetImages m0).id = m0.id := by simp [forgetImages]
theorem execVaultBlockErase_id (x0 : Bool) (x1 : State) : ∃ m', execVaultBlockErase x0 x1 = .next { x1 with m := m' } ∧ m'.id = x1.m.id := by
  refine ⟨_, rfl, ?_⟩
  dsimp only
  (repeat' split) <;> simp [*, apply_ite Mach.id]
theorem execProtectionLost_id (x0 : State) : ∃ m', execProtectionLost x0 = .next { x0 with m := m' } ∧ m'.id = x0.m.id := by
  refine ⟨_, rfl, ?_⟩
  simp [apply_ite Mach.id]
theorem execProtectionReturn_id (x0 : State) : ∃ m', execProtectionReturn x0 = .next { x0 with m := m' } ∧ m'.id = x0.m.id := by
  refine ⟨_, rfl, ?_⟩
  simp
@[simp] theorem stage9_id (m0 : Mach) : (stage9 m0).id = m0.id := by simp [stage9, apply_ite Mach.id]
theorem execVaultReplay_id (x0 : Bool) (x1 : BitVec 17) (x2 : State) : ∃ m', execVaultReplay x0 x1 x2 = .next { x2 with m := m' } ∧ m'.id = x2.m.id := by
  refine ⟨_, rfl, ?_⟩
  dsimp only
  (repeat' split) <;> simp [*, apply_ite Mach.id]
theorem execVaultStatus_id (x0 : Hdr) (x1 : State) : ∃ m', execVaultStatus x0 x1 = .next { x1 with m := m' } ∧ m'.id = x1.m.id := by
  refine ⟨_, rfl, ?_⟩
  simp
theorem execVaultExport_id (x0 : Hdr) (x1 : State) : ∃ m', execVaultExport x0 x1 = .next { x1 with m := m' } ∧ m'.id = x1.m.id := by
  refine ⟨_, rfl, ?_⟩
  refine service_id _ _ _ _ _ _ (fun m => ?_)
  (repeat' split) <;> simp
theorem execVaultDiscard_id (x0 : Hdr) (x1 : State) : ∃ m', execVaultDiscard x0 x1 = .next { x1 with m := m' } ∧ m'.id = x1.m.id := by
  refine ⟨_, rfl, ?_⟩
  simp
theorem execVaultAcceptLoss_id (x0 : Hdr) (x1 : State) : ∃ m', execVaultAcceptLoss x0 x1 = .next { x1 with m := m' } ∧ m'.id = x1.m.id := by
  refine ⟨_, rfl, ?_⟩
  simp
@[simp] theorem importEnd_id (x0 : Hdr) (x1 : List Byte) (m2 : Mach) : (importEnd x0 x1 m2).id = m2.id := by
  unfold importEnd
  split <;> simp [apply_ite Mach.id]
theorem execVaultImport_id (x0 : Hdr) (x1 : List Byte) (x2 : State) : ∃ m', execVaultImport x0 x1 x2 = .next { x2 with m := m' } ∧ m'.id = x2.m.id := by
  refine ⟨_, rfl, ?_⟩
  simp [apply_ite Mach.id]
theorem execVaultTest_id (x0 : Hdr) (x1 : BitVec 16) (x2 : List (BitVec 1 × BitVec 2 × BitVec 11)) (x3 : State) : ∃ m', execVaultTest x0 x1 x2 x3 = .next { x3 with m := m' } ∧ m'.id = x3.m.id := by
  refine ⟨_, rfl, ?_⟩
  simp [apply_ite Mach.id]
@[simp] theorem storeFail_id (x0 : Act) (x1 : Nat) (m2 : Mach) : (storeFail x0 x1 m2).id = m2.id := by simp [storeFail]
@[simp] theorem wordBoundary_id (x0 : Act) (m1 : Mach) : (wordBoundary x0 m1).id = m1.id := by
  unfold wordBoundary
  dsimp only
  (repeat' split) <;> simp [*, apply_ite Mach.id]
@[simp] theorem wordEnd_id (x0 : Act) (x1 : Nat) (x2 : BitVec 12) (m3 : Mach) : (wordEnd x0 x1 x2 m3).id = m3.id := by simp [wordEnd]
@[simp] theorem wordNext_id (x0 : Act) (x1 : BitVec 32) (m2 : Mach) : (wordNext x0 x1 m2).id = m2.id := by simp [wordNext]
@[simp] theorem wordDo_id (x0 : Act) (x1 : BitVec 32) (x2 : Cfx → Cfx) (m3 : Mach) : (wordDo x0 x1 x2 m3).id = m3.id := by simp [wordDo]
@[simp] theorem wordJump_id (x0 : Act) (x1 : BitVec 32) (x2 : Bool) (x3 : BitVec 12) (m4 : Mach) : (wordJump x0 x1 x2 x3 m4).id = m4.id := by simp [wordJump]
@[simp] theorem wordStall_id (x0 : Act) (x1 : Stall) (x2 : BitVec 32) (m3 : Mach) : (wordStall x0 x1 x2 m3).id = m3.id := by simp [wordStall]
@[simp] theorem execWord_id (x0 : Act) (x1 : Nat → Bool) (x2 : BitVec 32 → Mach → Mach) (m3 : Mach) (h2 : ∀ x m, (x2 x m).id = m.id) : (execWord x0 x1 x2 m3).id = m3.id := by
  unfold execWord
  dsimp only
  (repeat' split) <;> simp [*, apply_ite Mach.id]
theorem execCfxNop_id (x0 : Act) (x1 : State) : ∃ m', execCfxNop x0 x1 = .next { x1 with m := m' } ∧ m'.id = x1.m.id := by
  refine ⟨_, rfl, ?_⟩
  simp
theorem execCfxWait_id (x0 : Act) (x1 : State) : ∃ m', execCfxWait x0 x1 = .next { x1 with m := m' } ∧ m'.id = x1.m.id := by
  refine ⟨_, rfl, ?_⟩
  simp
theorem execCfxWaitev_id (x0 : Act) (x1 : State) : ∃ m', execCfxWaitev x0 x1 = .next { x1 with m := m' } ∧ m'.id = x1.m.id := by
  refine ⟨_, rfl, ?_⟩
  simp [apply_ite Mach.id]
theorem execCfxJmp_id (x0 : Act) (x1 : State) : ∃ m', execCfxJmp x0 x1 = .next { x1 with m := m' } ∧ m'.id = x1.m.id := by
  refine ⟨_, rfl, ?_⟩
  simp
theorem execCfxJcc_id (x0 : Act) (x1 : State) : ∃ m', execCfxJcc x0 x1 = .next { x1 with m := m' } ∧ m'.id = x1.m.id := by
  refine ⟨_, rfl, ?_⟩
  simp [apply_ite Mach.id]
theorem execCfxCall_id (x0 : Act) (x1 : State) : ∃ m', execCfxCall x0 x1 = .next { x1 with m := m' } ∧ m'.id = x1.m.id := by
  refine ⟨_, rfl, ?_⟩
  simp [apply_ite Mach.id]
theorem execCfxRet_id (x0 : Act) (x1 : State) : ∃ m', execCfxRet x0 x1 = .next { x1 with m := m' } ∧ m'.id = x1.m.id := by
  refine ⟨_, rfl, ?_⟩
  refine execWord_id _ _ _ _ (fun w m => ?_)
  (repeat' split) <;> simp
theorem execCfxDecjnz_id (x0 : Act) (x1 : State) : ∃ m', execCfxDecjnz x0 x1 = .next { x1 with m := m' } ∧ m'.id = x1.m.id := by
  refine ⟨_, rfl, ?_⟩
  simp
theorem execCfxTrap_id (x0 : Act) (x1 : State) : ∃ m', execCfxTrap x0 x1 = .next { x1 with m := m' } ∧ m'.id = x1.m.id := by
  refine ⟨_, rfl, ?_⟩
  simp
theorem execCfxHalt_id (x0 : Act) (x1 : State) : ∃ m', execCfxHalt x0 x1 = .next { x1 with m := m' } ∧ m'.id = x1.m.id := by
  refine ⟨_, rfl, ?_⟩
  simp [apply_ite Mach.id]
theorem execCfxIrq_id (x0 : Act) (x1 : State) : ∃ m', execCfxIrq x0 x1 = .next { x1 with m := m' } ∧ m'.id = x1.m.id := by
  refine ⟨_, rfl, ?_⟩
  simp
theorem execCfxLoadc_id (x0 : Act) (x1 : State) : ∃ m', execCfxLoadc x0 x1 = .next { x1 with m := m' } ∧ m'.id = x1.m.id := by
  refine ⟨_, rfl, ?_⟩
  simp
theorem execCfxAddc_id (x0 : Act) (x1 : State) : ∃ m', execCfxAddc x0 x1 = .next { x1 with m := m' } ∧ m'.id = x1.m.id := by
  refine ⟨_, rfl, ?_⟩
  simp
theorem execCfxCmpc_id (x0 : Act) (x1 : State) : ∃ m', execCfxCmpc x0 x1 = .next { x1 with m := m' } ∧ m'.id = x1.m.id := by
  refine ⟨_, rfl, ?_⟩
  simp
theorem execCfxSetf_id (x0 : Act) (x1 : State) : ∃ m', execCfxSetf x0 x1 = .next { x1 with m := m' } ∧ m'.id = x1.m.id := by
  refine ⟨_, rfl, ?_⟩
  simp
@[simp] theorem openSector_id (x0 : Act) (x1 : Bool) (m2 : Mach) : (openSector x0 x1 m2).id = m2.id := by simp [openSector, apply_ite Mach.id]
@[simp] theorem driveGates_id (x0 : Act) (x1 : BitVec 32) (x2 : Bool) (m3 : Mach) : (driveGates x0 x1 x2 m3).id = m3.id := by simp [driveGates, apply_ite Mach.id]
@[simp] theorem cutWrite_id (x0 : Act) (m1 : Mach) : (cutWrite x0 m1).id = m1.id := by simp [cutWrite]
@[simp] theorem gateWord_id (x0 : Act) (x1 : BitVec 32) (m2 : Mach) : (gateWord x0 x1 m2).id = m2.id := by
  unfold gateWord
  dsimp only
  split <;> simp [apply_ite Mach.id]
theorem execCfxGate_id (x0 : Act) (x1 : State) : ∃ m', execCfxGate x0 x1 = .next { x1 with m := m' } ∧ m'.id = x1.m.id := by
  refine ⟨_, rfl, ?_⟩
  simp
@[simp] theorem startSelect_id (x0 : Act) (x1 : Nat) (x2 : Nat) (x3 : Bool) (x4 : List Ack) (x5 : List Ack) (m6 : Mach) : (startSelect x0 x1 x2 x3 x4 x5 m6).id = m6.id := by simp [startSelect, apply_ite Mach.id]
theorem execCfxHead_id (x0 : Act) (x1 : List Ack) (x2 : List Ack) (x3 : State) : ∃ m', execCfxHead x0 x1 x2 x3 = .next { x3 with m := m' } ∧ m'.id = x3.m.id := by
  refine ⟨_, rfl, ?_⟩
  simp [apply_ite Mach.id]
theorem execCfxRegion_id (x0 : Act) (x1 : List Ack) (x2 : State) : ∃ m', execCfxRegion x0 x1 x2 = .next { x2 with m := m' } ∧ m'.id = x2.m.id := by
  refine ⟨_, rfl, ?_⟩
  simp [apply_ite Mach.id]
theorem execCfxOntrack_id (x0 : Act) (x1 : State) : ∃ m', execCfxOntrack x0 x1 = .next { x1 with m := m' } ∧ m'.id = x1.m.id := by
  refine ⟨_, rfl, ?_⟩
  simp [apply_ite Mach.id]
theorem execCfxSync_id (x0 : Act) (x1 : State) : ∃ m', execCfxSync x0 x1 = .next { x1 with m := m' } ∧ m'.id = x1.m.id := by
  refine ⟨_, rfl, ?_⟩
  simp [apply_ite Mach.id]
@[simp] theorem takeResult_id (x0 : Act) (x1 : Nat) (x2 : Sec) (x3 : Reg) (m4 : Mach) : (takeResult x0 x1 x2 x3 m4).id = m4.id := by simp [takeResult]
theorem execCfxDecres_id (x0 : Act) (x1 : State) : ∃ m', execCfxDecres x0 x1 = .next { x1 with m := m' } ∧ m'.id = x1.m.id := by
  refine ⟨_, rfl, ?_⟩
  refine execWord_id _ _ _ _ (fun w m => ?_)
  (repeat' split) <;> simp
theorem execCfxXfer_id (x0 : Act) (x1 : State) : ∃ m', execCfxXfer x0 x1 = .next { x1 with m := m' } ∧ m'.id = x1.m.id := by
  refine ⟨_, rfl, ?_⟩
  first
    | refine adminRow_id _ _ _ (fun m => ?_)
    | refine service_id _ _ _ _ _ _ (fun m => ?_)
    | refine resvRow_id _ _ _ _ (fun r x m => ?_)
    | refine execWord_id _ _ _ _ (fun w m => ?_)
  dsimp only
  (repeat' split) <;> simp [apply_ite Mach.id]
@[simp] theorem fetchNext_id (x0 : Act) (m1 : Mach) : (fetchNext x0 m1).1.id = m1.id := by
  unfold fetchNext
  dsimp only
  (repeat' split) <;> simp [*, apply_ite Mach.id]
theorem execCfxFetch_id (x0 : Act) (x1 : State) : ∃ m', execCfxFetch x0 x1 = .next { x1 with m := m' } ∧ m'.id = x1.m.id := by
  refine ⟨_, rfl, ?_⟩
  simp [apply_ite Mach.id]
theorem execCfxSkipdef_id (x0 : Act) (x1 : State) : ∃ m', execCfxSkipdef x0 x1 = .next { x1 with m := m' } ∧ m'.id = x1.m.id := by
  refine ⟨_, rfl, ?_⟩
  simp [apply_ite Mach.id]
theorem execCfxAlign_id (x0 : Act) (x1 : State) : ∃ m', execCfxAlign x0 x1 = .next { x1 with m := m' } ∧ m'.id = x1.m.id := by
  refine ⟨_, rfl, ?_⟩
  simp
theorem execCfxPreheat_id (x0 : Act) (x1 : State) : ∃ m', execCfxPreheat x0 x1 = .next { x1 with m := m' } ∧ m'.id = x1.m.id := by
  refine ⟨_, rfl, ?_⟩
  simp
theorem execCfxMark_id (x0 : Act) (x1 : State) : ∃ m', execCfxMark x0 x1 = .next { x1 with m := m' } ∧ m'.id = x1.m.id := by
  refine ⟨_, rfl, ?_⟩
  simp
theorem execCfxStat_id (x0 : Act) (x1 : State) : ∃ m', execCfxStat x0 x1 = .next { x1 with m := m' } ∧ m'.id = x1.m.id := by
  refine ⟨_, rfl, ?_⟩
  simp
@[simp] theorem stallAct_id (x0 : Act) (x1 : Nat) (x2 : Option (BitVec 7 × BitVec 24 × BitVec 24)) (m3 : Mach) (x4 : Stall) : (stallAct x0 x1 x2 m3 x4).id = m3.id := by
  unfold stallAct
  (repeat' split) <;> simp [apply_ite Mach.id]
theorem execStallEnd_id (x0 : Act) (x1 : BitVec 24) (x2 : Option (BitVec 7 × BitVec 24 × BitVec 24)) (x3 : State) : ∃ m', execStallEnd x0 x1 x2 x3 = .next { x3 with m := m' } ∧ m'.id = x3.m.id := by
  refine ⟨_, rfl, ?_⟩
  dsimp only
  (repeat' split) <;> simp [*, apply_ite Mach.id]
theorem execWaitevTimeout_id (x0 : Act) (x1 : State) : ∃ m', execWaitevTimeout x0 x1 = .next { x1 with m := m' } ∧ m'.id = x1.m.id := by
  refine ⟨_, rfl, ?_⟩
  dsimp only
  split <;> simp [apply_ite Mach.id]
theorem execTposAnchor_id (x0 : Act) (x1 : BitVec 7) (x2 : BitVec 24) (x3 : State) : ∃ m', execTposAnchor x0 x1 x2 x3 = .next { x3 with m := m' } ∧ m'.id = x3.m.id := by
  refine ⟨_, rfl, ?_⟩
  simp [apply_ite Mach.id]
theorem execGateCountExpiry_id (x0 : Act) (x1 : State) : ∃ m', execGateCountExpiry x0 x1 = .next { x1 with m := m' } ∧ m'.id = x1.m.id := by
  refine ⟨_, rfl, ?_⟩
  dsimp only
  split <;> simp [apply_ite Mach.id]
theorem execSectorGateClose_id (x0 : Act) (x1 : BitVec 24) (x2 : State) : ∃ m', execSectorGateClose x0 x1 x2 = .next { x2 with m := m' } ∧ m'.id = x2.m.id := by
  refine ⟨_, rfl, ?_⟩
  simp [apply_ite Mach.id]
theorem execOperationDispatch_id (x0 : Act) (x1 : BitVec 24) (x2 : State) : ∃ m', execOperationDispatch x0 x1 x2 = .next { x2 with m := m' } ∧ m'.id = x2.m.id := by
  refine ⟨_, rfl, ?_⟩
  dsimp only
  (repeat' split) <;> simp [*, apply_ite Mach.id]
theorem execAbortRequest_id (x0 : Act) (x1 : State) : ∃ m', execAbortRequest x0 x1 = .next { x1 with m := m' } ∧ m'.id = x1.m.id := by
  refine ⟨_, rfl, ?_⟩
  simp
theorem execOpTmoExpiry_id (x0 : Act) (x1 : State) : ∃ m', execOpTmoExpiry x0 x1 = .next { x1 with m := m' } ∧ m'.id = x1.m.id := by
  refine ⟨_, rfl, ?_⟩
  simp [apply_ite Mach.id]
@[simp] theorem remapRow_id (x0 : Act) (x1 : Nat) (m2 : Mach) : (remapRow x0 x1 m2).id = m2.id := by
  unfold remapRow
  dsimp only
  split <;> simp [apply_ite Mach.id]
@[simp] theorem scrubCorrected_id (x0 : Act) (x1 : Nat) (x2 : BitVec 32) (m3 : Mach) : (scrubCorrected x0 x1 x2 m3).id = m3.id := by simp [scrubCorrected, apply_ite Mach.id]
@[simp] theorem regionRamFail_id (x0 : Act) (x1 : Byte) (x2 : Byte) (m3 : Mach) : (regionRamFail x0 x1 x2 m3).id = m3.id := by simp [regionRamFail]
@[simp] theorem servoRamFail_id (x0 : Act) (x1 : Byte) (x2 : BitVec 16) (m3 : Mach) : (servoRamFail x0 x1 x2 m3).id = m3.id := by simp [servoRamFail]

end Sys2Proof.Machine
end

