-- ==== Sys2Proof/Laws/Identity5.lean ====
section
/-! SUPPORT. What one-time memory and the identity of the module are after each operation and command: unchanged, but for the raise of MIN_SVN (spec/17
R870 to R872, spec/18 R921). -/

set_option linter.unusedSimpArgs false

namespace Sys2Proof.Machine

@[simp] theorem scrubRow_id (x0 : Act) (x1 : Nat) (x2 : EccFind) (m3 : Mach) : (scrubRow x0 x1 x2 m3).id = m3.id := by
  unfold scrubRow
  dsimp only
  (repeat' split) <;> simp [*, apply_ite Mach.id]
theorem execStoreScrub_id (x0 : Act) (x1 : ScrubSite) (x2 : EccFind) (x3 : BitVec 16) (x4 : State) : ∃ m', execStoreScrub x0 x1 x2 x3 x4 = .next { x4 with m := m' } ∧ m'.id = x4.m.id := by
  refine ⟨_, rfl, ?_⟩
  dsimp only
  (repeat' split) <;> simp [*, apply_ite Mach.id]
@[simp] theorem storeDataWrite_id (x0 : Act) (x1 : BitVec 32) (m2 : Mach) : (storeDataWrite x0 x1 m2).id = m2.id := by simp [storeDataWrite, apply_ite Mach.id]
theorem execStoredataWrite_id (x0 : Act) (x1 : BitVec 32) (x2 : State) : ∃ m', execStoredataWrite x0 x1 x2 = .next { x2 with m := m' } ∧ m'.id = x2.m.id := by
  refine ⟨_, rfl, ?_⟩
  simp
theorem execCfxLoad_id (x0 : Hdr) (x1 : List Byte) (x2 : State) : ∃ m', execCfxLoad x0 x1 x2 = .next { x2 with m := m' } ∧ m'.id = x2.m.id := by
  refine ⟨_, rfl, ?_⟩
  simp [apply_ite Mach.id]
theorem execCfxStatus_id (x0 : Hdr) (x1 : State) : ∃ m', execCfxStatus x0 x1 = .next { x1 with m := m' } ∧ m'.id = x1.m.id := by
  refine ⟨_, rfl, ?_⟩
  simp
theorem execServiceRequestSubmit_id (x0 : NvCmd) (x1 : BitVec 32) (x2 : List Byte) (x3 : State) : ∃ m', execServiceRequestSubmit x0 x1 x2 x3 = .next { x3 with m := m' } ∧ m'.id = x3.m.id := by
  refine ⟨_, rfl, ?_⟩
  simp
theorem execServiceReplyRetrieve_id (x0 : NvCmd) (x1 : BitVec 32) (x2 : BitVec 32) (x3 : State) : ∃ m', execServiceReplyRetrieve x0 x1 x2 x3 = .next { x3 with m := m' } ∧ m'.id = x3.m.id := by
  refine ⟨_, rfl, ?_⟩
  first
    | refine adminRow_id _ _ _ (fun m => ?_)
    | refine service_id _ _ _ _ _ _ (fun m => ?_)
    | refine resvRow_id _ _ _ _ (fun r x m => ?_)
    | refine execWord_id _ _ _ _ (fun w m => ?_)
  dsimp only
  (repeat' split) <;> simp [apply_ite Mach.id]
theorem execMctpRequest_id (x0 : BitVec 16) (x1 : Byte) (x2 : Bool) (x3 : List Byte) (x4 : State) : ∃ m', execMctpRequest x0 x1 x2 x3 x4 = .next { x4 with m := m' } ∧ m'.id = x4.m.id := by
  refine ⟨_, rfl, ?_⟩
  simp [apply_ite Mach.id]
theorem execUartFrame_id (x0 : List Byte) (x1 : State) : ∃ m', execUartFrame x0 x1 = .next { x1 with m := m' } ∧ m'.id = x1.m.id := by
  refine ⟨_, rfl, ?_⟩
  simp [apply_ite Mach.id]
theorem execUartByteGapTimeout_id (x0 : State) : ∃ m', execUartByteGapTimeout x0 = .next { x0 with m := m' } ∧ m'.id = x0.m.id := by
  refine ⟨_, rfl, ?_⟩
  simp [apply_ite Mach.id]
theorem execReplyDiscard_id (x0 : BitVec 16) (x1 : BitVec 32) (x2 : State) : ∃ m', execReplyDiscard x0 x1 x2 = .next { x2 with m := m' } ∧ m'.id = x2.m.id := by
  refine ⟨_, rfl, ?_⟩
  dsimp only
  split <;> simp [apply_ite Mach.id]
theorem execAuthChallenge_id (x0 : Hdr) (x1 : State) : ∃ m', execAuthChallenge x0 x1 = .next { x1 with m := m' } ∧ m'.id = x1.m.id := by
  refine ⟨_, rfl, ?_⟩
  simp
theorem execAuthOpen_id (x0 : Hdr) (x1 : List Byte) (x2 : State) : ∃ m', execAuthOpen x0 x1 x2 = .next { x2 with m := m' } ∧ m'.id = x2.m.id := by
  refine ⟨_, rfl, ?_⟩
  simp [apply_ite Mach.id]
theorem execAuthClose_id (x0 : Hdr) (x1 : State) : ∃ m', execAuthClose x0 x1 = .next { x1 with m := m' } ∧ m'.id = x1.m.id := by
  refine ⟨_, rfl, ?_⟩
  simp
theorem execSessionIdleClose_id (x0 : BitVec 32) (x1 : State) : ∃ m', execSessionIdleClose x0 x1 = .next { x1 with m := m' } ∧ m'.id = x1.m.id := by
  refine ⟨_, rfl, ?_⟩
  simp
theorem execAuthLockoutEnd_id (x0 : Transport) (x1 : State) : ∃ m', execAuthLockoutEnd x0 x1 = .next { x1 with m := m' } ∧ m'.id = x1.m.id := by
  refine ⟨_, rfl, ?_⟩
  simp
theorem execIdentifyModule_id (x0 : Hdr) (x1 : State) : ∃ m', execIdentifyModule x0 x1 = .next { x1 with m := m' } ∧ m'.id = x1.m.id := by
  refine ⟨_, rfl, ?_⟩
  simp [apply_ite Mach.id]
theorem execGetMode_id (x0 : Hdr) (x1 : State) : ∃ m', execGetMode x0 x1 = .next { x1 with m := m' } ∧ m'.id = x1.m.id := by
  refine ⟨_, rfl, ?_⟩
  simp
theorem execGetHealth_id (x0 : Hdr) (x1 : State) : ∃ m', execGetHealth x0 x1 = .next { x1 with m := m' } ∧ m'.id = x1.m.id := by
  refine ⟨_, rfl, ?_⟩
  simp
@[simp] theorem shutCancel_id (m0 : Mach) : (shutCancel m0).id = m0.id := by simp [shutCancel]
@[simp] theorem standbyLeft_id (x0 : Mode) (m1 : Mach) : (standbyLeft x0 m1).id = m1.id := by simp [standbyLeft, apply_ite Mach.id]
@[simp] theorem operateAgain_id (x0 : Mode) (m1 : Mach) : (operateAgain x0 m1).id = m1.id := by simp [operateAgain, apply_ite Mach.id]
@[simp] theorem takeTarget_id (x0 : Mode) (m1 : Mach) : (takeTarget x0 m1).id = m1.id := by simp [takeTarget, apply_ite Mach.id]
theorem execSetMode_id (x0 : Hdr) (x1 : State) : ∃ m', execSetMode x0 x1 = .next { x1 with m := m' } ∧ m'.id = x1.m.id := by
  refine ⟨_, rfl, ?_⟩
  dsimp only
  split <;> simp [apply_ite Mach.id]
@[simp] theorem awaitReset_id (x0 : Hdr) (x1 : Nat) (m2 : Mach) : (awaitReset x0 x1 m2).id = m2.id := by simp [awaitReset]
@[simp] theorem resetPort_id (x0 : Act) (m1 : Mach) : (resetPort x0 m1).id = m1.id := by simp [resetPort, apply_ite Mach.id]
theorem execResetGroup_id (x0 : Hdr) (x1 : State) : ∃ m', execResetGroup x0 x1 = .next { x1 with m := m' } ∧ m'.id = x1.m.id := by
  refine ⟨_, rfl, ?_⟩
  split
  all_goals
    refine service_id _ _ _ _ _ _ (fun m => ?_)
    (repeat' split) <;> simp [apply_ite Mach.id]
theorem execDiagCrossStatus_id (x0 : Hdr) (x1 : State) : ∃ m', execDiagCrossStatus x0 x1 = .next { x1 with m := m' } ∧ m'.id = x1.m.id := by
  refine ⟨_, rfl, ?_⟩
  simp
@[simp] theorem memtestClear_id (x0 : Nat) (m1 : Mach) : (memtestClear x0 m1).id = m1.id := by simp [memtestClear]
@[simp] theorem memtestMend_id (x0 : Nat) (m1 : Mach) : (memtestMend x0 m1).id = m1.id := by
  unfold memtestMend
  (repeat' (first | with_reducible rfl | assumption | (simp; done) | (simp [*]; done) | (intro _) | (rw [foldl_id]) | (rw [foldl_fst_id]) | split | dsimp only | simp))
theorem execDiagMemtest_id (x0 : Hdr) (x1 : BitVec 64) (x2 : BitVec 64) (x3 : State) : ∃ m', execDiagMemtest x0 x1 x2 x3 = .next { x3 with m := m' } ∧ m'.id = x3.m.id := by
  refine ⟨_, rfl, ?_⟩
  simp [apply_ite Mach.id]
@[simp] theorem injectRow_id (x0 : Act) (x1 : Nat) (x2 : Bool) (x3 : Nat) (m4 : Mach) : (injectRow x0 x1 x2 x3 m4).id = m4.id := by simp [injectRow]
theorem execDiagEccInject_id (x0 : Hdr) (x1 : State) : ∃ m', execDiagEccInject x0 x1 = .next { x1 with m := m' } ∧ m'.id = x1.m.id := by
  refine ⟨_, rfl, ?_⟩
  dsimp only
  split <;> simp [apply_ite Mach.id]
theorem execQueueEntry_id (x0 : Act) (x1 : BitVec 48) (x2 : State) : ∃ m', execQueueEntry x0 x1 x2 = .next { x2 with m := m' } ∧ m'.id = x2.m.id := by
  refine ⟨_, rfl, ?_⟩
  simp
theorem execSpeculationStart_id (x0 : Act) (x1 : BitVec 48) (x2 : BitVec 2) (x3 : State) : ∃ m', execSpeculationStart x0 x1 x2 x3 = .next { x3 with m := m' } ∧ m'.id = x3.m.id := by
  refine ⟨_, rfl, ?_⟩
  dsimp only
  (repeat' split) <;> simp [*, apply_ite Mach.id]
theorem execOperationComplete_id (x0 : Act) (x1 : BitVec 48) (x2 : BitVec 32) (x3 : State) : ∃ m', execOperationComplete x0 x1 x2 x3 = .next { x3 with m := m' } ∧ m'.id = x3.m.id := by
  refine ⟨_, rfl, ?_⟩
  simp
theorem execAgeCapDouble_id (x0 : Act) (x1 : BitVec 48) (x2 : State) : ∃ m', execAgeCapDouble x0 x1 x2 = .next { x2 with m := m' } ∧ m'.id = x2.m.id := by
  refine ⟨_, rfl, ?_⟩
  simp
theorem execCleaningWindow_id (x0 : Act) (x1 : BitVec 48) (x2 : BitVec 32) (x3 : BitVec 32) (x4 : State) : ∃ m', execCleaningWindow x0 x1 x2 x3 x4 = .next { x4 with m := m' } ∧ m'.id = x4.m.id := by
  refine ⟨_, rfl, ?_⟩
  simp
theorem execCleanStarved_id (x0 : Act) (x1 : State) : ∃ m', execCleanStarved x0 x1 = .next { x1 with m := m' } ∧ m'.id = x1.m.id := by
  refine ⟨_, rfl, ?_⟩
  simp [apply_ite Mach.id]
theorem execPs1DutyUpdate_id (x0 : BitVec 24) (x1 : State) : ∃ m', execPs1DutyUpdate x0 x1 = .next { x1 with m := m' } ∧ m'.id = x1.m.id := by
  refine ⟨_, rfl, ?_⟩
  simp [apply_ite Mach.id]
theorem execPs1CapFail_id (x0 : BitVec 24) (x1 : State) : ∃ m', execPs1CapFail x0 x1 = .next { x1 with m := m' } ∧ m'.id = x1.m.id := by
  refine ⟨_, rfl, ?_⟩
  simp [apply_ite Mach.id]
@[simp] theorem handOff_id (x0 : Act) (x1 : Nat) (x2 : SrvCtl) (m3 : Mach) : (handOff x0 x1 x2 m3).id = m3.id := by simp [handOff, apply_ite Mach.id]
@[simp] theorem microSat_id (x0 : Act) (m1 : Mach) : (microSat x0 m1).id = m1.id := by simp [microSat, apply_ite Mach.id]
@[simp] theorem loadRro_id (x0 : Act) (x1 : BitVec 12) (m2 : Mach) : (loadRro x0 x1 m2).id = m2.id := by simp [loadRro, apply_ite Mach.id]
@[simp] theorem enterFollow_id (x0 : Act) (x1 : BitVec 12) (m2 : Mach) : (enterFollow x0 x1 m2).id = m2.id := by simp [enterFollow]
@[simp] theorem settleTest_id (x0 : Act) (x1 : BitVec 12) (m2 : Mach) : (settleTest x0 x1 m2).id = m2.id := by simp [settleTest, apply_ite Mach.id]
@[simp] theorem seekTest_id (x0 : Act) (x1 : Int) (m2 : Mach) : (seekTest x0 x1 m2).id = m2.id := by simp [seekTest, apply_ite Mach.id]
@[simp] theorem onTrack_id (x0 : Act) (m1 : Mach) : (onTrack x0 m1).id = m1.id := by simp [onTrack]
@[simp] theorem offTrackTest_id (x0 : Act) (m1 : Mach) : (offTrackTest x0 m1).id = m1.id := by simp [offTrackTest, apply_ite Mach.id]
theorem execPositionCycle_id (x0 : Act) (x1 : BitVec 8) (x2 : Int) (x3 : Int) (x4 : BitVec 16) (x5 : BitVec 12) (x6 : State) : ∃ m', execPositionCycle x0 x1 x2 x3 x4 x5 x6 = .next { x6 with m := m' } ∧ m'.id = x6.m.id := by
  refine ⟨_, rfl, ?_⟩
  dsimp only
  split <;> simp [apply_ite Mach.id]
theorem execCurrentLoopSample_id (x0 : Act) (x1 : Int) (x2 : Bool) (x3 : State) : ∃ m', execCurrentLoopSample x0 x1 x2 x3 = .next { x3 with m := m' } ∧ m'.id = x3.m.id := by
  refine ⟨_, rfl, ?_⟩
  dsimp only
  split <;> simp [apply_ite Mach.id]
theorem execBankSelect_id (x0 : Act) (x1 : Loop) (x2 : State) : ∃ m', execBankSelect x0 x1 x2 = .next { x2 with m := m' } ∧ m'.id = x2.m.id := by
  refine ⟨_, rfl, ?_⟩
  dsimp only
  split <;> simp [apply_ite Mach.id]
theorem execSeekTimeout_id (x0 : Act) (x1 : State) : ∃ m', execSeekTimeout x0 x1 = .next { x1 with m := m' } ∧ m'.id = x1.m.id := by
  refine ⟨_, rfl, ?_⟩
  simp [apply_ite Mach.id]
theorem execSettleTimeout_id (x0 : Act) (x1 : State) : ∃ m', execSettleTimeout x0 x1 = .next { x1 with m := m' } ∧ m'.id = x1.m.id := by
  refine ⟨_, rfl, ?_⟩
  simp [apply_ite Mach.id]
theorem execLoadAttemptFail_id (x0 : Act) (x1 : BitVec 8) (x2 : State) : ∃ m', execLoadAttemptFail x0 x1 x2 = .next { x2 with m := m' } ∧ m'.id = x2.m.id := by
  refine ⟨_, rfl, ?_⟩
  simp [apply_ite Mach.id]
@[simp] theorem afterOpen_id (x0 : Act) (m1 : Mach) : (afterOpen x0 m1).id = m1.id := by simp [afterOpen, apply_ite Mach.id]
theorem execUnloadComplete_id (x0 : Act) (x1 : State) : ∃ m', execUnloadComplete x0 x1 = .next { x1 with m := m' } ∧ m'.id = x1.m.id := by
  refine ⟨_, rfl, ?_⟩
  simp [apply_ite Mach.id]
theorem execHoldEnd_id (x0 : Act) (x1 : BitVec 8) (x2 : State) : ∃ m', execHoldEnd x0 x1 x2 = .next { x2 with m := m' } ∧ m'.id = x2.m.id := by
  refine ⟨_, rfl, ?_⟩
  dsimp only
  (repeat' split) <;> simp [*, apply_ite Mach.id]
theorem execRetractComplete_id (x0 : Act) (x1 : State) : ∃ m', execRetractComplete x0 x1 = .next { x1 with m := m' } ∧ m'.id = x1.m.id := by
  refine ⟨_, rfl, ?_⟩
  simp [apply_ite Mach.id]
theorem execReloadAfterRetract_id (x0 : Act) (x1 : State) : ∃ m', execReloadAfterRetract x0 x1 = .next { x1 with m := m' } ∧ m'.id = x1.m.id := by
  refine ⟨_, rfl, ?_⟩
  simp [apply_ite Mach.id]
theorem execShockRet_id (x0 : Act) (x1 : BitVec 16) (x2 : State) : ∃ m', execShockRet x0 x1 x2 = .next { x2 with m := m' } ∧ m'.id = x2.m.id := by
  refine ⟨_, rfl, ?_⟩
  simp [apply_ite Mach.id]
theorem execShockWi_id (x0 : Act) (x1 : BitVec 16) (x2 : State) : ∃ m', execShockWi x0 x1 x2 = .next { x2 with m := m' } ∧ m'.id = x2.m.id := by
  refine ⟨_, rfl, ?_⟩
  simp [apply_ite Mach.id]
theorem execShockHoldExpiry_id (x0 : Act) (x1 : State) : ∃ m', execShockHoldExpiry x0 x1 = .next { x1 with m := m' } ∧ m'.id = x1.m.id := by
  refine ⟨_, rfl, ?_⟩
  simp [apply_ite Mach.id]
@[simp] theorem saveTables_id (x0 : Act) (m1 : Mach) : (saveTables x0 m1).id = m1.id := by simp [saveTables]
@[simp] theorem clearTable_id (x0 : Act) (m1 : Mach) : (clearTable x0 m1).id = m1.id := by simp [clearTable]
theorem execRroctlSave_id (x0 : Act) (x1 : State) : ∃ m', execRroctlSave x0 x1 = .next { x1 with m := m' } ∧ m'.id = x1.m.id := by
  refine ⟨_, rfl, ?_⟩
  simp [apply_ite Mach.id]
theorem execRroctlClear_id (x0 : Act) (x1 : State) : ∃ m', execRroctlClear x0 x1 = .next { x1 with m := m' } ∧ m'.id = x1.m.id := by
  refine ⟨_, rfl, ?_⟩
  simp
theorem execTclr_id (x0 : Act) (x1 : State) : ∃ m', execTclr x0 x1 = .next { x1 with m := m' } ∧ m'.id = x1.m.id := by
  refine ⟨_, rfl, ?_⟩
  simp
theorem execSrvGetState_id (x0 : Hdr) (x1 : State) : ∃ m', execSrvGetState x0 x1 = .next { x1 with m := m' } ∧ m'.id = x1.m.id := by
  refine ⟨_, rfl, ?_⟩
  simp
theorem execSrvLoadBank_id (x0 : Hdr) (x1 : List Byte) (x2 : State) : ∃ m', execSrvLoadBank x0 x1 x2 = .next { x2 with m := m' } ∧ m'.id = x2.m.id := by
  refine ⟨_, rfl, ?_⟩
  simp
theorem execSrvSelectBank_id (x0 : Hdr) (x1 : State) : ∃ m', execSrvSelectBank x0 x1 = .next { x1 with m := m' } ∧ m'.id = x1.m.id := by
  refine ⟨_, rfl, ?_⟩
  simp
theorem execSrvOpenLoop_id (x0 : Hdr) (x1 : State) : ∃ m', execSrvOpenLoop x0 x1 = .next { x1 with m := m' } ∧ m'.id = x1.m.id := by
  refine ⟨_, rfl, ?_⟩
  simp [apply_ite Mach.id]
theorem execSrvCloseLoop_id (x0 : Hdr) (x1 : State) : ∃ m', execSrvCloseLoop x0 x1 = .next { x1 with m := m' } ∧ m'.id = x1.m.id := by
  refine ⟨_, rfl, ?_⟩
  simp [apply_ite Mach.id]
theorem execSrvRroControl_id (x0 : Hdr) (x1 : State) : ∃ m', execSrvRroControl x0 x1 = .next { x1 with m := m' } ∧ m'.id = x1.m.id := by
  refine ⟨_, rfl, ?_⟩
  dsimp only
  split <;> simp [apply_ite Mach.id]
theorem execSrvSetCurrent_id (x0 : Hdr) (x1 : State) : ∃ m', execSrvSetCurrent x0 x1 = .next { x1 with m := m' } ∧ m'.id = x1.m.id := by
  refine ⟨_, rfl, ?_⟩
  simp
@[simp] theorem slowRetract_id (m0 : Mach) : (slowRetract m0).id = m0.id := by simp [slowRetract]
@[simp] theorem setSpeed_id (x0 : Nat) (m1 : Mach) : (setSpeed x0 m1).id = m1.id := by simp [setSpeed, apply_ite Mach.id]
@[simp] theorem spnRun_id (m0 : Mach) : (spnRun m0).id = m0.id := by simp [spnRun, apply_ite Mach.id]
@[simp] theorem failAttempt_id (m0 : Mach) : (failAttempt m0).id = m0.id := by simp [failAttempt, apply_ite Mach.id]
theorem execCatchListenEnd_id (x0 : BitVec 24) (x1 : State) : ∃ m', execCatchListenEnd x0 x1 = .next { x1 with m := m' } ∧ m'.id = x1.m.id := by
  refine ⟨_, rfl, ?_⟩
  simp [apply_ite Mach.id]
theorem execAlignEnd_id (x0 : State) : ∃ m', execAlignEnd x0 = .next { x0 with m := m' } ∧ m'.id = x0.m.id := by
  refine ⟨_, rfl, ?_⟩
  simp [apply_ite Mach.id]
theorem execRampHandover_id (x0 : State) : ∃ m', execRampHandover x0 = .next { x0 with m := m' } ∧ m'.id = x0.m.id := by
  refine ⟨_, rfl, ?_⟩
  simp [apply_ite Mach.id]
theorem execStartAttemptFail_id (x0 : State) : ∃ m', execStartAttemptFail x0 = .next { x0 with m := m' } ∧ m'.id = x0.m.id := by
  refine ⟨_, rfl, ?_⟩
  simp [apply_ite Mach.id]
theorem execStartRetry_id (x0 : State) : ∃ m', execStartRetry x0 = .next { x0 with m := m' } ∧ m'.id = x0.m.id := by
  refine ⟨_, rfl, ?_⟩
  simp [apply_ite Mach.id]
theorem execSpinUpTimeout_id (x0 : State) : ∃ m', execSpinUpTimeout x0 = .next { x0 with m := m' } ∧ m'.id = x0.m.id := by
  refine ⟨_, rfl, ?_⟩
  simp [apply_ite Mach.id]
theorem execPwmPeriod_id (x0 : BitVec 16) (x1 : State) : ∃ m', execPwmPeriod x0 x1 = .next { x1 with m := m' } ∧ m'.id = x1.m.id := by
  refine ⟨_, rfl, ?_⟩
  simp [apply_ite Mach.id]
@[simp] theorem crossed_id (x0 : Nat) (x1 : Int) (m2 : Mach) : (crossed x0 x1 m2).id = m2.id := by simp [crossed]
@[simp] theorem testedCrossing_id (x0 : Nat) (x1 : Int) (m2 : Mach) : (testedCrossing x0 x1 m2).id = m2.id := by simp [testedCrossing, apply_ite Mach.id]
@[simp] theorem lostCrossing_id (x0 : Nat) (x1 : Int) (m2 : Mach) : (lostCrossing x0 x1 m2).id = m2.id := by simp [lostCrossing]
theorem execZeroCrossing_id (x0 : MotorPhase) (x1 : BitVec 24) (x2 : BitVec 16) (x3 : Int) (x4 : State) : ∃ m', execZeroCrossing x0 x1 x2 x3 x4 = .next { x4 with m := m' } ∧ m'.id = x4.m.id := by
  refine ⟨_, rfl, ?_⟩
  dsimp only
  (repeat' split) <;> simp [*, apply_ite Mach.id]
@[simp] theorem revolution_id (x0 : Nat) (m1 : Mach) : (revolution x0 m1).id = m1.id := by simp [revolution, apply_ite Mach.id]
@[simp] theorem nextStep_id (m0 : Mach) : (nextStep m0).id = m0.id := by simp [nextStep]
theorem execCommutation_id (x0 : BitVec 32) (x1 : State) : ∃ m', execCommutation x0 x1 = .next { x1 with m := m' } ∧ m'.id = x1.m.id := by
  refine ⟨_, rfl, ?_⟩
  simp [apply_ite Mach.id]
theorem execFlyOkLoss_id (x0 : BitVec 24) (x1 : State) : ∃ m', execFlyOkLoss x0 x1 = .next { x1 with m := m' } ∧ m'.id = x1.m.id := by
  refine ⟨_, rfl, ?_⟩
  simp
theorem execRotorLoss_id (x0 : State) : ∃ m', execRotorLoss x0 = .next { x0 with m := m' } ∧ m'.id = x0.m.id := by
  refine ⟨_, rfl, ?_⟩
  simp [apply_ite Mach.id]
theorem execPhaseOvercurrent_id (x0 : State) : ∃ m', execPhaseOvercurrent x0 = .next { x0 with m := m' } ∧ m'.id = x0.m.id := by
  refine ⟨_, rfl, ?_⟩
  dsimp only
  split <;> simp [apply_ite Mach.id]
@[simp] theorem relockFails_id (x0 : Nat) (m1 : Mach) : (relockFails x0 m1).id = m1.id := by simp [relockFails, apply_ite Mach.id]
theorem execRelock_id (x0 : BitVec 32) (x1 : State) : ∃ m', execRelock x0 x1 = .next { x1 with m := m' } ∧ m'.id = x1.m.id := by
  refine ⟨_, rfl, ?_⟩
  simp [apply_ite Mach.id]
theorem execListenWindowExpiry_id (x0 : BitVec 24) (x1 : State) : ∃ m', execListenWindowExpiry x0 x1 = .next { x1 with m := m' } ∧ m'.id = x1.m.id := by
  refine ⟨_, rfl, ?_⟩
  simp [apply_ite Mach.id]
theorem execStandstill_id (x0 : State) : ∃ m', execStandstill x0 = .next { x0 with m := m' } ∧ m'.id = x0.m.id := by
  refine ⟨_, rfl, ?_⟩
  simp [apply_ite Mach.id]
theorem execOnceAroundMark_id (x0 : Act) (x1 : BitVec 16) (x2 : State) : ∃ m', execOnceAroundMark x0 x1 x2 = .next { x2 with m := m' } ∧ m'.id = x2.m.id := by
  refine ⟨_, rfl, ?_⟩
  simp [apply_ite Mach.id]
theorem execIndexUnanchorTimeout_id (x0 : State) : ∃ m', execIndexUnanchorTimeout x0 = .next { x0 with m := m' } ∧ m'.id = x0.m.id := by
  refine ⟨_, rfl, ?_⟩
  simp [apply_ite Mach.id]
theorem execSpnSetDemand_id (x0 : Hdr) (x1 : State) : ∃ m', execSpnSetDemand x0 x1 = .next { x1 with m := m' } ∧ m'.id = x1.m.id := by
  refine ⟨_, rfl, ?_⟩
  simp
theorem execSpnGetState_id (x0 : Hdr) (x1 : State) : ∃ m', execSpnGetState x0 x1 = .next { x1 with m := m' } ∧ m'.id = x1.m.id := by
  refine ⟨_, rfl, ?_⟩
  simp
theorem execSpnLoadCurve_id (x0 : Hdr) (x1 : List Byte) (x2 : State) : ∃ m', execSpnLoadCurve x0 x1 x2 = .next { x2 with m := m' } ∧ m'.id = x2.m.id := by
  refine ⟨_, rfl, ?_⟩
  simp
@[simp] theorem readReg_id (x0 : Nat) (m1 : Mach) : (readReg x0 m1).2.id = m1.id := by
  unfold readReg
  dsimp only
  (repeat' split) <;> simp [*, apply_ite Mach.id]
@[simp] theorem readRegs_id (x0 : Nat) (x1 : Nat) (m2 : Mach) : (readRegs x0 x1 m2).2.id = m2.id := by
  induction x1 generalizing x0 m2 with
  | zero => simp [readRegs]
  | succ n ih =>
    unfold readRegs
    (repeat' (first | with_reducible rfl | assumption | (simp; done) | (simp [*]; done) | (intro _) | (rw [foldl_id]) | (rw [foldl_fst_id]) | split | dsimp only | simp))
@[simp] theorem clearEvents_id (x0 : Nat) (x1 : Nat) (x2 : Reg) (m3 : Mach) : (clearEvents x0 x1 x2 m3).id = m3.id := by
  unfold clearEvents
  split <;> simp [apply_ite Mach.id]
@[simp] theorem writePwr_id (x0 : Bool) (x1 : Nat) (x2 : Reg) (m3 : Mach) : (writePwr x0 x1 x2 m3).id = m3.id := by simp [writePwr, apply_ite Mach.id]
@[simp] theorem writeClk_id (x0 : Bool) (x1 : Nat) (x2 : Reg) (x3 : Reg) (x4 : Reg) (m5 : Mach) : (writeClk x0 x1 x2 x3 x4 m5).id = m5.id := by
  unfold writeClk
  split <;> simp [apply_ite Mach.id]
@[simp] theorem writeSpn_id (x0 : Bool) (x1 : Nat) (x2 : Reg) (m3 : Mach) : (writeSpn x0 x1 x2 m3).id = m3.id := by simp [writeSpn, apply_ite Mach.id]
@[simp] theorem writeBankWord_id (x0 : Act) (x1 : Nat) (x2 : Reg) (m3 : Mach) : (writeBankWord x0 x1 x2 m3).id = m3.id := by simp [writeBankWord, apply_ite Mach.id]
@[simp] theorem writeSrv_id (x0 : Act) (x1 : Nat) (x2 : Reg) (x3 : Reg) (x4 : Reg) (m5 : Mach) : (writeSrv x0 x1 x2 x3 x4 m5).id = m5.id := by
  unfold writeSrv
  split <;> simp [apply_ite Mach.id]
@[simp] theorem writeHif_id (x0 : Bool) (x1 : Act) (x2 : List Ack) (x3 : Nat) (x4 : Reg) (x5 : Reg) (m6 : Mach) : (writeHif x0 x1 x2 x3 x4 x5 m6).id = m6.id := by
  unfold writeHif
  split <;> simp [apply_ite Mach.id]
@[simp] theorem writeCh_id (x0 : Bool) (x1 : Act) (x2 : Nat) (x3 : Reg) (m4 : Mach) : (writeCh x0 x1 x2 x3 m4).id = m4.id := by
  unfold writeCh
  split <;> simp [apply_ite Mach.id]
@[simp] theorem writeCfx_id (x0 : Bool) (x1 : Act) (x2 : Nat) (x3 : Reg) (x4 : Reg) (m5 : Mach) : (writeCfx x0 x1 x2 x3 x4 m5).id = m5.id := by
  unfold writeCfx
  split <;> simp [apply_ite Mach.id]
@[simp] theorem writeBcm_id (x0 : Bool) (x1 : Nat) (x2 : Reg) (m3 : Mach) : (writeBcm x0 x1 x2 m3).id = m3.id := by
  unfold writeBcm
  split <;> simp [apply_ite Mach.id]
@[simp] theorem writePrt_id (x0 : Bool) (x1 : Nat) (x2 : Reg) (m3 : Mach) : (writePrt x0 x1 x2 m3).id = m3.id := by simp [writePrt, apply_ite Mach.id]
@[simp] theorem writeFields_id (x0 : List Ack) (x1 : Nat) (x2 : Nat) (x3 : Reg) (x4 : Reg) (x5 : Reg) (m6 : Mach) : (writeFields x0 x1 x2 x3 x4 x5 m6).id = m6.id := by
  unfold writeFields
  split <;> simp [apply_ite Mach.id]
@[simp] theorem writeReg_id (x0 : List Ack) (x1 : Nat) (x2 : Reg) (x3 : Reg) (m4 : Mach) : (writeReg x0 x1 x2 x3 m4).id = m4.id := by simp [writeReg, apply_ite Mach.id]
theorem execRegRead_id (x0 : Hdr) (x1 : State) : ∃ m', execRegRead x0 x1 = .next { x1 with m := m' } ∧ m'.id = x1.m.id := by
  refine ⟨_, rfl, ?_⟩
  simp
theorem execRegWrite_id (x0 : Hdr) (x1 : List Ack) (x2 : State) : ∃ m', execRegWrite x0 x1 x2 = .next { x2 with m := m' } ∧ m'.id = x2.m.id := by
  refine ⟨_, rfl, ?_⟩
  simp
theorem execCounterLowRead_id (x0 : BitVec 24) (x1 : State) : ∃ m', execCounterLowRead x0 x1 = .next { x1 with m := m' } ∧ m'.id = x1.m.id := by
  refine ⟨_, rfl, ?_⟩
  simp
@[simp] theorem laneDamage_id (x0 : Act) (x1 : LaneSet) (x2 : Bool) (x3 : Nat) (m4 : Mach) : (laneDamage x0 x1 x2 x3 m4).id = m4.id := by simp [laneDamage, apply_ite Mach.id]
@[simp] theorem windowInvalid_id (x0 : Act) (x1 : Nat) (m2 : Mach) : (windowInvalid x0 x1 m2).id = m2.id := by simp [windowInvalid, apply_ite Mach.id]
@[simp] theorem windowValid_id (x0 : Act) (x1 : Nat) (x2 : BitVec 32) (x3 : BitVec 2) (m4 : Mach) : (windowValid x0 x1 x2 x3 m4).id = m4.id := by simp [windowValid]
@[simp] theorem windowEvents_id (x0 : Act) (x1 : Bool) (x2 : Bool) (x3 : Nat) (x4 : Nat) (x5 : Nat) (x6 : Bool) (m7 : Mach) : (windowEvents x0 x1 x2 x3 x4 x5 x6 m7).id = m7.id := by
  unfold windowEvents
  split <;> simp [apply_ite Mach.id]
theorem execDemodWindow_id (x0 : Act) (x1 : List Nat) (x2 : List Nat) (x3 : BitVec 16) (x4 : Bool) (x5 : State) : ∃ m', execDemodWindow x0 x1 x2 x3 x4 x5 = .next { x5 with m := m' } ∧ m'.id = x5.m.id := by
  refine ⟨_, rfl, ?_⟩
  dsimp only
  (repeat' split) <;> simp [*, apply_ite Mach.id]
@[simp] theorem frameSeen_id (x0 : Act) (x1 : LaneSet) (x2 : Nat) (x3 : Nat) (x4 : Bool) (m5 : Mach) : (frameSeen x0 x1 x2 x3 x4 m5).id = m5.id := by
  unfold frameSeen
  dsimp only
  split <;> simp [apply_ite Mach.id]
theorem execIndexFrame_id (x0 : Act) (x1 : LaneSet) (x2 : BitVec 2) (x3 : BitVec 40) (x4 : BitVec 16) (x5 : State) : ∃ m', execIndexFrame x0 x1 x2 x3 x4 x5 = .next { x5 with m := m' } ∧ m'.id = x5.m.id := by
  refine ⟨_, rfl, ?_⟩
  simp [apply_ite Mach.id]
theorem execAcqLimitExpiry_id (x0 : Act) (x1 : State) : ∃ m', execAcqLimitExpiry x0 x1 = .next { x1 with m := m' } ∧ m'.id = x1.m.id := by
  refine ⟨_, rfl, ?_⟩
  simp [apply_ite Mach.id]
theorem execMarkMissing_id (x0 : Act) (x1 : State) : ∃ m', execMarkMissing x0 x1 = .next { x1 with m := m' } ∧ m'.id = x1.m.id := by
  refine ⟨_, rfl, ?_⟩
  simp [apply_ite Mach.id]
@[simp] theorem alignUpdate_id (x0 : Act) (x1 : Int) (m2 : Mach) : (alignUpdate x0 x1 m2).id = m2.id := by simp [alignUpdate, apply_ite Mach.id]
theorem execAlignmentField_id (x0 : Act) (x1 : BitVec 4) (x2 : BitVec 7) (x3 : Bool) (x4 : BitVec 12) (x5 : Int) (x6 : Int) (x7 : State) : ∃ m', execAlignmentField x0 x1 x2 x3 x4 x5 x6 x7 = .next { x7 with m := m' } ∧ m'.id = x7.m.id := by
  refine ⟨_, rfl, ?_⟩
  simp [apply_ite Mach.id]
theorem execReadRecord_id (x0 : Hdr) (x1 : State) : ∃ m', execReadRecord x0 x1 = .next { x1 with m := m' } ∧ m'.id = x1.m.id := by
  refine ⟨_, rfl, ?_⟩
  first
    | refine adminRow_id _ _ _ (fun m => ?_)
    | refine service_id _ _ _ _ _ _ (fun m => ?_)
    | refine resvRow_id _ _ _ _ (fun r x m => ?_)
    | refine execWord_id _ _ _ _ (fun w m => ?_)
  dsimp only
  (repeat' split) <;> simp [apply_ite Mach.id]
theorem execSettingsStatus_id (x0 : Hdr) (x1 : State) : ∃ m', execSettingsStatus x0 x1 = .next { x1 with m := m' } ∧ m'.id = x1.m.id := by
  refine ⟨_, rfl, ?_⟩
  simp
theorem execStageRecord_id (x0 : Hdr) (x1 : List Byte) (x2 : State) : ∃ m', execStageRecord x0 x1 x2 = .next { x2 with m := m' } ∧ m'.id = x2.m.id := by
  refine ⟨_, rfl, ?_⟩
  simp [apply_ite Mach.id]
theorem execSettingsCommit_id (x0 : Hdr) (x1 : State) : ∃ m', execSettingsCommit x0 x1 = .next { x1 with m := m' } ∧ m'.id = x1.m.id := by
  refine ⟨_, rfl, ?_⟩
  simp [apply_ite Mach.id]
@[simp] theorem commitDone_id (x0 : Commit) (m1 : Mach) : (commitDone x0 m1).id = m1.id := by
  unfold commitDone
  split <;> simp [apply_ite Mach.id]
theorem execCommitComplete_id (x0 : Bool) (x1 : State) : ∃ m', execCommitComplete x0 x1 = .next { x1 with m := m' } ∧ m'.id = x1.m.id := by
  refine ⟨_, rfl, ?_⟩
  dsimp only
  (repeat' split) <;> simp [*, apply_ite Mach.id]
theorem execAdaptiveCommit_id (x0 : State) : ∃ m', execAdaptiveCommit x0 = .next { x0 with m := m' } ∧ m'.id = x0.m.id := by
  refine ⟨_, rfl, ?_⟩
  simp [apply_ite Mach.id]
theorem execIdentityPageProgram_id (x0 : Transport) (x1 : Reg) (x2 : IdPage) (x3 : State) : ∃ m', execIdentityPageProgram x0 x1 x2 x3 = .next { x3 with m := m' } ∧ m'.id = x3.m.id := by
  refine ⟨_, rfl, ?_⟩
  simp [apply_ite Mach.id]
theorem execUncorrectableError_id (x0 : UeSite) (x1 : State) : ∃ m', execUncorrectableError x0 x1 = .next { x1 with m := m' } ∧ m'.id = x1.m.id := by
  refine ⟨_, rfl, ?_⟩
  dsimp only
  split <;> simp [apply_ite Mach.id]
theorem execSpareStatus_id (x0 : Hdr) (x1 : State) : ∃ m', execSpareStatus x0 x1 = .next { x1 with m := m' } ∧ m'.id = x1.m.id := by
  refine ⟨_, rfl, ?_⟩
  simp
@[simp] theorem substPinned_id (x0 : Act) (m1 : Mach) : (substPinned x0 m1).id = m1.id := by
  unfold substPinned
  (repeat' (first | with_reducible rfl | assumption | (simp; done) | (simp [*]; done) | (intro _) | (rw [foldl_id]) | (rw [foldl_fst_id]) | split | dsimp only | simp))
@[simp] theorem spareDo_id (x0 : Hdr) (m1 : Mach) : (spareDo x0 m1).id = m1.id := by
  unfold spareDo
  dsimp only
  (repeat' split) <;> simp [*, apply_ite Mach.id]
theorem execSpareCommit_id (x0 : Hdr) (x1 : State) : ∃ m', execSpareCommit x0 x1 = .next { x1 with m := m' } ∧ m'.id = x1.m.id := by
  refine ⟨_, rfl, ?_⟩
  simp
@[simp] theorem takeGroup_id (x0 : Group_) (x1 : Bool) (x2 : Bool) (m3 : Mach) : (takeGroup x0 x1 x2 m3).1.id = m3.id := by
  unfold takeGroup
  (repeat' (first | with_reducible rfl | assumption | (simp; done) | (simp [*]; done) | (intro _) | (rw [foldl_id]) | (rw [foldl_fst_id]) | split | dsimp only | simp))
@[simp] theorem dropGroup_id (x0 : BitVec 32) (m1 : Mach) : (dropGroup x0 m1).id = m1.id := by simp [dropGroup, apply_ite Mach.id]
@[simp] theorem creationFails_id (m0 : Mach) : (creationFails m0).id = m0.id := by
  unfold creationFails
  split <;> simp [apply_ite Mach.id]
@[simp] theorem creationGoes_id (x0 : Nat) (m1 : Mach) : (creationGoes x0 m1).id = m1.id := by
  unfold creationGoes
  split <;> simp [apply_ite Mach.id]
@[simp] theorem zgpFlow_id (m0 : Mach) : (zgpFlow m0).id = m0.id := by simp [zgpFlow]
@[simp] theorem rebuildsEnd_id (x0 : Bool) (m1 : Mach) : (rebuildsEnd x0 m1).id = m1.id := by
  unfold rebuildsEnd
  (repeat' (first | with_reducible rfl | assumption | (simp; done) | (simp [*]; done) | (intro _) | (rw [foldl_id]) | (rw [foldl_fst_id]) | split | dsimp only | simp))
theorem execZgpHello_id (x0 : State) : ∃ m', execZgpHello x0 = .next { x0 with m := m' } ∧ m'.id = x0.m.id := by
  refine ⟨_, rfl, ?_⟩
  simp [apply_ite Mach.id]
theorem execZgpPeerTimeout_id (x0 : BitVec 16) (x1 : State) : ∃ m', execZgpPeerTimeout x0 x1 = .next { x1 with m := m' } ∧ m'.id = x1.m.id := by
  refine ⟨_, rfl, ?_⟩
  simp [apply_ite Mach.id]
theorem execZgpRetransmit_id (x0 : BitVec 16) (x1 : BitVec 32) (x2 : State) : ∃ m', execZgpRetransmit x0 x1 x2 = .next { x2 with m := m' } ∧ m'.id = x2.m.id := by
  refine ⟨_, rfl, ?_⟩
  simp [apply_ite Mach.id]
theorem execZgpAck_id (x0 : BitVec 16) (x1 : BitVec 32) (x2 : Bool) (x3 : State) : ∃ m', execZgpAck x0 x1 x2 x3 = .next { x3 with m := m' } ∧ m'.id = x3.m.id := by
  refine ⟨_, rfl, ?_⟩
  simp [apply_ite Mach.id]
@[simp] theorem deliverFrames_id (x0 : Nat) (x1 : Nat) (x2 : BitVec 32) (x3 : ZMsg) (m4 : Mach) : (deliverFrames x0 x1 x2 x3 m4).id = m4.id := by
  induction x1 generalizing x2 x3 m4 with
  | zero => simp [deliverFrames]
  | succ n ih =>
    unfold deliverFrames
    (repeat' (first | with_reducible rfl | assumption | (simp; done) | (simp [*]; done) | (intro _) | (rw [foldl_id]) | (rw [foldl_fst_id]) | split | dsimp only | simp))
@[simp] theorem takeFrame17_id (x0 : Peer) (x1 : BitVec 32) (x2 : ZMsg) (m3 : Mach) : (takeFrame17 x0 x1 x2 m3).id = m3.id := by simp [takeFrame17, apply_ite Mach.id]
@[simp] theorem duplicateModule_id (m0 : Mach) : (duplicateModule m0).id = m0.id := by simp [duplicateModule, apply_ite Mach.id]
theorem execZgpFrameReceive_id (x0 : Bool) (x1 : BitVec 64) (x2 : BitVec 32) (x3 : BitVec 16) (x4 : BitVec 16) (x5 : BitVec 32) (x6 : BitVec 32) (x7 : ZMsg) (x8 : State) : ∃ m', execZgpFrameReceive x0 x1 x2 x3 x4 x5 x6 x7 x8 = .next { x8 with m := m' } ∧ m'.id = x8.m.id := by
  refine ⟨_, rfl, ?_⟩
  dsimp only
  (repeat' split) <;> simp [*, apply_ite Mach.id]
theorem foldParity_id (x0 : Group_) (x1 : Nat) (x2 : List (Nat × Sector × BitVec 128)) (m3 : Mach) (n : Mach) (h : (foldParity x0 x1 x2 m3) = some n) : n.id = m3.id := by
  induction x2 generalizing m3 with
  | nil => cases h; rfl
  | cons x r ih =>
    unfold foldParity at h
    dsimp only at h
    obtain ⟨k, hk, h⟩ := Option.bind_eq_some_iff.mp h
    refine (ih _ h).trans ?_
    exact foldl_bind_id (fun c m => putPlain (x0.place c x.1).1 (x0.place c x.1).2
      (xorSector (plainOf m (x0.place c x.1).1 (x0.place c x.1).2) (gfSector (gfCoef x0.m (c - x0.k) x1) x.2)) m)
      (fun c m n e => putPlain_id _ _ _ _ _ e) m3.id _ _ (some m3) (fun m e => by cases e; rfl) hk
theorem execZgpParityUpdate_id (x0 : State) : ∃ m', execZgpParityUpdate x0 = .next { x0 with m := m' } ∧ m'.id = x0.m.id := by
  refine ⟨_, rfl, ?_⟩
  dsimp only
  split
  · split
    · simp
    · split
      · exact (inboxDone_id _ _).trans (foldParity_id _ _ _ _ _ (by assumption))
      · rfl
  · rfl
theorem execZgpGroupDef_id (x0 : Bool) (x1 : State) : ∃ m', execZgpGroupDef x0 x1 = .next { x1 with m := m' } ∧ m'.id = x1.m.id := by
  refine ⟨_, rfl, ?_⟩
  dsimp only
  split <;> simp [apply_ite Mach.id]
theorem execZgpState_id (x0 : State) : ∃ m', execZgpState x0 = .next { x0 with m := m' } ∧ m'.id = x0.m.id := by
  refine ⟨_, rfl, ?_⟩
  dsimp only
  split <;> simp [apply_ite Mach.id]
theorem execZgpReconRead_id (x0 : State) : ∃ m', execZgpReconRead x0 = .next { x0 with m := m' } ∧ m'.id = x0.m.id := by
  refine ⟨_, rfl, ?_⟩
  dsimp only
  (repeat' split) <;> simp [*, apply_ite Mach.id]
theorem execZgpReconData_id (x0 : Bool) (x1 : State) : ∃ m', execZgpReconData x0 x1 = .next { x1 with m := m' } ∧ m'.id = x1.m.id := by
  refine ⟨_, rfl, ?_⟩
  dsimp only
  (repeat' split) <;> simp [*, apply_ite Mach.id]
theorem execZgpDomainJoin_id (x0 : Hdr) (x1 : List Byte) (x2 : Bool) (x3 : State) : ∃ m', execZgpDomainJoin x0 x1 x2 x3 = .next { x3 with m := m' } ∧ m'.id = x3.m.id := by
  refine ⟨_, rfl, ?_⟩
  simp [apply_ite Mach.id]
theorem execZgpGroupCreate_id (x0 : Hdr) (x1 : List Byte) (x2 : Bool) (x3 : State) : ∃ m', execZgpGroupCreate x0 x1 x2 x3 = .next { x3 with m := m' } ∧ m'.id = x3.m.id := by
  refine ⟨_, rfl, ?_⟩
  simp [apply_ite Mach.id]
theorem execZgpGroupStatus_id (x0 : Hdr) (x1 : State) : ∃ m', execZgpGroupStatus x0 x1 = .next { x1 with m := m' } ∧ m'.id = x1.m.id := by
  refine ⟨_, rfl, ?_⟩
  refine service_id _ _ _ _ _ _ (fun m => ?_)
  split
  · rfl
  · rw [reply_id]
@[simp] theorem rebuildBegin_id (x0 : Hdr) (x1 : Group_) (m2 : Mach) : (rebuildBegin x0 x1 m2).id = m2.id := by simp [rebuildBegin, apply_ite Mach.id]
theorem execZgpRebuild_id (x0 : Hdr) (x1 : Bool) (x2 : State) : ∃ m', execZgpRebuild x0 x1 x2 = .next { x2 with m := m' } ∧ m'.id = x2.m.id := by
  refine ⟨_, rfl, ?_⟩
  dsimp only
  split
  · simp
  · refine service_id _ _ _ _ _ _ (fun m => ?_)
    split <;> simp
/-- MIN_SVN rises or stays (R872). -/
theorem svnRaise_id (m : Mach) : (svnRaise m).id = m.id ∨ Raised m.id (svnRaise m).id := by
  unfold svnRaise
  split
  · rename_i f _
    split
    · rename_i h
      simp only [Bool.and_eq_true, decide_eq_true_eq] at h
      exact .inr ⟨h.2, f.svn, h.1.2, rfl⟩
    · exact .inl rfl
  · exact .inl rfl
theorem execControllerReady_id (x0 : BitVec 16) (x1 : State) : ∃ m', execControllerReady x0 x1 = .next { x1 with m := m' } ∧
    (m'.id = x1.m.id ∨ Raised x1.m.id m'.id) := by
  refine ⟨_, rfl, ?_⟩
  dsimp only
  split
  · exact .inl rfl
  · have e := svnRaise_id (markStage 11 { x1.m with sup.ctrlReady := true, sup.ctrlT := x0 })
    simpa [apply_ite Mach.id] using e

end Sys2Proof.Machine
end

