-- ==== Sys2Proof/Laws/Nvme.lean ====
section
/-! SUPPORT. What a command row of NVMe does once its context is decoded. -/

namespace Sys2Proof.Machine

/-- A fetched command is decoded and its row runs. -/
theorem begin_fresh (c : NvCmd) (f : Mach → Mach) (m : Mach) (h : fresh m c = true) : begin c f m = f (Decoded c m) := by
  have hc : ctxOf m c ≠ none := by intro e; simp [fresh, e] at h
  simp [begin, hc, h]

/-- An admin command runs from its queue. -/
theorem adminRow_fresh (c : NvCmd) (f : Mach → Mach) (m : Mach) (h : Admits m c) : adminRow c f m = f (Decoded c m) := by
  simp [adminRow, h.1, begin_fresh c f m h.2]

/-- The outcome of an admin row. -/
theorem admin_step (s : State) (c : NvCmd) (f : Mach → Mach) (m' : Mach) (h : Admits s.m c) (hb : f (Decoded c s.m) = m') :
    s.run (adminRow c f) = .next { s with m := m' } := by
  rw [← hb, ← adminRow_fresh c f s.m h]; rfl

/-- An I/O command that nothing bars, fails or holds runs. -/
theorem io_runs (c : NvCmd) (x : IoCmd) (n : Ns) (m : Mach) (h : Runs m c x n) : ioOnly c x m = flow (runIo c x n (Woken c x m)) := by
  obtain ⟨h1, h2, h3, h4, h5, h6, h7, h8⟩ := h
  have h1' : (c.sqid == 0) = false := beq_eq_false_iff_ne.mpr h1
  have h5' : nsOf (onCtx c (fun y => { y with cmd := some x }) (Decoded c m)) (ioSpan x).1 = some n := h5
  simp only [ioOnly, h1', Bool.false_eq_true, if_false, ioRow, begin_fresh c _ m h2, doIo, h3, h4, h5']
  simp [holdOrRun, h6, h7, h8]

/-- The outcome of an I/O row. -/
theorem io_step (s : State) (c : NvCmd) (x : IoCmd) (n : Ns) (m' : Mach) (h : Runs s.m c x n) (hb : flow (runIo c x n (Woken c x s.m)) = m') :
    s.run (ioOnly c x) = .next { s with m := m' } := by
  rw [← hb, ← io_runs c x n s.m h]; rfl

/-- The context of a command after its own change. -/
theorem ctxOf_onCtx (c : NvCmd) (f : Ctx → Ctx) (hf : ∀ x, (f x).id = x.id) (m : Mach) : ctxOf (onCtx c f m) c = (ctxOf m c).map f := by
  simp only [ctxOf, onCtx]
  induction m.fe.ctxs with
  | nil => rfl
  | cons x r ih =>
    by_cases h : x.id = c
    · simp [h, hf]
    · simpa [h] using ih

/-- The outcome of an admin row whose start leaves its context waiting and that may end at once. -/
theorem held_step (s : State) (c : NvCmd) (k : Nat) (start f : Mach → Mach) (ready : Mach → Bool) (m' : Mach) (h : Waits s.m c)
    (hs : (start (Waiting c k s.m)).fe = (Waiting c k s.m).fe) (hr : ready (start (Waiting c k s.m)) = true)
    (hb : f (start (Waiting c k s.m)) = m') : s.run (heldRow c k start ready f) = .next { s with m := m' } := by
  obtain ⟨⟨h1, h2⟩, h3⟩ := h
  cases hx : ctxOf s.m c with
  | none => simp [hx] at h3
  | some x =>
    simp only [hx, Option.any_some, Bool.and_eq_true, Option.isNone_iff_eq_none] at h3
    have e0 : (c.sqid != 0) = false := by simp [h1]
    have hu : engineUp s.m = true ∧ x.aborting = false := by
      simp only [fresh, hx, Bool.and_eq_true, Bool.not_eq_true'] at h2
      exact ⟨h2.1.1, h2.2⟩
    have e1 : ctxOf (start (Waiting c k s.m)) c = some { x with phase := .media, progress := k } := by
      have : ctxOf (start (Waiting c k s.m)) c = ctxOf (Waiting c k s.m) c := by simp only [ctxOf, hs]
      have a1 := ctxOf_onCtx c (fun x => { x with phase := .decoded }) (fun _ => rfl) s.m
      have a2 := ctxOf_onCtx c (fun x => { x with phase := .media, progress := k }) (fun _ => rfl) (Decoded c s.m)
      rw [this, a2, a1, hx]
      rfl
    have e2 : engineUp (start (Waiting c k s.m)) = true := by
      have : engineUp (start (Waiting c k s.m)) = engineUp (Waiting c k s.m) := by simp only [engineUp, hs]
      rw [this]; exact hu.1
    rw [← hb]
    simp only [State.run, heldRow, e0, Bool.false_eq_true, if_false, begin_fresh c _ s.m h2, e1, e2, h3.1, h3.2, hu.2, hr]
    simp

/-- The same with the machine that the start leaves named. -/
theorem held_go (s : State) (c : NvCmd) (k : Nat) (start f : Mach → Mach) (ready : Mach → Bool) (h m' : Mach) (hw : Waits s.m c)
    (e : start (Waiting c k s.m) = h) (hs : h.fe = (Waiting c k s.m).fe) (hr : ready h = true) (hb : f h = m') :
    s.run (heldRow c k start ready f) = .next { s with m := m' } :=
  held_step s c k start f ready m' hw (by rw [e]; exact hs) (by rw [e]; exact hr) (by rw [e]; exact hb)

/-- The outcome of an admin row whose start is all there is to do, or has to wait. -/
theorem held_start (s : State) (c : NvCmd) (k : Nat) (start f : Mach → Mach) (ready : Mach → Bool) (h : Mach) (hw : Waits s.m c)
    (e : start (Waiting c k s.m) = h) (hr : ready h = false) : s.run (heldRow c k start ready f) = .next { s with m := h } := by
  obtain ⟨⟨h1, h2⟩, -⟩ := hw
  have e0 : (c.sqid != 0) = false := by simp [h1]
  have e' : start (onCtx c (fun x => { x with phase := .media, progress := k }) (onCtx c (fun x => { x with phase := .decoded }) s.m)) = h := e
  simp only [State.run, heldRow, e0, Bool.false_eq_true, if_false, begin_fresh c _ s.m h2, e', hr, Bool.and_false]
  cases ctxOf h c <;> rfl

end Sys2Proof.Machine
end

