-- ==== Sys2Proof/Laws/Power.lean ====
section
/-! SUPPORT. What a measure of the motor bus does (spec/02 R138 to R143): the thermal model moves, and nothing else while no limit is crossed. -/

namespace Sys2Proof.Machine

theorem Pair.upd_self {α : Type} (p : Pair α) (a : Act) (f : α → α) (h : f (p.get a) = p.get a) : p.upd a f = p := by
  apply Pair.ext_get; intro b
  cases a <;> cases b <;> first | exact h | rfl

theorem Mach.onSrv_self (m : Mach) (a : Act) (f : SrvCtl → SrvCtl) (h : f (m.srv.get a) = m.srv.get a) : m.onSrv a f = m := by
  simp only [Mach.onSrv, Pair.upd_self m.srv a f h]

/-- With no retract under way nothing has a source to change (R398). -/
theorem retractSource_idle (m : Mach) (h : NoRetract m) : retractSource m = m := by
  let f : SrvCtl → SrvCtl := fun c => { c with retSrc := if c.retActive then retractFromEmf m else c.retSrc }
  have e : ∀ c : SrvCtl, c.retActive = false → f c = c := by intro c hc; cases c; simp_all [f]
  have e0 : m.onSrv .a0 f = m := Mach.onSrv_self m .a0 f (e _ h.1)
  have e1 : m.onSrv .a1 f = m := Mach.onSrv_self m .a1 f (e _ h.2)
  calc retractSource m = (m.onSrv .a0 f).onSrv .a1 f := rfl
    _ = m := by rw [e0, e1]

@[simp] theorem replaceBrake_pwr (r : Nat) (m : Mach) : (replaceBrake r m).pwr = m.pwr := by
  unfold replaceBrake; split <;> simp
@[simp] theorem replaceBrake_srv (r : Nat) (m : Mach) : (replaceBrake r m).srv = m.srv := by
  unfold replaceBrake; split <;> simp

/-- A measure of the bus that crosses no limit moves the thermal model alone (R138). -/
theorem vmotSeen_calm (m : Mach) (v : BitVec 16) (us : BitVec 20) (h : BrakeIdle m us) :
    vmotSeen v us m = { m with pwr.vmot := v, pwr.chopEnergy := decay60 us.toNat m.pwr.chopEnergy } := by
  obtain ⟨hr, hg, hw, he⟩ := h
  simp [vmotSeen, brakeHeat, chopLimit, chopVmotTest, hg, hw, he]
  exact retractSource_idle _ hr

/-- With the chopper gated, below both limits, the model takes the energy that the resistor has had (R138). -/
theorem vmotSeen_gated (m : Mach) (v : BitVec 16) (us : BitVec 20) (hr : NoRetract m) (hg : m.pwr.chopGated = true)
    (hw : m.pwr.withheld = false) (he : brakeEnergy m v us < 30000000) (hv : v.toNat ≤ 2800) :
    vmotSeen v us m = { m with pwr.vmot := v, pwr.chopEnergy := brakeEnergy m v us } := by
  simp only [brakeEnergy, hg, ite_true] at he ⊢
  have hv' : ¬ 2800 < v.toNat := by omega
  simp [vmotSeen, brakeHeat, chopLimit, chopVmotTest, hg, hw, he, hv']
  exact retractSource_idle _ hr

/-- With the chopper gated, VMOT past 28.0 V is a fault of it (R141). -/
theorem vmotSeen_over (m : Mach) (v : BitVec 16) (us : BitVec 20) (hr : NoRetract m) (hg : m.pwr.chopGated = true)
    (hw : m.pwr.withheld = false) (he : brakeEnergy m v us < 30000000) (hv : 2800 < v.toNat) :
    vmotSeen v us m = chopFails 1 { m with pwr.vmot := v, pwr.chopEnergy := brakeEnergy m v us } := by
  simp only [brakeEnergy, hg, ite_true] at he ⊢
  simp only [vmotSeen, brakeHeat, chopLimit, chopVmotTest, hg, hw, ite_true, Bool.false_eq_true, if_false, if_pos he, hv, decide_true, Bool.and_self]
  exact retractSource_idle _ (by simpa [NoRetract, chopFails] using hr)

/-- At 30.0 J the chopper is withheld (R139, R140). -/
theorem vmotSeen_limit (m : Mach) (v : BitVec 16) (us : BitVec 20) (hr : NoRetract m) (hw : m.pwr.withheld = false)
    (he : 30000000 ≤ brakeEnergy m v us) :
    vmotSeen v us m = replaceBrake 2 (report 0x0122 nowhere (leBytes 2 (satTo 511 (brakeEnergy m v us / 100000))) { m with
      pwr.vmot := v, pwr.chopEnergy := brakeEnergy m v us, pwr.withheld := true, pwr.chopGated := false }) := by
  have he' : ¬ brakeEnergy m v us < 30000000 := by omega
  simp only [vmotSeen, brakeHeat, chopLimit, chopVmotTest, hw, Bool.false_eq_true, if_false, if_neg he', replaceBrake_pwr, report_pwr, Bool.false_and, chopE]
  exact retractSource_idle _ (by simpa [NoRetract] using hr)

/-- Below 15.0 J the withholding ends (R139). -/
theorem vmotSeen_release (m : Mach) (v : BitVec 16) (us : BitVec 20) (hr : NoRetract m) (hw : m.pwr.withheld = true) (hg : m.pwr.chopGated = false)
    (he : decay60 us.toNat m.pwr.chopEnergy < 15000000) :
    vmotSeen v us m = { m with pwr.vmot := v, pwr.chopEnergy := decay60 us.toNat m.pwr.chopEnergy, pwr.withheld := false } := by
  have he' : ¬ 15000000 ≤ decay60 us.toNat m.pwr.chopEnergy := by omega
  simp [vmotSeen, brakeHeat, chopLimit, chopVmotTest, hg, hw, he']
  exact retractSource_idle _ hr

/-- A rectified input below 70.0 V is below the stop threshold of every kind (R102, R110). -/
theorem inputAtLeast_absent (k : InputKind) (pk : Nat) (h : pk < 700) : inputAtLeast k pk 70 98 = false := by
  cases k
  · rfl
  · have : pk ^ 2 < 700 ^ 2 := Nat.pow_lt_pow_left h (by decide)
    simp only [inputAtLeast, acAtLeast, decide_eq_false_iff_not]
    omega
  · simp only [inputAtLeast, decide_eq_false_iff_not]
    omega

end Sys2Proof.Machine
end

