-- ==== Sys2Proof/Laws/Sector.lean ====
section
/-! SUPPORT. What is written on the media reads back under its TAG (spec/09 R473, R487). -/

namespace Sys2Proof.Machine

theorem payloadBits_crc (p : Payload) : (payloadBits p).extractLsb' 33248 32 = headCrc (payloadHead p) := by
  apply BitVec.eq_of_getLsbD_eq; intro i hi
  rw [BitVec.getLsbD_extractLsb']; unfold payloadBits
  rw [BitVec.getLsbD_cast, BitVec.getLsbD_append, if_neg (by omega), Nat.add_sub_cancel_left]
  simp [hi]

/-- Below the CRC the bits of a payload are those of its fields. -/
theorem payloadBits_low (p : Payload) (i : Nat) (hi : i < 33248) : (payloadBits p).getLsbD i = (payloadHead p).getLsbD i := by
  unfold payloadBits; rw [BitVec.getLsbD_cast, BitVec.getLsbD_append, if_pos hi]

theorem payloadBits_head (p : Payload) : (payloadBits p).extractLsb' 0 33248 = payloadHead p := by
  apply BitVec.eq_of_getLsbD_eq; intro i hi
  rw [BitVec.getLsbD_extractLsb', Nat.zero_add, payloadBits_low p i hi]; simp [hi]

/-- A field of a payload, between the bits where it starts and ends. -/
theorem payload_field (p : Payload) (n w : Nat) (x : BitVec w) (hw : n + w ≤ 33248)
    (h : ∀ i, i < w → (payloadHead p).getLsbD (n + i) = x.getLsbD i) : (payloadBits p).extractLsb' n w = x := by
  apply BitVec.eq_of_getLsbD_eq; intro i hi
  rw [BitVec.getLsbD_extractLsb', payloadBits_low p _ (by omega), h i hi]
  simp [hi]

/-- The 4,160 bytes of a payload stand for it (Table 9-5). -/
theorem payloadFrom_bits (p : Payload) : payloadFrom (payloadBits p) = some p := by
  unfold payloadFrom
  rw [payloadBits_crc, payloadBits_head, if_pos rfl]
  have f := fun n w x hw h => payload_field p n w x hw h
  rw [f 0 32768 p.data (by omega), f 32768 64 p.info.tag (by omega), f 32832 32 p.info.wseq (by omega), f 32864 16 p.info.flags (by omega),
    f 32896 32 p.info.nsid (by omega), f 32928 64 p.info.lba (by omega), f 32992 128 p.info.pi (by omega), f 33120 32 p.info.pbn (by omega),
    f 33152 32 p.info.zrc (by omega)]
  all_goals
    intro i hi
    unfold payloadHead
    rw [BitVec.getLsbD_cast]
    repeat' (rw [BitVec.getLsbD_append]; split <;> try omega)
    all_goals exact congrArg _ (by omega)

theorem xor_twice {w : Nat} (x y : BitVec w) : x ^^^ y ^^^ y = x := by simp [BitVec.xor_assoc]

/-- A codeword decodes, under the TAG that it was written with, to its payload (R473). -/
theorem unscramble_scramble (p : Payload) : unscramble p.info.tag (scramble p) = some p := by
  have h := xor_twice (payloadBits p) (scrSeq p.info.tag)
  unfold unscramble
  unfold scramble
  rewrite [h]
  exact payloadFrom_bits p

end Sys2Proof.Machine
end

