-- ==== Sys2Proof/Tests/Slice0.lean ====
section
/-! SUPPORT. Small tests: witnesses of the statements' hypotheses, ill-formed commands, and the worked examples of the spec. -/

open Sys2Proof Sys2Proof.Machine

set_option linter.unusedVariables false
set_option Elab.async false

namespace Sys2Proof.Tests

/-- The state after reset with a change made to its machine. -/
def stOf (f : Mach → Mach) : State := { State.reset with m := f State.reset.m }

/-- An identity page with its CRC. -/
def sealedPage (p : IdPage) : IdPage := { p with crc := crc32c p.head }

/-- An identity page that conforms: four platters, two heads on each arm, a heater assist. -/
def wPage : IdPage := sealedPage
  { magic := pageMagic, layout := 1, resv := 0, serial := [], geomSig := 0, heads := .both 2, platters := 4, assist := 1, rpmFull := 7200, capTb := 300
    headmap := [1, 2] ++ List.replicate 10 0 ++ [1, 2] ++ List.replicate 10 0, tail := [], crc := 0 }

/-- The CRC of a sealed page checks, whatever the page holds. -/
theorem sealedPage_intact (p : IdPage) (h : p.magic = pageMagic) : (sealedPage p).intact = true := by
  have e : (sealedPage p).head = p.head := rfl
  simp [IdPage.intact, e]; exact ⟨h, rfl⟩

theorem wPage_valid : wPage.valid = true := by
  unfold IdPage.valid wPage; rw [sealedPage_intact _ rfl]; decide

/-- The machine in STANDBY whose PWR_DIS is released. -/
def stReleased : Mach := spnResume { State.reset.m with sup.mode := .standby, pins.pwrDis := false, spn.halted := false }

/-- A request header of NVMe controller 1 with every parameter 0 and no session. -/
def wHdr : Hdr := ⟨.nvme 1, 7, false, 0, 0, 0, 0, 0⟩

/-- The same header with the reference of a session. -/
def wHdrS : Hdr := { wHdr with auth := 9 }

/-- A state in a mode, with a session of a level open for `wHdrS`. -/
def stAs (md : Mode) (lv : Nat) (f : Mach → Mach) : State :=
  stOf (fun m => f { m with sup.mode := md, svc.sessions := [{ ref := 9, who := .nvme 1, level := lv, lastUse := 0 }] })

/-- The default curve as the value of record 0x0301: turn-off 24, demands 40, 128 and 192 with 3600, 5400 and 7200 rpm. -/
def wCurve : List Byte := [3, 24, 0, 0, 40, 0, 0x10, 0x0E, 128, 0, 0x18, 0x15, 192, 0, 0x20, 0x1C]

/-- Four lane magnitudes whose two strongest are neighbours and whose pair sum is the AGC reference. -/
def wLanes : List Nat := [500, 500, 0, 0]

/-- The 64 words of a bank whose CTRL word has VALID set and which are otherwise 0. -/
def wBank : List Byte := [0, 0, 0, 0x80] ++ List.replicate 252 0

/-- A track record 0x0402 of head 1, region 0, with a thousand tracks. -/
def wTracks : SRec := ⟨0x0402, [0, 1, 0, 0xFF] ++ leBytes 4 0 ++ leBytes 4 1000 ++ leBytes 4 0 ++ leBytes 2 1 ++ leBytes 2 0 ++ leBytes 4 0 ++ leBytes 4 4096⟩

/-- A state with the heads of actuator 0 off the ramp at speed. -/
def stFly (f : Mach → Mach) : State := stOf (fun m => f { m with srv.p0.loaded := true, spn.atSpeed := true, spn.flyOk := true, clk.inReset := 0 })

/-- A state in SERVICE whose actuators are out of reset and whose preamps answer, with limits that no sample of 0 reaches. -/
def stPoll : State := stOf (fun m => { m with
  sup.mode := .service, clk.inReset := 0, hda.strapOk := true, hda.norOk := true, hda.page := some wPage, pre.p0.otLimit := 115, pre.p0.ilim := 110
  pins.preampOn := ⟨true, true⟩ })

/-- A read sector that waits for its result: head 1, track 5, slot 2, tag 1234. -/
def wSec : Sec := ⟨0, false, false, 5, 2, 1, 0, 0, 0, some 0, none, none, 1234, none, none⟩

/-- What the surface holds in its place. -/
def wPay : Payload := ⟨0, ⟨1234, 0, 0, 1, 0, 0, 0, 0⟩⟩

/-- The same sector once it is framed. -/
def wFramed : Sec := { wSec with sync := some (.both, 0) }

/-- A state whose channel has framed that sector, with its payload on the surface. -/
def stRead : State := stOf (fun m => { m with
  ch.p0.secs := [wFramed], ch.p0.det := 3, ch.p0.iter := 3, hda.surface := [(surfKey .a0 1 5 2, some (scramble wPay))] })

theorem stRead_back : readBack stRead.m .a0 wFramed = some wPay := by
  have e : assoc none stRead.m.hda.surface (surfKey .a0 wFramed.head wFramed.track.toNat wFramed.slot.toNat) = some (scramble wPay) := by
    simp [stRead, stOf, wFramed, wSec, assoc]
  have k : wFramed.tag = wPay.info.tag := rfl
  unfold readBack; rw [e, Option.bind_some, k]; exact unscramble_scramble wPay

/-- A decode on the fly with 3 iterations and 2 bits corrected. -/
def wSig : SecSignal := ⟨⟨true, 3, 2⟩, ⟨false, 0, 0⟩, none, false, 0, 0, 0, 0, [], (0, 0), []⟩

/-- A state whose sequencer 0 runs an operation and fetches a word. -/
def stWord (w : Reg) (f : Mach → Mach) : State :=
  stOf (fun m => f { m with cfx.p0.store := [(0, ⟨w, none⟩)], cfx.p0.run := .running, cfx.p0.op := some ⟨0, [], [], false⟩ })

/-- A store image of one word whose dispatch entries 0 to 7 and 15 name it. -/
def wImage : List Byte := leBytes 2 1 ++ leBytes 2 0 ++ leBytes 2 10 ++ leBytes 2 0
  ++ (List.replicate 8 (leBytes 2 0)).flatten ++ (List.replicate 7 (leBytes 2 0xFFFF)).flatten ++ leBytes 2 0 ++ List.replicate 40 0


/-- A state whose spindle unit is out of reset. -/
def stSpn (f : Mach → Mach) : State := stOf (fun m => f { m with clk.inReset := 0 })

/-- The symbols of a frame of period 5 and number 0: SYNC 1101, PERIOD, FRAME, CHECK. -/
def wFrame : BitVec 40 := 0xD00005001C

/-- A block of an image with two wrong row parities and no wrong column: no single bit mends it. -/
def wBad : List Byte := [0, 0, 0, 3] ++ List.replicate 36 0

/-- A skew run of channel 0 in a slice. -/
def wRun : CalRun := { job := { kind := 3, dh := 0, head := 0, region := 0, forced := false }, x0 := 0, x := 0, dir := 1, saved := [], inSlice := true }

/-- A MANAGED namespace with no bands. -/
def wNs : Ns := ⟨1, .managed, 1000, 0, 0, ⟨true, true⟩, ⟨[], []⟩, ⟨[], []⟩⟩

/-- A state whose actuators are ready and have nothing to do. -/
def stIdle (f : Mach → Mach) : State :=
  stFly (fun m => f { m with sup.mode := .active, sup.actReady := ⟨true, true⟩, srv.p0.st := .follow })

/-- An image of no sectors, of an HDA with no serial number. -/
def wImg : VImage := ⟨5, false, 0, .u0, 0, [], 0, [], 0, 0, 0, [], none, [], true, false, [4, 5, 6, 7, 8, 9, 10, 11]⟩

/-- A CONVENTIONAL namespace without bands. -/
def wNsC : Ns := ⟨1, .conventional, 1000, 0, 0, ⟨true, true⟩, ⟨[], []⟩, ⟨[], []⟩⟩

/-- A ZONED namespace of two zones without bands. -/
def wNsZ : Ns := ⟨1, .zoned, 131072, 0, 0, ⟨true, true⟩, ⟨[], []⟩, ⟨[], []⟩⟩

/-- An I/O command of queue 1 of port A's PCIe controller. -/
def wCmd : NvCmd := ⟨.a0, 0, 1, 7⟩

/-- An admin command. -/
def wAdm : NvCmd := ⟨.a0, 0, 0, 1⟩

/-- No protection information is asked for. -/
def wProt : Prot := ⟨false, 0, 0, 0, 0⟩

/-- The context of `wCmd` as it is fetched. -/
def wCtx : Ctx := { id := wCmd, admin := false, arrival := 0, cls := 2 }

/-- A state with a namespace, its actuators ready, the engine posting and the two commands fetched. -/
def stNv (n : Ns) : State :=
  stIdle (fun m => { m with zmg.maps.nss := [n], fe.posting := true, fe.ctxs := [wCtx, { id := wAdm, admin := true, arrival := 0, cls := 2 }] })

/-- An enabled, ready PCIe controller of port A with completion queue 1 and submission queue 1. -/
def wPcie : Ctrlr := { port := .a0, cntlid := 0, en := true, rdy := true, queues := [⟨true, 1, 2, 0, .medium, 0⟩, ⟨false, 1, 2, 1, .medium, 0⟩] }

/-- An enabled, ready controller of an NVMe/TCP association of port A. -/
def wTcp : Ctrlr := { port := .a0, cntlid := 0, tcp := true, en := true, rdy := true, conns := 1 }

/-- A state whose port A is up, with controllers. -/
def stCt (ks : List Ctrlr) : State := stIdle (fun m => { m with sup.ctrlReady := true, fe.ctrls := ks, prt.p0.up := true })

/-- The same in a takeover. -/
def stTk (ks : List Ctrlr) : State := stIdle (fun m => { m with
  sup.ctrlReady := true, fe.ctrls := ks, prt.p0.up := true, fe.tko := some ⟨3, .a0, .a1, [], false, none⟩ })

/-- The same with contexts and a posting engine. -/
def stCt2 (xs : List Ctx) : State :=
  stIdle (fun m => { m with sup.ctrlReady := true, fe.ctrls := [wPcie], prt.p0.up := true, fe.posting := true, fe.ctxs := xs })

/-- A state with controllers in which the admin command is fetched. -/
def stAd (ks : List Ctrlr) : State :=
  stIdle (fun m => { m with fe.ctrls := ks, fe.posting := true, fe.ctxs := [{ id := wAdm, admin := true, arrival := 0, cls := 2 }] })

/-- A state in which the host with identifier 0 is registered with key 9. -/
def stRs : State := stIdle (fun m => { m with
  zmg.maps.nss := [wNsC], fe.posting := true, fe.ctxs := [wCtx], fe.resv := [(1, { regs := [(0, 9)] })] })

/-- A state whose port A is an Ethernet port and up. -/
def stEth : State := stIdle (fun m => { m with sup.ctrlReady := true, fe.posting := true, prt.p0.up := true, prt.p0.eth := true })

/-- A challenge for EVR_CLEAR. -/
def wChal : Challenge := ⟨.nvme 1, true, lvMaint, [1, 2, 3], 0⟩

/-- A record of the settings with the maintenance credential. -/
def wCred : SRec := ⟨0x0003, List.replicate 32 7⟩

/-- One held record, in the store or not, changed since. -/
def wSlot : EvSlot := ⟨⟨0x0111, .error, 0, 0, 0, 0, 2, 0, 1, []⟩, 0, none⟩

/-- A state that holds one record. -/
def stEv (nor : Bool) : State := stOf (fun m => { m with evr.held := [if nor then { wSlot with nor := some { wSlot.cur with rep := 1 } } else wSlot] })

/-- A commit of the module's own of an empty image into bank B. -/
def wCommit : Commit := ⟨.a1, sealedBank 5 0 [], [], [], none, false⟩

/-- A request of controller 0 with tag 7. -/
def wOut (r : Option Reply) : OutReq := ⟨.nvme 0, 7, 0x0102, false, r, 0, false⟩

/-- A state in which it is outstanding and the admin command is fetched. -/
def stOut (r : Option Reply) : State :=
  stIdle (fun m => { m with fe.posting := true, svc.out := [wOut r], fe.ctxs := [{ id := wAdm, admin := true, arrival := 0, cls := 2 }] })

/-- A state in which the admin command is fetched and its controller's session with an SP has proven authorities. -/
def stOpal (locking : Bool) (auths : List Nat) (f : Mach → Mach) : State := stIdle (fun m => f { m with
  fe.posting := true, fe.ctxs := [{ id := wAdm, admin := true, arrival := 0, cls := 2 }], dsv.sess := some ⟨0, locking, auths⟩ })

/-- A band record 0x0D02 of head 1, region 0, with one band. -/
def wBands : SRec := ⟨0x0D02, [0, 1, 0, 0xFF] ++ leBytes 6 0 ++ leBytes 2 1 ++ leBytes 4 0 ++ leBytes 2 4096 ++ leBytes 2 0⟩

/-- A state with a module's bands, its tables replayed and the admin command fetched. -/
def stBands : State := stIdle (fun m => { m with
  zmg.mapsOk := true, hda.page := some wPage, sup.records := [wBands], fe.posting := true,
  fe.ctxs := [{ id := wAdm, admin := true, arrival := 0, cls := 2 }] })

/-- A group of two data columns and one parity column, each of one extent, on modules 1 to 3. -/
def wGroup : Group_ := { index := 0, gid := 5, k := 2, m := 1, c := 1, cols := [(1, 1), (2, 1), (3, 1)], excepts := [], told := 0 }

/-- A member with module number 1 that knows modules 2 and 3. -/
def stZgp (f : Mach → Mach) : State := stIdle (fun m => f { m with
  dsv.joined := true, dsv.module := 1, dsv.peers := [{ num := 2, addr := 0 }, { num := 3, addr := 0 }] })

/-- The same with a session of the maintenance level, asked over NVMe. -/
def stZgpAs (f : Mach → Mach) : State := stAs .active 2 (fun m => f { m with
  dsv.joined := true, dsv.module := 1, dsv.peers := [{ num := 2, addr := 0 }, { num := 3, addr := 0 }] })

/-- The payload of a creation of that group. -/
def wCols : List Byte := leBytes 4 1 ++ leBytes 4 1 ++ leBytes 4 2 ++ leBytes 4 1 ++ leBytes 4 3 ++ leBytes 4 1

/-- Its header. -/
def wHdrG : Hdr := ⟨.nvme 1, 7, false, 9, 5, 0x102, 1, 0⟩

/-- The header of a rebuild of every STALE extent of the group. -/
def wHdrR : Hdr := ⟨.nvme 1, 7, false, 9, 5, 3, 0, 0⟩

/-- A namespace that can hold a column. -/
def wNsCol : Ns := ⟨1, .managed, 262144, 0, 0, ⟨true, true⟩, ⟨[], []⟩, ⟨[], []⟩⟩

/-- Every hypothesis of `Obligations.PowerInputEffects` is met, clause by clause, by a state and operands. -/
theorem witness_PowerInputEffects :
    (∃ (s : State) (dc : Bool) (pk f : BitVec 16), 700 ≤ pk.toNat) ∧
    (∃ (s : State) (pk : BitVec 16), s.m.pwr.inputOk = true ∧ inputAtLeast s.m.pwr.kind pk.toNat 75 105 = true ∧ s.m.pwr.pfcOn = false ∧ s.m.pwr.measuring = false ∧ mayConvert s.m = true ∧ lossEnded s.m = false ∧ pk.toNat ≤ 4000) ∧
    (∃ (s : State) (pk f : BitVec 16), inputOutside s.m.pwr.kind pk.toNat = true ∧ s.m.pwr.excursion = false ∧ s.m.pwr.kind ≠ .dc) ∧
    (∃ (s : State) (pk : BitVec 16), 4000 < pk.toNat ∧ s.m.pwr.pfcHeldOv = false) ∧
    (∃ (s : State) (v : BitVec 16), s.m.pwr.inputOk = true ∧ s.m.pwr.vinPk.toNat ≤ v.toNat + 200) ∧
    (∃ (s : State) (v w : BitVec 16), s.m.pwr.llcOn = false ∧ s.m.pwr.loss = false ∧ mayConvert s.m = true ∧ s.m.pwr.inputOk = true ∧ s.m.pwr.pfcOn = true ∧ 3822 ≤ v.toNat ∧ v.toNat ≤ 3978) ∧
    (∃ (s : State) (pk v : BitVec 16), s.m.pwr.inputOk = true ∧ 700 ≤ pk.toNat ∧ inputAtLeast s.m.pwr.kind pk.toNat 70 98 = false) ∧
    (∃ (s : State) (pk v : BitVec 16), s.m.pwr.inputOk = true ∧ pk.toNat < 700 ∧ s.m.pwr.detArmed = false ∧ s.m.pwr.loss = false) ∧
    (∃ (s : State) (v : BitVec 16), v.toNat < 3300) ∧
    (∃ (s : State) (v : BitVec 16), v.toNat ≤ 1800) ∧
    (∃ (s : State), s.m.pwr.loss = true ∧ s.m.pwr.discharge = false ∧ vaultSeqDone s.m = true ∧ parked s.m = true ∧ (vaultSeqEnd s.m).pwr.inputOk = false) :=
  ⟨⟨State.reset, false, 3250, 500, by decide⟩,
    ⟨stOf (fun m => { m with pwr.inputOk := true, pwr.kind := .ac }), 3250, by decide⟩,
    ⟨stOf (fun m => { m with pwr.kind := .ac }), 1100, 500, by decide⟩,
    ⟨State.reset, 4001, by decide⟩,
    ⟨stOf (fun m => { m with pwr.inputOk := true, pwr.vinPk := 3250 }), 3050, by decide⟩,
    ⟨stOf (fun m => { m with pwr.inputOk := true, pwr.pfcOn := true }), 3900, 2400, by decide⟩,
    ⟨stOf (fun m => { m with pwr.inputOk := true, pwr.kind := .dc }), 979, 3900, by decide⟩,
    ⟨stOf (fun m => { m with pwr.inputOk := true }), 699, 3900, by decide⟩,
    ⟨State.reset, 3299, by decide⟩,
    ⟨State.reset, 1800, by decide⟩,
    ⟨stOf (fun m => { m with pwr.loss := true, vlt.seqDone := true }), by decide⟩⟩

/-- Every hypothesis of `Obligations.PowerMeasureAndRailEffects` is met, clause by clause, by a state and operands. -/
theorem witness_PowerMeasureAndRailEffects :
    (∃ (s : State) (v : BitVec 16), bulkWanted s.m = true ∧ s.m.pwr.measuring = false ∧ s.m.pwr.loss = false ∧ s.m.pwr.pfcOn = true ∧ 3822 ≤ v.toNat ∧ v.toNat ≤ 3978) ∧
    (∃ (s : State) (q : BitVec 16), s.m.pwr.measuring = true ∧ s.m.pwr.measByRun = false ∧ s.m.pwr.measDone = true ∧ s.m.pwr.holdupOk = false) ∧
    (∃ (s : State) (why : AbandonReason), s.m.pwr.measuring = true ∧ s.m.pwr.measTries.toNat < 2) ∧
    (∃ (s : State) (v : BitVec 16) (us : BitVec 20), BrakeIdle s.m us ∧ s.m.pwr.chopEn = true ∧ s.m.pwr.chopFault = false ∧ 2700 ≤ v.toNat ∧ v.toNat ≤ 2800) ∧
    (∃ (s : State) (v : BitVec 16) (us : BitVec 20), NoRetract s.m ∧ s.m.pwr.chopGated = true ∧ s.m.pwr.withheld = false ∧ brakeEnergy s.m v us < 30000000 ∧ v.toNat ≤ 2600) ∧
    (∃ (s : State) (v sense : BitVec 16) (us : BitVec 20), NoRetract s.m ∧ s.m.pwr.chopGated = true ∧ s.m.pwr.withheld = false ∧ brakeEnergy s.m v us < 30000000 ∧ v.toNat ≤ 2800 ∧ sense.toNat < 1000) ∧
    (∃ (s : State) (v sense : BitVec 16) (us : BitVec 20), NoRetract s.m ∧ s.m.pwr.chopGated = true ∧ s.m.pwr.withheld = false ∧ brakeEnergy s.m v us < 30000000 ∧ 2800 < v.toNat) ∧
    (∃ (s : State) (v : BitVec 16) (us : BitVec 20), NoRetract s.m ∧ s.m.pwr.withheld = false ∧ 30000000 ≤ brakeEnergy s.m v us) ∧
    (∃ (s : State) (v : BitVec 16) (us : BitVec 20), NoRetract s.m ∧ s.m.pwr.withheld = true ∧ s.m.pwr.chopGated = false ∧ decay60 us.toNat s.m.pwr.chopEnergy < 15000000) ∧
    (∃ (s : State) (v : BitVec 16) (us : BitVec 20), BrakeIdle s.m us ∧ 3000 ≤ v.toNat ∧ s.m.pwr.ovpActive = false ∧ s.m.spn.st.driven = false) ∧
    (∃ (s : State) (v : BitVec 16) (us : BitVec 20), BrakeIdle s.m us ∧ v.toNat ≤ 2500 ∧ s.m.pwr.ovpActive = true) ∧
    (∃ (s : State), s.m.sup.mode = .service) ∧
    (∃ (s : State) (g : Group), s.m.pwr.railPending.getLsbD g.bitNo = true) ∧
    (∃ (s : State), s.m.pwr.railRestart = true) ∧
    (∃ (s : State), s.m.pwr.aonRestart = true) :=
  ⟨⟨stOf (fun m => { m with pwr.measByRun := true, pwr.pfcOn := true }), 3822, by decide⟩,
    ⟨stOf (fun m => { m with pwr.measuring := true, pwr.measDone := true }), 40000, by decide⟩,
    ⟨stOf (fun m => { m with pwr.measuring := true }), .overtime, by decide⟩,
    ⟨State.reset, 2700, 1000000, by decide⟩,
    ⟨stOf (fun m => { m with pwr.chopGated := true, pwr.vmot := 2700 }), 2600, 1000, by decide⟩,
    ⟨stOf (fun m => { m with pwr.chopGated := true, pwr.vmot := 2700 }), 2700, 999, 20, by decide⟩,
    ⟨stOf (fun m => { m with pwr.chopGated := true, pwr.vmot := 2700 }), 2801, 3000, 20, by decide⟩,
    ⟨stOf (fun m => { m with pwr.chopGated := true, pwr.vmot := 2700, pwr.chopEnergy := 29999999 }), 2700, 10, by decide⟩,
    ⟨stOf (fun m => { m with pwr.withheld := true, pwr.chopEnergy := 15000000 }), 2400, 10, by decide⟩,
    ⟨State.reset, 3000, 0, by decide⟩,
    ⟨stOf (fun m => { m with pwr.ovpActive := true }), 2500, 1000, by decide⟩,
    ⟨stOf (fun m => { m with sup.mode := .service }), by decide⟩,
    ⟨stOf (fun m => { m with pwr.railPending := 1 }), .aon, by decide⟩,
    ⟨stOf (fun m => { m with pwr.railRestart := true }), by decide⟩,
    ⟨stOf (fun m => { m with pwr.aonRestart := true }), by decide⟩⟩

/-- Every hypothesis of `Obligations.ClockAndCrossingEffects` is met, clause by clause, by a state and operands. -/
theorem witness_ClockAndCrossingEffects :
    (∃ (s : State), s.m.clk.rootLock = true) ∧
    (∃ (s : State) (us : BitVec 32), s.m.clk.holdover = true ∧ s.m.clk.xtalOk = true) ∧
    (∃ (s : State), s.m.clk.xtalOk = true ∧ s.m.clk.rootLock = false) ∧
    (∃ (s : State), s.m.clk.xtalOk = true ∧ s.m.clk.rootLock = true ∧ s.m.pwr.loss = false) ∧
    (∃ (s : State) (a : Act), s.m.clk.chLock.get a = true ∧ s.m.pwr.loss = false) ∧
    (∃ (s : State) (a : Act), s.m.clk.rootLock = true) ∧
    (∃ (s : State) (a : Act) (khz : BitVec 22), 1000000 ≤ khz.toNat ∧ khz.toNat ≤ 3000000 ∧ (s.m.clk.freqPend.get a ≠ none ∨ s.m.clk.freqKhz.get a ≠ khz)) ∧
    (∃ (s : State) (a : Act) (k : BitVec 22), s.m.clk.freqPend.get a = some k) ∧
    (∃ (s : State) (num : BitVec 16) (c : Crossing), s.m.sup.mode = .service ∧ s.m.clk.crossings.find? (fun x => x.num == num && !x.torn) = some c) ∧
    (∃ (s : State) (a : Act), s.m.sup.mode = .service ∧ s.m.clk.crossings.all (fun c => decide (c.num.toNat < 15)) = true ∧ s.m.clk.ffTorn = ⟨false, false⟩) ∧
    (∃ (s : State) (speed : BitVec 24), inReset s.m .aon = true) ∧
    (∃ (s : State) (speed : BitVec 24), inReset s.m .fab = true ∧ unsupplied s.m .fab = false) ∧
    (∃ (s : State) (speed : BitVec 24), inReset s.m .spn = true ∧ unsupplied s.m .spn = false) ∧
    (∃ (s : State) (e : Act) (speed : BitVec 24), inReset s.m (.fe e) = true ∧ unsupplied s.m (.fe e) = false) ∧
    (∃ (s : State) (p : Act) (speed : BitVec 24), inReset s.m (.port p) = true ∧ s.m.pins.perst.get p = false ∧ unsupplied s.m (.port p) = false) ∧
    (∃ (s : State) (a : Act) (speed : BitVec 24), inReset s.m (.act a) = true ∧ unsupplied s.m (.act a) = false) :=
  ⟨⟨stOf (fun m => { m with clk.rootLock := true }), by decide⟩,
    ⟨stOf (fun m => { m with clk.holdover := true, clk.xtalOk := true }), 5, by decide⟩,
    ⟨stOf (fun m => { m with clk.xtalOk := true }), by decide⟩,
    ⟨stOf (fun m => { m with clk.xtalOk := true, clk.rootLock := true }), by decide⟩,
    ⟨stOf (fun m => { m with clk.chLock := .both true }), .a1, by decide⟩,
    ⟨stOf (fun m => { m with clk.rootLock := true }), .a0, by decide⟩,
    ⟨State.reset, .a0, 2999999, by decide⟩,
    ⟨stOf (fun m => { m with clk.freqPend := .both (some 2000000) }), .a1, 2000000, by decide⟩,
    ⟨stOf (fun m => { m with sup.mode := .service }), 9, .between 9 .spn .srv .fab .fab, by decide⟩,
    ⟨stOf (fun m => { m with sup.mode := .service }), .a1, by decide⟩,
    ⟨stOf (fun m => { m with clk.inReset := 1 }), 0, by decide⟩,
    ⟨stOf (fun m => { m with clk.inReset := 2, sup.mode := .idleLow }), 0, by decide⟩,
    ⟨stOf (fun m => { m with clk.inReset := 4, sup.mode := .idleLow }), 0, by decide⟩,
    ⟨stOf (fun m => { m with clk.inReset := 16, sup.mode := .idleLow }), .a1, 0, by decide⟩,
    ⟨stOf (fun m => { m with clk.inReset := 32, sup.mode := .idleLow }), .a0, 0, by decide⟩,
    ⟨stOf (fun m => { m with clk.inReset := 128, sup.mode := .idleLow }), .a0, 0, by decide⟩⟩

/-- Every hypothesis of `Obligations.BringUpStageEffects` is met, clause by clause, by a state and operands. -/
theorem witness_BringUpStageEffects :
    (∃ (s : State) (p : IdPage), stageDone s.m 1 = false ∧ s.m.hda.strapOk = true ∧ s.m.hda.norOk = true ∧ s.m.hda.page = some p ∧ p.valid = true) ∧
    (∃ (s : State), stageDone s.m 1 = false ∧ s.m.hda.strapOk = false) ∧
    (∃ (s : State), stageDone s.m 1 = true ∧ stageDone s.m 2 = false ∧ fwVerifies s.m s.m.sup.fwActive = true) ∧
    (∃ (s : State), stageDone s.m 2 = true ∧ stageDone s.m 3 = false ∧ s.m.pwr.llcOn = true ∧ norUsable s.m = false ∧ stopsAfter3 { s.m with sup.stages := s.m.sup.stages ||| 0x004 } = false) ∧
    (∃ (s : State), stageDone s.m 2 = true ∧ stageDone s.m 3 = false ∧ s.m.pwr.llcOn = true ∧ norUsable s.m = true ∧ stopsAfter3 (selectBank (readSlots { s.m with sup.stages := s.m.sup.stages ||| 0x004 })) = false) ∧
    (∃ (s : State), stageDone s.m 3 = true ∧ stageDone s.m 4 = false ∧ s.m.pwr.llcOn = true) ∧
    (∃ (s : State), stageDone s.m 4 = true ∧ stageDone s.m 6 = false) ∧
    (∃ (s : State) (arr : List (Act × BitVec 16 × List (List Byte))), stageDone s.m 7 = true ∧ stageDone s.m 8 = false) ∧
    (∃ (s : State) (arr : List (Act × BitVec 16 × List (List Byte))) (a : Act) (v : List Byte), stageDone s.m 7 = true ∧ stageDone s.m 8 = false ∧ imageInForce s.m a = some v ∧ (takeBlocks arr a v).any (fun b => b.isNone) = true) ∧
    (∃ (s : State), s.m.pwr.measDone = true ∧ stageDone s.m 4 = true ∧ stageDone s.m 10 = false) ∧
    (∃ (s : State), stageDone s.m 7 = true ∧ s.m.pwr.measDone = true ∧ s.m.sup.mode ≠ .safe ∧ stageDone s.m 11 = false ∧ s.m.pwr.loss = false) ∧
    (∃ (s : State) (t : BitVec 16), stageDone s.m 9 = true ∧ stageDone s.m 10 = true ∧ stageDone s.m 11 = false) ∧
    (∃ (s : State) (a : Act) (t : BitVec 16), (s.m.srv.get a).st = .follow ∧ forcedCalsDone s.m a = true ∧ s.m.sup.actReady.get a = false ∧ s.m.sup.actReady.get a.other = false) :=
  ⟨⟨stOf (fun m => { m with hda.strapOk := true, hda.norOk := true, hda.page := some wPage }), wPage, by exact ⟨rfl, rfl, rfl, rfl, wPage_valid⟩⟩,
    ⟨stOf (fun m => { m with hda.strapOk := false }), by decide⟩,
    ⟨stOf (fun m => { m with sup.stages := 1, sup.fw := .both (some ⟨true, 0, false, 0, []⟩) }), by decide⟩,
    ⟨stOf (fun m => { m with sup.stages := 3, pwr.llcOn := true, hda.norOk := false }), by decide⟩,
    ⟨stOf (fun m => { m with sup.stages := 3, pwr.llcOn := true, hda.strapOk := true, hda.norOk := true }), by decide⟩,
    ⟨stOf (fun m => { m with sup.stages := 7, pwr.llcOn := true }), by decide⟩,
    ⟨stOf (fun m => { m with sup.stages := 15 }), by decide⟩,
    ⟨stOf (fun m => { m with sup.stages := 64 }), [], by decide⟩,
    ⟨stOf (fun m => { m with sup.stages := 64, cfx.p0.loadedImage := some wImage }), [(.a0, 0, [wBad, wBad, wBad, wBad])], .a0, wImage, by decide +kernel⟩,
    ⟨stOf (fun m => { m with sup.stages := 8, pwr.measDone := true }), by decide⟩,
    ⟨stOf (fun m => { m with sup.stages := 64, pwr.measDone := true }), by decide⟩,
    ⟨stOf (fun m => { m with sup.stages := 0x300 }), 900, by decide⟩,
    ⟨stOf (fun m => { m with srv.p0.st := .follow }), .a0, 900, by decide⟩⟩

/-- Every hypothesis of `Obligations.ModeAndShutdownEffects` is met, clause by clause, by a state and operands. -/
theorem witness_ModeAndShutdownEffects :
    (∃ (s : State), s.m.sup.resolved = true ∧ s.m.sup.opened = false ∧ s.m.sup.foreign = false ∧ norUsable s.m = true ∧ mayConvert s.m = true ∧ shutOver s.m = false ∧ s.m.sup.shut ≠ .unloading) ∧
    (∃ (s : State), s.m.sup.mode = .active ∧ s.m.sup.trans = false ∧ mediaOutstanding s.m = false) ∧
    (∃ (s : State) (ps : BitVec 3), s.m.sup.apstEn = true ∧ fliesHeads s.m.sup.mode = true ∧ mediaOutstanding s.m = false ∧ ps.toNat ≤ 4 ∧ s.m.sup.shut = .none) ∧
    (∃ (s : State), s.m.pins.pwrDis = false ∧ s.m.sup.mode = .standby) ∧
    (∃ (s : State), s.m.pins.pwrDis = false ∧ s.m.sup.mode = .active ∧ stageDone s.m 11 = true) ∧
    (∃ (s : State), (spnResume { s.m with pins.pwrDis := false, spn.halted := false }).sup.mode ≠ .standby) ∧
    (∃ (s : State) (n : Mach), n = spnResume { s.m with pins.pwrDis := false, spn.halted := false } ∧ n.sup.mode = .standby ∧ n.sup.trans = false ∧ powerupMode n ≠ .standby) ∧
    (∃ (s : State), s.m.sup.shut = .draining ∧ mediaOutstanding s.m = false ∧ dirtySectors s.m = 0 ∧ parityUnderWay s.m = []) ∧
    (∃ (s : State), s.m.sup.shut = .draining ∧ 0 < dirtySectors s.m) ∧
    (∃ (s : State) (ms : BitVec 32), s.m.sup.shut = .unloading ∧ parked s.m = true ∧ s.m.sup.shutVseq = none ∧ s.m.sup.opened = true ∧ norUsable s.m = true) :=
  ⟨⟨stOf (fun m => { m with hda.strapOk := true, hda.norOk := true, sup.resolved := true }), by decide⟩,
    ⟨stOf (fun m => { m with sup.mode := .active }), by decide⟩,
    ⟨stOf (fun m => { m with sup.mode := .active, sup.apstEn := true }), 4, by decide⟩,
    ⟨stOf (fun m => { m with sup.mode := .standby }), by decide⟩,
    ⟨stOf (fun m => { m with sup.mode := .active, sup.stages := 0x400 }), by decide⟩,
    ⟨stOf (fun m => { m with sup.mode := .active }), by decide⟩,
    ⟨stOf (fun m => { m with sup.mode := .standby }), stReleased, by decide +kernel⟩,
    ⟨stOf (fun m => { m with sup.shut := .draining }), by decide⟩,
    ⟨stOf (fun m => { m with sup.shut := .draining, bcm.frames := [(0, { dirty := 1 })] }), by decide⟩,
    ⟨stOf (fun m => { m with hda.strapOk := true, hda.norOk := true, sup.shut := .unloading, sup.opened := true }), 100, by decide⟩⟩

/-- Every hypothesis of `Obligations.SpindleDriveEffects` is met, clause by clause, by a state and operands. -/
theorem witness_SpindleDriveEffects :
    (∃ (s : State) (v : BitVec 24), s.m.spn.st = .catching ∧ v = 0) ∧
    (∃ (s : State) (v : BitVec 24), s.m.spn.st = .catching ∧ v ≠ 0 ∧ atLeastRpm (setSpeed v.toNat s.m) (spnHandover (setSpeed v.toNat s.m)) = true) ∧
    (∃ (s : State) (v : BitVec 24), s.m.spn.st = .catching ∧ v ≠ 0 ∧ atLeastRpm (setSpeed v.toNat s.m) (spnHandover (setSpeed v.toNat s.m)) = false) ∧
    (∃ (s : State), s.m.spn.st = .align) ∧
    (∃ (s : State), s.m.spn.st = .ramp ∧ 12 ≤ s.m.spn.zcRun) ∧
    (∃ (s : State), s.m.spn.st = .ramp) ∧
    (∃ (s : State), s.m.spn.retryWait = true ∧ s.m.spn.targetRpm ≠ 0 ∧ s.m.spn.halted = false) ∧
    (∃ (s : State), s.m.spn.starting = true) ∧
    (∃ (s : State) (iph : BitVec 16), s.m.spn.bridge = .floating ∧ s.m.spn.st ≠ .ramp) ∧
    (∃ (s : State) (iph : BitVec 16) (e : BitVec 16) (i : Nat), s.m.spn.bridge = .step ∧ s.m.spn.st = .run ∧ e = Config.observerStep s.m.spn.elec s.m.spn.ePeriod ∧ i = Nat.min iph.toNat (spnRunIlim s.m)) ∧
    (∃ (s : State) (x : MotorPhase) (p : BitVec 24) (pos : BitVec 16) (err : Int), s.m.spn.st = .ramp ∧ p ≠ 0 ∧ inReset s.m .spn = false ∧ zcFound s.m x pos.toNat = true) ∧
    (∃ (s : State) (x : MotorPhase) (p : BitVec 24) (pos : BitVec 16) (err : Int), s.m.spn.st.tested = true ∧ zcFound s.m x pos.toNat = false) ∧
    (∃ (s : State) (x : MotorPhase) (p : BitVec 24) (pos : BitVec 16) (err : Int) (q : Nat), s.m.spn.st.tested = true ∧ p ≠ 0 ∧ inReset s.m .spn = false ∧ zcFound s.m x pos.toNat = true ∧ s.m.spn.lastStep = some q ∧ offBy12 p.toNat q = true) ∧
    (∃ (s : State) (ms : BitVec 32), s.m.spn.st = .coast ∧ inReset s.m .spn = false ∧ atBoundary s.m = true ∧ (s.m.spn.comStep + 1) % 6 ≠ 0) ∧
    (∃ (s : State) (ms : BitVec 32), s.m.spn.st.tested = true ∧ inReset s.m .spn = false ∧ atBoundary s.m = true ∧ s.m.spn.zcSeen = false) ∧
    (∃ (s : State) (v : BitVec 24), flyOkAt s.m.spn.targetRpm.toNat v.toNat = true) ∧
    (∃ (s : State) (v : BitVec 24), flyOkAt s.m.spn.targetRpm.toNat v.toNat = false ∧ s.m.spn.flyOk = true ∧ parked s.m = false ∧ s.m.spn.listen = false) ∧
    (∃ (s : State), s.m.spn.st.tested = true ∧ s.m.spn.zcSeen = false) ∧
    (∃ (s : State), s.m.spn.st.tested = true) ∧
    (∃ (s : State) (us : BitVec 32), s.m.spn.st = .lost ∧ s.m.spn.listen = true ∧ 12 ≤ s.m.spn.zcRun ∧ flyOkAt s.m.spn.targetRpm.toNat (speedOf (s.m.spn.steps.take 12)) = false) ∧
    (∃ (s : State) (us : BitVec 32) (v : Nat), s.m.spn.st = .lost ∧ s.m.spn.listen = true ∧ 12 ≤ s.m.spn.zcRun ∧ s.m.spn.unfollowed = false ∧ v = speedOf (s.m.spn.steps.take 12) ∧ flyOkAt s.m.spn.targetRpm.toNat v = true) ∧
    (∃ (s : State) (v : BitVec 24), s.m.spn.st = .lost ∧ s.m.spn.listen = true) :=
  ⟨⟨stSpn (fun m => { m with spn.st := .catching }), 0, by decide⟩,
    ⟨stSpn (fun m => { m with spn.st := .catching }), 40000, by decide⟩,
    ⟨stSpn (fun m => { m with spn.st := .catching }), 10, by decide⟩,
    ⟨stSpn (fun m => { m with spn.st := .align }), by decide⟩,
    ⟨stSpn (fun m => { m with spn.st := .ramp, spn.zcRun := 12 }), by decide⟩,
    ⟨stSpn (fun m => { m with spn.st := .ramp }), by decide⟩,
    ⟨stSpn (fun m => { m with spn.retryWait := true, spn.targetRpm := 5400 }), by decide⟩,
    ⟨stSpn (fun m => { m with spn.starting := true }), by decide⟩,
    ⟨stSpn (fun m => { m with spn.bridge := .floating }), 5, by decide⟩,
    ⟨stSpn (fun m => { m with spn.bridge := .step, spn.st := .run }), 5, _, 5, by exact ⟨rfl, rfl, rfl, by decide⟩⟩,
    ⟨stSpn (fun m => { m with spn.st := .ramp }), .c, 5, 32768, 0, by decide⟩,
    ⟨stSpn (fun m => { m with spn.st := .run }), .a, 5, 32768, 0, by decide⟩,
    ⟨stSpn (fun m => { m with spn.st := .run, spn.lastStep := some 1000 }), .c, 1121, 32768, 0, 1000, by decide⟩,
    ⟨stSpn (fun m => { m with spn.st := .coast, spn.elec := 10923 }), 5, by decide⟩,
    ⟨stSpn (fun m => { m with spn.st := .brake, spn.elec := 10923 }), 5, by decide⟩,
    ⟨stSpn (fun m => { m with spn.targetRpm := 7200 }), 720000, by decide⟩,
    ⟨stSpn (fun m => { m with spn.targetRpm := 7200, spn.flyOk := true, srv.p0.loaded := true }), 10, by decide⟩,
    ⟨stSpn (fun m => { m with spn.st := .brake }), by decide⟩,
    ⟨stSpn (fun m => { m with spn.st := .accel }), by decide⟩,
    ⟨stSpn (fun m => { m with spn.st := .lost, spn.listen := true, spn.zcRun := 12, spn.targetRpm := 7200 }), 5, by decide⟩,
    ⟨stSpn (fun m => { m with spn.st := .lost, spn.listen := true, spn.zcRun := 12, spn.targetRpm := 7200, spn.steps := List.replicate 12 86805 }), 5, 720004, by decide⟩,
    ⟨stSpn (fun m => { m with spn.st := .lost, spn.listen := true }), 5, by decide⟩⟩

/-- Every hypothesis of `Obligations.SpindleIndexAndRequestEffects` is met, clause by clause, by a state and operands. -/
theorem witness_SpindleIndexAndRequestEffects :
    (∃ (s : State), s.m.spn.st = .coast ∧ standbyWaits (spnStop s.m) = false) ∧
    (∃ (s : State), s.m.spn.st = .coast ∧ standbyWaits (spnStop s.m) = true ∧ (spnStop s.m).sup.tail = false ∧ (spnStop s.m).spn.st = .stopped) ∧
    (∃ (s : State) (d : BitVec 16), s.m.spn.st ≠ .stopped ∧ loaded s.m .a0 = true ∧ d.toNat ≤ 100) ∧
    (∃ (s : State), parked s.m = true) ∧
    (∃ (s : State) (h : Hdr), Served s.m h lvMaint ∧ s.m.sup.mode = .service ∧ h.p1 = 0 ∧ h.p2 = 0 ∧ h.p3 = 0 ∧ h.p0.toNat ≤ 255 ∧ parked s.m = true) ∧
    (∃ (s : State) (h : Hdr), Served s.m h lvHost ∧ h.p0 = 0 ∧ h.p1 = 0 ∧ h.p2 = 0 ∧ h.p3 = 0) ∧
    (∃ (s : State) (h : Hdr) (v : List Byte), Served s.m h lvMaint ∧ s.m.sup.mode = .service ∧ h.p0 = 0 ∧ h.p1 = 0 ∧ h.p2 = 0 ∧ h.p3 = 0 ∧ curveValid (accept h 0x0603 false s.m) v = true) :=
  ⟨⟨stSpn (fun m => { m with spn.st := .coast }), by decide⟩,
    ⟨stSpn (fun m => { m with spn.st := .coast, sup.trans := true, sup.target := .standby, sup.shut := .complete }), by decide⟩,
    ⟨stSpn (fun m => { m with spn.st := .run, srv.p0.loaded := true }), 100, by decide⟩,
    ⟨State.reset, by decide⟩,
    ⟨stAs .service 1 id, { wHdrS with p0 := 255 }, by decide⟩,
    ⟨State.reset, wHdr, by decide⟩,
    ⟨stAs .service 1 id, wHdrS, wCurve, by decide⟩⟩

/-- Every hypothesis of `Obligations.PositionSensingEffects` is met, clause by clause, by a state and operands. -/
theorem witness_PositionSensingEffects :
    (∃ (s : State) (a : Act) (magA magB x y : List Nat) (angle : BitVec 16) (settled : Bool) (u : Nat), demodulates s.m a = true ∧ x = magA.map (fun v => v * (s.m.srvRef.get a).gain / 65536) ∧ y = magB.map (fun v => v * (s.m.srvRef.get a).gain / 65536) ∧ setPasses s.m a x = true ∧ setPasses s.m a y = true ∧ (s.m.srvRef.get a).damage = [] ∧ (wrap12 ((setFraction s.m a 1 y : Int) - setFraction s.m a 0 x)).natAbs ≤ (s.m.srvRef.get a).laneAgree.toNat ∧ u = (((setFraction s.m a 0 x : Int) + (wrap12 ((setFraction s.m a 1 y : Int) - setFraction s.m a 0 x)).tdiv 2) % 4096).toNat ∧ (s.m.srvRef.get a).correcting = false ∧ (nearestWord u (predicted s.m a) - predicted s.m a).natAbs ≤ posSet s.m a 2 2 512) ∧
    (∃ (s : State) (a : Act) (magA magB x y : List Nat) (angle : BitVec 16) (settled : Bool), demodulates s.m a = true ∧ x = magA.map (fun v => v * (s.m.srvRef.get a).gain / 65536) ∧ y = magB.map (fun v => v * (s.m.srvRef.get a).gain / 65536) ∧ setPasses s.m a x = false ∧ setPasses s.m a y = false) ∧
    (∃ (s : State) (a : Act) (set : LaneSet) (lane : BitVec 2) (x : BitVec 40) (amp : BitVec 16), demodulates s.m a = true ∧ frameValid x amp = true ∧ (s.m.srvRef.get a).word1 = none) ∧
    (∃ (s : State) (a : Act) (set : LaneSet) (lane : BitVec 2) (x : BitVec 40) (amp : BitVec 16), frameValid x amp = false) ∧
    (∃ (s : State) (a : Act), (s.m.srv.get a).st = .seek ∧ (s.m.srvRef.get a).acquired = false ∧ loaded s.m a = true) ∧
    (∃ (s : State) (a : Act), demodulates s.m a = true ∧ (s.m.srvRef.get a).indexValid = true ∧ (s.m.srvRef.get a).markLost = false ∧ (s.m.srvRef.get a).acquired = true ∧ (s.m.srv.get a).st = .follow) ∧
    (∃ (s : State) (a : Act) (f : BitVec 7) (code : BitVec 12) (q0 q1 : Int), demodulates s.m a = true ∧ (s.m.srv.get a).st = .follow ∧ (s.m.srvRef.get a).missRun + 1 ≠ (s.m.srvRef.get a).missLimit.toNat) ∧
    (∃ (s : State) (a : Act) (f : BitVec 7) (code : BitVec 12) (q0 q1 e : Int), demodulates s.m a = true ∧ (s.m.srv.get a).st = .settle ∧ codeTrack (s.m.srv.get a).tgtTrack.toNat code.toNat = (s.m.srv.get a).tgtTrack.toNat ∧ e = (alignQ (s.m.srvRef.get a).alignReader q0 q1 * (pitchAt s.m a (s.m.srv.get a).head.toNat (s.m.srv.get a).tgtTrack.toNat : Int)).tdiv 1048576 ∧ e.natAbs ≤ (s.m.srvRef.get a).alignLimit.toNat) :=
  ⟨⟨stFly (fun m => { m with srvRef.p0.laneAgree := 600, srv.p0.xEst := 700, srvRef.p0.gain := 65536 }), .a0, wLanes, wLanes, wLanes, wLanes, 0, true, 768, by decide +kernel⟩,
    ⟨stFly id, .a0, [0, 0, 0, 0], [0, 0, 0, 0], _, _, 0, true, by (repeat' apply And.intro) <;> first | decide +kernel | rfl⟩,
    ⟨stFly id, .a0, .setA, 0, wFrame, 250, by decide +kernel⟩,
    ⟨stFly id, .a0, .setA, 0, wFrame, 249, by decide +kernel⟩,
    ⟨stFly (fun m => { m with srv.p0.st := .seek }), .a0, by decide⟩,
    ⟨stFly (fun m => { m with srv.p0.st := .follow, srvRef.p0.indexValid := true, srvRef.p0.acquired := true }), .a0, by decide⟩,
    ⟨stFly (fun m => { m with srv.p0.st := .follow, srvRef.p0.missLimit := 4 }), .a0, 5, 0, 0, 0, by decide⟩,
    ⟨stFly (fun m => { m with srv.p0.st := .settle, srvRef.p0.alignLimit := 4 }), .a0, 5, 0, 0, 0, 0, by decide⟩⟩

/-- Every hypothesis of `Obligations.ServoLoopEffects` is met, clause by clause, by a state and operands. -/
theorem witness_ServoLoopEffects :
    (∃ (s : State) (a : Act) (phase : BitVec 8) (acc0 acc1 : Int) (angle : BitVec 16) (bad : BitVec 12), s.m.pwr.loss = false ∧ (s.m.srv.get a).st = .follow ∧ inReset s.m (.act a) = false ∧ phase.toNat ≤ 187) ∧
    (∃ (s : State) (a : Act) (phase : BitVec 8) (acc0 acc1 : Int) (angle : BitVec 16) (bad : BitVec 12), s.m.pwr.loss = false ∧ (s.m.srv.get a).st = .follow ∧ inReset s.m (.act a) = false ∧ 187 < phase.toNat) ∧
    (∃ (s : State) (a : Act) (i : Int) (lim : Bool), s.m.pwr.loss = false ∧ (s.m.srv.get a).st = .opened) ∧
    (∃ (s : State) (a : Act) (i : Int), s.m.pwr.loss = false ∧ (s.m.srv.get a).st = .follow ∧ (i - (s.m.srv.get a).isp).natAbs ≤ 3000) ∧
    (∃ (s : State) (a : Act) (l : Loop) (k : BitVec 2), (s.m.srv.get a).bankPend.getD l.idx none = some k ∧ (s.m.srv.get a).bankReqs = []) :=
  ⟨⟨stFly (fun m => { m with srv.p0.st := .follow }), .a0, 187, 0, 0, 0, 0, by decide⟩,
    ⟨stFly (fun m => { m with srv.p0.st := .follow }), .a0, 188, 0, 0, 0, 0, by decide⟩,
    ⟨State.reset, .a0, 5, true, by decide⟩,
    ⟨stFly (fun m => { m with srv.p0.st := .follow }), .a0, 3000, by decide⟩,
    ⟨stFly (fun m => { m with srv.p0.bankPend := [none, some 3, none, none] }), .a0, .position, 3, by decide⟩⟩

/-- Every hypothesis of `Obligations.ActuatorEventEffects` is met, clause by clause, by a state and operands. -/
theorem witness_ActuatorEventEffects :
    (∃ (s : State) (a : Act) (n : Mach), (s.m.srv.get a).st = .seek ∧ (s.m.srv.get a).phase = .track ∧ (s.m.srvRef.get a).acquired = true ∧ n = report (actCode 0x0451 a) (onHead a (s.m.srv.get a).head.toNat) (leBytes 3 (s.m.srv.get a).tgtTrack.toNat ++ leBytes 4 (targetOf s.m a (s.m.srv.get a).head.toNat (s.m.srv.get a).tgtTrack.toNat (s.m.srv.get a).angle.toNat - (s.m.srv.get a).xEst).natAbs) s.m) ∧
    (∃ (s : State) (a : Act) (why : BitVec 8), (s.m.srv.get a).st = .seek ∧ (s.m.srv.get a).phase = .load ∧ (s.m.srvRef.get a).acquired = false ∧ (why = 1 ∨ why = 2) ∧ (s.m.srv.get a).loadTry ≤ loadRetry s.m a) ∧
    (∃ (s : State) (a : Act), (s.m.srv.get a).st = .seek ∧ (s.m.srv.get a).phase = .unload) ∧
    (∃ (s : State) (a : Act), (s.m.srv.get a).st = .hold ∧ (s.m.srv.get a).seekWait = none ∧ (s.m.srv.get a).holdReq = none) ∧
    (∃ (s : State) (a : Act), (s.m.srv.get a).st = .retract ∧ (enterOpen a s.m).clk.resetWait.getLsbD (Group.bitNo (.act a)) = false) ∧
    (∃ (s : State) (a : Act), (s.m.srv.get a).reload = true ∧ (s.m.srv.get a).st = .opened ∧ s.m.spn.flyOk = true ∧ (s.m.srv.get a).shockWi = false ∧ wantsHeads s.m = true) ∧
    (∃ (s : State) (a : Act) (pk : BitVec 16), 10 * shockRetLim s.m a < pk.toNat ∧ loaded s.m a = true) ∧
    (∃ (s : State) (a : Act) (pk : BitVec 16), s.m.pwr.loss = false ∧ 10 * shockWiLim s.m a < pk.toNat) ∧
    (∃ (s : State) (a : Act), (s.m.srv.get a).shockWi = true ∧ (s.m.srv.get a).onTrackW = true) ∧
    (∃ (s : State) (a : Act), (s.m.srv.get a).st = .follow) :=
  ⟨⟨stFly (fun m => { m with srv.p0.st := .seek, srv.p0.phase := .track, srvRef.p0.acquired := true }), .a0, _, by exact ⟨rfl, rfl, rfl, rfl⟩⟩,
    ⟨stFly (fun m => { m with srv.p0.st := .seek, srv.p0.phase := .load }), .a0, 1, by decide⟩,
    ⟨stFly (fun m => { m with srv.p0.st := .seek, srv.p0.phase := .unload }), .a0, by decide⟩,
    ⟨stFly (fun m => { m with srv.p0.st := .hold }), .a0, by decide⟩,
    ⟨stFly (fun m => { m with srv.p0.st := .retract }), .a0, by decide⟩,
    ⟨stFly (fun m => { m with srv.p0.st := .opened, srv.p0.reload := true, sup.mode := .active, sup.opened := true, sup.stages := 0x400 }), .a0, by decide⟩,
    ⟨stFly id, .a0, 0xFFFF, by decide⟩,
    ⟨State.reset, .a1, 0xFFFF, by decide⟩,
    ⟨stFly (fun m => { m with srv.p0.shockWi := true, srv.p0.onTrackW := true }), .a0, by decide⟩,
    ⟨stFly (fun m => { m with srv.p0.st := .follow }), .a0, by decide⟩⟩

/-- Every hypothesis of `Obligations.ServoRequestEffects` is met, clause by clause, by a state and operands. -/
theorem witness_ServoRequestEffects :
    (∃ (s : State) (h : Hdr), Served s.m h lvHost ∧ h.p0.toNat ≤ 1 ∧ h.p1 = 0 ∧ h.p2 = 0 ∧ h.p3 = 0 ∧ calHolds s.m (actOf h) = false) ∧
    (∃ (s : State) (h : Hdr) (bs : List Byte), Served s.m h lvMaint ∧ h.p0.toNat ≤ 1 ∧ h.p1.toNat ≤ 3 ∧ h.p2.toNat ≤ 3 ∧ h.p3 = 0 ∧ (s.m.srv.get (actOf h)).st = .opened ∧ bs.length = 256 ∧ 2 ^ 31 ≤ fieldAt bs 0 4 ∧ fieldAt bs 0 4 / 16 % 2 ^ 27 = 0 ∧ (List.range 25).all (fun i => fieldAt bs (4 * (39 + i)) 4 == 0) = true) ∧
    (∃ (s : State) (h : Hdr), Served s.m h lvMaint ∧ h.p0.toNat ≤ 1 ∧ h.p1.toNat ≤ 3 ∧ h.p2.toNat ≤ 3 ∧ h.p3 = 0 ∧ (s.m.srv.get (actOf h)).bankValid h.p1.toNat h.p2.toNat = true ∧ (s.m.srv.get (actOf h)).st ≠ .retract) ∧
    (∃ (s : State) (h : Hdr), Served s.m h lvMaint ∧ s.m.sup.mode = .service ∧ h.p0.toNat ≤ 1 ∧ h.p1 = 0 ∧ h.p2 = 0 ∧ h.p3 = 0 ∧ (s.m.srv.get (actOf h)).st = .opened) ∧
    (∃ (s : State) (h : Hdr), Served s.m h lvMaint ∧ s.m.sup.mode = .service ∧ h.p0.toNat ≤ 1 ∧ h.p1 = 0 ∧ h.p2 = 0 ∧ h.p3 = 0 ∧ (s.m.srv.get (actOf h)).st = .follow) ∧
    (∃ (s : State) (h : Hdr), Served s.m h lvMaint ∧ s.m.sup.mode = .service ∧ s.m.spn.atSpeed = true ∧ s.m.spn.flyOk = true ∧ recordOpen s.m = true ∧ shutOver s.m = false ∧ h.p0.toNat ≤ 1 ∧ h.p3 = 0 ∧ (s.m.srv.get (actOf h)).st = .opened ∧ dataHead (accept h 0x0505 false s.m) (actOf h) h.p1.toNat = true ∧ regionOfTrack (accept h 0x0505 false s.m) (actOf h) h.p1.toNat h.p2.toNat ≠ none) ∧
    (∃ (s : State) (h : Hdr), Served s.m h lvMaint ∧ h.p0.toNat ≤ 1 ∧ h.p1 = 0 ∧ h.p2 = 0 ∧ h.p3 = 0) ∧
    (∃ (s : State) (h : Hdr), Served s.m h lvMaint ∧ h.p0.toNat ≤ 1 ∧ h.p1 = 4 ∧ h.p2 &&& ~~~(0xF0F#32) = 0 ∧ h.p3 = 0 ∧ 4 ≤ field h.p2 0 4 ∧ field h.p2 0 4 ≤ 12) ∧
    (∃ (s : State) (h : Hdr), Served s.m h lvMaint ∧ s.m.sup.mode = .service ∧ h.p0.toNat ≤ 1 ∧ (s.m.srv.get (actOf h)).st = .follow ∧ -32768 ≤ h.p1.toInt ∧ h.p1.toInt ≤ 32767 ∧ h.p3.toNat ≤ holdTmax (accept h 0x0507 false s.m) (actOf h)) :=
  ⟨⟨State.reset, wHdr, by decide⟩,
    ⟨stAs .active 1 id, { wHdrS with p1 := 3, p2 := 3 }, wBank, by decide +kernel⟩,
    ⟨stAs .active 1 (fun m => { m with srv.p0.words := [(0x1300, 0x80000000), (0x1310, 0)] }), { wHdrS with p1 := 0, p2 := 3 }, by decide⟩,
    ⟨stAs .service 1 id, { wHdrS with p0 := 1 }, by decide⟩,
    ⟨stAs .service 1 (fun m => { m with srv.p1.st := .follow }), { wHdrS with p0 := 1 }, by decide⟩,
    ⟨stAs .service 1 (fun m => { m with spn.atSpeed := true, spn.flyOk := true, sup.opened := true, hda.strapOk := true, hda.norOk := true, hda.page := some wPage, sup.records := [wTracks] }), { wHdrS with p1 := 1, p2 := 999 }, by decide⟩,
    ⟨stAs .active 1 id, wHdrS, by decide⟩,
    ⟨stAs .active 1 id, { wHdrS with p1 := 4, p2 := 0x304 }, by decide⟩,
    ⟨stAs .service 1 (fun m => { m with srv.p0.st := .follow }), { wHdrS with p1 := 0xFFFF8000 }, by decide⟩⟩

/-- Every hypothesis of `Obligations.HeadInterfaceEffects` is met, clause by clause, by a state and operands. -/
theorem witness_HeadInterfaceEffects :
    (∃ (s : State) (a : Act) (f : Frame) (acks : List Ack), s.m.pwr.loss = false ∧ inReset s.m (.act a) = false) ∧
    (∃ (s : State) (a : Act) (st : BitVec 8) (t v : BitVec 16) (i : BitVec 10) (acks : List Ack) (k n : Mach), s.m.pwr.loss = false ∧ inReset s.m (.act a) = false ∧ k = s.m.onPre a (fun p => { p with temp := t, astMeas := i.zeroExtend 16, astVmeas := v }) ∧ n = k.onPre a (fun p => { p with status := p.status ||| st ||| ownCutoff k a }) ∧ (frameTries n a pollFrame acks).getLast?.getD .silent = .accepted ∧ t.toInt < 4 * (otLimit s.m a : Int) ∧ (n.pre.get a).status.getLsbD 5 = false ∧ (n.pre.get a).status.getLsbD 6 = false) ∧
    (∃ (s : State) (a : Act) (st : BitVec 8) (t v : BitVec 16) (i : BitVec 10) (acks : List Ack), s.m.pwr.loss = false) ∧
    (∃ (s : State) (a : Act) (acks : List Ack), inReset s.m (.act a) = false ∧ s.m.sup.mode = .service ∧ cfxHalted s.m a = true) ∧
    (∃ (s : State) (a : Act), inReset s.m (.act a) = false) ∧
    (∃ (s : State) (a : Act) (st : BitVec 8) (n k : Mach), s.m.pwr.loss = false ∧ inReset s.m (.act a) = false ∧ n = refreshInhibit a ((s.m.onPre a (fun p => { p with status := p.status ||| st })).onHif a (fun h => { h with wusIn := true })) ∧ k = report (actCode 0x0620 a) (onHead a ((sendFrame a ⟨false, 15, 3, [], 1⟩ [] false n).hif.get a).selHead.toNat) (leBytes 1 (n.pre.get a).status.toNat) (sendFrame a ⟨false, 15, 3, [], 1⟩ [] false n)) ∧
    (∃ (s : State) (a : Act) (t : BitVec 16), (s.m.hif.get a).otCut = true ∧ t.toInt ≤ 4 * ((otLimit s.m a : Int) - otHyst s.m a)) :=
  ⟨⟨stFly id, .a0, pollFrame, [], by decide⟩,
    ⟨stPoll, .a0, 0, 0, 0, 0, [.accepted], _, _, by (repeat' apply And.intro) <;> first | decide +kernel | rfl⟩,
    ⟨stPoll, .a0, 0, 0, 0, 0, [], by decide⟩,
    ⟨stPoll, .a0, [], by decide⟩,
    ⟨stPoll, .a0, by decide⟩,
    ⟨stPoll, .a0, 0x40, _, _, by exact ⟨rfl, by decide, rfl, rfl⟩⟩,
    ⟨stOf (fun m => { m with hif.p0.otCut := true }), .a0, 0, by decide⟩⟩

/-- Every hypothesis of `Obligations.ChannelEffects` is met, clause by clause, by a state and operands. -/
theorem witness_ChannelEffects :
    (∃ (s : State) (a : Act) (pn bg : List (Int × Nat)), (s.m.ch.get a).secs.any (fun x => !x.write && x.sync.isNone && x.result.isNone) = true) ∧
    (∃ (s : State) (a : Act) (g g' : SecSignal) (x : Sec) (k : SyncKind × Int) (p : Payload), (s.m.ch.get a).secs.find? (·.result.isNone) = some x ∧ x.write = false ∧ x.store.isSome = true ∧ x.sync = some k ∧ k.1 ≠ .miss ∧ readBack s.m a x = some p ∧ p.info.tag = x.tag ∧ g' = capSignal g (s.m.ch.get a) ∧ g'.fly.ok = true) ∧
    (∃ (s : State) (a : Act) (b : Reg) (xs : List Byte) (h : Hdr), (s.m.ch.get a).capture = some h) ∧
    (∃ (s : State) (h : Hdr) (a : Act), Served s.m h lvHost ∧ h.p3 = 0 ∧ actNum h.p0 = some a ∧ 1 ≤ h.p1.toNat ∧ h.p1.toNat ≤ 11 ∧ h.p2.toNat < 64 ∧ dataHead s.m a h.p1.toNat = true ∧ calHeld s.m a h.p1.toNat = false) ∧
    (∃ (s : State) (h : Hdr) (a : Act), Served s.m h lvMaint ∧ h.p3 = 0 ∧ actNum h.p0 = some a ∧ h.p1.toNat ≤ 2 ∧ h.p2.toNat ≤ 65535 ∧ (s.m.ch.get a).capture = none) :=
  ⟨⟨stOf (fun m => { m with ch.p0.secs := [wSec] }), .a0, [], [], by decide⟩,
    ⟨stRead, .a0, wSig, _, wFramed, (.both, 0), wPay, by exact ⟨by decide, rfl, rfl, rfl, by decide, stRead_back, rfl, rfl, by decide⟩⟩,
    ⟨stOf (fun m => { m with ch.p0.capture := some wHdr }), .a0, 5, [1, 2], wHdr, by decide⟩,
    ⟨stOf (fun m => { m with hda.strapOk := true, hda.norOk := true, hda.page := some wPage }), { wHdr with p1 := 1, p2 := 63 }, .a0, by decide⟩,
    ⟨stAs .active 1 id, { wHdrS with p0 := 1, p1 := 2, p2 := 65535 }, .a1, by decide⟩⟩

/-- Every hypothesis of `Obligations.SequencerControlWordEffects` is met, clause by clause, by a state and operands. -/
theorem witness_SequencerControlWordEffects :
    (∃ (s : State) (a : Act) (w : Reg), Fetches s.m a w ∧ wOp w = 0x00) ∧
    (∃ (s : State) (a : Act) (w : Reg), Fetches s.m a w ∧ wOp w = 0x01) ∧
    (∃ (s : State) (a : Act) (w : Reg), Fetches s.m a w ∧ wOp w = 0x02 ∧ wSel w < 24 ∧ ((s.m.onCfx a (·.put fTMO false)).cfx.get a).flag (wSel w) = wSense w) ∧
    (∃ (s : State) (a : Act) (w : Reg), Fetches s.m a w ∧ wOp w = 0x02 ∧ wSel w < 24 ∧ ((s.m.onCfx a (·.put fTMO false)).cfx.get a).flag (wSel w) ≠ wSense w) ∧
    (∃ (s : State) (a : Act) (w : Reg), Fetches s.m a w ∧ wOp w = 0x03) ∧
    (∃ (s : State) (a : Act) (w : Reg), Fetches s.m a w ∧ wOp w = 0x04 ∧ wSel w < 24) ∧
    (∃ (s : State) (a : Act) (w : Reg), Fetches s.m a w ∧ wOp w = 0x05 ∧ (s.m.cfx.get a).stack.length < 4) ∧
    (∃ (s : State) (a : Act) (w : Reg) (x : BitVec 12) (xs : List (BitVec 12)), Fetches s.m a w ∧ wOp w = 0x06 ∧ (s.m.cfx.get a).stack = x :: xs) ∧
    (∃ (s : State) (a : Act) (w : Reg) (v : BitVec 24), Fetches s.m a w ∧ wOp w = 0x07 ∧ v = (s.m.cfx.get a).reg (wReg w) - 1 ∧ v ≠ 0) ∧
    (∃ (s : State) (a : Act) (w : Reg), Fetches s.m a w ∧ wOp w = 0x08) ∧
    (∃ (s : State) (a : Act) (w : Reg), Fetches s.m a w ∧ knownOpcode (wOp w) = false) ∧
    (∃ (s : State) (a : Act) (w : Reg), Fetches s.m a w ∧ wOp w = 0x09 ∧ (s.m.cfx.get a).gate gWG = false ∧ (s.m.cfx.get a).gate gAG = false) ∧
    (∃ (s : State) (a : Act) (w : Reg), Fetches s.m a w ∧ wOp w = 0x0A) ∧
    (∃ (s : State) (a : Act) (w : Reg), Fetches s.m a w ∧ wOp w = 0x10 ∧ wSrc w = false) ∧
    (∃ (s : State) (a : Act) (w : Reg), Fetches s.m a w ∧ wOp w = 0x10 ∧ wSrc w = true) ∧
    (∃ (s : State) (a : Act) (w : Reg) (r : BitVec 24), Fetches s.m a w ∧ wOp w = 0x11 ∧ wSrc w = false ∧ r = BitVec.ofInt 24 (((s.m.cfx.get a).reg (wReg w)).toNat + (BitVec.ofNat 18 (wImm18 w)).toInt)) ∧
    (∃ (s : State) (a : Act) (w : Reg), Fetches s.m a w ∧ wOp w = 0x12 ∧ wSrc w = false) ∧
    (∃ (s : State) (a : Act) (w : Reg), Fetches s.m a w ∧ wOp w = 0x13) :=
  ⟨⟨stWord 0x0 id, .a0, 0x0, by decide⟩,
    ⟨stWord 0x4000000 id, .a0, 0x4000000, by decide⟩,
    ⟨stWord 0x8010000 id, .a0, 0x8010000, by decide⟩,
    ⟨stWord 0x8210000 id, .a0, 0x8210000, by decide⟩,
    ⟨stWord 0xc000000 id, .a0, 0xc000000, by decide⟩,
    ⟨stWord 0x10000000 id, .a0, 0x10000000, by decide⟩,
    ⟨stWord 0x14000000 id, .a0, 0x14000000, by decide⟩,
    ⟨stWord 0x18000000 (fun m => { m with cfx.p0.stack := [5] }), .a0, 0x18000000, 5, [], by decide⟩,
    ⟨stWord 0x1c000000 (fun m => { m with cfx.p0.c := [2] }), .a0, 0x1c000000, 1, by decide⟩,
    ⟨stWord 0x20000000 id, .a0, 0x20000000, by decide⟩,
    ⟨stWord 0xfc000000 id, .a0, 0xfc000000, by decide⟩,
    ⟨stWord 0x24000000 id, .a0, 0x24000000, by decide⟩,
    ⟨stWord 0x28000000 id, .a0, 0x28000000, by decide⟩,
    ⟨stWord 0x40000000 id, .a0, 0x40000000, by decide⟩,
    ⟨stWord 0x40040000 id, .a0, 0x40040000, by decide⟩,
    ⟨stWord 0x44000005 id, .a0, 0x44000005, 5, by decide⟩,
    ⟨stWord 0x48000000 id, .a0, 0x48000000, by decide⟩,
    ⟨stWord 0x4c000000 id, .a0, 0x4c000000, by decide⟩⟩

/-- Every hypothesis of `Obligations.SequencerMediaWordEffects` is met, clause by clause, by a state and operands. -/
theorem witness_SequencerMediaWordEffects :
    (∃ (s : State) (a : Act) (w : Reg), Fetches s.m a w ∧ wOp w = 0x18 ∧ bit w (17 + gRG) = false ∧ bit w (17 + gWG) = false) ∧
    (∃ (s : State) (a : Act) (w : Reg) (k1 k2 : List Ack), Fetches s.m a w ∧ wOp w = 0x20 ∧ (s.m.hif.get a).wgate = false) ∧
    (∃ (s : State) (a : Act) (w : Reg) (k1 : List Ack), Fetches s.m a w ∧ wOp w = 0x21 ∧ (s.m.hif.get a).wgate = false) ∧
    (∃ (s : State) (a : Act) (w : Reg), Fetches s.m a w ∧ wOp w = 0x22 ∧ bit w 1 = false ∧ following s.m a (s.m.hif.get a).selHead.toNat ((s.m.cfx.get a).reg (wReg w)).toNat = true) ∧
    (∃ (s : State) (a : Act) (w : Reg), Fetches s.m a w ∧ wOp w = 0x23 ∧ wValue (s.m.cfx.get a) w % 16 = 0) ∧
    (∃ (s : State) (a : Act) (w : Reg), Fetches s.m a w ∧ wOp w = 0x24 ∧ (s.m.cfx.get a).latest = none) ∧
    (∃ (s : State) (a : Act) (w : Reg) (i : Nat) (r : Reg) (p : Payload), Fetches s.m a w ∧ wOp w = 0x24 ∧ (s.m.cfx.get a).latest = some (i, r, some p) ∧ secDec r = decOk) ∧
    (∃ (s : State) (a : Act) (w : Reg) (x : Sec) (xs : List Sec) (r : Reg), Fetches s.m a w ∧ wOp w = 0x25 ∧ (s.m.ch.get a).secs = x :: xs ∧ x.result = some r) ∧
    (∃ (s : State) (a : Act) (w : Reg), Fetches s.m a w ∧ wOp w = 0x26 ∧ field w 0 2 = 0 ∧ (fetchNext a s.m).2 = true) ∧
    (∃ (s : State) (a : Act) (w : Reg), Fetches s.m a w ∧ wOp w = 0x27 ∧ (s.m.cfx.get a).flag fDEF = true ∧ (fetchNext a s.m).2 = true) ∧
    (∃ (s : State) (a : Act) (w : Reg), Fetches s.m a w ∧ wOp w = 0x27 ∧ (s.m.cfx.get a).flag fDEF = false) ∧
    (∃ (s : State) (a : Act) (w : Reg), Fetches s.m a w ∧ wOp w = 0x28) ∧
    (∃ (s : State) (a : Act) (w : Reg), Fetches s.m a w ∧ wOp w = 0x29) ∧
    (∃ (s : State) (a : Act) (w : Reg), Fetches s.m a w ∧ wOp w = 0x2A) ∧
    (∃ (s : State) (a : Act) (w : Reg), Fetches s.m a w ∧ wOp w = 0x2B) :=
  ⟨⟨stWord 0x60000000 id, .a0, 0x60000000, by decide⟩,
    ⟨stWord 0x80000000 id, .a0, 0x80000000, [], [], by decide⟩,
    ⟨stWord 0x84000000 id, .a0, 0x84000000, [], by decide⟩,
    ⟨stWord 0x88000000 (fun m => { m with srv.p0.st := .follow, srv.p0.head := 15 }), .a0, 0x88000000, by decide⟩,
    ⟨stWord 0x8c000000 id, .a0, 0x8c000000, by decide⟩,
    ⟨stWord 0x90000000 id, .a0, 0x90000000, by decide⟩,
    ⟨stWord 0x90000000 (fun m => { m with cfx.p0.latest := some (0, secWord 0 decOk 0 0 0 0, some wPay) }), .a0, 0x90000000, 0, secWord 0 decOk 0 0 0 0, wPay, by decide +kernel⟩,
    ⟨stWord 0x94000000 (fun m => { m with ch.p0.secs := [{ wSec with result := some 5 }] }), .a0, 0x94000000, { wSec with result := some 5 }, [], 5, by decide⟩,
    ⟨stWord 0x98000000 id, .a0, 0x98000000, by decide⟩,
    ⟨stWord 0x9c000000 (fun m => { m with cfx.p0.flags := BitVec.ofNat 24 (2 ^ fDEF) }), .a0, 0x9c000000, by decide⟩,
    ⟨stWord 0x9c000000 id, .a0, 0x9c000000, by decide⟩,
    ⟨stWord 0xa0000000 id, .a0, 0xa0000000, by decide⟩,
    ⟨stWord 0xa4000000 id, .a0, 0xa4000000, by decide⟩,
    ⟨stWord 0xa8000000 id, .a0, 0xa8000000, by decide⟩,
    ⟨stWord 0xac000000 id, .a0, 0xac000000, by decide⟩⟩

/-- Every hypothesis of `Obligations.SequencerEventEffects` is met, clause by clause, by a state and operands. -/
theorem witness_SequencerEventEffects :
    (∃ (s : State) (a : Act) (t : BitVec 24) (n : Nat), (s.m.cfx.get a).stall = some (.wait n) ∧ (s.m.cfx.get a).flag fABORT = false ∧ (s.m.cfx.get a).flag fPLOSS = false ∧ n ≤ (s.m.cfx.get a).stallTicks + t.toNat) ∧
    (∃ (s : State) (a : Act) (sense : Bool) (sel : Nat) (target : BitVec 12), (s.m.cfx.get a).stall = some (.event sense sel target) ∧ (s.m.cfx.get a).reg 7 ≠ 0 ∧ (s.m.cfx.get a).stallTicks ≤ ((s.m.cfx.get a).reg 7).toNat) ∧
    (∃ (s : State) (a : Act) (k : BitVec 7) (t : BitVec 24), inReset s.m (.act a) = false) ∧
    (∃ (s : State) (a : Act) (n : Nat), (s.m.cfx.get a).timers = [none, none, some n] ∧ (s.m.cfx.get a).gate gRG = false) ∧
    (∃ (s : State) (a : Act) (t : BitVec 24), (s.m.cfx.get a).gate gWG = false ∧ (s.m.cfx.get a).gate gRG = true ∧ (s.m.cfx.get a).gate gSG = true) ∧
    (∃ (s : State) (a : Act) (t : BitVec 24), (s.m.cfx.get a).gate gWG = true ∧ (s.m.cfx.get a).trapWait = false ∧ (s.m.cfx.get a).flag fPLOSS = false) ∧
    (∃ (s : State) (a : Act) (t : BitVec 24) (o : TrackOp) (e : BitVec 12), (s.m.cfx.get a).run = .halted ∧ (s.m.cfx.get a).hold = false ∧ (s.m.cfx.get a).flag fPLOSS = false ∧ (s.m.cfx.get a).ended = none ∧ inReset s.m (.act a) = false ∧ loaded s.m a = true ∧ (s.m.cfx.get a).mailbox = some o ∧ (s.m.cfx.get a).dispatch.getD o.op none = some e) ∧
    (∃ (s : State) (a : Act), (s.m.cfx.get a).op.isSome = true ∧ (s.m.cfx.get a).run = .running ∧ (s.m.cfx.get a).trapWait = false ∧ (s.m.cfx.get a).flag fPLOSS = false) ∧
    (∃ (s : State) (a : Act) (row : BitVec 13) (lap : BitVec 16), inReset s.m (.act a) = false ∧ row.toNat < 4127 ∧ ((s.m.cfx.get a).row row.toNat).chk = none) ∧
    (∃ (s : State) (a : Act) (row : BitVec 13) (lap : BitVec 16), inReset s.m (.act a) = false ∧ row.toNat < 4127 ∧ ((s.m.cfx.get a).row row.toNat).chk = none) ∧
    (∃ (s : State) (a : Act) (h r : Byte) (lap : BitVec 16), inReset s.m (.act a) = false ∧ h.toNat < 12 ∧ r.toNat < 64) ∧
    (∃ (s : State) (a : Act) (d : BitVec 32), s.m.sup.mode = .service ∧ (s.m.srv.get a).st = .opened ∧ cfxHalted s.m a = true ∧ (s.m.cfx.get a).rowSel.toNat < 4128) ∧
    (∃ (s : State) (h : Hdr) (bs : List Byte) (a : Act), Served s.m h lvMaint ∧ s.m.sup.mode = .service ∧ (s.m.srv.get a).st = .opened ∧ h.p1 = 0 ∧ h.p2 = 0 ∧ h.p3 = 0 ∧ actNum h.p0 = some a ∧ imageOk bs = true ∧ cfxHalted s.m a = false) ∧
    (∃ (s : State) (h : Hdr) (bs : List Byte) (a : Act), Served s.m h lvMaint ∧ s.m.sup.mode = .service ∧ (s.m.srv.get a).st = .opened ∧ h.p1 = 0 ∧ h.p2 = 0 ∧ h.p3 = 0 ∧ actNum h.p0 = some a ∧ imageOk bs = true ∧ cfxHalted s.m a = true) ∧
    (∃ (s : State) (h : Hdr) (a : Act) (c : Cfx), Served s.m h lvHost ∧ h.p1 = 0 ∧ h.p2 = 0 ∧ h.p3 = 0 ∧ actNum h.p0 = some a ∧ c = s.m.cfx.get a) :=
  ⟨⟨stOf (fun m => { m with cfx.p0.stall := some (.wait 10) }), .a0, 10, 10, by decide⟩,
    ⟨stOf (fun m => { m with cfx.p0.stall := some (.event true 1 5), cfx.p0.c := List.replicate 8 9 }), .a0, true, 1, 5, by decide⟩,
    ⟨stFly id, .a0, 5, 7, by decide⟩,
    ⟨stOf (fun m => { m with cfx.p0.timers := [none, none, some 5] }), .a0, 5, by decide⟩,
    ⟨stOf (fun m => { m with cfx.p0.gates := BitVec.ofNat 5 (2 ^ gRG + 2 ^ gSG) }), .a0, 7, by decide⟩,
    ⟨stOf (fun m => { m with cfx.p0.gates := BitVec.ofNat 5 (2 ^ gWG) }), .a0, 7, by decide⟩,
    ⟨stFly (fun m => { m with cfx.p0.mailbox := some ⟨1, [], [], false⟩, cfx.p0.dispatch := [none, some 7] }), .a0, 5, ⟨1, [], [], false⟩, 7, by decide⟩,
    ⟨stOf (fun m => { m with cfx.p0.op := some ⟨1, [], [], false⟩, cfx.p0.run := .running }), .a0, by decide⟩,
    ⟨stOf (fun m => { m with cfx.p0.blank := ⟨fillWord, none⟩ }), .a0, 4126, 0, by decide⟩,
    ⟨stOf (fun m => { m with cfx.p0.blank := ⟨fillWord, none⟩ }), .a0, 4126, 0, by decide⟩,
    ⟨stOf id, .a0, 11, 63, 0, by decide⟩,
    ⟨stOf (fun m => { m with sup.mode := .service, cfx.p0.rowSel := 4127 }), .a0, 5, by decide⟩,
    ⟨stAs .service 1 (fun m => { m with cfx.p1.run := .running }), { wHdrS with p0 := 1 }, wImage, .a1, by decide +kernel⟩,
    ⟨stAs .service 1 id, { wHdrS with p0 := 1 }, wImage, .a1, by decide +kernel⟩,
    ⟨State.reset, wHdr, .a0, State.reset.m.cfx.p0, by decide⟩⟩

/-- Every hypothesis of `Obligations.CalibrationEffects` is met, clause by clause, by a state and operands. -/
theorem witness_CalibrationEffects :
    (∃ (s : State) (a : Act), (s.m.cal.act.get a).gap = false ∧ mediaIdle s.m a = true) ∧
    (∃ (s : State) (a : Act) (j : CalJob), calHolds s.m a = false ∧ (s.m.cal.act.get a).preempt = false ∧ (calCands s.m a).head? = some j) ∧
    (∃ (s : State) (a : Act), (s.m.cal.act.get a).gap = true) ∧
    (∃ (s : State) (a : Act) (us : Nat) (x : CalMeas) (temp : BitVec 16) (r p q : CalRun) (m1 : Mach), (s.m.cal.act.get a).run = some r ∧ r.inSlice = true ∧ p = { r with sliceUs := r.sliceUs + us, totalUs := r.totalUs + us, steps := BitVec.ofNat 8 (satTo 255 (r.steps.toNat + 1)) } ∧ p.totalUs ≤ 1000 * runMax (onRun a (fun _ => p) s.m) ∧ m1 = calApplyMeas a p x temp (onRun a (fun _ => p) s.m) ∧ (m1.cal.act.get a).run = some q ∧ q.sliceUs + (60000000 + rpmFull m1 - 1) / rpmFull m1 ≤ 1000 * sliceMs m1) ∧
    (∃ (s : State) (a : Act) (us : Nat) (x : CalMeas) (temp : BitVec 16) (r p q : CalRun) (m1 : Mach), (s.m.cal.act.get a).run = some r ∧ r.inSlice = true ∧ p = { r with sliceUs := r.sliceUs + us, totalUs := r.totalUs + us, steps := BitVec.ofNat 8 (satTo 255 (r.steps.toNat + 1)) } ∧ p.totalUs ≤ 1000 * runMax (onRun a (fun _ => p) s.m) ∧ m1 = calApplyMeas a p x temp (onRun a (fun _ => p) s.m) ∧ (m1.cal.act.get a).run = some q ∧ 1000 * sliceMs m1 < q.sliceUs + (60000000 + rpmFull m1 - 1) / rpmFull m1) ∧
    (∃ (s : State) (h : Hdr), Served s.m h lvHost ∧ (s.m.sup.mode = .idleFly ∨ s.m.sup.mode = .active ∨ s.m.sup.mode = .service) ∧ h.p3 = 0 ∧ h.p0 = 5 ∧ s.m.pwr.measuring = false ∧ s.m.pwr.measByRun = false) ∧
    (∃ (s : State) (h : Hdr), Served s.m h lvHost ∧ (s.m.sup.mode = .idleFly ∨ s.m.sup.mode = .active ∨ s.m.sup.mode = .service) ∧ h.p3 = 0 ∧ h.p0.toNat < 5 ∧ (namedRuns (accept h 0x0401 false s.m) h .a0 ++ namedRuns (accept h 0x0401 false s.m) h .a1).isEmpty = false ∧ sameRun (accept h 0x0401 false s.m) h .a0 = false ∧ sameRun (accept h 0x0401 false s.m) h .a1 = false ∧ (s.m.cal.act.get .a0).queue.length < 16 ∧ (s.m.cal.act.get .a1).queue.length < 16) ∧
    (∃ (s : State) (h : Hdr), Served s.m h lvHost ∧ h.p0 = 0 ∧ h.p1 = 0 ∧ h.p2 = 0 ∧ h.p3 = 0) ∧
    (∃ (s : State) (h : Hdr), Served s.m h lvMaint ∧ h.p2 = 0 ∧ h.p3 = 0 ∧ h.p0.toNat ≤ 4 ∧ (h.p1 = 0 ∨ (10 ≤ h.p1.toNat ∧ h.p1.toNat ≤ 200))) :=
  ⟨⟨State.reset, .a0, by decide⟩,
    ⟨stOf (fun m => { m with sup.mode := .active, hda.page := some wPage, cal.due := [(calKey 3 0, ⟨[0], true⟩)] }), .a0, { kind := 3, dh := 0, head := 0, region := 0, forced := false }, by decide +kernel⟩,
    ⟨stOf (fun m => { m with cal.act.p0.gap := true }), .a0, by decide⟩,
    ⟨stOf (fun m => { m with cal.act.p0.run := some wRun }), .a0, 100, .inhibited, 0, wRun, { wRun with sliceUs := 100, totalUs := 100, steps := 1 }, { wRun with sliceUs := 100, totalUs := 100, steps := 1 }, _, by (repeat' apply And.intro) <;> first | decide +kernel | rfl⟩,
    ⟨stOf (fun m => { m with cal.act.p0.run := some wRun }), .a0, 39000, .inhibited, 0, wRun, { wRun with sliceUs := 39000, totalUs := 39000, steps := 1 }, { wRun with sliceUs := 39000, totalUs := 39000, steps := 1 }, _, by (repeat' apply And.intro) <;> first | decide +kernel | rfl⟩,
    ⟨stOf (fun m => { m with sup.mode := .active }), { wHdr with p0 := 5 }, by decide⟩,
    ⟨stOf (fun m => { m with sup.mode := .active }), { wHdr with p0 := 3 }, by decide +kernel⟩,
    ⟨State.reset, wHdr, by decide⟩,
    ⟨stAs .active 1 id, { wHdrS with p0 := 4, p1 := 200 }, by decide⟩⟩

/-- Every hypothesis of `Obligations.SchedulerEffects` is met, clause by clause, by a state and operands. -/
theorem witness_SchedulerEffects :
    (∃ (s : State) (a : Act) (now : BitVec 48), specAllowed (clockTo now.toNat s.m) a = true ∧ s.m.sch.ctrl.getLsbD 0 = false) ∧
    (∃ (s : State) (a : Act) (now : BitVec 48), specAllowed (clockTo now.toNat s.m) a = true ∧ s.m.sch.ctrl.getLsbD 2 = false) ∧
    (∃ (s : State) (a : Act) (now : BitVec 48), specAllowed (clockTo now.toNat s.m) a = true ∧ s.m.sch.ctrl.getLsbD 1 = false) ∧
    (∃ (s : State) (a : Act) (now : BitVec 48) (n : Mach), n = clockTo now.toNat s.m) ∧
    (∃ (s : State) (a : Act) (now : BitVec 48) (busy clean : BitVec 32) (n : Mach), n = clockTo now.toNat s.m ∧ n.zmg.force.get a = false ∧ n.zmg.full.get a = false) ∧
    (∃ (s : State) (a : Act) (now : BitVec 48) (busy clean : BitVec 32) (n : Mach), n = clockTo now.toNat s.m ∧ (n.zmg.force.get a = true ∨ n.zmg.full.get a = true)) ∧
    (∃ (s : State) (a : Act), (s.m.zmg.force.get a = true ∨ s.m.zmg.full.get a = true) ∧ 100 ≤ (s.m.sch.act.get a).unmet) ∧
    (∃ (s : State) (pin : BitVec 24), s.m.sup.nvmePs = 1 ∧ 9000 < pin.toNat) ∧
    (∃ (s : State) (pin : BitVec 24), s.m.sup.nvmePs = 1 ∧ pin.toNat < 8500) ∧
    (∃ (s : State) (pin : BitVec 24), s.m.sup.nvmePs = 1 ∧ 8500 ≤ pin.toNat ∧ pin.toNat ≤ 9000) ∧
    (∃ (s : State) (pin : BitVec 24), s.m.sup.nvmePs = 1 ∧ s.m.sch.duty = 20 ∧ 9000 < pin.toNat) :=
  ⟨⟨stIdle id, .a0, 5, by decide +kernel⟩,
    ⟨stIdle id, .a0, 5, by decide +kernel⟩,
    ⟨stIdle id, .a0, 5, by decide +kernel⟩,
    ⟨State.reset, .a0, 0, _, by exact rfl⟩,
    ⟨State.reset, .a0, 0, 100, 10, _, by exact ⟨rfl, by decide, by decide⟩⟩,
    ⟨stOf (fun m => { m with zmg.force.p0 := true }), .a0, 0, 100, 10, _, by exact ⟨rfl, by decide⟩⟩,
    ⟨stOf (fun m => { m with zmg.force.p0 := true, sch.act.p0.unmet := 100 }), .a0, by decide⟩,
    ⟨stOf (fun m => { m with sup.nvmePs := 1 }), 9001, by decide⟩,
    ⟨stOf (fun m => { m with sup.nvmePs := 1 }), 8499, by decide⟩,
    ⟨stOf (fun m => { m with sup.nvmePs := 1 }), 9000, by decide⟩,
    ⟨stOf (fun m => { m with sup.nvmePs := 1, sch.duty := 20 }), 9001, by decide⟩⟩

/-- Every hypothesis of `Obligations.ZoneManagerEffects` is met, clause by clause, by a state and operands. -/
theorem witness_ZoneManagerEffects :
    (∃ (s : State) (a : Act) (nsid : BitVec 6) (n : Ns), nsOf s.m nsid.toNat = some n ∧ n.kind = .managed) ∧
    (∃ (s : State) (a : Act) (nsid : BitVec 6) (n : Ns), nsOf s.m nsid.toNat = some n ∧ n.kind = .managed) ∧
    (∃ (s : State) (a : Act) (nsid : BitVec 6) (n : Ns), nsOf s.m nsid.toNat = some n ∧ n.kind = .managed) ∧
    (∃ (s : State) (a : Act) (nsid : BitVec 6) (n : Ns), nsOf s.m nsid.toNat = some n ∧ n.kind = .managed ∧ s.m.zmg.mapsOk = true) ∧
    (∃ (s : State) (a : Act) (nsid : BitVec 6) (ms : BitVec 32) (n : Ns), nsOf s.m nsid.toNat = some n ∧ n.kind = .managed ∧ s.m.sup.actReady.get a = false ∧ s.m.zmg.mapsOk = true) :=
  ⟨⟨stOf (fun m => { m with zmg.maps.nss := [wNs] }), .a0, 1, wNs, by decide⟩,
    ⟨stOf (fun m => { m with zmg.maps.nss := [wNs] }), .a0, 1, wNs, by decide⟩,
    ⟨stOf (fun m => { m with zmg.maps.nss := [wNs] }), .a0, 1, wNs, by decide⟩,
    ⟨stOf (fun m => { m with zmg.maps.nss := [wNs], zmg.mapsOk := true }), .a0, 1, wNs, by decide⟩,
    ⟨stOf (fun m => { m with zmg.maps.nss := [wNs], zmg.mapsOk := true }), .a0, 1, 20, wNs, by decide⟩⟩

/-- Every hypothesis of `Obligations.SpareEffects` is met, clause by clause, by a state and operands. -/
theorem witness_SpareEffects :
    (∃ (s : State) (p : Act) (arr : Byte), inReset s.m (.port p) = false) ∧
    (∃ (s : State) (a : Act) (row : BitVec 16), inReset s.m (.act a) = false) ∧
    (∃ (s : State) (a : Act) (h r : Byte), inReset s.m (.act a) = false) ∧
    (∃ (s : State) (a : Act) (arr : Byte) (row : BitVec 16), inReset s.m (.act a) = false) ∧
    (∃ (s : State) (arr : Byte), inReset s.m .spn = false) ∧
    (∃ (s : State) (arr : Byte) (ad : BitVec 40) (rows : BitVec 8), inReset s.m .fab = false) ∧
    (∃ (s : State) (h : Hdr), Served s.m h lvHost ∧ h.p0 = 0 ∧ h.p1 = 0 ∧ h.p2 = 0 ∧ h.p3 = 0) ∧
    (∃ (s : State) (h : Hdr), Served s.m h lvMaint ∧ s.m.sup.mode ≠ .standby ∧ spareBad (accept h 0x0904 false s.m) h = false ∧ spareBusy (accept h 0x0904 false s.m) h = false) :=
  ⟨⟨stOf (fun m => { m with clk.inReset := 0 }), .a1, 3, by decide⟩,
    ⟨stOf (fun m => { m with clk.inReset := 0 }), .a1, 4126, by decide⟩,
    ⟨stOf (fun m => { m with clk.inReset := 0 }), .a0, 11, 63, by decide⟩,
    ⟨stOf (fun m => { m with clk.inReset := 0 }), .a0, 1, 5, by decide⟩,
    ⟨stOf (fun m => { m with clk.inReset := 0 }), 1, by decide⟩,
    ⟨stOf (fun m => { m with clk.inReset := 0 }), 0, 0, 0, by decide⟩,
    ⟨State.reset, wHdr, by decide⟩,
    ⟨stAs .active 1 (fun m => { m with fe.faulty := ⟨true, true⟩ }), { wHdrS with p0 := 10, p1 := 1 }, by decide +kernel⟩⟩

/-- Every hypothesis of `Obligations.CacheEffects` is met, clause by clause, by a state and operands. -/
theorem witness_CacheEffects :
    (∃ (s : State) (now : BitVec 48), frozen s.m = false) ∧
    (∃ (s : State) (a : Act) (now : BitVec 48) (k : Nat), frozen s.m = false ∧ destageDue (clockTo now.toNat s.m) a = true ∧ destagePick (clockTo now.toNat s.m) a = some k) ∧
    (∃ (s : State) (l : Line) (r : List AtticMove), s.m.bcm.moves = .evict l :: r ∧ frameOf { s.m with bcm.moves := r } l.ns l.line = none) ∧
    (∃ (s : State) (ns line : Nat) (r : List AtticMove), s.m.bcm.moves = .recall ns line :: r) ∧
    (∃ (s : State) (arr : BitVec 4) (ad : BitVec 33) (rows : BitVec 8) (find : EccFind), arr.toNat ≤ 6 ∧ s.m.bcm.trained = true ∧ scrubFind s.m arr.toNat ad.toNat find = .clean) ∧
    (∃ (s : State) (arr : BitVec 4) (ad : BitVec 33) (rows : BitVec 8) (find : EccFind), arr.toNat ≤ 6 ∧ s.m.bcm.trained = true ∧ scrubFind s.m arr.toNat ad.toNat find = .corrected) ∧
    (∃ (s : State) (arr : BitVec 4) (ad : BitVec 33) (rows : BitVec 8) (find : EccFind), arr.toNat ≤ 6 ∧ s.m.bcm.trained = true ∧ scrubFind s.m arr.toNat ad.toNat find = .uncorrectable) ∧
    (∃ (s : State) (reg : BitVec 32), bit reg 10 = true ∧ bit reg 9 = false ∧ s.m.sup.mode = .service ∧ bit reg 31 = true) ∧
    (∃ (s : State) (reg : BitVec 32), bit reg 10 = true ∧ bit reg 9 = true ∧ s.m.sup.mode ≠ .service) ∧
    (∃ (s : State) (req : BitVec 11) (w0 w1 w2 : BitVec 32), req ≠ 0 ∧ s.m.bcm.grantNo ≠ 0 ∧ w0.toNat < bcmSet s.m 4 2 1000 ∧ w1.toNat < bcmSet s.m 4 2 1000 ∧ w2.toNat < bcmSet s.m 4 2 1000) ∧
    (∃ (s : State) (leaf : BitVec 4) (ns : BitVec 32), leaf.toNat < 3 ∧ 2000 < ns.toNat) ∧
    (∃ (s : State) (h : Hdr) (x : CacheMode), Served s.m h lvHost ∧ s.m.sup.mode ≠ .service ∧ s.m.bcm.forcedWt = false ∧ h.p1 = 0 ∧ h.p2 = 0 ∧ h.p3 = 0 ∧ h.p0.toNat ≤ 2 ∧ CacheMode.ofCode h.p0.toNat = some x) ∧
    (∃ (s : State) (h : Hdr), Served s.m h lvHost ∧ h.p0 = 0 ∧ h.p1 = 0 ∧ h.p2 = 0 ∧ h.p3 = 0) ∧
    (∃ (s : State) (h : Hdr), Served s.m h lvHost ∧ rangeOk (accept h 0x0803 false s.m) h = true ∧ s.m.bcm.lockReq = none ∧ lockOver (accept h 0x0803 false s.m) (h.p0.toNat - 1) (rangeLines h) = none) ∧
    (∃ (s : State) (h : Hdr), Served s.m h lvHost ∧ rangeOk (accept h 0x0804 false s.m) h = true ∧ bit h.p3 31 = false ∧ s.m.bcm.lockReq = none) ∧
    (∃ (s : State) (h : Hdr), Served s.m h lvMaint ∧ rangeOk (accept h 0x0805 false s.m) h = true ∧ bit h.p3 31 = false) ∧
    (∃ (s : State) (h : Hdr), Served s.m h lvMaint ∧ h.p1 = 0 ∧ h.p2 = 0 ∧ h.p3 = 0 ∧ h.p0.toNat < visiblePages ∧ s.m.bcm.retPages.any (fun p => p.1 == h.p0.toNat) = false) :=
  ⟨⟨State.reset, 5, by decide⟩,
    ⟨stIdle (fun m => { m with bcm.frames := [(0, { valid := 1, dirty := 1, secs := [some ⟨0, 0, 0⟩] })] }), .a0, 40000000, 0, by decide +kernel⟩,
    ⟨stOf (fun m => { m with bcm.moves := [.evict { ns := 1, line := 2 }] }), { ns := 1, line := 2 }, [], by decide⟩,
    ⟨stOf (fun m => { m with bcm.moves := [.recall 1 2] }), 1, 2, [], by decide⟩,
    ⟨stOf (fun m => { m with bcm.trained := true }), 6, 0, 0, .clean, by decide⟩,
    ⟨stOf (fun m => { m with bcm.trained := true }), 0, 0x1BFFFFFFF, 0, .corrected, by decide⟩,
    ⟨stOf (fun m => { m with bcm.trained := true }), 1, 0, 0, .uncorrectable, by decide⟩,
    ⟨stOf (fun m => { m with sup.mode := .service }), 0x80000400, by decide⟩,
    ⟨State.reset, 0x600, by decide⟩,
    ⟨stOf (fun m => { m with bcm.grantNo := 63 }), 0x7FF, 999, 999, 999, by decide⟩,
    ⟨State.reset, 2, 2001, by decide⟩,
    ⟨State.reset, { wHdr with p0 := 2 }, .bypass, by decide +kernel⟩,
    ⟨State.reset, wHdr, by decide⟩,
    ⟨stOf (fun m => { m with zmg.maps.nss := [wNs] }), { wHdr with p0 := 1, p1 := 8, p3 := 992 }, by decide +kernel⟩,
    ⟨stOf (fun m => { m with zmg.maps.nss := [wNs] }), { wHdr with p0 := 1, p1 := 8, p3 := 992 }, by decide +kernel⟩,
    ⟨stAs .active 1 (fun m => { m with zmg.maps.nss := [wNs] }), { wHdrS with p0 := 1, p1 := 8, p3 := 992 }, by decide +kernel⟩,
    ⟨stAs .active 1 id, { wHdrS with p0 := BitVec.ofNat 32 (visiblePages - 1) }, by decide +kernel⟩⟩

/-- Every hypothesis of `Obligations.VaultEffects` is met, clause by clause, by a state and operands. -/
theorem witness_VaultEffects :
    (∃ (s : State) (us : BitVec 32) (ms rate : BitVec 16) (ok : Bool) (w : VWrite) (n : Mach), s.m.vlt.writing = some w ∧ n = vaultHeader us.toNat ms.toNat rate.toNat ok s.m ∧ n.pwr.loss = true) ∧
    (∃ (s : State) (us : BitVec 32) (ms rate : BitVec 16) (ok : Bool) (w : VWrite) (n : Mach), s.m.vlt.writing = some w ∧ n = vaultHeader us.toNat ms.toNat rate.toNat ok s.m ∧ n.pwr.loss = false ∧ w.thenReset = false ∧ n.sup.shut ≠ .vaulting) ∧
    (∃ (s : State) (us : BitVec 32) (ms rate : BitVec 16) (ok : Bool) (w : VWrite) (n : Mach), s.m.vlt.writing = some w ∧ n = vaultHeader us.toNat ms.toNat rate.toNat ok s.m ∧ n.pwr.loss = false ∧ w.thenReset = true) ∧
    (∃ (s : State) (us : BitVec 32) (ms rate : BitVec 16) (ok : Bool) (w : VWrite) (n : Mach), s.m.vlt.writing = some w ∧ n = vaultHeader us.toNat ms.toNat rate.toNat ok s.m ∧ n.pwr.loss = false ∧ w.thenReset = false ∧ n.sup.shut = .vaulting) ∧
    (∃ (s : State) (die : BitVec 1) (plane : BitVec 2) (block : BitVec 11), s.m.vlt.writing.isSome = true ∧ isPool (2048 * die.toNat + block.toNat) = true) ∧
    (∃ (s : State) (b : Nat), frozen s.m = false ∧ s.m.vlt.writing = none ∧ leastBy (fun b => assoc 0 s.m.vlt.erases b) s.m.vlt.spent = some b) ∧
    (∃ (s : State) (b : Nat), frozen s.m = false ∧ s.m.vlt.writing = none ∧ leastBy (fun b => assoc 0 s.m.vlt.erases b) s.m.vlt.spent = some b) ∧
    (∃ (s : State), s.m.sup.stages.getLsbD 8 = true) ∧
    (∃ (s : State) (dir : Bool) (n : BitVec 17), stageDone s.m 8 = true ∧ stageDone s.m 9 = false ∧ s.m.pwr.loss = false ∧ s.m.vlt.replaying = none ∧ norUsable s.m = true) ∧
    (∃ (s : State) (dir : Bool) (n : BitVec 17), stageDone s.m 8 = true ∧ stageDone s.m 9 = false ∧ s.m.pwr.loss = false ∧ s.m.vlt.replaying = none ∧ norUsable s.m = false) ∧
    (∃ (s : State) (dir : Bool) (n : BitVec 17) (q : Reg) (k : Nat) (i : VImage), stageDone s.m 8 = true ∧ stageDone s.m 9 = false ∧ s.m.pwr.loss = false ∧ s.m.vlt.replaying = some (q, k) ∧ s.m.vlt.images.find? (fun i => i.seq == q) = some i) ∧
    (∃ (s : State) (h : Hdr), Served s.m h lvHost ∧ h.p0 = 0 ∧ h.p1 = 0 ∧ h.p2 = 0 ∧ h.p3 = 0) ∧
    (∃ (s : State) (h : Hdr) (i : VImage), Served s.m h lvMaint ∧ h.p0 = 1 ∧ h.p3 = 0 ∧ keptImages (accept h 0x0A02 false s.m) = [i] ∧ i.seq = h.p2 ∧ 65536 * h.p1.toNat < imageLen i) ∧
    (∃ (s : State) (h : Hdr), Served s.m h lvMaint ∧ h.p0 = 2 ∧ h.p1 = 0 ∧ h.p3 = 0 ∧ (keptImages (accept h 0x0A02 false s.m)).any (fun i => i.seq == h.p2) = true ∧ (foreignImages (accept h 0x0A02 false s.m)).any (fun i => i.seq == h.p2) = true) ∧
    (∃ (s : State) (h : Hdr), Served s.m h lvMaint ∧ s.m.vlt.unresolved = true ∧ h.p0 = 3 ∧ h.p1 = 0 ∧ h.p2 = 0 ∧ h.p3 = 0) ∧
    (∃ (s : State) (h : Hdr) (chunk : List Byte), Served s.m h lvMaint ∧ s.m.vlt.unresolved = true ∧ h.p0 = 4 ∧ h.p1 = 0 ∧ h.p2 = 0 ∧ h.p3 = 0 ∧ chunk.length = 65536 ∧ foreignImages (accept h 0x0A02 false s.m) = [] ∧ s.m.vlt.imp = none ∧ s.m.vlt.impBlocks = [] ∧ 0 < (takeReady (accept h 0x0A02 false s.m) 1).length) ∧
    (∃ (s : State) (h : Hdr) (chunk : List Byte), Served s.m h lvMaint ∧ s.m.vlt.unresolved = true ∧ h.p0 = 4 ∧ h.p1 = 0 ∧ h.p2 = 0 ∧ h.p3 = 1 ∧ chunk.length ≤ 65536 ∧ foreignImages (accept h 0x0A02 false s.m) = [] ∧ s.m.vlt.imp = none ∧ s.m.vlt.impBlocks = [] ∧ 0 < (takeReady (accept h 0x0A02 false s.m) 1).length) ∧
    (∃ (s : State) (h : Hdr) (rate : BitVec 16), Served s.m h lvMaint ∧ h.p0 = 0 ∧ h.p1 = 0 ∧ h.p2 = 0 ∧ h.p3 = 0 ∧ s.m.vlt.imp = none ∧ s.m.vlt.writing = none ∧ 640 ≤ rate.toNat) :=
  ⟨⟨stOf (fun m => { m with pwr.loss := true, vlt.writing := some ⟨wImg, false⟩ }), 1, 1, 1, true, ⟨wImg, false⟩, _, by exact ⟨rfl, rfl, by decide +kernel⟩⟩,
    ⟨stOf (fun m => { m with vlt.writing := some ⟨wImg, false⟩ }), 1, 1, 1, true, ⟨wImg, false⟩, _, by exact ⟨rfl, rfl, by decide +kernel⟩⟩,
    ⟨stOf (fun m => { m with vlt.writing := some ⟨wImg, true⟩ }), 1, 1, 1, true, ⟨wImg, true⟩, _, by exact ⟨rfl, rfl, by decide +kernel⟩⟩,
    ⟨stOf (fun m => { m with sup.shut := .vaulting, vlt.writing := some ⟨wImg, false⟩ }), 1, 1, 1, true, ⟨wImg, false⟩, _, by exact ⟨rfl, rfl, by decide +kernel⟩⟩,
    ⟨stOf (fun m => { m with vlt.writing := some ⟨wImg, false⟩ }), 1, 3, 2047, by decide⟩,
    ⟨stOf (fun m => { m with vlt.spent := [7] }), 7, by decide⟩,
    ⟨stOf (fun m => { m with vlt.spent := [7] }), 7, by decide⟩,
    ⟨stOf (fun m => { m with sup.stages := 0xFFF }), by decide⟩,
    ⟨stOf (fun m => { m with sup.stages := 0xFF, hda.strapOk := true, hda.norOk := true }), false, 131071, by decide⟩,
    ⟨stOf (fun m => { m with sup.stages := 0xFF, hda.strapOk := false }), true, 0, by decide⟩,
    ⟨stOf (fun m => { m with sup.stages := 0xFF, vlt.replaying := some (5, 0), vlt.images := [wImg] }), true, 9, 5, 0, wImg, by decide⟩,
    ⟨State.reset, wHdr, by decide⟩,
    ⟨stAs .active 1 (fun m => { m with vlt.dirOk := true, vlt.images := [wImg] }), { wHdrS with p0 := 1, p2 := 5 }, wImg, by decide +kernel⟩,
    ⟨stAs .active 1 (fun m => { m with hda.page := some wPage, vlt.dirOk := true, vlt.images := [{ wImg with geomSig := 1 }] }), { wHdrS with p0 := 2, p2 := 5 }, by decide +kernel⟩,
    ⟨stAs .active 1 (fun m => { m with vlt.unresolved := true }), { wHdrS with p0 := 3 }, by decide⟩,
    ⟨stAs .active 1 (fun m => { m with vlt.unresolved := true }), { wHdrS with p0 := 4 }, List.replicate 65536 0, by (repeat' apply And.intro) <;> first | decide +kernel | rfl⟩,
    ⟨stAs .active 1 (fun m => { m with vlt.unresolved := true }), { wHdrS with p0 := 4, p3 := 1 }, [], by decide +kernel⟩,
    ⟨stAs .active 1 id, wHdrS, 640, by decide⟩⟩

/-- Every hypothesis of `Obligations.IoCommandEffects` is met, clause by clause, by a state and operands. -/
theorem witness_IoCommandEffects :
    (∃ (s : State) (c : NvCmd) (nsid : BitVec 32) (lba : BitVec 64) (cnt : BitVec 17) (p : Prot) (n : Ns), Runs s.m c (.read nsid.toNat lba.toNat cnt.toNat p) n) ∧
    (∃ (s : State) (c : NvCmd) (nsid : BitVec 32) (lba : BitVec 64) (p : Prot) (d : List (Sector × BitVec 128)) (n : Ns), Runs s.m c (.write nsid.toNat lba.toNat d.length p d) n ∧ n.kind ≠ .zoned) ∧
    (∃ (s : State) (c : NvCmd) (nsid : BitVec 32) (lba : BitVec 64) (p : Prot) (d : List (Sector × BitVec 128)) (n : Ns) (k : Mach), Runs s.m c (.write nsid.toNat lba.toNat d.length p d) n ∧ n.kind = .zoned ∧ k = noteStream nsid.toNat true lba.toNat d.length (lbaAct n.kind (lba.toNat + d.length - 1)) (InMedia c (.write nsid.toNat lba.toNat d.length p d) s.m)) ∧
    (∃ (s : State) (c : NvCmd) (nsid : BitVec 32) (lba : BitVec 64) (p : Prot) (d : List (Sector × BitVec 128)) (n : Ns) (k : Mach), Runs s.m c (.append nsid.toNat lba.toNat d.length p d) n ∧ k = InMedia c (.append nsid.toNat lba.toNat d.length p d) s.m) ∧
    (∃ (s : State) (c : NvCmd) (nsid : BitVec 32) (lba : BitVec 64) (al : Bool) (n : Ns) (zs : List Nat) (k : Mach), Runs s.m c (.zoneOpen nsid.toNat lba.toNat al) n ∧ zs = (if al then List.range (n.size / 65536) else [lba.toNat / 65536]) ∧ zs ≠ [] ∧ k = onCtx c (fun y => { y with left := if al then zs else [] }) (InMedia c (.zoneOpen nsid.toNat lba.toNat al) s.m)) ∧
    (∃ (s : State) (c : NvCmd) (nsid : BitVec 32) (lba : BitVec 64) (al : Bool) (n : Ns) (zs : List Nat) (k : Mach), Runs s.m c (.zoneClose nsid.toNat lba.toNat al) n ∧ zs = (if al then List.range (n.size / 65536) else [lba.toNat / 65536]) ∧ zs ≠ [] ∧ k = onCtx c (fun y => { y with left := if al then zs else [] }) (InMedia c (.zoneClose nsid.toNat lba.toNat al) s.m)) ∧
    (∃ (s : State) (c : NvCmd) (nsid : BitVec 32) (lba : BitVec 64) (al : Bool) (n : Ns) (zs : List Nat) (k : Mach), Runs s.m c (.zoneFinish nsid.toNat lba.toNat al) n ∧ zs = (if al then List.range (n.size / 65536) else [lba.toNat / 65536]) ∧ zs ≠ [] ∧ k = onCtx c (fun y => { y with left := if al then zs else [] }) (InMedia c (.zoneFinish nsid.toNat lba.toNat al) s.m)) ∧
    (∃ (s : State) (c : NvCmd) (nsid : BitVec 32) (lba : BitVec 64) (al : Bool) (n : Ns) (zs : List Nat) (k : Mach), Runs s.m c (.zoneReset nsid.toNat lba.toNat al) n ∧ zs = (if al then List.range (n.size / 65536) else [lba.toNat / 65536]) ∧ zs ≠ [] ∧ k = onCtx c (fun y => { y with left := if al then zs else [] }) (InMedia c (.zoneReset nsid.toNat lba.toNat al) s.m)) ∧
    (∃ (s : State) (c : NvCmd) (nsid : BitVec 32) (lba : BitVec 64) (n : Ns), Runs s.m c (.zoneReport nsid.toNat lba.toNat) n) ∧
    (∃ (s : State) (c : NvCmd) (nsid : BitVec 32) (rs : List (BitVec 64 × BitVec 32)) (qs : List (Nat × Nat)) (n : Ns), qs = (rs.take 256).map (fun r => (r.1.toNat, r.2.toNat)) ∧ Runs s.m c (.deallocate nsid.toNat qs) n) ∧
    (∃ (s : State) (c : NvCmd) (nsid : BitVec 32) (lba : BitVec 64) (cnt : BitVec 17) (p : Prot) (n : Ns), Runs s.m c (.writeZeroes nsid.toNat lba.toNat cnt.toNat p) n ∧ n.kind ≠ .zoned) ∧
    (∃ (s : State) (c : NvCmd) (nsid : BitVec 32) (lba : BitVec 64) (cnt : BitVec 17) (p : Prot) (n : Ns) (k : Mach), Runs s.m c (.writeZeroes nsid.toNat lba.toNat cnt.toNat p) n ∧ n.kind = .zoned ∧ k = noteStream nsid.toNat true lba.toNat cnt.toNat (lbaAct n.kind (lba.toNat + cnt.toNat - 1)) (InMedia c (.writeZeroes nsid.toNat lba.toNat cnt.toNat p) s.m)) ∧
    (∃ (s : State) (c : NvCmd) (nsid : BitVec 32) (lba : BitVec 64) (p : Prot) (d : List (Sector × BitVec 128)) (n : Ns), Runs s.m c (.compare nsid.toNat lba.toNat d.length p d) n) ∧
    (∃ (s : State) (c : NvCmd) (nsid : BitVec 32) (lba : BitVec 64) (cnt : BitVec 17) (p : Prot) (n : Ns), Runs s.m c (.verify nsid.toNat lba.toNat cnt.toNat p) n) ∧
    (∃ (s : State) (c : NvCmd) (nsid : BitVec 32) (n : Ns), Runs s.m c (.flush nsid.toNat) n) ∧
    (∃ (s : State) (c t : NvCmd) (sqid cid : BitVec 16) (x : Ctx), Admits s.m c ∧ t = ⟨c.port, c.cntlid, sqid, cid⟩ ∧ ctxOf (Decoded c s.m) t = some x ∧ x.status = none) ∧
    (∃ (s : State) (c : NvCmd) (sqid cid : BitVec 16), Admits s.m c ∧ ctxOf (Decoded c s.m) ⟨c.port, c.cntlid, sqid, cid⟩ = none) ∧
    (∃ (s : State) (now : BitVec 48) (k : Mach) (cs : List Ctx), k = clockTo now.toNat s.m ∧ cs = heldTooLong k ∧ cs ≠ [] ∧ k.sup.holdReported = false) :=
  ⟨⟨stNv wNsC, wCmd, 1, 999, 1, wProt, wNsC, by decide +kernel⟩,
    ⟨stNv wNsC, wCmd, 1, 999, wProt, [(0, 0)], wNsC, by decide +kernel⟩,
    ⟨stNv wNsZ, wCmd, 1, 65536, wProt, [(0, 0)], wNsZ, _, by exact ⟨by decide +kernel, by decide, rfl⟩⟩,
    ⟨stNv wNsZ, wCmd, 1, 65536, wProt, [(0, 0)], wNsZ, _, by exact ⟨by decide +kernel, rfl⟩⟩,
    ⟨stNv wNsZ, wCmd, 1, 65536, true, wNsZ, _, _, by exact ⟨by decide +kernel, rfl, by decide, rfl⟩⟩,
    ⟨stNv wNsZ, wCmd, 1, 65536, false, wNsZ, _, _, by exact ⟨by decide +kernel, rfl, by decide, rfl⟩⟩,
    ⟨stNv wNsZ, wCmd, 1, 65536, false, wNsZ, _, _, by exact ⟨by decide +kernel, rfl, by decide, rfl⟩⟩,
    ⟨stNv wNsZ, wCmd, 1, 0, true, wNsZ, _, _, by exact ⟨by decide +kernel, rfl, by decide, rfl⟩⟩,
    ⟨stNv wNsZ, wCmd, 1, 65536, wNsZ, by decide +kernel⟩,
    ⟨stNv wNsC, wCmd, 1, [(999, 1)], [(999, 1)], wNsC, by decide +kernel⟩,
    ⟨stNv wNsC, wCmd, 1, 999, 1, wProt, wNsC, by decide +kernel⟩,
    ⟨stNv wNsZ, wCmd, 1, 65536, 1, wProt, wNsZ, _, by exact ⟨by decide +kernel, by decide, rfl⟩⟩,
    ⟨stNv wNsC, wCmd, 1, 999, wProt, [(0, 0)], wNsC, by decide +kernel⟩,
    ⟨stNv wNsC, wCmd, 1, 999, 1, wProt, wNsC, by decide +kernel⟩,
    ⟨stNv wNsC, wCmd, 1, wNsC, by decide +kernel⟩,
    ⟨stNv wNsC, wAdm, wCmd, 1, 7, wCtx, by decide +kernel⟩,
    ⟨stNv wNsC, wAdm, 1, 8, by decide +kernel⟩,
    ⟨stOf (fun m => { m with fe.ctxs := [{ wCtx with heldAt := some 0 }] }), 20000000, _, [{ wCtx with heldAt := some 0 }], by exact ⟨rfl, by decide +kernel, by decide, rfl⟩⟩⟩

/-- Every hypothesis of `Obligations.ControllerQueueEffects` is met, clause by clause, by a state and operands. -/
theorem witness_ControllerQueueEffects :
    (∃ (s : State) (c : NvCmd) (k : Ctrlr), ctrlOf s.m c = some k ∧ k.tcp = false ∧ mayFetch s.m c = true ∧ ctxOf s.m c = none ∧ s.m.fe.tko = none ∧ (c.sqid = 0 → rsvUsed s.m < 64) ∧ (c.sqid ≠ 0 → ioUsed s.m < 3072)) ∧
    (∃ (s : State) (c : NvCmd) (k : Ctrlr), ctrlOf s.m c = some k ∧ k.tcp = true ∧ mayFetch s.m c = true ∧ ctxOf s.m c = none ∧ s.m.fe.tko = none ∧ (c.sqid = 0 → rsvUsed s.m < 64) ∧ (c.sqid ≠ 0 → ioUsed s.m < 3072)) ∧
    (∃ (s : State) (c : NvCmd) (k : Ctrlr), ctrlOf s.m c = some k ∧ k.tcp = false ∧ mayFetch s.m c = true ∧ ctxOf s.m c = none ∧ s.m.fe.tko.isSome = true) ∧
    (∃ (s : State) (c : NvCmd) (k : Ctrlr), ctrlOf s.m c = some k ∧ k.tcp = true ∧ mayFetch s.m c = true ∧ ctxOf s.m c = none ∧ s.m.fe.tko.isSome = true) ∧
    (∃ (s : State) (c : NvCmd) (x : Ctx), ctxOf s.m c = some x ∧ mayPost s.m x = true) ∧
    (∃ (s : State) (p : Act) (id qid taken : BitVec 16), frozen s.m = false ∧ s.m.fe.tko = none) ∧
    (∃ (s : State) (c : NvCmd) (k : Ctrlr) (d : BitVec 64) (r : List (BitVec 64)), Admits s.m c ∧ ctrlOf s.m c = some k ∧ k.notices = d :: r) ∧
    (∃ (s : State) (c : NvCmd) (k : Ctrlr), Admits s.m c ∧ ctrlOf s.m c = some k ∧ k.notices = []) ∧
    (∃ (s : State) (c : NvCmd) (cq : Bool) (qid size cqid : BitVec 16) (prio : Prio) (k : Ctrlr), Admits s.m c ∧ ctrlOf s.m c = some k ∧ k.tcp = false ∧ qid ≠ 0 ∧ qid.toNat ≤ 64 ∧ k.queues.any (fun q => q.cq == cq && q.qid == qid) = false ∧ 2 ≤ size.toNat ∧ size.toNat ≤ 4096 ∧ (cq = false → k.queues.any (fun q => q.cq && q.qid == cqid) = true)) ∧
    (∃ (s : State) (c : NvCmd) (cq : Bool) (qid : BitVec 16) (k : Ctrlr), Admits s.m c ∧ ctrlOf s.m c = some k ∧ k.tcp = false ∧ k.queues.any (fun q => q.cq == cq && q.qid == qid) = true ∧ (cq = true → k.queues.any (fun q => !q.cq && q.cqid == qid) = false)) ∧
    (∃ (s : State) (c : NvCmd) (nsid : BitVec 32) (act : BitVec 3) (ignore : Bool) (cptpl : BitVec 2) (cur new : BitVec 64) (n : Ns) (r : Resv), c.sqid ≠ 0 ∧ fresh s.m c = true ∧ ioBarred (Decoded c s.m) = none ∧ nsOf s.m nsid.toNat = some n ∧ n.att.get c.port = true ∧ act.toNat ≤ 2 ∧ resvRegister (resvOf s.m nsid.toNat) (hostOf s.m c) act.toNat ignore cptpl.toNat cur new = some r) ∧
    (∃ (s : State) (c : NvCmd) (nsid : BitVec 32) (act ty : BitVec 8) (cur pre : BitVec 64) (n : Ns) (r : Resv) (excepts : List (BitVec 128)), c.sqid ≠ 0 ∧ fresh s.m c = true ∧ ioBarred (Decoded c s.m) = none ∧ nsOf s.m nsid.toNat = some n ∧ n.att.get c.port = true ∧ act.toNat ≤ 1 ∧ 1 ≤ ty.toNat ∧ ty.toNat ≤ 6 ∧ resvAcquire (resvOf s.m nsid.toNat) (hostOf s.m c) act.toNat ty.toNat cur pre = some (r, excepts)) ∧
    (∃ (s : State) (c : NvCmd) (nsid : BitVec 32) (act ty : BitVec 8) (cur : BitVec 64) (n : Ns) (r : Resv), c.sqid ≠ 0 ∧ fresh s.m c = true ∧ ioBarred (Decoded c s.m) = none ∧ nsOf s.m nsid.toNat = some n ∧ n.att.get c.port = true ∧ act.toNat ≤ 1 ∧ resvRelease (resvOf s.m nsid.toNat) (hostOf s.m c) act.toNat ty.toNat cur = some (r, true)) ∧
    (∃ (s : State) (c : NvCmd), Admits s.m c) :=
  ⟨⟨stCt [wPcie], wCmd, wPcie, by decide +kernel⟩,
    ⟨stCt [wTcp], wAdm, wTcp, by decide +kernel⟩,
    ⟨stTk [wPcie], wCmd, wPcie, by decide +kernel⟩,
    ⟨stTk [wTcp], wAdm, wTcp, by decide +kernel⟩,
    ⟨stCt2 [{ wCtx with status := some .success }], wCmd, { wCtx with status := some .success }, by decide +kernel⟩,
    ⟨State.reset, .a0, 0, 1, 1, by decide⟩,
    ⟨stAd [{ wPcie with notices := [5] }], wAdm, { wPcie with notices := [5] }, 5, [], by decide +kernel⟩,
    ⟨stAd [wPcie], wAdm, wPcie, by decide +kernel⟩,
    ⟨stAd [wPcie], wAdm, false, 64, 4096, 1, .medium, wPcie, by decide +kernel⟩,
    ⟨stAd [wPcie], wAdm, false, 1, wPcie, by decide +kernel⟩,
    ⟨stNv wNsC, wCmd, 1, 0, false, 0, 0, 9, wNsC, { regs := [(0, 9)], gen := 1 }, by decide +kernel⟩,
    ⟨stRs, wCmd, 1, 0, 6, 9, 0, wNsC, { regs := [(0, 9)], held := some (0, 6) }, [], by decide +kernel⟩,
    ⟨stRs, wCmd, 1, 1, 1, 9, wNsC, { gen := 1 }, by decide +kernel⟩,
    ⟨stNv wNsC, wAdm, by decide +kernel⟩⟩

/-- Every hypothesis of `Obligations.PortAndEngineEffects` is met, clause by clause, by a state and operands. -/
theorem witness_PortAndEngineEffects :
    (∃ (s : State) (p : Act) (id : BitVec 16) (cfg : HostCfg) (k : Ctrlr), s.m.fe.ctrls.find? (fun k => k.cntlid == id && decide (k.port = p)) = some k ∧ k.en = false ∧ (s.m.prt.get p).up = true ∧ frozen s.m = false) ∧
    (∃ (s : State) (p : Act) (id : BitVec 16), s.m.fe.ctrls.any (fun k => k.cntlid == id && decide (k.port = p) && k.en) = true) ∧
    (∃ (s : State) (p : Act) (id : BitVec 16) (k : Ctrlr) (n : Mach), s.m.fe.ctrls.find? (fun k => k.cntlid == id && decide (k.port = p)) = some k ∧ k.en = true ∧ k.shutting = false ∧ k.shutDone = false ∧ (s.m.prt.get p).up = true ∧ frozen s.m = false ∧ n = onCtrl p id (fun k => { k with shutting := true }) s.m ∧ allNotified n = true ∧ shutRuns n = false) ∧
    (∃ (s : State) (p : Act) (id : BitVec 16) (k : Ctrlr) (n : Mach), s.m.fe.ctrls.find? (fun k => k.cntlid == id && decide (k.port = p)) = some k ∧ k.en = true ∧ k.shutting = false ∧ k.shutDone = false ∧ (s.m.prt.get p).up = true ∧ frozen s.m = false ∧ n = onCtrl p id (fun k => { k with shutting := true }) s.m ∧ (allNotified n = false ∨ shutRuns n = true)) ∧
    (∃ (s : State) (p : Act) (id : BitVec 16), s.m.fe.ctrls.any (fun k => k.cntlid == id && decide (k.port = p) && k.tcp) = true) ∧
    (∃ (s : State) (c : NvCmd) (size : BitVec 16) (host : BitVec 128) (n : Mach) (id : BitVec 16), (s.m.prt.get c.port).eth = true ∧ (s.m.prt.get c.port).up = true ∧ frozen s.m = false ∧ engineUp s.m = true ∧ s.m.sup.ctrlReady = true ∧ c.sqid = 0 ∧ ctxOf s.m c = none ∧ n = bareContext c s.m ∧ (ctxOf n c).isSome = true ∧ size.toNat ≤ 128 ∧ assocs n c.port < 16 ∧ connections n < 256 ∧ id = freeCntlid n) ∧
    (∃ (s : State), engineUp s.m = true) ∧
    (∃ (s : State), engineUp s.m = true ∧ s.m.pwr.loss = false ∧ armed s.m 0x1020 = 9 ∧ standbySound s.m = true) ∧
    (∃ (s : State), engineUp s.m = true ∧ s.m.pwr.loss = false ∧ (armed s.m 0x1020 ≠ 9 ∨ standbySound s.m = false)) ∧
    (∃ (s : State) (x : BitVec 9) (t : Takeover), s.m.fe.tko = some t ∧ t.trigger ≠ 5 ∧ s.m.fe.fenced = false) ∧
    (∃ (s : State) (h : Hdr), Served s.m h lvHost ∧ h.p0 = 0 ∧ h.p1 = 0 ∧ h.p2 = 0 ∧ h.p3 = 0) ∧
    (∃ (s : State) (h : Hdr) (c : BitVec 16), Served s.m h lvMaint ∧ h.p0 = 0 ∧ h.p1 = 0 ∧ h.p2 = 0 ∧ h.p3 = 0 ∧ s.m.sup.mode ≠ .standby ∧ stageDone s.m 10 = true ∧ standbySound s.m = true ∧ s.m.fe.tko = none ∧ s.m.fe.posting = true ∧ h.who = .nvme c) ∧
    (∃ (s : State) (p : Act), s.m.pins.perst.get p = false) ∧
    (∃ (s : State) (p : Act) (n : Mach), s.m.pins.perst.get p = true ∧ n = { s.m with pins.perst := s.m.pins.perst.upd p (fun _ => false) } ∧ unsupplied n (.port p) = false) ∧
    (∃ (s : State) (p : Act) (n : Mach), s.m.pins.perst.get p = true ∧ n = { s.m with pins.perst := s.m.pins.perst.upd p (fun _ => false) } ∧ unsupplied n (.port p) = true) ∧
    (∃ (s : State) (p : Act), (s.m.prt.get p).up = false ∧ (s.m.prt.get p).linkDis = false ∧ inReset s.m (.port p) = false ∧ s.m.pins.perst.get p = false ∧ s.m.pwr.llcOn = true ∧ frozen s.m = false ∧ linkFits s.m p 5 2 = true ∧ s.m.sup.fwSlot ≠ 3 ∧ (s.m.prt.get p).eth = false) ∧
    (∃ (s : State) (p : Act), (s.m.prt.get p).pll = true) ∧
    (∃ (s : State) (p : Act), inReset s.m (.port p) = false ∧ s.m.pwr.llcOn = true) :=
  ⟨⟨stCt [{ wPcie with en := false }], .a0, 0, ⟨5, true, true, [1]⟩, { wPcie with en := false }, by decide +kernel⟩,
    ⟨stCt [wPcie], .a0, 0, by decide +kernel⟩,
    ⟨stCt [wPcie], .a0, 0, wPcie, _, by (repeat' apply And.intro) <;> first | decide +kernel | rfl⟩,
    ⟨stCt [wPcie, { wPcie with cntlid := 2 }], .a0, 0, wPcie, _, by (repeat' apply And.intro) <;> first | decide +kernel | rfl⟩,
    ⟨stCt [wTcp], .a0, 0, by decide +kernel⟩,
    ⟨stEth, wAdm, 128, 5, _, _, by (repeat' apply And.intro) <;> first | decide +kernel | rfl⟩,
    ⟨stOf (fun m => { m with fe.posting := true }), by decide⟩,
    ⟨stOf (fun m => { m with fe.posting := true, evr.arming := [(0x1020, 9)] }), by decide +kernel⟩,
    ⟨stOf (fun m => { m with fe.posting := true, fe.faulty := ⟨true, true⟩ }), by decide⟩,
    ⟨stOf (fun m => { m with fe.tko := some ⟨3, .a0, .a1, [], false, none⟩ }), 511, ⟨3, .a0, .a1, [], false, none⟩, by decide⟩,
    ⟨State.reset, wHdr, by decide⟩,
    ⟨stAs .active 1 (fun m => { m with fe.posting := true, sup.stages := 0xFFF }), wHdrS, 1, by decide⟩,
    ⟨stOf (fun m => { m with pins.perst := ⟨false, false⟩ }), .a1, by decide⟩,
    ⟨stOf (fun m => { m with pins.perst := ⟨true, true⟩, pwr.llcOn := true }), .a1, _, by exact ⟨by decide +kernel, rfl, by decide +kernel⟩⟩,
    ⟨stOf (fun m => { m with pins.perst := ⟨true, true⟩, pwr.loss := true, pwr.discharge := true }), .a1, _, by exact ⟨by decide +kernel, rfl, by decide +kernel⟩⟩,
    ⟨stOf (fun m => { m with clk.inReset := 0, pwr.llcOn := true }), .a1, by decide +kernel⟩,
    ⟨stOf (fun m => { m with prt.p0.pll := true }), .a0, by decide⟩,
    ⟨stOf (fun m => { m with clk.inReset := 0, pwr.llcOn := true }), .a1, by decide⟩⟩

/-- Every hypothesis of `Obligations.PinAndPowerFeatureEffects` is met, clause by clause, by a state and operands. -/
theorem witness_PinAndPowerFeatureEffects :
    (∃ (s : State), cfxHalted s.m .a0 = true ∧ cfxHalted s.m .a1 = true) ∧
    (∃ (s : State) (c : NvCmd) (en : Bool), Admits s.m c) ∧
    (∃ (s : State) (c : NvCmd) (ps : BitVec 5), Admits s.m c ∧ ps.toNat ≤ 4) :=
  ⟨⟨State.reset, by decide⟩,
    ⟨stNv wNsC, wAdm, true, by decide +kernel⟩,
    ⟨stNv wNsC, wAdm, 4, by decide +kernel⟩⟩

/-- Every hypothesis of `Obligations.RecorderEffects` is met, clause by clause, by a state and operands. -/
theorem witness_RecorderEffects :
    (∃ (s : State) (x : EvSlot), (s.m.evr.held.filter (fun e => e.nor.isNone)).getLast? = some x) ∧
    (∃ (s : State) (x : EvSlot), (s.m.evr.held.filter (fun e => e.nor.isNone)).getLast? = some x) ∧
    (∃ (s : State) (sector : BitVec 7) (n : Mach), mayRewrite s.m sector.toNat = true ∧ n = { s.m with evr.rewriteAt := some s.m.sup.opSec }) ∧
    (∃ (s : State) (sector : BitVec 7), mayRewrite s.m sector.toNat = true) ∧
    (∃ (s : State) (sector : BitVec 7) (n : Mach), mayRewrite s.m sector.toNat = true ∧ n = { s.m with evr.rewriteAt := some s.m.sup.opSec }) ∧
    (∃ (s : State) (h : Hdr), Served s.m h lvHost ∧ h.p2 = 0 ∧ h.p3 = 0 ∧ 1 ≤ h.p1.toNat ∧ h.p1.toNat ≤ 2048) ∧
    (∃ (s : State) (h : Hdr) (e : Evr), Served s.m h lvHost ∧ h.p0 = 0 ∧ h.p1 = 0 ∧ h.p2 = 0 ∧ h.p3 = 0 ∧ e = s.m.evr) ∧
    (∃ (s : State) (h : Hdr), Served s.m h lvHost ∧ h.p0 = 0 ∧ h.p1 = 0 ∧ h.p2 = 0 ∧ h.p3 = 0) ∧
    (∃ (s : State) (h : Hdr) (proof : List Byte) (c : Challenge) (k : List Byte), Served s.m h lvHost ∧ h.p0 = 0 ∧ h.p1 = 0 ∧ h.p2 = 0 ∧ h.p3 = 0 ∧ lockedOut s.m h.who = false ∧ challengeFor s.m h.who true lvMaint = some c ∧ maintHash s.m = some k ∧ proof = leBytes 32 (Config.hmacSha256 k c.bytes).toNat) ∧
    (∃ (s : State) (h : Hdr), Served s.m h lvMaint ∧ h.p1 = 0 ∧ h.p2 = 0 ∧ h.p3 = 0 ∧ h.p0.toNat ≤ 1) ∧
    (∃ (s : State) (h : Hdr), Served s.m h lvHost ∧ h.p1 = 0 ∧ h.p2 = 0 ∧ h.p3 = 0 ∧ h.p0 ≠ 0xFFFF ∧ (eventInfo h.p0.toNat).isSome = true) ∧
    (∃ (s : State) (h : Hdr), Served s.m h lvHost ∧ h.p1 = 0 ∧ h.p2 = 0 ∧ h.p3 = 0 ∧ h.p0 = 0xFFFF) ∧
    (∃ (s : State) (h : Hdr), Served s.m h lvMaint ∧ h.p2 = 0 ∧ h.p3 = 0 ∧ (eventInfo h.p0.toNat).isSome = true ∧ armPermits h.p0.toNat h.p1.toNat = true) :=
  ⟨⟨stEv false, wSlot, by decide +kernel⟩,
    ⟨stEv false, wSlot, by decide +kernel⟩,
    ⟨stEv true, 0, _, by exact ⟨by decide +kernel, rfl⟩⟩,
    ⟨stEv true, 0, by decide +kernel⟩,
    ⟨stEv true, 0, _, by exact ⟨by decide +kernel, rfl⟩⟩,
    ⟨State.reset, { wHdr with p1 := 2048 }, by decide⟩,
    ⟨State.reset, wHdr, _, by (repeat' apply And.intro) <;> first | decide +kernel | rfl⟩,
    ⟨State.reset, wHdr, by decide⟩,
    ⟨stOf (fun m => { m with svc.challenges := [wChal], sup.records := [wCred] }), wHdr, _, wChal, List.replicate 32 7, by (repeat' apply And.intro) <;> first | decide +kernel | rfl⟩,
    ⟨stAs .active 1 id, { wHdrS with p0 := 1 }, by decide⟩,
    ⟨State.reset, { wHdr with p0 := 0x0111 }, by decide⟩,
    ⟨State.reset, { wHdr with p0 := 0xFFFF }, by decide⟩,
    ⟨stAs .active 1 id, { wHdrS with p0 := 0x0E20, p1 := 1 }, by decide⟩⟩

/-- Every hypothesis of `Obligations.SettingsEffects` is met, clause by clause, by a state and operands. -/
theorem witness_SettingsEffects :
    (∃ (s : State) (h : Hdr) (r : SRec), Served s.m h lvHost ∧ h.p3 = 0 ∧ h.p2.toNat ≤ 3 ∧ h.p0.toNat ≤ 0xFFFF ∧ (sourceRecs (accept h 0x0201 false s.m) h.p2.toNat).find? (fun r => r.ty == h.p0.toNat && srecKey r == leBytes 4 h.p1.toNat) = some r) ∧
    (∃ (s : State) (h : Hdr), Served s.m h lvHost ∧ h.p0 = 0 ∧ h.p1 = 0 ∧ h.p2 = 0 ∧ h.p3 = 0) ∧
    (∃ (s : State) (h : Hdr), Served s.m h lvMaint ∧ h.p0 = 0 ∧ h.p1 = 0 ∧ h.p2 = 0 ∧ h.p3 = 2) ∧
    (∃ (s : State) (h : Hdr) (p : List Byte), Served s.m h (stageLevel (fieldAt p 0 2)) ∧ h.p0 = 0 ∧ h.p1 = 0 ∧ h.p2 = 0 ∧ h.p3 = 1 ∧ stageModeBad s.m (fieldAt p 0 2) = false ∧ fieldAt p 0 2 ≠ 0x1182 ∧ deleteLengthBad p = false ∧ (isSingle (fieldAt p 0 2) = true → p.length = 6 → p.drop 2 = noKey) ∧ tooLarge (accept h 0x0202 false s.m) (deleteRec p) true = false) ∧
    (∃ (s : State) (h : Hdr) (p : List Byte), Served s.m h (stageLevel (fieldAt p 0 2)) ∧ h.p0 = 0 ∧ h.p1 = 0 ∧ h.p2 = 0 ∧ h.p3 = 0 ∧ stageModeBad s.m (fieldAt p 0 2) = false ∧ fieldAt p 0 2 ≠ 0x1182 ∧ recordLengthBad p = false ∧ (knownTy (fieldAt p 0 2) = true → recFits (accept h 0x0202 false s.m) ⟨fieldAt p 0 2, p.drop 4⟩ = true) ∧ ethernetOnS0 h p s.m = false ∧ tooLarge (accept h 0x0202 false s.m) ⟨fieldAt p 0 2, p.drop 4⟩ false = false) ∧
    (∃ (s : State) (h : Hdr), Served s.m h lvMaint ∧ h.p0 = 0 ∧ h.p1 = 0 ∧ h.p2 = 0 ∧ h.p3 = 0 ∧ mayCommit s.m = true) ∧
    (∃ (s : State) (c : Commit), s.m.svc.commit = some c) ∧
    (∃ (s : State) (c : Commit), s.m.svc.commit = some c ∧ c.req = none) ∧
    (∃ (s : State), adaptiveDue s.m = true ∧ mayCommit s.m = true ∧ s.m.sup.bankInUse.isSome = true ∧ s.m.sup.noRecords = false ∧ s.m.sup.mode ≠ .off) ∧
    (∃ (s : State) (who : Transport) (ref : Reg) (page : IdPage), s.m.sup.mode = .service ∧ s.m.hda.page = none ∧ norUsable s.m = true ∧ s.m.svc.sessions.any (fun x => x.ref == ref && x.who == who && x.level == lvFactory) = true) :=
  ⟨⟨stOf (fun m => { m with sup.records := [⟨0x1301, [1]⟩] }), { wHdr with p0 := 0x1301, p1 := 0xFFFFFFFF }, ⟨0x1301, [1]⟩, by decide +kernel⟩,
    ⟨State.reset, wHdr, by decide⟩,
    ⟨stAs .active 1 id, { wHdrS with p3 := 2 }, by decide⟩,
    ⟨stAs .service 1 id, { wHdrS with p3 := 1 }, [0x02, 0x04, 0, 1, 0, 255], by decide +kernel⟩,
    ⟨stAs .service 1 id, wHdrS, [0x01, 0x10, 0x04, 0, 100, 0, 0, 0], by decide +kernel⟩,
    ⟨stAs .active 1 (fun m => { m with hda.strapOk := true, hda.norOk := true }), wHdrS, by decide⟩,
    ⟨stOf (fun m => { m with svc.commit := some wCommit }), wCommit, by exact rfl⟩,
    ⟨stOf (fun m => { m with svc.commit := some wCommit }), wCommit, by exact ⟨rfl, rfl⟩⟩,
    ⟨stOf (fun m => { m with sup.opSec := 3600, sup.mode := .active, sup.bankInUse := some .a0 }), by decide⟩,
    ⟨stAs .service 2 id, .nvme 1, 9, wPage, by decide +kernel⟩⟩

/-- Every hypothesis of `Obligations.CarrierAndSessionEffects` is met, clause by clause, by a state and operands. -/
theorem witness_CarrierAndSessionEffects :
    (∃ (s : State) (c : NvCmd) (numd : BitVec 32) (bytes : List Byte), Admits s.m c) ∧
    (∃ (s : State) (c : NvCmd) (numd tag : BitVec 32) (o : OutReq) (r : Reply), Admits s.m c ∧ s.m.svc.out.find? (fun o => o.names (.nvme c.cntlid) tag) = some o ∧ o.reply = some r ∧ 16 + r.data.length ≤ 4 * numd.toNat) ∧
    (∃ (s : State) (c : NvCmd) (numd tag : BitVec 32) (o : OutReq), Admits s.m c ∧ s.m.svc.out.find? (fun o => o.names (.nvme c.cntlid) tag) = some o ∧ o.reply = none) ∧
    (∃ (s : State) (bytes : List Byte), s.m.sup.mode = .service) ∧
    (∃ (s : State), s.m.svc.uartBuf ≠ []) ∧
    (∃ (s : State) (id : BitVec 16) (tag : BitVec 32) (o : OutReq), s.m.svc.out.find? (fun o => o.names (.nvme id) tag && o.reply.isSome && decide (o.readyAt.toNat + 60 ≤ s.m.sup.opSec.toNat)) = some o) ∧
    (∃ (s : State) (h : Hdr), Served s.m h lvHost ∧ h.p1 = 0 ∧ h.p2 = 0 ∧ h.p3 = 0 ∧ (h.p0 = 1 ∨ h.p0 = 2) ∧ factoryBarred s.m h.p0.toNat = false) ∧
    (∃ (s : State) (h : Hdr) (proof : List Byte) (c : Challenge) (k : List Byte), Served s.m h lvHost ∧ h.p1 = 0 ∧ h.p2 = 0 ∧ h.p3 = 0 ∧ (h.p0 = 1 ∨ h.p0 = 2) ∧ factoryBarred s.m h.p0.toNat = false ∧ lockedOut s.m h.who = false ∧ challengeFor s.m h.who false h.p0.toNat = some c ∧ credKey s.m h.p0.toNat = some k ∧ s.m.svc.sessions.length < 8 ∧ proof = leBytes 32 (Config.hmacSha256 k (c.bytes ++ leBytes 1 h.p0.toNat)).toNat) ∧
    (∃ (s : State) (h : Hdr), Served s.m h lvHost ∧ h.p1 = 0 ∧ h.p2 = 0 ∧ h.p3 = 0 ∧ (accept h 0x0108 false s.m).svc.sessions.any (fun x => x.ref == h.p0 && x.who == h.who) = true) :=
  ⟨⟨stNv wNsC, wAdm, 0, [], by decide +kernel⟩,
    ⟨stOut (some ⟨0, 0, []⟩), wAdm, 4, 7, wOut (some ⟨0, 0, []⟩), ⟨0, 0, []⟩, by decide +kernel⟩,
    ⟨stOut none, wAdm, 4, 7, wOut none, by decide +kernel⟩,
    ⟨stOf (fun m => { m with sup.mode := .service }), [], by decide⟩,
    ⟨stOf (fun m => { m with svc.uartBuf := [1] }), by decide⟩,
    ⟨stOf (fun m => { m with sup.opSec := 60, svc.out := [wOut (some ⟨0, 0, []⟩)] }), 0, 7, wOut (some ⟨0, 0, []⟩), by decide⟩,
    ⟨State.reset, { wHdr with p0 := 2 }, by decide⟩,
    ⟨stOf (fun m => { m with svc.challenges := [{ wChal with forClear := false }], sup.records := [wCred] }), { wHdr with p0 := 1 }, _, { wChal with forClear := false }, List.replicate 32 7, by (repeat' apply And.intro) <;> first | decide +kernel | rfl⟩,
    ⟨stAs .active 1 id, { wHdr with p0 := 9 }, by decide⟩⟩

/-- Every hypothesis of `Obligations.ModuleRequestEffects` is met, clause by clause, by a state and operands. -/
theorem witness_ModuleRequestEffects :
    (∃ (s : State) (h : Hdr), Served s.m h lvHost ∧ h.p0 = 0 ∧ h.p1 = 0 ∧ h.p2 = 0 ∧ h.p3 = 0 ∧ norUsable s.m = true) ∧
    (∃ (s : State) (h : Hdr), Served s.m h lvHost ∧ h.p0 = 0 ∧ h.p1 = 0 ∧ h.p2 = 0 ∧ h.p3 = 0) ∧
    (∃ (s : State) (h : Hdr), Served s.m h lvHost ∧ h.p0 = 0 ∧ h.p1 = 0 ∧ h.p2 = 0 ∧ h.p3 = 0) ∧
    (∃ (s : State) (h : Hdr) (t : Mode), Served s.m h (modeLevel h.p0) ∧ modeBarred (accept h 0x0103 false s.m) h = false ∧ modeTarget h.p0 = some t ∧ h.p1 = 0 ∧ h.p2 = 0 ∧ h.p3 = 0 ∧ t ≠ .standby ∧ t ≠ .safe) ∧
    (∃ (s : State) (h : Hdr), Served s.m h (modeLevel h.p0) ∧ modeBarred (accept h 0x0103 false s.m) h = false ∧ modeTarget h.p0 = some .safe ∧ h.p1 = 0 ∧ h.p2 = 0 ∧ h.p3 = 0) ∧
    (∃ (s : State) (h : Hdr) (c : BitVec 16), Served s.m h (modeLevel h.p0) ∧ modeBarred (accept h 0x0103 false s.m) h = false ∧ modeTarget h.p0 = some .standby ∧ h.p1 = 0 ∧ h.p2 = 0 ∧ h.p3 = 0 ∧ h.who = .nvme c) ∧
    (∃ (s : State) (h : Hdr), Served s.m h lvMaint ∧ h.p1 = 0 ∧ h.p2 = 0 ∧ h.p3 = 0 ∧ h.p0 = 0xFF ∧ s.m.sup.mode ≠ .standby) ∧
    (∃ (s : State) (h : Hdr), Served s.m h lvMaint ∧ h.p1 = 0 ∧ h.p2 = 0 ∧ h.p3 = 0 ∧ h.p0 = 7) ∧
    (∃ (s : State) (h : Hdr), Served s.m h lvMaint ∧ h.p1 = 0 ∧ h.p2 = 0 ∧ h.p3 = 0 ∧ h.p0 = 8) ∧
    (∃ (s : State) (h : Hdr) (p : Act), Served s.m h lvMaint ∧ h.p1 = 0 ∧ h.p2 = 0 ∧ h.p3 = 0 ∧ h.p0 = BitVec.ofNat 32 (5 + p.idx) ∧ carriedBy s.m h p = false) ∧
    (∃ (s : State) (h : Hdr) (p : Act), Served s.m h lvMaint ∧ h.p1 = 0 ∧ h.p2 = 0 ∧ h.p3 = 0 ∧ h.p0 = BitVec.ofNat 32 (5 + p.idx) ∧ carriedBy s.m h p = true) ∧
    (∃ (s : State) (h : Hdr), Served s.m h lvMaint ∧ h.p1 = 0 ∧ h.p2 = 0 ∧ h.p3 = 0 ∧ h.p0 = BitVec.ofNat 32 (3 + s.m.fe.active.other.idx)) ∧
    (∃ (s : State) (h : Hdr), Served s.m h lvHost ∧ h.p0 = 0 ∧ h.p1 = 0 ∧ h.p2 = 0 ∧ h.p3 = 0) ∧
    (∃ (s : State) (h : Hdr) (e f : BitVec 64), Served s.m h lvMaint ∧ s.m.sup.mode = .service ∧ h.p3 = 0 ∧ h.p0.toNat ≤ 2 ∧ h.p1.toNat ≤ 2 ∧ memtestBusy s.m h.p0.toNat = false) ∧
    (∃ (s : State) (h : Hdr) (r : Nat), Served s.m h lvMaint ∧ s.m.sup.mode = .service ∧ injectOk h = true ∧ h.p0 = 2 ∧ r = h.p1.toNat + 2 ^ 32 * h.p2.toNat) ∧
    (∃ (s : State) (h : Hdr) (w : Nat), Served s.m h lvMaint ∧ s.m.sup.mode = .service ∧ injectOk h = true ∧ h.p0 = 0 ∧ bit h.p3 16 = false ∧ w = (h.p1.toNat + 2 ^ 32 * h.p2.toNat) / 8) :=
  ⟨⟨State.reset, wHdr, by decide⟩,
    ⟨State.reset, wHdr, by decide⟩,
    ⟨State.reset, wHdr, by decide⟩,
    ⟨stOf (fun m => { m with sup.mode := .active }), { wHdr with p0 := 3 }, .idleReady, by decide +kernel⟩,
    ⟨stAs .active 1 id, { wHdrS with p0 := 6 }, by decide +kernel⟩,
    ⟨stOf (fun m => { m with sup.mode := .active }), { wHdr with p0 := 1 }, 1, by decide +kernel⟩,
    ⟨stAs .active 1 id, { wHdrS with p0 := 0xFF }, by decide⟩,
    ⟨stAs .active 1 id, { wHdrS with p0 := 7 }, by decide⟩,
    ⟨stAs .active 1 id, { wHdrS with p0 := 8 }, by decide⟩,
    ⟨stAs .active 1 id, { wHdrS with p0 := 6 }, .a1, by decide +kernel⟩,
    ⟨stAs .active 1 (fun m => { m with fe.ctrls := [{ wPcie with cntlid := 1 }] }), { wHdrS with p0 := 5 }, .a0, by decide +kernel⟩,
    ⟨stAs .active 1 id, { wHdrS with p0 := 4 }, by decide +kernel⟩,
    ⟨State.reset, wHdr, by decide⟩,
    ⟨stAs .service 1 id, { wHdrS with p0 := 2, p1 := 2 }, 0, 0, by decide⟩,
    ⟨stAs .service 1 id, { wHdrS with p0 := 2, p1 := 4127, p3 := 0xFF1F }, 4127, by decide +kernel⟩,
    ⟨stAs .service 1 id, { wHdrS with p1 := 8, p3 := 0xFF3F }, 1, by decide +kernel⟩⟩

/-- Every hypothesis of `Obligations.RegisterAccessEffects` is met, clause by clause, by a state and operands. -/
theorem witness_RegisterAccessEffects :
    (∃ (s : State) (h : Hdr), Served s.m h lvHost ∧ h.p2 = 0 ∧ h.p3 = 0 ∧ h.p1 ≠ 0 ∧ h.p1.toNat ≤ 256 ∧ badRange h.p0.toNat h.p1.toNat = false) ∧
    (∃ (s : State) (h : Hdr) (acks : List Ack), Served s.m h lvMaint ∧ h.p3 = 0 ∧ badRange h.p0.toNat 1 = false) :=
  ⟨⟨State.reset, { wHdr with p1 := 256 }, by decide +kernel⟩,
    ⟨stAs .active 1 id, wHdrS, [], by decide +kernel⟩⟩

/-- Every hypothesis of `Obligations.AdminCommandEffects` is met, clause by clause, by a state and operands. -/
theorem witness_AdminCommandEffects :
    (∃ (s : State) (c : NvCmd) (nsid : BitVec 32) (lbaf : BitVec 6) (pit : BitVec 3) (ids : List Nat) (ok : Bool) (h : Mach), Waits s.m c ∧ ids = namedNss s.m nsid ∧ ids ≠ [] ∧ lbaf.toNat ≤ 2 ∧ pit.toNat ≤ 3 ∧ (lbaf = 0 → pit = 0) ∧ h = Waiting c 1 s.m ∧ (∀ i ∈ ids, execNvmeFormatNvm.nsBusyNow h i = false)) ∧
    (∃ (s : State) (c : NvCmd) (nsid : BitVec 32) (lbaf : BitVec 6) (pit ses : BitVec 3) (keys : List (BitVec 512)) (ids rs : List Nat) (h : Mach), Waits s.m c ∧ (ses.toNat = 1 ∨ ses.toNat = 2) ∧ ids = namedNss s.m nsid ∧ rs = rangesOfAll s.m ids ∧ ids ≠ [] ∧ lbaf.toNat ≤ 2 ∧ pit.toNat ≤ 3 ∧ (lbaf = 0 → pit = 0) ∧ h = holdRanges c rs (Waiting c 1 s.m) ∧ rangeBusy h rs = false ∧ (∀ i ∈ ids, execNvmeFormatNvm.nsBusyNow h i = false) ∧ noCommit h = true ∧ enoughKeys keys rs.length = true ∧ mayCommit h = true) ∧
    (∃ (s : State) (c : NvCmd) (pattern : BitVec 32) (keys : List (BitVec 512)) (ids rs : List Nat) (h : Mach), Waits s.m c ∧ ids = s.m.zmg.maps.nss.map (fun n => n.nsid) ∧ rs = rangesOfAll s.m ids ∧ h = holdRanges c rs (Waiting c 2 s.m) ∧ rangeBusy h rs = false ∧ noCommit h = true ∧ enoughKeys keys rs.length = true ∧ mayCommit h = true) ∧
    (∃ (s : State) (c : NvCmd) (nsid : BitVec 32) (csi kind : Byte) (size : BitVec 64) (fmt : BitVec 4) (pit : BitVec 3) (k : NsKind) (i : Nat) (n : Mach), Waits s.m c ∧ s.m.zmg.mapsOk = true ∧ kindOf csi kind = some k ∧ pit.toNat ≤ 3 ∧ createNs k size.toNat fmt.toNat pit.toNat (Waiting c 3 s.m) = (.success, i, n)) ∧
    (∃ (s : State) (c : NvCmd) (nsid : BitVec 32) (csi kind : Byte) (size : BitVec 64) (fmt : BitVec 4) (pit : BitVec 3) (ids : List Nat), Waits s.m c ∧ s.m.zmg.mapsOk = true ∧ ids = namedNss s.m nsid ∧ ids ≠ [] ∧ (∀ i ∈ ids, columnsOf (Waiting c 3 s.m) i = []) ∧ (∀ i ∈ ids, nsBusy (Waiting c 3 s.m) i = false)) ∧
    (∃ (s : State) (c : NvCmd) (nsid : BitVec 32) (attach : Bool) (id : BitVec 16) (n : Ns) (k : Ctrlr), Admits s.m c ∧ nsOf s.m nsid.toNat = some n ∧ s.m.fe.ctrls.find? (fun k => k.cntlid == id) = some k ∧ (attach = true → isParity s.m n.nsid = false) ∧ n.att.get k.port = !attach) ∧
    (∃ (s : State) (c : NvCmd) (nsid : BitVec 32) (csi : Byte), Admits s.m c) ∧
    (∃ (s : State) (c : NvCmd) (offset : BitVec 64) (numd : BitVec 32), Admits s.m c) ∧
    (∃ (s : State) (c : NvCmd) (offset : BitVec 32) (bytes : List Byte), Admits s.m c ∧ bytes ≠ [] ∧ bytes.length % 4 = 0) ∧
    (∃ (s : State) (c : NvCmd) (slot : BitVec 3) (a : Act) (f : FwSlot), Admits s.m c ∧ fwTarget s.m slot = some a ∧ f = Config.parseFw s.m.sup.fwBuf) ∧
    (∃ (s : State) (c : NvCmd) (slot : BitVec 3) (a : Act), Admits s.m c ∧ fwTarget s.m slot = some a ∧ (s.m.sup.fw.get a).isSome = true) ∧
    (∃ (s : State) (c : NvCmd) (stc : BitVec 4), Admits s.m c ∧ (stc = 1 ∨ stc = 2 ∨ stc = 15)) :=
  ⟨⟨stNv wNsC, wAdm, 1, 1, 2, _, true, _, by (repeat' apply And.intro) <;> first | decide +kernel | rfl⟩,
    ⟨stNv wNsC, wAdm, 1, 2, 3, 1, [1], _, _, _, by (repeat' apply And.intro) <;> first | decide +kernel | rfl⟩,
    ⟨stNv wNsC, wAdm, 0, [1], _, _, _, by (repeat' apply And.intro) <;> first | decide +kernel | rfl⟩,
    ⟨stBands, wAdm, 0, 2, 0, 65536, 0, 0, .zoned, 1, (createNs .zoned 65536 0 0 (Waiting wAdm 3 stBands.m)).2.2, by (repeat' apply And.intro) <;> first | decide +kernel | rfl⟩,
    ⟨{ stNv wNsC with m.zmg.mapsOk := true }, wAdm, 1, 0, 0, 0, 0, 0, _, by (repeat' apply And.intro) <;> first | decide +kernel | rfl⟩,
    ⟨{ stNv wNsC with m.fe.ctrls := [wPcie] }, wAdm, 1, false, 0, wNsC, wPcie, by decide +kernel⟩,
    ⟨stNv wNsC, wAdm, 0, 0, by decide +kernel⟩,
    ⟨stNv wNsC, wAdm, 0, 0, by decide +kernel⟩,
    ⟨stNv wNsC, wAdm, 0, [1, 2, 3, 4], by decide +kernel⟩,
    ⟨stNv wNsC, wAdm, 1, .a0, _, by exact ⟨by decide +kernel, rfl, rfl⟩⟩,
    ⟨{ stNv wNsC with m.sup.fw.p1 := some default }, wAdm, 2, .a1, by decide +kernel⟩,
    ⟨stNv wNsC, wAdm, 15, by decide +kernel⟩⟩

/-- Every hypothesis of `Obligations.OpalMethodEffects` is met, clause by clause, by a state and operands. -/
theorem witness_OpalMethodEffects :
    (∃ (s : State) (c : NvCmd) (locking : Bool), Admits s.m c ∧ s.m.dsv.sess = none ∧ (locking = true → s.m.dsv.opal.active = true)) ∧
    (∃ (s : State) (c : NvCmd) (x : OpalSess), Admits s.m c ∧ sessOf s.m c = some x) ∧
    (∃ (s : State) (c : NvCmd) (r : BitVec 16 × List Byte), Admits s.m c ∧ s.m.dsv.resp.find? (fun x => x.1 == c.cntlid) = some r) ∧
    (∃ (s : State) (c : NvCmd), Waits s.m c ∧ provedIn s.m c false (fun a => a == 0) = true ∧ s.m.dsv.opal.active = false ∧ noCommit s.m = true) ∧
    (∃ (s : State) (c : NvCmd) (keys : List (BitVec 512)) (h : Mach) (psid : Bool), Waits s.m c ∧ psid = !provedIn s.m c false (fun a => a == 0) ∧ provedIn s.m c false (fun a => a == 0 || a == 2) = true ∧ h = holdRanges c (List.range 16) (Waiting c (if psid then 12 else 11) s.m) ∧ rangeBusy h (List.range 16) = false ∧ noCommit h = true ∧ enoughKeys keys 16 = true ∧ mayCommit h = true) ∧
    (∃ (s : State) (c : NvCmd) (keys : List (BitVec 512)) (h : Mach), Waits s.m c ∧ (provedIn s.m c true isLockAdmin = true ∨ provedIn s.m c false (fun a => a == 0) = true) ∧ h = holdRanges c (List.range 16) (Waiting c 13 s.m) ∧ rangeBusy h (List.range 16) = false ∧ noCommit h = true ∧ enoughKeys keys 16 = true ∧ mayCommit h = true) ∧
    (∃ (s : State) (c : NvCmd) (range : BitVec 4) (keys : List (BitVec 512)) (h : Mach), Waits s.m c ∧ provedIn s.m c true isLockAdmin = true ∧ h = holdRanges c [range.toNat] (Waiting c 14 s.m) ∧ rangeBusy h [range.toNat] = false ∧ noCommit h = true ∧ enoughKeys keys 1 = true ∧ mayCommit h = true) ∧
    (∃ (s : State) (c : NvCmd) (range : BitVec 4) (keys : List (BitVec 512)) (h : Mach), Waits s.m c ∧ provedIn s.m c true isLockAdmin = true ∧ h = holdRanges c [range.toNat] (Waiting c 15 s.m) ∧ rangeBusy h [range.toNat] = false ∧ noCommit h = true ∧ enoughKeys keys 1 = true ∧ mayCommit h = true) ∧
    (∃ (s : State) (c : NvCmd) (what : OpalGet), Admits s.m c ∧ mayGet (Decoded c s.m) c what = true) ∧
    (∃ (s : State) (c : NvCmd) (what : OpalSet) (h : Mach), Waits s.m c ∧ h = Waiting c 16 s.m ∧ maySet h c what = true ∧ setValid h what = true ∧ noCommit h = true) ∧
    (∃ (s : State) (c : NvCmd) (auth : BitVec 5) (proof : List Byte) (x : OpalSess), Admits s.m c ∧ sessOf s.m c = some x ∧ (if x.locking then ofLocking auth.toNat else ofAdmin auth.toNat) = true ∧ authOn s.m auth.toNat = true ∧ assoc 0 s.m.dsv.tries auth.toNat < tryLimit s.m ∧ provesPin s.m auth.toNat proof = true) ∧
    (∃ (s : State) (c : NvCmd) (count : BitVec 16) (x : OpalSess), Admits s.m c ∧ sessOf s.m c = some x) :=
  ⟨⟨stNv wNsC, wAdm, false, by decide +kernel⟩,
    ⟨stOpal false [] id, wAdm, ⟨0, false, []⟩, by decide +kernel⟩,
    ⟨stOpal false [] (fun m => { m with dsv.resp := [(0, [])] }), wAdm, (0, []), by decide +kernel⟩,
    ⟨stOpal false [0] id, wAdm, by decide +kernel⟩,
    ⟨stOpal false [2] id, wAdm, (List.range 16).map (fun i => BitVec.ofNat 512 (i + 1)), _, _, by (repeat' apply And.intro) <;> first | decide +kernel | rfl⟩,
    ⟨stOpal true [3] id, wAdm, (List.range 16).map (fun i => BitVec.ofNat 512 (i + 1)), _, by (repeat' apply And.intro) <;> first | decide +kernel | rfl⟩,
    ⟨stOpal true [3] id, wAdm, 15, [1], _, by (repeat' apply And.intro) <;> first | decide +kernel | rfl⟩,
    ⟨stOpal true [6] id, wAdm, 0, [1], _, by (repeat' apply And.intro) <;> first | decide +kernel | rfl⟩,
    ⟨stOpal true [7] id, wAdm, .range 0, by decide +kernel⟩,
    ⟨stOpal true [3] id, wAdm, .locks 0 (some true) none none none none, _, by (repeat' apply And.intro) <;> first | decide +kernel | rfl⟩,
    ⟨stOpal true [] (fun m => { m with dsv.opal.pins := [(3, [1])] }), wAdm, 3, [1], ⟨0, true, []⟩, by decide +kernel⟩,
    ⟨stOpal true [] id, wAdm, 0, ⟨0, true, []⟩, by decide +kernel⟩⟩

/-- Every hypothesis of `Obligations.GroupProtocolEffects` is met, clause by clause, by a state and operands. -/
theorem witness_GroupProtocolEffects :
    (∃ (s : State), s.m.dsv.joined = true ∧ frozen s.m = false) ∧
    (∃ (s : State) (peer : BitVec 16) (k : Mach), k = peerDown peer.toNat s.m ∧ k.dsv.creation = none) ∧
    (∃ (s : State) (peer : BitVec 16) (k : Mach) (x : Creation) (p : Peer), k = peerDown peer.toNat s.m ∧ k.dsv.creation = some x ∧ x.left.contains peer.toNat = true ∧ peerOf k peer.toNat = some p ∧ p.down = true) ∧
    (∃ (s : State) (dom : BitVec 64) (epoch : BitVec 32) (src dst : BitVec 16) (seq ack : BitVec 32) (msg : ZMsg) (p q : Peer) (k : Mach), s.m.dsv.joined = true ∧ dom = s.m.dsv.domain ∧ src.toNat ≠ s.m.dsv.module ∧ peerOf s.m src.toNat = some p ∧ newer p.epoch epoch = false ∧ dst.toNat = s.m.dsv.module ∧ k = ackLog p.num ack (peerUp p.num (if newer epoch p.epoch then onPeer p.num (fun p => { p with epoch := epoch, d := none, held := [] }) s.m else s.m)) ∧ peerOf k p.num = some q) ∧
    (∃ (s : State) (a : Bool) (dom : BitVec 64) (epoch : BitVec 32) (src dst : BitVec 16) (seq ack : BitVec 32) (msg : ZMsg), s.m.dsv.joined = true ∧ (a = false ∨ dom ≠ s.m.dsv.domain)) ∧
    (∃ (s : State) (dst : BitVec 16) (seq : BitVec 32) (hit : Logged → Bool), hit = (fun l => l.dst == dst.toNat && l.seq == seq && decide (l.again < setting s.m 0x1102 6 1 8)) ∧ s.m.dsv.log.any hit = true ∧ frozen s.m = false) ∧
    (∃ (s : State) (src : BitVec 16) (ack : BitVec 32) (ok : Bool), (peerOf s.m src.toNat).isSome = true) ∧
    (∃ (s : State) (src : Nat) (seq gid : BitVec 32) (col lba : Nat) (ds : List (BitVec 32768 × BitVec 128)) (g : Group_) (n : Mach), nextMsg s.m ZMsg.isParity = some (src, seq, .parity gid col lba ds) ∧ groupOf s.m gid = some g ∧ foldParity g col (ds.zipIdx.map (fun d => (lba + d.2, d.1))) s.m = some n) ∧
    (∃ (s : State) (src k p c : Nat) (seq gid : BitVec 32) (fresh ok : Bool) (cols : List (Nat × Nat)) (g : Group_), nextMsg s.m ZMsg.isGroup = some (src, seq, .groupDef gid k p c fresh cols) ∧ s.m.svc.commit = none ∧ g = { index := 0, gid := gid, k := k, m := p, c := c, cols := cols, excepts := [], told := 0 }) ∧
    (∃ (s : State) (src : Nat) (seq gid : BitVec 32) (yes ok : Bool) (x : Creation) (n : Mach), nextMsg s.m ZMsg.isGroup = some (src, seq, .groupAns gid yes) ∧ n = inboxDone (src, seq, .groupAns gid yes) s.m ∧ s.m.dsv.creation = some x ∧ x.grp.gid = gid) ∧
    (∃ (s : State) (src : Nat) (seq gid : BitVec 32) (excepts assigned : List Override), nextMsg s.m ZMsg.isState = some (src, seq, .state gid excepts assigned)) ∧
    (∃ (s : State) (src col row : Nat) (seq gid : BitVec 32) (g : Group_), nextMsg s.m ZMsg.isRead = some (src, seq, .reconRead gid col row) ∧ groupOf s.m gid = some g ∧ g.holderAt col (row * rowLbas) = s.m.dsv.module) ∧
    (∃ (s : State) (src col lba : Nat) (seq gid : BitVec 32) (secs : List (BitVec 32768 × BitVec 128)) (ok : Bool) (g : Group_) (w : Mach × Nat), nextMsg s.m ZMsg.isData = some (src, seq, .reconData gid col lba secs) ∧ groupOf s.m gid = some g ∧ g.holderAt col lba = s.m.dsv.module ∧ w = putRow g col (secs.zipIdx.map (fun d => (lba + d.2, d.1))) 0 s.m ∧ secs.length ≤ w.2) ∧
    (∃ (s : State) (src col lba : Nat) (seq gid : BitVec 32) (secs : List (BitVec 32768 × BitVec 128)) (ok : Bool) (g : Group_) (xs : List (Nat × BitVec 32768 × BitVec 128)), nextMsg s.m ZMsg.isData = some (src, seq, .reconData gid col lba secs) ∧ groupOf s.m gid = some g ∧ g.holderAt col lba ≠ s.m.dsv.module ∧ xs = secs.zipIdx.map (fun d => (lba + d.2, d.1))) :=
  ⟨⟨stZgp id, by decide +kernel⟩,
    ⟨stZgp id, 2, _, by exact ⟨rfl, by decide +kernel⟩⟩,
    ⟨stZgp (fun m => { m with dsv.creation := some ⟨wHdr, wGroup, true, [2]⟩ }), 2, _, ⟨wHdr, wGroup, true, [2]⟩, { num := 2, addr := 0, down := true }, by (repeat' apply And.intro) <;> first | decide +kernel | rfl⟩,
    ⟨stZgp id, 0, 1, 2, 1, 0, 0, .hello, { num := 2, addr := 0 }, { num := 2, addr := 0, up := true, epoch := 1 }, _, by (repeat' apply And.intro) <;> first | decide +kernel | rfl⟩,
    ⟨stZgp id, true, 1, 1, 2, 1, 0, 0, .hello, by decide +kernel⟩,
    ⟨stZgp (fun m => { m with dsv.log := [⟨2, 0, .hello, 7, none, []⟩] }), 2, 0, _, by exact ⟨rfl, by decide +kernel, by decide +kernel⟩⟩,
    ⟨stZgp id, 2, 0, true, by decide +kernel⟩,
    ⟨stZgp (fun m => { m with dsv.groups := [wGroup], dsv.inbox := [(2, 0, .parity 5 1 0 [])] }), 2, 0, 5, 1, 0, [], wGroup, _, by exact ⟨by decide +kernel, by decide +kernel, rfl⟩⟩,
    ⟨stZgp (fun m => { m with dsv.inbox := [(2, 0, .groupDef 5 2 1 1 true [(1, 1), (2, 1), (3, 1)])] }), 2, 2, 1, 1, 0, 5, true, true, [(1, 1), (2, 1), (3, 1)], wGroup, by decide +kernel⟩,
    ⟨stZgp (fun m => { m with dsv.creation := some ⟨wHdr, wGroup, true, [2]⟩, dsv.inbox := [(2, 0, .groupAns 5 true)] }), 2, 0, 5, true, true, ⟨wHdr, wGroup, true, [2]⟩, _, by exact ⟨by decide +kernel, rfl, by decide +kernel, by decide⟩⟩,
    ⟨stZgp (fun m => { m with dsv.inbox := [(2, 0, .state 5 [] [])] }), 2, 0, 5, [], [], by decide +kernel⟩,
    ⟨stZgp (fun m => { m with dsv.groups := [wGroup], dsv.inbox := [(2, 0, .reconRead 5 0 1023)] }), 2, 0, 1023, 0, 5, wGroup, by decide +kernel⟩,
    ⟨stZgp (fun m => { m with dsv.groups := [wGroup], dsv.inbox := [(2, 0, .reconData 5 0 0 [])] }), 2, 0, 0, 0, 5, [], true, wGroup, _, by (repeat' apply And.intro) <;> first | decide +kernel | rfl⟩,
    ⟨stZgp (fun m => { m with dsv.groups := [wGroup], dsv.inbox := [(2, 0, .reconData 5 1 0 [])] }), 2, 1, 0, 0, 5, [], true, wGroup, _, by exact ⟨by decide +kernel, by decide +kernel, by decide +kernel, rfl⟩⟩⟩

/-- Every hypothesis of `Obligations.GroupRequestEffects` is met, clause by clause, by a state and operands. -/
theorem witness_GroupRequestEffects :
    (∃ (s : State) (h : Hdr) (ok : Bool), Served s.m h lvMaint ∧ s.m.id.variant ≠ .s0 ∧ h.p3 = 1 ∧ s.m.dsv.groups = [] ∧ s.m.dsv.creation = none ∧ s.m.svc.commit = none) ∧
    (∃ (s : State) (h : Hdr) (payload : List Byte) (ok : Bool) (t : List (Nat × Nat × Nat)), Served s.m h lvMaint ∧ s.m.id.variant ≠ .s0 ∧ h.p3 = 0 ∧ t = tableOf payload ∧ payload.length = 32 + 20 * t.length ∧ t.length ≤ 512 ∧ h.p0.toNat ≤ 511 ∧ t.any (fun x => decide (511 < x.1) || x.2.1 != 0) = false ∧ (nubList (t.map (fun x => x.1))).length = t.length ∧ zgpPort s.m = true ∧ s.m.dsv.groups = [] ∧ s.m.dsv.creation = none ∧ s.m.sup.pcycle ≠ 0xFFFFFFFF ∧ s.m.svc.commit = none) ∧
    (∃ (s : State) (h : Hdr) (payload : List Byte) (g : Group_) (n : Mach) (r : Mach × Bool), Served s.m h lvMaint ∧ s.m.id.variant ≠ .s0 ∧ s.m.dsv.joined = true ∧ h.p3 >>> 1 = 0 ∧ h.p1 &&& 0xFFFFF0C0 = 0 ∧ g = groupAsked h payload ∧ payload.length = 8 * g.n ∧ 2 ≤ g.k ∧ 1 ≤ g.m ∧ g.m ≤ 8 ∧ g.n ≤ 64 ∧ g.c ≠ 0 ∧ (nubList (g.cols.map (fun c => c.1))).length = g.n ∧ g.cols.any (fun c => c.1 == s.m.dsv.module) = true ∧ (∀ c ∈ g.cols, c.1 = s.m.dsv.module ∨ (peerOf s.m c.1).any (fun p => !p.down) = true) ∧ peerOf s.m s.m.dsv.module = none ∧ s.m.dsv.creation = none ∧ n = accept h 0x0B02 false s.m ∧ memberRefuses n g = false ∧ s.m.svc.commit = none ∧ r = takeGroup g (h.p3.getLsbD 0) true n ∧ r.2 = true) ∧
    (∃ (s : State) (h : Hdr) (g : Group_), Served s.m h lvHost ∧ s.m.id.variant ≠ .s0 ∧ h.p1 = 0 ∧ h.p2 = 0 ∧ h.p3 = 0 ∧ groupOf s.m h.p0 = some g) ∧
    (∃ (s : State) (h : Hdr) (ok : Bool) (g : Group_) (n : Mach), Served s.m h lvMaint ∧ s.m.id.variant ≠ .s0 ∧ s.m.dsv.rebuilds.any (fun r => r.req == some h) = false ∧ groupOf s.m h.p0 = some g ∧ n = accept h 0x0B04 false s.m ∧ rebuildSound n g h = true ∧ s.m.dsv.rebuilds.any (fun r => r.req.isSome && r.gid == h.p0) = false) ∧
    (∃ (s : State) (h : Hdr), Served s.m h lvHost ∧ s.m.id.variant = .s0) :=
  ⟨⟨stZgpAs id, { wHdrS with p3 := 1 }, true, by decide +kernel⟩,
    ⟨stZgpAs (fun m => { m with prt.p0.eth := true, sup.records := [⟨0x1401, leBytes 6 0 ++ leBytes 2 9000⟩] }), wHdrS, List.replicate 32 0, true, _, by (repeat' apply And.intro) <;> first | decide +kernel | rfl⟩,
    ⟨stZgpAs (fun m => { m with zmg.maps.nss := [wNsCol] }), wHdrG, wCols, groupAsked wHdrG wCols, _, _, by (repeat' apply And.intro) <;> first | decide +kernel | rfl⟩,
    ⟨stZgpAs (fun m => { m with dsv.groups := [wGroup] }), { wHdrS with p0 := 5 }, wGroup, by decide +kernel⟩,
    ⟨stZgpAs (fun m => { m with dsv.groups := [wGroup] }), wHdrR, true, wGroup, _, by (repeat' apply And.intro) <;> first | decide +kernel | rfl⟩,
    ⟨stZgpAs (fun m => { m with id.variant := .s0 }), wHdrS, by decide +kernel⟩⟩

/-- A state about to reach controller-ready with an image of slot 1 that advances MIN_SVN to 5. -/
def stSvn : State := { stOf (fun m => { m with sup.stages := 0x3FF, sup.fwSlot := 1, sup.fw.p0 := some ⟨true, 5, true, 0, []⟩ }) with pending := [.controllerReady 100] }

/-- A state of the shape that `Obligations.EmptyQueueIdles` names. -/
theorem witness_EmptyQueueIdles : State.reset.pending = [] := by decide

/-- A step that leaves one-time memory as it is, and one that raises MIN_SVN. -/
theorem witness_OneTimeMemoryKept : (∃ t, step State.reset = .next t) ∧ (∃ s t : State, step s = .next t ∧ Raised s.m.id t.m.id) :=
  ⟨⟨_, rfl⟩, ⟨stSvn, _, rfl, by decide, 5, by decide, rfl⟩⟩

/-- The premises of `Obligations.FuseBudgetKept` hold at reset. -/
theorem witness_FuseBudgetKept : State.reset.m.id.svnRaises ≤ 64 ∧ ∃ t, step State.reset = .next t := ⟨by decide, _, rfl⟩

/-- A command other than the one that `Obligations.OnlyControllerReadyRaisesMinSvn` excepts, and what it answers. -/
theorem witness_OnlyControllerReadyRaisesMinSvn : (∀ x, Instr.crystalReturn ≠ .controllerReady x) ∧ ∃ t, exec .crystalReturn State.reset = .next t :=
  ⟨fun _ => nofun, _, rfl⟩

/-- `Obligations.InputDropoutOnlyCounted`. -/
theorem witness_InputDropoutOnlyCounted : ∃ (s : State) (d : BitVec 16), s.m.pwr.inputOk = true ∧ d.toNat < 120 :=
  ⟨stOf (fun m => { m with pwr.inputOk := true }), 119, by decide⟩

/-- `Obligations.SettleTimeoutReportedOnce`: before the report and after it. -/
theorem witness_SettleTimeoutReportedOnce :
    (∃ (s : State) (a : Act), (s.m.srv.get a).st = .settle ∧ (s.m.srv.get a).settleLate = false) ∧
    (∃ (s t : State) (a : Act), (s.m.srv.get a).st = .settle ∧ (s.m.srv.get a).settleLate = true ∧ exec (.settleTimeout a) s = .next t) :=
  ⟨⟨stFly (fun m => { m with srv.p0.st := .settle }), .a0, by decide⟩,
    stFly (fun m => { m with srv.p1.st := .settle, srv.p1.settleLate := true }), _, .a1, by decide, by decide, rfl⟩

/-- `Obligations.LogModeDropsNewRecord`: a full store. -/
theorem witness_LogModeDropsNewRecord : ∃ (s : State) (i : EventInfo), eventInfo (0x0105#16).toNat = some i ∧ s.m.evr.ixd3 = true ∧
    storeSlots ≤ s.m.evr.held.length ∧
    bumpRepeat (0x0105#16).toNat (placeOf (0x0105#16).toNat nowhere [1]) s.m.sup.opSec s.m.sup.pcycle (paramBytes [1]) 4 s.m.evr.held = none :=
  ⟨stOf (fun m => { m with evr.ixd3 := true, evr.held := List.replicate 16384 wSlot }), _, rfl, rfl, by decide +kernel, by decide +kernel⟩

/-- `Obligations.TimestampFeatureRefused`. -/
theorem witness_TimestampFeatureRefused : ∃ (s : State) (c : NvCmd), Admits s.m c := ⟨stNv wNsC, wAdm, by decide +kernel⟩

/-- `Obligations.DiscardAllKeepsModuleStagings`. -/
theorem witness_DiscardAllKeepsModuleStagings : ∃ (s : State) (h : Hdr), Served s.m h lvMaint ∧ h.p0 = 0 ∧ h.p1 = 0 ∧ h.p2 = 0 ∧ h.p3 = 2 :=
  ⟨stAs .active 1 id, { wHdrS with p3 := 2 }, by decide +kernel⟩

/-- `Obligations.LocalCommandsKeepTheRest`: a command of each kind answers a next state, and it is another state. -/
theorem witness_LocalCommandsKeepTheRest :
    (∃ s t : State, exec (.heaterReady .a0) s = .next t ∧ t ≠ s) ∧ (∃ s t : State, exec (.eventReport 0x0105 0 0 0 []) s = .next t ∧ t ≠ s) :=
  ⟨⟨State.reset, _, rfl, by decide +kernel⟩, ⟨State.reset, _, rfl, by decide +kernel⟩⟩

/-- `Obligations.ReadingRequestsChangeNothing`: a reading request answers a next state, and it is another state. -/
theorem witness_ReadingRequestsChangeNothing : ∃ s t : State, exec (.getMode wHdr) s = .next t ∧ t ≠ s := ⟨State.reset, _, rfl, by decide +kernel⟩

/-- `Obligations.RequestChecksInOrder`, clause by clause. -/
theorem witness_RequestChecksInOrder :
    requestOf (.getMode wHdr) = some (0x0102, wHdr, lvHost) ∧
    carried State.reset.m { wHdr with who := .uart } = false ∧
    (∃ s : State, carried s.m wHdr = true ∧ waiting s.m wHdr 0x0102 = false ∧ tagHeld s.m wHdr.who wHdr.tag = true) ∧
    (∃ s : State, carried s.m wHdr = true ∧ tagHeld s.m wHdr.who wHdr.tag = false ∧ rsvFull s.m = true) ∧
    (∃ s : State, carried s.m wHdr = true ∧ tagHeld s.m wHdr.who wHdr.tag = false ∧ rsvFull s.m = false ∧
      requestOf (.zgpGroupStatus wHdr) = some (0x0B03, wHdr, lvHost) ∧ objectAbsent (.zgpGroupStatus wHdr) 0x0B03 s.m = true) ∧
    (∃ s : State, carried s.m wHdr = true ∧ tagHeld s.m wHdr.who wHdr.tag = false ∧ rsvFull s.m = false ∧
      requestOf (.armWrite wHdr) = some (0x0902, wHdr, lvMaint) ∧ objectAbsent (.armWrite wHdr) 0x0902 s.m = false ∧ hasAuth s.m wHdr lvMaint = false) :=
  ⟨rfl, by decide, ⟨stOf (fun m => { m with svc.out := [⟨.nvme 1, 7, 0x0101, false, none, 0, false⟩] }), by decide +kernel⟩,
    ⟨stOf (fun m => { m with svc.out := List.replicate 48 ⟨.uart, 9, 0x0101, false, none, 0, false⟩ }), by decide +kernel⟩,
    ⟨stOf (fun m => { m with id.variant := .s0 }), by decide +kernel, by decide +kernel, by decide +kernel, rfl, by decide⟩,
    ⟨State.reset, by decide +kernel, by decide +kernel, by decide +kernel, rfl, by decide, by decide +kernel⟩⟩

/-- `Obligations.PeerGroupsAbsentOnS0`: a request that no authority backs. -/
theorem witness_PeerGroupsAbsentOnS0 : ∃ (s : State) (h : Hdr), s.m.id.variant = .s0 ∧ carried s.m h = true ∧ tagHeld s.m h.who h.tag = false ∧
    rsvFull s.m = false ∧ s.m.dsv.rebuilds.any (fun r => r.req == some h) = false :=
  ⟨stOf (fun m => { m with id.variant := .s0 }), wHdr, by decide +kernel⟩

/-- `Obligations.CounterReadLatchesHigh`: PWR.ENERGY, read low and, after it has changed, high. -/
theorem witness_CounterReadLatchesHigh : ∃ (m k : Mach) (addr : Nat) (c d : Counter), blockDark m (regBlock addr) = false ∧
    counterAt m (regBlock addr) (regOff addr) = some c ∧ regBlock (addr + 4) = regBlock addr ∧ regOff (addr + 4) = regOff addr + 4 ∧
    k.svc.latch = (readReg addr m).2.svc.latch ∧ blockDark k (regBlock addr) = false ∧ counterAt k (regBlock addr) (regOff addr + 4) = none ∧
    counterAt k (regBlock addr) (regOff addr) = some d :=
  ⟨State.reset.m, { (readReg 0x10024 State.reset.m).2 with pwr.energy := ⟨5, false⟩ }, 0x10024, _, _, by decide +kernel, rfl, by decide, by decide,
    by decide +kernel, by decide +kernel, by decide +kernel, rfl⟩

/-- `Obligations.WrongProofsLockOut`, clause by clause. -/
theorem witness_WrongProofsLockOut :
    (∃ (s : State) (h : Hdr) (proof : List Byte), Served s.m h lvHost ∧ h.p1 = 0 ∧ h.p2 = 0 ∧ h.p3 = 0 ∧ (h.p0 = 1 ∨ h.p0 = 2) ∧
      proof.length = 32 ∧ factoryBarred s.m h.p0.toNat = false ∧ lockedOut s.m h.who = true) ∧
    (∃ (s : State) (h : Hdr) (proof : List Byte), Served s.m h lvHost ∧ h.p0 = 0 ∧ h.p1 = 0 ∧ h.p2 = 0 ∧ h.p3 = 0 ∧
      proof.length = 32 ∧ lockedOut s.m h.who = true) ∧
    (∃ (s : State) (h : Hdr) (proof : List Byte), Served s.m h lvHost ∧ h.p1 = 0 ∧ h.p2 = 0 ∧ h.p3 = 0 ∧ (h.p0 = 1 ∨ h.p0 = 2) ∧
      proof.length = 32 ∧ factoryBarred s.m h.p0.toNat = false ∧ lockedOut s.m h.who = false ∧ proofGood s.m h.who h.p0.toNat proof = false) ∧
    (∃ (m : Mach) (who : Transport),
      4 ≤ (m.svc.fails.filter (fun f => f.1 == who && decide (m.sup.opSec.toNat < f.2.toNat + 60))).length) :=
  ⟨⟨stOf (fun m => { m with svc.lockouts := [(.nvme 1, 0)], sup.opSec := 59 }), { wHdr with p0 := 1 }, List.replicate 32 0, by decide +kernel⟩,
    ⟨stOf (fun m => { m with svc.lockouts := [(.nvme 1, 0)], sup.opSec := 59 }), wHdr, List.replicate 32 0, by decide +kernel⟩,
    ⟨stOf (fun m => { m with svc.lockouts := [(.nvme 1, 0)], sup.opSec := 60 }), { wHdr with p0 := 1 }, List.replicate 32 0, by decide +kernel⟩,
    (stOf (fun m => { m with svc.fails := List.replicate 4 (.uart, 0), sup.opSec := 59 })).m, .uart, by decide +kernel⟩

/-- `Obligations.PositionSensingCompletes`, clause by clause: the frame is at the limit of half a pitch from the word. -/
theorem witness_PositionSensingCompletes :
    (∃ (s : State) (a : Act) (x : List Nat), demodulates s.m a = true ∧
      setPasses s.m a (x.map (fun v => v * (s.m.srvRef.get a).gain / 65536)) = false) ∧
    (∃ (s : State) (a : Act) (w : BitVec 32), demodulates s.m a = true ∧ frameValid wFrame 250 = true ∧ (s.m.srvRef.get a).word1 = some w ∧
      (laneCentre .setA 0 (framePeriod wFrame) - (w.toNat : Int)).natAbs = 2048) ∧
    (∃ (s : State) (a : Act), (s.m.srv.get a).st = .seek ∧ (s.m.srvRef.get a).acquired = false ∧ loaded s.m a = true) ∧
    (∃ (s : State) (a : Act), demodulates s.m a = true ∧ (s.m.srvRef.get a).indexValid = true ∧ (s.m.srvRef.get a).markLost = false ∧
      (s.m.srvRef.get a).acquired = false) ∧
    (∃ (s : State) (a : Act), demodulates s.m a = true ∧ (s.m.srvRef.get a).indexValid = true ∧ (s.m.srvRef.get a).markLost = false ∧
      (s.m.srvRef.get a).acquired = true ∧ (s.m.srv.get a).st ≠ .opened ∧ (s.m.srv.get a).st ≠ .retract) ∧
    (∃ (s : State) (a : Act), demodulates s.m a = true ∧ (s.m.srv.get a).st = .settle ∧
      (s.m.srvRef.get a).missRun + 1 ≠ (s.m.srvRef.get a).missLimit.toNat) :=
  ⟨⟨stFly id, .a0, [0, 0, 0, 0], by decide +kernel⟩,
    ⟨stFly (fun m => { m with srvRef.p0.word1 := some (BitVec.ofInt 32 (laneCentre .setA 0 (framePeriod wFrame) + 2048)) }), .a0, _, by decide +kernel,
      by decide +kernel, rfl, by decide +kernel⟩,
    ⟨stFly (fun m => { m with srv.p0.st := .seek }), .a0, by decide +kernel⟩, ⟨stFly (fun m => { m with srvRef.p0.indexValid := true }), .a0, by decide +kernel⟩,
    ⟨stFly (fun m => { m with srv.p0.st := .follow, srvRef.p0.indexValid := true, srvRef.p0.acquired := true }), .a0, by decide +kernel⟩,
    ⟨stFly (fun m => { m with srv.p0.st := .settle, srvRef.p0.missLimit := 4 }), .a0, by decide +kernel⟩⟩

/-- `Obligations.ReadingCommandsComplete`: each command on a namespace that fits it. -/
theorem witness_ReadingCommandsComplete :
    Runs (stNv wNsC).m wCmd (.read 1 999 1 wProt) wNsC ∧ Runs (stNv wNsC).m wCmd (.compare 1 999 1 wProt [(0, 0)]) wNsC ∧
    Runs (stNv wNsC).m wCmd (.verify 1 999 1 wProt) wNsC ∧ Runs (stNv wNsZ).m wCmd (.zoneReport 1 65536) wNsZ ∧
    Runs (stNv wNsC).m wCmd (.flush 1) wNsC := by decide +kernel

/-- `Obligations.WritingCommandsComplete`: each command on a namespace that fits it. -/
theorem witness_WritingCommandsComplete :
    Runs (stNv wNsC).m wCmd (.write 1 999 1 wProt [(0, 0)]) wNsC ∧ Runs (stNv wNsC).m wCmd (.writeZeroes 1 999 1 wProt) wNsC ∧
    Runs (stNv wNsZ).m wCmd (.append 1 65536 1 wProt [(0, 0)]) wNsZ ∧ Runs (stNv wNsC).m wCmd (.deallocate 1 [(999, 1)]) wNsC := by decide +kernel

/-- `Obligations.ZoneCommandsComplete`: the first zone and all of them. -/
theorem witness_ZoneCommandsComplete :
    Runs (stNv wNsZ).m wCmd (.zoneOpen 1 65536 true) wNsZ ∧ Runs (stNv wNsZ).m wCmd (.zoneClose 1 65536 false) wNsZ ∧
    Runs (stNv wNsZ).m wCmd (.zoneFinish 1 65536 false) wNsZ ∧ Runs (stNv wNsZ).m wCmd (.zoneReset 1 0 true) wNsZ := by decide +kernel

/-- `Obligations.AbortAndHoldExpiryComplete`, clause by clause. -/
theorem witness_AbortAndHoldExpiryComplete :
    (∃ (s : State) (c : NvCmd) (q i : BitVec 16), c.sqid = 0 ∧ fresh s.m c = true ∧
      (ctxOf (Decoded c s.m) ⟨c.port, c.cntlid, q, i⟩).any (fun x => x.status.isNone) = true) ∧
    (∃ (s : State) (c : NvCmd) (q i : BitVec 16), c.sqid = 0 ∧ fresh s.m c = true ∧
      (ctxOf (Decoded c s.m) ⟨c.port, c.cntlid, q, i⟩).any (fun x => x.status.isNone) = false) ∧
    (∃ s : State, heldTooLong (clockTo 20000000 s.m) ≠ [] ∧ s.m.sup.holdReported = true) ∧
    (∃ s : State, heldTooLong (clockTo 20000000 s.m) ≠ [] ∧ s.m.sup.holdReported = false) :=
  ⟨⟨stNv wNsC, wAdm, wCmd.sqid, wCmd.cid, by decide +kernel⟩, ⟨stNv wNsC, wAdm, 1, 8, by decide +kernel⟩,
    ⟨stOf (fun m => { m with fe.ctxs := [{ wCtx with heldAt := some 0 }], sup.holdReported := true }), by decide +kernel⟩,
    ⟨stOf (fun m => { m with fe.ctxs := [{ wCtx with heldAt := some 0 }] }), by decide +kernel⟩⟩

/-! ### Well-formedness: one ill-formed term for each check -/

theorem wf_head : Instr.wellFormed (.alignmentField .a0 12 0 false 0 0 0) = false := by decide
theorem wf_page : Instr.wellFormed (.identityPageProgram .uart 0 { wPage with serial := List.replicate 25 0 }) = false := by decide +kernel
theorem wf_hda : Instr.wellFormed (.powerOnReset (some { norSize := 0x3FF_FFFF })) = false := by decide
theorem wf_copyHead : Instr.wellFormed (.reservedCopyRepair .a0 12 0 false) = false := by decide
theorem wf_frame : Instr.wellFormed (.headBusFrame .a0 ⟨true, 3, 0x10, [1, 2], 3⟩ []) = false := by decide
theorem wf_framePage : Instr.wellFormed (.headBusFrame .a0 ⟨false, 16, 0, [], 1⟩ []) = false := by decide
theorem wf_frameAddr : Instr.wellFormed (.headBusFrame .a0 ⟨false, 0, 128, [], 1⟩ []) = false := by decide
theorem wf_params : Instr.wellFormed (.eventReport 0x0105 0 0 0 (List.replicate 9 0)) = false := by decide
theorem wf_longParams : Instr.wellFormed (.eventReport 0x1240 0 0 0 (List.replicate 10 0)) = true := by decide
theorem wf_apst : Instr.wellFormed (.apstTransition 5) = false := by decide
theorem wf_lanes : Instr.wellFormed (.demodWindow .a0 [1, 2, 3] [1, 2, 3, 4] 0 true) = false := by decide
theorem wf_holdEnd : Instr.wellFormed (.holdEnd .a0 3) = false := by decide
theorem wf_loadReason : Instr.wellFormed (.loadAttemptFail .a0 0) = false := by decide
theorem wf_array : Instr.wellFormed (.dramScrub 7 0 0 .clean none) = false := by decide
theorem wf_leaf : Instr.wellFormed (.mediaDeadlineMiss 11 0) = false := by decide
theorem wf_cleaning : Instr.wellFormed (.cleaning .a0 0 3) = false := by decide
theorem wf_speculation : Instr.wellFormed (.speculationStart .a0 0 3) = false := by decide
theorem wf_read : Instr.wellFormed (.nvmeRead wCmd 1 0 0 wProt) = false := by decide
theorem wf_zeroes : Instr.wellFormed (.nvmeWriteZeroes wCmd 1 0 65537 wProt) = false := by decide
theorem wf_verify : Instr.wellFormed (.nvmeVerify wCmd 1 0 0 wProt) = false := by decide
theorem wf_write : Instr.wellFormed (.nvmeWrite wCmd 1 0 wProt []) = false := by decide
theorem wf_append : Instr.wellFormed (.nvmeZoneAppend wCmd 1 0 wProt []) = false := by decide
theorem wf_compare : Instr.wellFormed (.nvmeCompare wCmd 1 0 wProt []) = false := by decide
theorem wf_ranges : Instr.wellFormed (.nvmeDatasetManagement wCmd 1 []) = false := by decide
theorem wf_submit : Instr.wellFormed (.serviceRequestSubmit wAdm 8 [0]) = false := by decide
theorem wf_uart : Instr.wellFormed (.uartFrame []) = false := by decide
theorem wf_zgpFrame : Instr.wellFormed (.zgpFrameReceive true 0 0 512 0 0 0 .ack) = false := by decide
theorem wf_peer : Instr.wellFormed (.zgpPeerTimeout 512) = false := by decide
theorem wf_retransmit : Instr.wellFormed (.zgpRetransmit 512 0) = false := by decide
theorem wf_ack : Instr.wellFormed (.zgpAck 512 0 true) = false := by decide
theorem wf_image : Instr.wellFormed (.nvmeFirmwareImageDownload wAdm 0 [0, 0]) = false := by decide

/-! ### The spec's worked examples -/

/-- Selection across wrap (spec/01): bank B with SEQ 1 is newer than bank A with 0xFFFFFFFE, and SEQ 2 is newer than SEQ 1. -/
theorem test_bank_across_wrap : newerPlace 0xFFFFFFFE 1 = .a1 ∧ newerPlace 2 1 = .a0 := by decide

/-- Numbers 2^31 apart: the lower place (R19). -/
theorem test_half_way_apart : newerPlace 5 0x80000005 = .a0 ∧ newerPlace 0x80000005 5 = .a0 := by decide

/-- Hold-up at the defaults, U0 and U1 (Table 2-3, Table 2-9). -/
theorem test_holdup_defaults : eReqOf State.reset.m = 2998 ∧ eNeedOf State.reset.m = 3298 ∧
    eReqOf (stOf (fun m => { m with id.variant := .u1 })).m = 5095 := by decide

/-- The aged capacitors of spec/02: 3,213 mJ, of 1,680 µC, do not suffice, 3,443 mJ, of 1,800 µC, do. -/
theorem test_holdup_aged : holdupSufficient (stOf (fun m => { m with pwr.measValid := true, pwr.charge := 1680 })).m = false ∧
    holdupSufficient (stOf (fun m => { m with pwr.measValid := true, pwr.charge := 1800 })).m = true := by decide

/-- The ramped service curve of spec/05. -/
def wRamp : Curve := ⟨10, [⟨20, true, 3000⟩, ⟨220, false, 7200⟩]⟩
theorem test_curve : wRamp.target false 15 = 0 ∧ wRamp.target true 120 = 5100 ∧ wRamp.target true 15 = 3000 ∧ wRamp.target true 5 = 0 ∧
    wRamp.target true 240 = 7200 ∧ wRamp.target true 255 = 7200 := by decide

/-- Region 12 of A1.H4 in the worked example of spec/06: two pitch segments. -/
def wPitch : List Byte := [4, 12, 0, 0] ++ leBytes 4 201600 ++ leBytes 4 22400 ++ leBytes 4 209715200 ++ leBytes 2 2 ++ leBytes 2 0
  ++ leBytes 4 0 ++ leBytes 4 267904 ++ leBytes 4 1200 ++ leBytes 4 268096
theorem test_track_position : posIn wPitch 203100 = 211285175 := by decide +kernel
/-- Its offset: between −2,300 and −2,180 at 1,500 of 22,400 tracks. -/
theorem test_offset : lerp (-2310) (-2270) 1 4 = -2300 ∧ lerp (-2190) (-2150) 1 4 = -2180 ∧ lerp (-2300) (-2180) 1500 22400 = -2292 := by decide

/-- LEADTICKS of the head switch of spec/08: 800 ns at 2.4 GHz. -/
theorem test_lead_ticks : (800 * 2400000 + 7999999) / 8000000 = 240 := by decide

/-- The result word of the split sector of spec/09: synchronised by the burgee, 5 iterations, 37 bits. -/
theorem test_result_word : secWord 0 decOk 2 0 5 37 = 0x00801425 := by decide

/-- One LBA in two namespaces (spec/12). -/
theorem test_lba_zoned : lbaAct .zoned 1000000000 = .a0 ∧ lbaBand .zoned 1000000000 = (7629, 51712) := by decide
theorem test_lba_managed : lbaAct .managed 1000000000 = .a1 ∧ lbaBand .managed 1000000000 = (7629, 25600) := by decide
theorem test_lba_back : bandLba .zoned .a0 7629 51712 = 1000000000 ∧ bandLba .managed .a1 7629 25600 = 1000000000 := by decide

/-- Interpolation of a profile in distance (R663). -/
theorem test_profile : profileAt [(10, 600, 0), (400, 1000, 0), (30000, 2900, 0)] 400 = (1000, 0) := by decide

/-- Six leaves that all request: the sixth grant goes to a host leaf and leaves every credit at zero (Table 14-6). -/
theorem test_sixth_grant : (match exec (.arbiterGrant 0xBB 0 0 0) (stOf (fun m => { m with
      bcm.weights := [2, 2, 1, 1], bcm.credits := [-2, 4, -1, -1], bcm.grantNo := 5, bcm.lastLeaf := [1, 3, 5, 7] })) with
    | .next t => (t.m.bcm.credits, t.m.bcm.grants.map (·.val))
    | _ => ([], [])) = ([0, 0, 0, 0], [0, 0, 0, 0, 1, 0, 0, 0, 0, 0, 0]) := by decide +kernel

/-- The field arithmetic of spec/17: c(0, 0) and c(1, 0) with two parity columns, and a byte of each product. -/
theorem test_field : gfCoef 2 0 0 = 0x8E ∧ gfCoef 2 1 0 = 0xF4 ∧ gfMul 0x8E 0x5A = 0x2D ∧ gfMul 0xF4 0x5A = 0x36 := by decide +kernel

/-- The CRC-16 of R918 over the nine ASCII digits. -/
theorem test_uart_crc : uartCrc [0x31, 0x32, 0x33, 0x34, 0x35, 0x36, 0x37, 0x38, 0x39] = 0x29B1 := by decide +kernel

/-- Reading PWR.BULKCAP over NVMe (Table 18-10): the request is accepted, … -/
def wBulkReq : List Byte := leBytes 4 0x02000D01 ++ leBytes 4 7 ++ List.replicate 8 0 ++ leBytes 4 0x10014 ++ leBytes 4 1 ++ List.replicate 8 0
theorem test_bulkcap_taken : (takeRequest (.nvme 0) (nvmeLenOk 8 wBulkReq) wBulkReq State.reset.m).2 = 0 ∧
    (takeRequest (.nvme 0) (nvmeLenOk 8 wBulkReq) wBulkReq State.reset.m).1.svc.out = [⟨.nvme 0, 7, 0x0D01, false, none, 0, false⟩] := by decide +kernel
/-- … and its reply is the twenty bytes of the example. -/
theorem test_bulkcap_reply : (match exec (.regRead ⟨.nvme 0, 7, false, 0, 0x10014, 1, 0, 0⟩) (stOf (fun m => { m with
    pwr.cap := 1120, pwr.eUse := 4284, svc.out := [⟨.nvme 0, 7, 0x0D01, false, none, 0, false⟩] })) with
    | .next t => (retrieve (.nvme 0) 5 7 t.m).1
    | _ => none) = some (1, [0x01, 0x0D, 0, 0, 7, 0, 0, 0, 0, 0, 0, 0, 4, 0, 0, 0, 0x60, 0x04, 0xBC, 0x10]) := by decide +kernel

/-- Two held records and a repeat (Table 19-10, last event): the newest record's REPEAT rises and its SEQ stays. -/
theorem test_repeat : (match exec (.eventReport 0x0111 0 0 0 []) (stEv false) with
    | .next t => t.m.evr.held.map (fun e => (e.cur.rep, e.cur.seq))
    | _ => []) = [(3, 1)] := by decide +kernel

/-! ### One step at boundaries -/

/-- A dropout of 12 ms is none (R110, R116). -/
theorem test_dropout_limit : (match exec (.inputDropout 120) (stOf (fun m => { m with pwr.inputOk := true })) with
    | .next t => t.m.pwr.dropCnt.val
    | _ => 1) = 0 := by decide +kernel

/-- A counter at its maximum stays there and sets its flag (R14). -/
theorem test_counter_saturates : (Counter.mk 0xFFFFFFFFFFFFFFFF false).inc = ⟨0xFFFFFFFFFFFFFFFF, true⟩ := by decide

/-- Writing 1 clears a sticky bit and no other (Table 0-6). -/
theorem test_w1c : (match exec (.regWrite { wHdrS with p0 := 0x010004, p1 := 4, p2 := 0xFFFFFFFF } [])
    (stAs .service 2 (fun m => { m with events.pwr := 6 })) with
    | .next t => t.m.events.pwr
    | _ => 0) = 2 := by decide +kernel

/-- No word spells a command: the table gives no row bits (log entry 9). -/
theorem test_no_word : decodeTableWord 16 0 = none := by decide

end Sys2Proof.Tests
end

section
/-! PROOFS. The first checks of a service request, in the order of Table 18-4 (spec/18 R908 to R927). -/

namespace Sys2Proof.Machine

/-- Every command of `requestOf` runs one service request: its opcode, header and authority, with `objectAbsent` as step 7. -/
theorem exec_of_requestOf (c : Instr) (op : Nat) (h : Hdr) (need : Nat) (hc : requestOf c = some (op, h, need)) :
    ∃ checks body, ∀ s, exec c s = s.run (serviceFor (objectAbsent c op) op h need checks body) := by
  cases c <;> simp only [requestOf, Option.some.injEq, Prod.mk.injEq, reduceCtorEq] at hc
  all_goals
    obtain ⟨rfl, rfl, rfl⟩ := hc
    exact ⟨_, _, fun _ => rfl⟩

/-- Accepting a request does not bear on what the variant lacks. -/
theorem objectAbsent_accept (c : Instr) (op k : Nat) (h : Hdr) (x : Bool) (m : Mach) :
    objectAbsent c op (accept h k x m) = objectAbsent c op m := by
  unfold objectAbsent
  split
  · simp [ethernetOnS0]
  · exact familyAbsent_accept op k h x m

section
variable (absent : Mach → Bool) (op : Nat) (h : Hdr) (need : Nat) (checks : Mach → List (Bool × Nat)) (body : Mach → Mach) (m : Mach)

/-- A carrier that takes no frame in this mode leaves the machine as it is (R918). -/
theorem serviceFor_not_carried (hc : carried m h = false) : serviceFor absent op h need checks body m = m := by
  simp [serviceFor, hc]

/-- A request whose TAG is outstanding is refused with DUP_TAG (R908). -/
theorem serviceFor_tag_held (hc : carried m h = true) (hw : waiting m h op = false) (ht : tagHeld m h.who h.tag = true) :
    serviceFor absent op h need checks body m = refuse h stDupTag m := by
  simp [serviceFor, hc, hw, ht]

/-- A request that finds every context in use is refused with BUSY (R911). -/
theorem serviceFor_full (hc : carried m h = true) (ht : tagHeld m h.who h.tag = false) (hr : rsvFull m = true) :
    serviceFor absent op h need checks body m = refuse h stBusy m := by
  simp [serviceFor, hc, waiting_of_free m h op ht, ht, hr]

/-- A request that passes steps 1 to 5 is accepted, and steps 7 to 11 follow (R914, R926). -/
theorem serviceFor_accepted (hc : carried m h = true) (ht : tagHeld m h.who h.tag = false) (hr : rsvFull m = false) :
    serviceFor absent op h need checks body m = serviceFor.go absent h need checks body (accept h op false m) := by
  simp [serviceFor, hc, waiting_of_free m h op ht, ht, hr]

/-- Step 7: what the variant lacks is answered NOT_PRESENT, before the authority is looked at (R6, R926). -/
theorem serviceFor_go_absent (ha : absent m = true) : serviceFor.go absent h need checks body m = reply h stNotPresent 0 [] m := by
  simp [serviceFor.go, ha]

/-- Step 8: a request without its row's authority is answered NOT_AUTHORISED (R919, R927). -/
theorem serviceFor_go_unauthorised (ha : absent m = false) (hn : hasAuth m h need = false) :
    serviceFor.go absent h need checks body m = reply h stNotAuth 0 [] m := by
  simp [serviceFor.go, ha, hn]

end

end Sys2Proof.Machine

namespace Sys2Proof.Proofs
open Sys2Proof.Machine

/-- Settles O52: every command of `requestOf` is one `serviceFor`, whose outcome at each of the first checks is known. -/
theorem requestChecksInOrder : Obligations.RequestChecksInOrder := by
  intro c op h need s hreq
  obtain ⟨checks, body, hexec⟩ := exec_of_requestOf c op h need hreq
  have does {m' : Mach} (e : serviceFor (objectAbsent c op) op h need checks body s.m = m') : Does c s m' := by
    rw [Does, hexec, State.run_eq, e]
  refine ⟨fun hc => does ?_, fun hc hw ht => does ?_, fun hc ht hr => does ?_, fun hc ht hr ha => does ?_, fun hc ht hr ha hn => does ?_⟩
  · exact serviceFor_not_carried _ op h need checks body s.m hc
  · exact serviceFor_tag_held _ op h need checks body s.m hc hw ht
  · exact serviceFor_full _ op h need checks body s.m hc ht hr
  · rw [serviceFor_accepted _ op h need checks body s.m hc ht hr]
    exact serviceFor_go_absent _ h need checks body _ (by rwa [objectAbsent_accept])
  · rw [serviceFor_accepted _ op h need checks body s.m hc ht hr]
    exact serviceFor_go_unauthorised _ h need checks body _ (by rwa [objectAbsent_accept]) (by rwa [hasAuth_accept])

end Sys2Proof.Proofs
end

section
/-! PROOFS. Peer groups on a variant without them (spec/00 R6, spec/18 R926). -/

namespace Sys2Proof.Proofs
open Sys2Proof.Machine

/-- Settles O53: the opcodes of the family are absent on IXD-5260-S0, and step 7 comes before every other check of an accepted request. -/
theorem peerGroupsAbsentOnS0 : Obligations.PeerGroupsAbsentOnS0 := by
  intro s h hv hc ht hr
  have absent {op : Nat} (ho : op / 256 = 0x0B) : familyAbsent op s.m = true := by simp [familyAbsent, hv, ho]
  refine ⟨absent_step s 0x0B03 h lvHost _ _ hc ht hr (absent rfl), fun p ok => ⟨?_, ?_, fun hb => ?_⟩⟩
  · exact absent_step s 0x0B01 h lvMaint _ _ hc ht hr (absent rfl)
  · exact absent_step s 0x0B02 h lvMaint _ _ hc ht hr (absent rfl)
  · show execZgpRebuild h ok s = _
    simp only [execZgpRebuild, State.run_eq, hb, Bool.false_eq_true, if_false]
    exact absent_step s 0x0B04 h lvMaint _ _ hc ht hr (absent rfl)

end Sys2Proof.Proofs
end

section
/-! PROOFS. Serial numbers (R18), and the register space with its latched counters (spec/00 R20, spec/18 R930 to R933). -/

namespace Sys2Proof.Machine

/-- The order of R18 in the words of the spec: the difference modulo 2^32 lies in 1 to 2^31 − 1. -/
theorem newer_iff (a b : BitVec 32) : newer a b = true ↔
    1 ≤ ((a.toNat : Int) - (b.toNat : Int)) % 4294967296 ∧ ((a.toNat : Int) - (b.toNat : Int)) % 4294967296 ≤ 2147483647 := by
  have diff : ((a - b).toNat : Int) = ((a.toNat : Int) - (b.toNat : Int)) % 4294967296 := by
    have := a.isLt; have := b.isLt
    rw [BitVec.toNat_sub]; omega
  simp only [newer, Bool.and_eq_true, decide_eq_true_eq]
  omega

section
variable (m : Mach) (addr : Nat)

/-- Reading where a counter stands gives its low word and latches its high word (R20). -/
theorem readReg_low (c : Counter) (hd : blockDark m (regBlock addr) = false) (hc : counterAt m (regBlock addr) (regOff addr) = some c) :
    readReg addr m = (c.lo, { m with svc.latch := m.svc.latch.filter (fun e => e.1 != addr) ++ [(addr, c.hi)] }) := by
  simp [readReg, hd, hc]

/-- Reading 4 above a counter's low register gives what is latched, and the counter's own high word when nothing is (R20). -/
theorem readReg_high (low : Nat) (c : Counter) (ha : addr = low + 4) (hb : regBlock addr = regBlock low) (ho : regOff addr = regOff low + 4)
    (hd : blockDark m (regBlock low) = false) (hn : counterAt m (regBlock low) (regOff low + 4) = none)
    (hc : counterAt m (regBlock low) (regOff low) = some c) : (readReg addr m).1 = (latchedHi m low).getD c.hi := by
  subst ha
  simp [readReg, hb, ho, hd, hn, hc]

/-- After a low register has been read, its high word of that instant is what is latched for it. -/
theorem latchedHi_readReg_low (c : Counter) (hd : blockDark m (regBlock addr) = false)
    (hc : counterAt m (regBlock addr) (regOff addr) = some c) : latchedHi (readReg addr m).2 addr = some c.hi := by
  have gone : (m.svc.latch.filter (fun e => e.1 != addr)).find? (fun e => e.1 == addr) = none := by simp
  rw [readReg_low m addr c hd hc]
  simp [latchedHi, List.find?_append, gone]

end

/-- What is latched depends on the latch alone. -/
theorem latchedHi_congr {m k : Mach} (low : Nat) (he : k.svc.latch = m.svc.latch) : latchedHi k low = latchedHi m low := by
  simp only [latchedHi, he]

end Sys2Proof.Machine

namespace Sys2Proof.Proofs
open Sys2Proof.Machine

/-- Settles O44, by the difference of the numbers modulo 2^32. -/
theorem sequenceNumberOrder : Obligations.SequenceNumberOrder := newer_iff

/-- Settles O54: the entry that the low read leaves in the latch is the one that the high read finds. -/
theorem counterReadLatchesHigh : Obligations.CounterReadLatchesHigh := by
  intro m addr c hd hc hb ho
  refine ⟨by rw [readReg_low m addr c hd hc], fun k d hl hkd hkn hkc => ?_⟩
  rw [readReg_high k (addr + 4) addr d rfl hb ho hkd hkn hkc, latchedHi_congr addr hl, latchedHi_readReg_low m addr c hd hc]
  rfl

/-- Settles O31: both requests are served and pass their row's checks; the low read has no condition. -/
theorem registerAccessEffects : Obligations.RegisterAccessEffects := by
  refine ⟨fun s h hs h2 h3 h1 hl hb => ?_, fun s h acks hs h3 hb => ?_, fun s addr => rfl⟩
  · have pass : firstFail [reserved [h.p2, h.p3],
        (decide (h.p1 = 0) || decide (256 < h.p1.toNat) || badRange h.p0.toNat h.p1.toNat, stBadParam)] = none := by
      simpa [firstFail_eq_none, reserved, h2, h3, hl, hb] using h1
    exact ⟨_, service_step s 0x0D01 h lvHost _ _ _ hs pass rfl, _, rfl, rfl⟩
  · have pass : firstFail [reserved [h.p3], (badRange h.p0.toNat 1, stBadParam)] = none := by
      simp [firstFail_eq_none, reserved, h3, hb]
    exact ⟨_, service_step s 0x0D02 h lvMaint _ _ _ hs pass rfl, _, rfl, rfl⟩

end Sys2Proof.Proofs
end

section
/-! PROOFS. The pins, the seconds and the NVMe power features (spec/20 R999 to R1019, spec/00 R22, spec/04 R201 to R210). -/

namespace Sys2Proof.Machine

/-- A clipped number is the lesser of the two. -/
theorem satTo_eq_min (mx v : Nat) : satTo mx v = min mx v := by
  unfold satTo
  split <;> omega

/-- The operating time a second later, kept at its maximum (R22). -/
theorem tickSeconds_eq (t : BitVec 40) : tickSeconds t = BitVec.ofNat 40 (min (2 ^ 40 - 1) (t.toNat + 1)) := by
  rw [tickSeconds, satTo_eq_min]

/-- The activity indicator goes dark when neither sequencer has a media operation in flight (R1004). -/
theorem execActLedHoldExpiry_halted (s : State) (h0 : cfxHalted s.m .a0 = true) (h1 : cfxHalted s.m .a1 = true) :
    execActLedHoldExpiry s = .next { s with m := { s.m with pins.actLed := false } } := by
  simp [execActLedHoldExpiry, h0, h1]

/-- A power state of Table 4-2 is taken once its command has been completed (R210). -/
theorem execSetFeaturesPowerManagement_admitted (s : State) (c : NvCmd) (ps : BitVec 5) (ha : Admits s.m c) (hp : ps.toNat ≤ 4) :
    execSetFeaturesPowerManagement c ps s = .next { s with m := takePowerState ps.toNat (finish c .success (Decoded c s.m)) } :=
  admin_step s c _ _ ha (if_neg (Nat.not_lt.mpr hp))

end Sys2Proof.Machine

namespace Sys2Proof.Proofs
open Sys2Proof.Machine

/-- Settles O26: each command runs one update of the machine, and the admin rows run on the decoded context. -/
theorem pinAndPowerFeatureEffects : Obligations.PinAndPowerFeatureEffects := by
  refine ⟨fun s a => rfl, fun s => rfl, execActLedHoldExpiry_halted, fun s v => rfl, fun s x => ?_, fun s c en ha => ?_,
    execSetFeaturesPowerManagement_admitted⟩
  · rw [← tickSeconds_eq]
    rfl
  · exact admin_step s c _ _ ha rfl

end Sys2Proof.Proofs
end

section
/-! PROOFS. The requests of peer groups (spec/17 R873 to R902, Table 17-6). -/

namespace Sys2Proof.Machine

@[simp] theorem groupOf_accept (h : Hdr) (op : Nat) (x : Bool) (m : Mach) (gid : BitVec 32) : groupOf (accept h op x m) gid = groupOf m gid := rfl
@[simp] theorem peerOf_accept (h : Hdr) (op : Nat) (x : Bool) (m : Mach) (n : Nat) : peerOf (accept h op x m) n = peerOf m n := rfl
@[simp] theorem zgpPort_accept (h : Hdr) (op : Nat) (x : Bool) (m : Mach) : zgpPort (accept h op x m) = zgpPort m := rfl
@[simp] theorem accept_commit (h : Hdr) (op : Nat) (x : Bool) (m : Mach) : (accept h op x m).svc.commit = m.svc.commit := rfl

/-- A module other than IXD-5260-S0 has every opcode (R6). -/
theorem familyAbsent_of_not_s0 (op : Nat) (m : Mach) (hv : m.id.variant ≠ .s0) : familyAbsent op m = false := by
  simp [familyAbsent, hv]

section
variable (m : Mach) (g : Group_) (hp : ∀ c ∈ g.cols, c.1 = m.dsv.module ∨ (peerOf m c.1).any (fun p => !p.down) = true)
include hp

/-- Where every column's member is this module or a peer that is not DOWN, no column names a module that is not in the address table. -/
theorem no_column_unknown : g.cols.any (fun c => c.1 != m.dsv.module && (peerOf m c.1).isNone) = false := by
  refine List.any_eq_false.mpr fun c hc => ?_
  rcases hp c hc with e | e
  · simp [e]
  · cases hq : peerOf m c.1 with
    | none => simp [hq] at e
    | some p => simp

/-- Nor one that is DOWN, as this module is not in its own address table. -/
theorem no_column_down (hself : peerOf m m.dsv.module = none) : g.cols.any (fun c => (peerOf m c.1).any (fun p => p.down)) = false := by
  refine List.any_eq_false.mpr fun c hc => ?_
  rcases hp c hc with e | e
  · simp [e, hself]
  · cases hq : peerOf m c.1 with
    | none => simp
    | some p => simpa [hq] using e

end

end Sys2Proof.Machine

namespace Sys2Proof.Proofs
open Sys2Proof.Machine

/-- Settles O35: each request is served and passes its row's checks, so it is accepted and its row's effect is what it leaves; on IXD-5260-S0 the
opcode itself is absent. -/
theorem groupRequestEffects : Obligations.GroupRequestEffects := by
  refine ⟨fun s h ok hs hv h3 hg hc hcom => ?leave, fun s h payload ok t hs hv h3 ht hlen hmost hnum hrows hdup hport hg hc hpc hcom => ?join,
    fun s h payload g n r hs hv hj h3 h1 hgr hlen hk hm hm8 hn64 hcne hnub hself hpeers hnp hcr hn hmr hcom hr hr2 => ?create,
    fun s h g hs hv h1 h2 h3 hg => ?status, fun s h ok g n hs hv hnew hg hn hsound hfree => ?rebuild, fun s h hs hv => ?absent⟩
  case leave =>
    have leave : h.p3.getLsbD 0 = true := by rw [h3]; rfl
    refine ⟨_, service_step s 0x0B01 h lvMaint _ _ _ hs ?checks ?body (familyAbsent_of_not_s0 _ _ hv), _, rfl, rfl⟩
    case checks => simp [firstFail_eq_none, h3, hg, hc]
    case body =>
      simp only [leave, accept_commit, hcom, Option.isSome_none, Bool.not_true, Bool.false_and, Bool.false_eq_true, if_false, if_true]
  case join =>
    subst ht
    have stay : h.p3.getLsbD 0 = false := by rw [h3]; rfl
    refine ⟨_, service_step s 0x0B01 h lvMaint _ _ _ hs ?checks ?body (familyAbsent_of_not_s0 _ _ hv), _, rfl, rfl⟩
    case checks =>
      have whole : ¬ payload.length < 32 ∧ (payload.length - 32) % 20 = 0 := by omega
      have few : ¬ 511 < h.p0.toNat ∧ ¬ 512 < (tableOf payload).length := by omega
      simp [firstFail_eq_none, h3, hg, hc, hport, hrows, hdup, whole, few]
    case body =>
      simp only [stay, accept_commit, accept_sup, hcom, hpc, Option.isSome_none, Bool.not_false, decide_false, Bool.and_false, Bool.false_eq_true, if_false]
  case create =>
    subst hn hgr hr
    refine ⟨_, service_step s 0x0B02 h lvMaint _ _ _ hs ?checks ?body (familyAbsent_of_not_s0 _ _ hv), _, rfl, rfl⟩
    case checks =>
      have h1' : h.p1 &&& 0xFFFFF0C0#32 = 0#32 := h1
      have known := no_column_unknown s.m (groupAsked h payload) hpeers
      have up := no_column_down s.m (groupAsked h payload) hpeers hnp
      have atLeast : ¬ (groupAsked h payload).k < 2 ∧ ¬ (groupAsked h payload).m < 1 := by omega
      have atMost : ¬ 8 < (groupAsked h payload).m ∧ ¬ 64 < (groupAsked h payload).n := by omega
      simp only [firstFail, accept_dsv, peerOf_accept, hj, h3, h1', hlen, atLeast, atMost, hcne, hnub, hself, known, up, hcr, hmr,
        BitVec.ofNat_eq_ofNat, bne_self_eq_false, ne_eq, not_true_eq_false, decide_false, Bool.not_true, Bool.or_false, Option.isSome_none,
        Bool.false_eq_true, if_false]
    case body => simp only [accept_commit, hcom, Option.isSome_none, hr2, Bool.not_true, Bool.false_eq_true, if_false]
  case status =>
    refine service_step s 0x0B03 h lvHost _ _ _ hs ?checks ?body (familyAbsent_of_not_s0 _ _ hv)
    case checks => simp [firstFail_eq_none, reserved, h1, h2, h3, hg]
    case body => simp only [groupOf_accept, hg]
  case rebuild =>
    subst hn
    show execZgpRebuild h ok s = _
    simp only [execZgpRebuild, State.run_eq, hnew, Bool.false_eq_true, if_false]
    refine service_step s 0x0B04 h lvMaint _ _ _ hs ?checks ?body (familyAbsent_of_not_s0 _ _ hv)
    case checks => simpa [firstFail_eq_none, hg, hsound] using hfree
    case body => simp only [groupOf_accept, hg]
  case absent =>
    obtain ⟨hc, ht, hr, -⟩ := hs
    exact absent_step s 0x0B03 h lvHost _ _ hc ht hr (by simp [familyAbsent, hv])

end Sys2Proof.Proofs
end

section
/-! PROOFS. The stages of bring-up (spec/04 R215 to R229, Table 4-7). -/

namespace Sys2Proof.Machine

/-- A command that something bars runs its body when nothing does. -/
theorem run_unless {s : State} {bars : Mach → Bool} {body : Mach → Mach} {m' : Mach} (hb : bars s.m = false) (hm : body s.m = m') :
    s.run (fun m => if bars m then m else body m) = .next { s with m := m' } := by
  simp [hb, hm]

/-- A command with a condition runs its body when the condition holds. -/
theorem run_when {s : State} {cond : Mach → Bool} {body : Mach → Mach} {m' : Mach} (hc : cond s.m = true) (hm : body s.m = m') :
    s.run (fun m => if cond m then body m else m) = .next { s with m := m' } := by
  simp [hc, hm]

@[simp] theorem runSlot_sup (a : Act) (m : Mach) : (runSlot a m).sup = m.sup := by unfold runSlot; split <;> rfl
@[simp] theorem runSlot_evr (a : Act) (m : Mach) : (runSlot a m).evr = m.evr := by unfold runSlot; split <;> rfl

/-- A flag set for one actuator is not set for both while the other's is clear. -/
theorem Pair.not_both_upd (p : Pair Bool) (a : Act) (f : Bool → Bool) (h : p.get a.other = false) : ((p.upd a f).p0 && (p.upd a f).p1) = false := by
  cases a
  · rw [show (p.upd .a0 f).p1 = false from h, Bool.and_false]
  · rw [show (p.upd .a1 f).p0 = false from h, Bool.false_and]

/-- What CONTROLLER_READY does with the mode once the controllers are ready (R218, R997). -/
def modeAtStage11 (n : Mach) : Mach :=
  let k := if n.sup.mode == .off || n.sup.mode == .standby then bootMode n else { n with sup.afterReset := none }
  ifDo k.pins.pwrDis (startShutdown .pwrDis) k

/-- Stage 11 passes once stages 9 and 10 have: the controllers become ready and the mode follows (R217, R227). -/
theorem execControllerReady_passes (t : BitVec 16) (s : State) (h9 : stageDone s.m 9 = true) (h10 : stageDone s.m 10 = true)
    (h11 : stageDone s.m 11 = false) :
    execControllerReady t s = .next { s with m := modeAtStage11 (controllersReady (wearCheck (svnRaise (markStage 11 { s.m with
      sup.ctrlReady := true, sup.ctrlT := t })))) } :=
  run_unless (by simp [h9, h10, h11]) rfl

section
variable (n : Mach)

/-- A mode already entered stays, unless PWR_DIS is asserted. -/
theorem modeAtStage11_entered (ho : n.sup.mode ≠ .off) (hs : n.sup.mode ≠ .standby) (hp : n.pins.pwrDis = false) :
    modeAtStage11 n = { n with sup.afterReset := none } := by
  simp [modeAtStage11, ho, hs, hp]

/-- From OFF or STANDBY the first mode of bring-up is entered (R206, R218). -/
theorem modeAtStage11_boots (hm : n.sup.mode = .off ∨ n.sup.mode = .standby) (hp : (bootMode n).pins.pwrDis = false) :
    modeAtStage11 n = bootMode n := by
  simp [modeAtStage11, hm, hp]

/-- PWR_DIS asserted during bring-up now starts the clean shutdown (R997). -/
theorem modeAtStage11_disabled (hm : n.sup.mode = .off ∨ n.sup.mode = .standby) (hp : (bootMode n).pins.pwrDis = true) :
    modeAtStage11 n = startShutdown .pwrDis (bootMode n) := by
  simp [modeAtStage11, hm, hp]

end

end Sys2Proof.Machine

namespace Sys2Proof.Proofs
open Sys2Proof.Machine

/-- Settles O4: each stage's command runs its body, as its predecessors are complete and it is not; where the body branches, the clause's conditions
choose the branch. -/
theorem bringUpStageEffects : Obligations.BringUpStageEffects := by
  refine ⟨fun s hda => rfl, fun s p h1 hstrap hnor hpage hvalid => ?identity, fun s h1 hstrap => ?noStrap, fun s h1 h2 hv => ?firmware,
    fun s h2 h3 hllc hnor hgo => ?noBank, fun s h2 h3 hllc hnor hgo => ?bank, fun s h3 h4 hllc => ?dram, fun s h4 h6 => ?payload,
    fun s arr h7 h8 => ?microcode, fun s arr a v h7 h8 hv hbad => ?rejected, fun s hm h4 h10 => ?engine, fun s h7 hm hsafe h11 hloss => ?spinUp,
    fun s t h9 h10 h11 => ?controllers, fun s a t hst hcal ha ho => ?media⟩
  case identity =>
    show execIdentityCheck s = _
    refine run_unless h1 ?_
    simp only [markStage, hstrap, hnor, hpage, hvalid, Bool.not_true, Bool.false_eq_true, if_false, if_true]
    rfl
  case noStrap =>
    show execIdentityCheck s = _
    refine run_unless h1 ?_
    simp only [markStage, hstrap, Bool.not_false, if_true]
    rfl
  case firmware =>
    have verified : fwVerifies { markStage 2 s.m with dsv.svn := 0, dsv.keySlot := 0 } s.m.sup.fwActive = true := hv
    refine ⟨_, show execFirmwareSlotSelect s = _ from run_unless (by simp [h1, h2]) (if_pos verified), ?_⟩
    simp only [runSlot_sup, runSlot_evr]
    exact ⟨rfl, rfl, rfl, rfl, rfl⟩
  case noBank =>
    show execSettingsBankSelect s = _
    have unread : norUsable (markStage 3 s.m) = false := hnor
    refine run_unless (by simp [h2, h3, hllc]) ?_
    simp only [unread, ifDo_false]
    exact if_neg (by simp [show stopsAfter3 (markStage 3 s.m) = false from hgo])
  case bank =>
    show execSettingsBankSelect s = _
    have read : norUsable (markStage 3 s.m) = true := hnor
    refine run_unless (by simp [h2, h3, hllc]) ?_
    simp only [read, ifDo_true]
    exact if_neg (by simp [show stopsAfter3 (selectBank (readSlots (markStage 3 s.m))) = false from hgo])
  case dram =>
    show execDramTrainingComplete s = _
    exact run_unless (by simp [h3, h4, hllc]) rfl
  case payload =>
    show execPayloadReadComplete s = _
    exact run_unless (by simp [h4, h6]) rfl
  case microcode =>
    show execMicrocodeLoad arr s = _
    exact run_unless (by simp [h7, h8]) rfl
  case rejected =>
    exact ⟨_, show execMicrocodeLoad arr s = _ from run_unless (by simp [h7, h8]) rfl, mediaBoot_fails arr a v (markStage 8 s.m) hv hbad⟩
  case engine =>
    show execEngineBoot s = _
    exact run_unless (by simp [hm, h4, h10]) rfl
  case spinUp =>
    show execSpinUpStart s = _
    exact run_unless (by simp [h7, hm, hsafe, h11, hloss]) rfl
  case controllers =>
    exact ⟨_, execControllerReady_passes t s h9 h10 h11, _, rfl, modeAtStage11_entered _, modeAtStage11_boots _, modeAtStage11_disabled _⟩
  case media =>
    show execMediaReady a t s = _
    have alone := Pair.not_both_upd s.m.sup.actReady a (fun _ => true) ho
    refine run_unless (by simp [hst, hcal, ha]) ?_
    simp only [alone, Bool.false_and, Bool.false_eq_true, if_false]

end Sys2Proof.Proofs
end

section
/-! PROOFS. Idle, power states, PWR_DIS and the clean shutdown (spec/04 R200, R201, R245 to R254, spec/01 R93 to R98, spec/20 R997). -/

namespace Sys2Proof.Machine

/-- The slot that closes an open cycle without a vault image is CLEAN (R96). -/
theorem shutSlot_clean (m : Mach) (ho : m.sup.opened = true) (hn : norUsable m = true) (hv : m.sup.shutVseq = none) :
    shutSlot m = closeRecord .clean 0 m := by
  simp [shutSlot, ho, hn, hv]

@[simp] theorem closeRecord_shutVseq (st : SlotState) (v : BitVec 32) (m : Mach) : (closeRecord st v m).sup.shutVseq = m.sup.shutVseq := rfl
@[simp] theorem closeRecord_destaged (st : SlotState) (v : BitVec 32) (m : Mach) : (closeRecord st v m).sup.destaged = m.sup.destaged := rfl
@[simp] theorem closeRecord_fe (st : SlotState) (v : BitVec 32) (m : Mach) : (closeRecord st v m).fe = m.fe := rfl

/-- PWR_DIS is reported with the mode it finds; out of STANDBY and OFF, past bring-up, the clean shutdown starts (R245, R997). -/
theorem execPwrDisAssert_eq (s : State) (hp : s.m.pins.pwrDis = false) : execPwrDisAssert s = .next { s with
      m := ifDo (s.m.sup.mode != .off && s.m.sup.mode != .standby && stageDone s.m 11) (startShutdown .pwrDis)
        (report 0x0028 nowhere (leBytes 1 s.m.sup.mode.code) { s.m with pins.pwrDis := true }) } := by
  refine run_unless hp ?_
  have done (ps : List Byte) : stageDone (report 0x0028 nowhere ps { s.m with pins.pwrDis := true }) 11 = stageDone s.m 11 := by
    simp [stageDone]
  simp only [report_sup, done]
  cases s.m.sup.mode <;> rfl

/-- After its release, PWR_DIS leaves the module in STANDBY only when POWERUP_MODE says so (R253, Table 4-2). -/
theorem execPwrDisRelease_eq (s : State) (n : Mach) (hn : n = spnResume { s.m with pins.pwrDis := false, spn.halted := false }) :
    execPwrDisRelease s = .next { s with
      m := ifDo (n.sup.mode == .standby && !n.sup.trans && powerupMode n != .standby) (leaveStandby (powerupMode n) 8) n } := by
  subst hn
  rfl

end Sys2Proof.Machine

namespace Sys2Proof.Proofs
open Sys2Proof.Machine

/-- Settles O5: each event finds its condition met and has its effect; the steps of the shutdown report and close what the clause writes out. -/
theorem modeAndShutdownEffects : Obligations.ModeAndShutdownEffects := by
  refine ⟨fun s hres hop hfor hnor hconv hov hun => ?resolve, fun s hm ht hmed => ?idle, fun s ps hen hfly hmed hps hsh => ?apst,
    fun s hp hm => ?assertStandby, fun s hp hm h11 => ?assertActive, fun s hm => ?release, fun s n hn hm ht hpm => ?leave,
    fun s hsh hmed hdirty hpar => ?destaged, fun s hsh hdirty => ?limit, fun s ms hsh hpk hv hop hnor => ?complete⟩
  case resolve =>
    show execLastShutdownResolve s = _
    exact run_unless (by simp [hres, hop, hfor, hnor, hconv, hov, hun]) rfl
  case idle =>
    show execActiveIdleTimeout s = _
    exact run_when (by simp [hm, ht, hmed]) rfl
  case apst =>
    show execApstTransition ps s = _
    exact run_when (by simp [hen, hfly, hmed, hps, hsh]) rfl
  case assertStandby =>
    show execPwrDisAssert s = _
    rw [execPwrDisAssert_eq s hp, hm]
    rfl
  case assertActive =>
    show execPwrDisAssert s = _
    rw [execPwrDisAssert_eq s hp, hm, h11]
    rfl
  case release =>
    show execPwrDisRelease s = _
    rw [execPwrDisRelease_eq s _ rfl, beq_eq_false_iff_ne.mpr hm]
    rfl
  case leave =>
    show execPwrDisRelease s = _
    rw [execPwrDisRelease_eq s n hn, hm, ht, bne_iff_ne.mpr hpm]
    rfl
  case destaged =>
    show execShutdownDestageDone s = _
    exact run_when (by simp [hsh, hmed, hdirty, hpar]) rfl
  case limit =>
    have remain : (decide (dirtySectors s.m = 0) && (parityUnderWay s.m).isEmpty) = false := by simp [Nat.pos_iff_ne_zero.mp hdirty]
    refine ⟨_, show execShutLimitExpiry s = _ from run_unless (by simp [hsh]) (if_neg (by simp [remain])), _, rfl, rfl⟩
  case complete =>
    show execShutdownComplete ms s = _
    refine run_unless (by simp [hsh, hpk]) ?_
    simp only [shutSlot_clean s.m hop hnor hv, shutReported, persistLife, report_sup, report_fe, closeRecord_shutVseq, closeRecord_destaged,
      closeRecord_fe, hv, Option.isSome_none, Bool.false_eq_true, if_false]

end Sys2Proof.Proofs
end

section
/-! PROOFS. The settings requests, the commits and the identity page (spec/01 R63 to R86, spec/18 R925, R937 to R942). -/

namespace Sys2Proof.Machine

/-- Only the staging of a record can select Ethernet (R7). -/
theorem ethernetOnS0_of_not_record (h : Hdr) (p : List Byte) (m : Mach) (hr : h.p3.toNat % 4 ≠ 0) : ethernetOnS0 h p m = false := by
  simp [ethernetOnS0, hr]

/-- DISCARD_ALL takes no other parameter and no payload. -/
theorem stageChecks_discard (h : Hdr) (m : Mach) (h0 : h.p0 = 0) (h1 : h.p1 = 0) (h2 : h.p2 = 0) (h3 : h.p3 = 2) :
    firstFail (stageChecks h [] m) = none := by
  simp [stageChecks, firstFail_eq_none, reserved, h0, h1, h2, h3]

section
variable (h : Hdr) (p : List Byte) (m : Mach) (h0 : h.p0 = 0) (h1 : h.p1 = 0) (h2 : h.p2 = 0)
  (hmode : stageModeBad m (fieldAt p 0 2) = false) (hty : fieldAt p 0 2 ≠ 0x1182)
include h0 h1 h2 hmode hty

/-- A DELETE of one type and key passes its checks when the image that it leaves fits (R937, R940). -/
theorem stageChecks_delete (h3 : h.p3 = 1) (hlen : deleteLengthBad p = false)
    (hkey : isSingle (fieldAt p 0 2) = true → p.length = 6 → p.drop 2 = noKey) (hfit : tooLarge m (deleteRec p) true = false) :
    firstFail (stageChecks h p m) = none := by
  simpa [stageChecks, firstFail_eq_none, reserved, h0, h1, h2, h3, hmode, hty, hlen, hfit] using hkey

/-- One record passes its checks when it has its type's length and ranges and the image that it leaves fits (R938 to R940). -/
theorem stageChecks_record (h3 : h.p3 = 0) (hlen : recordLengthBad p = false)
    (hrec : knownTy (fieldAt p 0 2) = true → recFits m ⟨fieldAt p 0 2, p.drop 4⟩ = true)
    (hfit : tooLarge m ⟨fieldAt p 0 2, p.drop 4⟩ false = false) : firstFail (stageChecks h p m) = none := by
  simpa [stageChecks, firstFail_eq_none, reserved, h0, h1, h2, h3, hmode, hty, hlen, hfit] using hrec

end

section
variable (s : State) (c : Commit) (hc : s.m.svc.commit = some c)
include hc

/-- A commit that reads back ends well, and the next one that waits starts (R64, R65, Table 4-8). -/
theorem execCommitComplete_done : execCommitComplete true s = .next { s with
    m := let n := commitDone c { s.m with svc.commit := none }
      shutTail (startCommits n.svc.commitQueue.length n) } := by
  simp only [execCommitComplete, State.run_eq, hc, if_true]

/-- The module's own commit that does not read back fails without a reply, and the next one that waits starts (R66). -/
theorem execCommitComplete_failed (hr : c.req = none) : execCommitComplete false s = .next { s with
    m := let n := commitFailed { s.m with svc.commit := none }
      shutTail (startCommits n.svc.commitQueue.length n) } := by
  simp only [execCommitComplete, State.run_eq, hc, hr, Bool.false_eq_true, if_false]

end

end Sys2Proof.Machine

namespace Sys2Proof.Proofs
open Sys2Proof.Machine

/-- Settles O28: each request is served and passes its row's checks, so it is accepted and its row's effect is what it leaves; the module's own
commits and the identity page find their conditions met. -/
theorem settingsEffects : Obligations.SettingsEffects := by
  refine ⟨fun s h r hs h3 hsrc hty hr => ?read, fun s h hs h0 h1 h2 h3 => ?status, fun s h hs h0 h1 h2 h3 => ?discard,
    fun s h p hs h0 h1 h2 h3 hmode hty hlen hkey hfit => ?delete, fun s h p hs h0 h1 h2 h3 hmode hty hlen hrec heth hfit => ?record,
    fun s h hs h0 h1 h2 h3 hmay => ?commit, fun s c hc => ?done, fun s c hc hreq => ?failed, fun s hdue hmay hbank hrecs hmode => ?adaptive,
    fun s who ref page hmode hpage hnor hsess => ?page⟩
  case read =>
    refine service_step s 0x0201 h lvHost _ _ _ hs ?checks ?body
    case checks => simp [firstFail_eq_none, reserved, h3, hsrc, hty]
    case body => simp only [hr]
  case status =>
    refine ⟨_, service_step s 0x0204 h lvHost _ _ _ hs ?checks rfl, _, rfl, rfl⟩
    case checks => simp [firstFail_eq_none, reserved, h0, h1, h2, h3]
  case discard =>
    refine ⟨_, serviceFor_step s _ 0x0202 h _ _ _ _ (by rwa [if_pos h3]) (ethernetOnS0_of_not_record h [] _ (by simp [h3]))
      (stageChecks_discard h _ h0 h1 h2 h3) rfl, _, rfl, ?_⟩
    exact congrArg (reply h stOk 0 []) (if_pos h3)
  case delete =>
    have notAll : h.p3 ≠ 2 := by simp [h3]
    refine ⟨_, serviceFor_step s _ 0x0202 h _ _ _ _ (by rwa [if_neg notAll]) (ethernetOnS0_of_not_record h p _ (by simp [h3]))
      (stageChecks_delete h p _ h0 h1 h2 hmode hty h3 hlen hkey hfit) rfl, _, rfl, ?_⟩
    exact congrArg (reply h stOk 0 []) ((if_neg notAll).trans (if_pos h3))
  case record =>
    have notAll : h.p3 ≠ 2 := by simp [h3]
    have notDelete : h.p3 ≠ 1 := by simp [h3]
    refine ⟨_, serviceFor_step s _ 0x0202 h _ _ _ _ (by rwa [if_neg notAll]) heth
      (stageChecks_record h p _ h0 h1 h2 hmode hty h3 hlen hrec hfit) rfl, _, rfl, ?_⟩
    exact congrArg (reply h stOk 0 []) ((if_neg notAll).trans (if_neg notDelete))
  case commit =>
    have now : mayCommit (accept h 0x0203 false s.m) = true := hmay
    have unforced : (h.p0 == 1) = false := by simp [h0]
    refine service_step s 0x0203 h lvMaint _ _ _ hs ?checks ?body
    case checks => simp [firstFail_eq_none, reserved, h0, h1, h2, h3]
    case body => simp only [now, unforced, if_true]
  case done => exact ⟨_, execCommitComplete_done s c hc, _, rfl, rfl⟩
  case failed => exact ⟨_, execCommitComplete_failed s c hc hreq, _, rfl, rfl⟩
  case adaptive =>
    show execAdaptiveCommit s = _
    exact run_when (by simp [hdue, hmode]) (if_pos (by simp [hmay, hbank, hrecs]))
  case page =>
    show execIdentityPageProgram who ref page s = _
    exact run_when (by simp only [hmode, hpage, hnor, hsess]; rfl) rfl

end Sys2Proof.Proofs
end

section
/-! PROOFS. The power input, the converter stages and the end of the power-loss sequence (spec/02 R101 to R117, spec/15 R773 to R775). -/

namespace Sys2Proof.Machine

/-- A command that is one update of the machine leaves what the update makes of the machine it finds. -/
theorem run_to {s : State} {f : Mach → Mach} {m' : Mach} (hm : f s.m = m') : s.run f = .next { s with m := m' } := by
  rw [State.run_eq, hm]

/-- At 330 V or above, VBULK is good, and the bulk indicator is lit (Table 2-7, R1019). -/
theorem setVbulk_good (v : BitVec 16) (m : Mach) (hv : 3300 ≤ v.toNat) :
    setVbulk v m = { m with pwr.vbulk := v, pwr.bulkOk := true, pins.bulkInd := true } := by
  have lit : 600 < v.toNat := by omega
  simp [setVbulk, hv, lit]

/-- Below 330 V, VBULK is not good (Table 2-7). -/
theorem setVbulk_low (v : BitVec 16) (m : Mach) (hv : v.toNat < 3300) :
    setVbulk v m = { m with pwr.vbulk := v, pwr.bulkOk := false, pins.bulkInd := decide (600 < v.toNat) } := by
  simp [setVbulk, hv]

/-- With the PFC stage on, VBULK within 2 % of 390 V is regulated (R1032). -/
theorem regulated_of_within (m : Mach) (v : Nat) (hp : m.pwr.pfcOn = true) (hlo : 3822 ≤ v) (hhi : v ≤ 3978) : regulated m v = true := by
  simp [regulated, hp, hlo, hhi]

/-- With the PFC stage stopped for over-voltage, VBULK follows the peak (R104). -/
theorem vinSeen_held (pk : BitVec 16) (m : Mach) (hh : m.pwr.pfcHeldOv = true) : vinSeen pk m = setVbulk pk { m with pwr.vinPk := pk } :=
  if_pos hh

@[simp] theorem vinSeen_kind (pk : BitVec 16) (m : Mach) : (vinSeen pk m).pwr.kind = m.pwr.kind := by unfold vinSeen; dsimp only; split <;> rfl
@[simp] theorem vinSeen_freq (pk : BitVec 16) (m : Mach) : (vinSeen pk m).pwr.freq = m.pwr.freq := by unfold vinSeen; dsimp only; split <;> rfl
@[simp] theorem vinSeen_excursion (pk : BitVec 16) (m : Mach) : (vinSeen pk m).pwr.excursion = m.pwr.excursion := by
  unfold vinSeen; dsimp only; split <;> rfl

end Sys2Proof.Machine

namespace Sys2Proof.Proofs
open Sys2Proof.Machine

/-- Settles O45: an input that is present and a duration below 12 ms are the command's condition. -/
theorem inputDropoutOnlyCounted : Obligations.InputDropoutOnlyCounted := by
  intro s d hin hd
  show execInputDropout d s = _
  exact run_when (by simp [hin, hd]) rfl

/-- Settles O1: each event finds its condition met; its measure of VIN or VBULK is taken, and the command's own effect follows. -/
theorem powerInputEffects : Obligations.PowerInputEffects := by
  refine ⟨fun s dc pk f hpk => ?classify, fun s pk hin hth hoff hmeas hconv hend hpk => ?pfc, fun s pk f hout hexc hkind => ?outOfRange,
    fun s pk hpk hheld => ?overvoltage, fun s v hin hv => ?bypass, fun s v w hllc hloss hconv hin hpfc hlo hhi => ?llc,
    fun s pk v hin hpk hstop => ?belowStop, fun s pk v hin hpk hdet hloss => ?absent, fun s v hv => ?below330, fun s v hv => ?below180,
    fun s hloss hdis hdone hpark hin => ?sequenceEnd⟩
  case classify =>
    show execInputKindClassify dc pk f s = _
    exact run_to (if_neg (Nat.not_lt.mpr hpk))
  case pfc =>
    show execPfcStart pk s = _
    refine run_unless (by simp [hin, hth, hoff, hmeas, hconv]) ?_
    simp only [hend, ifDo_false]
    exact if_neg (Nat.not_lt.mpr hpk)
  case outOfRange =>
    show execInputOutOfRange pk f s = _
    refine run_to ?_
    simp only [hkind, if_false, vinSeen_kind, vinSeen_freq, vinSeen_excursion, hout, hexc, Bool.false_eq_true, if_true]
  case overvoltage =>
    show execInputOvervoltage pk s = _
    refine run_to ?_
    simp only [Nat.not_le.mpr hpk, hheld, Bool.false_eq_true, if_false]
    rw [vinSeen_held pk _ rfl, setVbulk_good pk _ (by omega)]
  case bypass =>
    show execPrechargeBypass v s = _
    have near : (setVbulk v s.m).pwr.inputOk && decide ((setVbulk v s.m).pwr.vinPk.toNat ≤ v.toNat + 200) := by simp [setVbulk, hin, hv]
    exact run_to (if_pos near)
  case llc =>
    show execLlcStart v w s = _
    have free : (s.m.pwr.llcOn || s.m.pwr.loss || !mayConvert s.m || !s.m.pwr.inputOk) = false := by simp [hllc, hloss, hconv, hin]
    have reg : regulated (setVbulk v s.m) v.toNat = true := regulated_of_within _ _ hpfc hlo hhi
    refine run_to ((if_neg (ne_true_of_eq_false free)).trans ((if_pos (Bool.or_eq_true_iff.mpr (.inl reg))).trans ?_))
    rw [setVbulk_good v s.m (by omega)]
  case belowStop =>
    show execInputAbsentTimeout pk v s = _
    exact run_unless (by simp [hin, hstop]) (if_pos hpk)
  case absent =>
    show execInputAbsentTimeout pk v s = _
    refine run_unless (by simp [hin, inputAtLeast_absent _ _ hpk]) ?_
    simp only [Nat.not_le.mpr hpk, setVbulk, hdet, hloss, Bool.or_self, Bool.false_eq_true, if_false]
  case below330 =>
    show execVbulkBelow330 v s = _
    rw [← setVbulk_low v s.m hv]
    exact run_to (if_neg (Nat.not_le.mpr hv))
  case below180 =>
    show execVbulkBelow180 v s = _
    refine run_to ((if_neg (Nat.not_lt.mpr hv)).trans ?_)
    rw [setVbulk_low v s.m (by omega)]
  case sequenceEnd =>
    show execPowerLossSequenceEnd s = _
    exact run_unless (by simp [hloss, hdis, hdone, hpark]) (if_neg (by simp [hin]))

end Sys2Proof.Proofs
end

section
/-! PROOFS. The bulk measurement, the brake chopper, the over-voltage protection and the rails (spec/02 R124 to R147, R152, R1030). -/

namespace Sys2Proof.Machine

/-- A register of 16 bits holds a number that is clipped at the register's maximum. -/
theorem toNat_ofNat_satTo (v : Nat) : (BitVec.ofNat 16 (satTo 65535 v)).toNat = min 65535 v := by
  rw [satTo_eq_min, BitVec.toNat_ofNat]
  omega

/-- With hold-up already insufficient, a check that is not a power-up's first reports nothing (R122). -/
theorem holdupCheck_silent (m : Mach) (hok : m.pwr.holdupOk = false) : holdupCheck false m = { m with
    pwr.eReq := BitVec.ofNat 16 (satTo 65535 (eReqOf m)), pwr.eNeed := BitVec.ofNat 16 (satTo 65535 (eNeedOf m)), pwr.holdupOk := holdupSufficient m } := by
  simp [holdupCheck, hok]

/-- A measurement after the power-up's own, not asked for by CAL_RUN, changes the power unit's values and leaves the report
to the hold-up check (R126). -/
theorem bulkComplete_again (q : Nat) (m : Mach) (hrun : m.pwr.measByRun = false) (hdone : m.pwr.measDone = true) : bulkComplete q m = holdupCheck false { m with
    pwr.measuring := false, pwr.pfcOn := pfcMayRun m, pwr.measValid := true, pwr.charge := BitVec.ofNat 16 q, pwr.measTries := 0
    pwr.measByRun := false, pwr.cap := BitVec.ofNat 16 (satTo 65535 (q / 2)), pwr.eUse := BitVec.ofNat 16 (satTo 65535 (q * 3825 / 2000)) } := by
  simp [bulkComplete, bulkStage, hrun, hdone]

/-- The first two abandonments of a measurement only count, and the PFC stage resumes (R129). -/
theorem bulkAbandon_counts (why : AbandonReason) (m : Mach) (hm : m.pwr.measuring = true) (ht : m.pwr.measTries.toNat < 2) : bulkAbandon why m = { m with
    pwr.measuring := false, pwr.pfcOn := m.pwr.pfcOn || pfcMayRun m, pwr.measTries := m.pwr.measTries + 1 } := by
  simp [bulkAbandon, hm, ht]

@[simp] theorem chopFails_pwr (t : Byte) (m : Mach) : (chopFails t m).pwr = { m.pwr with chopFault := true, chopGated := false } := by
  simp [chopFails]

/-- The VMOT test finds nothing up to 28.0 V (R141). -/
theorem chopVmotTest_within (m : Mach) (hv : m.pwr.vmot.toNat ≤ 2800) : chopVmotTest m = m := by
  simp [chopVmotTest, Nat.not_lt.mpr hv]

end Sys2Proof.Machine

namespace Sys2Proof.Proofs
open Sys2Proof.Machine

/-- Settles O2: the commands of the motor bus take their measure first, which crosses the limit that the clause names or none; then each command
finds its own condition met. The reset of a rail's group
is told apart by the group. -/
theorem powerMeasureAndRailEffects : Obligations.PowerMeasureAndRailEffects := by
  refine ⟨fun s v hwant hmeas hloss hpfc hlo hhi => ?start, fun s q hmeas hrun hdone hok => ?complete, fun s why hmeas htries => ?abandon,
    fun s v us hidle hen hfault hlo hhi => ?gate, fun s v us hret hg hw he hv => ?release, fun s v sense us hret hg hw he hv hsense => ?openSense,
    fun s v sense us hret hg hw he hv => ?overVmot, fun s v us hret hw he => ?withhold, fun s v us hret hw hg he => ?unwithhold,
    fun s v us hidle hv hovp hst => ?trip, fun s v us hidle hv hovp => ?ovpRelease, fun s hmode => ?clear, fun s n g v => ?loadRail,
    fun s n v => rfl, fun s n v => rfl, fun s g hpend => ?loadReset, fun s hres => ?vauxReset, fun s hres => ?vaonReset, fun s => rfl⟩
  case start =>
    show execBulkcapStart v s = _
    have reg : regulated (setVbulk v s.m) v.toNat = true := regulated_of_within _ _ hpfc hlo hhi
    have may : (bulkWanted s.m && !s.m.pwr.measuring && !s.m.pwr.loss && regulated (setVbulk v s.m) v.toNat) = true := by
      simp [hwant, hmeas, hloss, reg]
    refine run_to ((if_pos may).trans ?_)
    rw [setVbulk_good v s.m (by omega)]
  case complete =>
    refine ⟨_, show execBulkcapComplete q s = _ from run_when hmeas (bulkComplete_again q.toNat s.m hrun hdone), ?_⟩
    have fits : q.toNat / 2 ≤ 65535 := by omega
    rw [holdupCheck_silent]
    · exact ⟨rfl, rfl, rfl, rfl, (toNat_ofNat_satTo _).trans (Nat.min_eq_right fits), toNat_ofNat_satTo _, rfl⟩
    · exact hok
  case abandon =>
    show execBulkcapAbandon why s = _
    exact run_when (by simp [hmeas]) (bulkAbandon_counts why s.m hmeas htries)
  case gate =>
    show execBrakeChopperGate v us s = _
    obtain ⟨-, -, hw, -⟩ := id hidle
    refine run_to ?_
    rw [vmotSeen_calm s.m v us hidle]
    exact (if_pos (by simp [hlo, hen, hw, hfault])).trans (chopVmotTest_within _ hhi)
  case release =>
    show execBrakeChopperRelease v us s = _
    refine run_to ?_
    rw [vmotSeen_gated s.m v us hret hg hw he (by omega)]
    exact if_pos hv
  case openSense =>
    show execChopperFault v sense us s = _
    refine run_to ?_
    rw [vmotSeen_gated s.m v us hret hg hw he hv]
    exact if_pos (by simp [hg, hsense])
  case overVmot =>
    show execChopperFault v sense us s = _
    refine run_to ?_
    rw [vmotSeen_over s.m v us hret hg hw he hv]
    exact if_neg (by simp)
  case withhold =>
    show execChopperWithhold v us s = _
    exact run_to (vmotSeen_limit s.m v us hret hw he)
  case unwithhold =>
    show execChopperUnwithhold v us s = _
    exact run_to (vmotSeen_release s.m v us hret hw hg he)
  case trip =>
    show execVmotOvpTrip v us s = _
    refine run_to ?_
    rw [vmotSeen_calm s.m v us hidle]
    refine (if_neg (by simp [Nat.not_lt.mpr hv, hovp])).trans (if_neg ?_)
    simp [hst]
  case ovpRelease =>
    show execVmotOvpRelease v us s = _
    refine run_to ?_
    rw [vmotSeen_calm s.m v us hidle]
    exact if_neg (by simp [Nat.not_lt.mpr hv, hovp])
  case clear =>
    show execFaultClr s = _
    exact run_when (by simp [hmode]) rfl
  case loadRail =>
    show execRailFault n (.load g) v s = _
    exact run_to (by simp only [report_pwr])
  case loadReset =>
    show execRailRecoveryReset (.load g) s = _
    refine run_when hpend ?_
    cases g <;> rfl
  case vauxReset =>
    show execRailRecoveryReset .vaux s = _
    exact run_when hres rfl
  case vaonReset =>
    show execRailRecoveryReset .vaon s = _
    exact run_when hres rfl

end Sys2Proof.Proofs
end

section
/-! PROOFS. The clocks, the crossings with their islands, and the release of a reset group (spec/03 R157 to R196). -/

namespace Sys2Proof.Machine

/-- A command that can raise a write inhibit has its own effect, and then the power-loss sequence cuts what it inhibits (R439). -/
theorem runCut_to {s : State} {f : Mach → Mach} {m' : Mach} (hm : f s.m = m') :
    s.runCut f = .next { s with m := lossCut .a1 (lossCut .a0 m') } := by
  rw [State.runCut, State.run_eq, hm]

/-- A root PLL that is already unlocked has no lock to lose. -/
theorem rootLoss_unlocked (m : Mach) (hl : m.clk.rootLock = false) : rootLoss m = m := by
  simp [rootLoss, hl]

@[simp] theorem rootLoss_pwr (m : Mach) : (rootLoss m).pwr = m.pwr := by
  unfold rootLoss
  split <;> simp

/-- The root PLL's loss of lock is one of both channel clocks as well, and counts three times (R160, R161). -/
theorem rootLoss_clk (m : Mach) (hl : m.clk.rootLock = true) : (rootLoss m).clk = { m.clk with
    rootLock := false, holdover := true, chLock := .both false, lolCnt := m.clk.lolCnt.inc.inc.inc } := by
  simp only [rootLoss, hl, if_true, chLost_clk, report_clk]
  rfl

/-- A channel clock that has lock loses it (R161). -/
theorem chLoss_locked (a : Act) (m : Mach) (hl : m.clk.chLock.get a = true) : chLoss a m = chLost a m := if_pos hl

/-- A channel clock's loss of lock raises its own actuator's source of write inhibit and leaves the other's head interface alone (R161). -/
@[simp] theorem chLost_wusClk (a : Act) (m : Mach) : ((chLost a m).hif.get a).wusClk = true := by simp [chLost]
@[simp] theorem chLost_hif_other (a : Act) (m : Mach) : (chLost a m).hif.get a.other = m.hif.get a.other := by simp [chLost]

/-- A frequency in range settles, unless it is the one in force with none pending (R157 to R159). -/
theorem writeFreq_settles (a : Act) (khz : BitVec 22) (m : Mach) (hlo : 1000000 ≤ khz.toNat) (hhi : khz.toNat ≤ 3000000)
    (hnew : m.clk.freqPend.get a ≠ none ∨ m.clk.freqKhz.get a ≠ khz) :
    writeFreq a khz.toNat m = { m with clk.freqPend := m.clk.freqPend.upd a (fun _ => some khz) } := by
  have changes : ((m.clk.freqPend.get a).isNone && decide ((m.clk.freqKhz.get a).toNat = khz.toNat)) = false := by
    rcases hnew with hp | hk
    · simp [hp]
    · simp [BitVec.toNat_inj, hk]
  simp [writeFreq, hlo, hhi, changes]

section
variable (m : Mach)

/-- Where the crossings have numbers below 15, an island numbered from 15 on is none of theirs (log entry 11). -/
theorem no_crossing_of_ffNum (a : Act) (hall : m.clk.crossings.all (fun c => decide (c.num.toNat < 15)) = true) :
    m.clk.crossings.find? (fun c => c.num == ffNum a && !c.torn) = none := by
  refine List.find?_eq_none.mpr fun c hc => ?_
  have low : c.num.toNat < 15 := by simpa using List.all_eq_true.mp hall c hc
  have differs : c.num ≠ ffNum a := by
    rintro e
    rw [e] at low
    cases a <;> exact absurd low (by decide)
  simp [differs]

/-- While no feed-forward island is torn, each is found by its number (R194). -/
theorem ff_found (a : Act) (hff : m.clk.ffTorn = ⟨false, false⟩) :
    [Act.a0, .a1].find? (fun b => ffNum b == ffNum a && !(m.clk.ffTorn.get b)) = some a := by
  rw [hff]
  cases a <;> rfl

end

/-! The bits of the paired groups follow one another (Table 3-4). -/

theorem Group.bitNo_fe (e : Act) : (Group.fe e).bitNo = 3 + e.idx := by cases e <;> rfl
theorem Group.bitNo_port (p : Act) : (Group.port p).bitNo = 5 + p.idx := by cases p <;> rfl
theorem Group.bitNo_act (a : Act) : (Group.act a).bitNo = 7 + a.idx := by cases a <;> rfl

end Sys2Proof.Machine

namespace Sys2Proof.Proofs
open Sys2Proof.Machine

/-- Settles O3: each event finds its condition met and has its effect, with what a loss of lock cuts off where it can raise a write inhibit; each group
is in reset and supplied, so it leaves reset and does what its release brings. -/
theorem clockAndCrossingEffects : Obligations.ClockAndCrossingEffects := by
  refine ⟨fun s hl => ?rootLoss, fun s us hh hx => ?rootRelock, fun s hx hl => ?stopUnlocked, fun s hx hl hloss => ?stopLocked, fun s => rfl,
    fun s a hl hloss => ?chLoss, fun s a hl => ?chRelock, fun s a khz hlo hhi hnew => ?freqWrite, fun s a k hk => ?freqSettled,
    fun s num ev data acked => ?transfer, fun s num c hmode hc => ?torn, fun s a hmode hnums hff => ?ffTorn, fun s speed hin => ?aon,
    fun s speed hin hsup => ?fab, fun s speed hin hsup => ?spn, fun s e speed hin hsup => ?fe, fun s p speed hin hperst hsup => ?port,
    fun s a speed hin hsup => ?act⟩
  case rootLoss =>
    show execRootPllLossOfLock s = _
    exact runCut_to (if_pos hl)
  case rootRelock =>
    show execRootPllRelock us s = _
    exact run_when (by simp [hh, hx]) rfl
  case stopUnlocked =>
    show execCrystalStop s = _
    exact runCut_to ((if_pos hx).trans (rootLoss_unlocked _ (by simpa using hl)))
  case stopLocked =>
    refine ⟨_, show execCrystalStop s = _ from runCut_calm s _ (by simp [hx, hloss]), ?_⟩
    simp [hx, hl, rootLoss_clk]
  case chLoss =>
    refine ⟨_, show execChPllLossOfLock a s = _ from runCut_calm s _ (by simp [chLoss_locked, hl, hloss]), ?_⟩
    simp [chLoss_locked, hl, chLost_clk]
  case chRelock =>
    refine ⟨_, show execChPllRelock a s = _ from run_when hl rfl, ?_⟩
    simp
  case freqWrite =>
    show execFreqKhzWrite a khz s = _
    exact run_to (writeFreq_settles a khz s.m hlo hhi hnew)
  case freqSettled =>
    show execFreqSettled a s = _
    exact run_to (by simp only [hk])
  case transfer =>
    show execCrossingTransfer num ev data acked s = _
    exact run_to (by simp only [transfer_eq])
  case torn =>
    show execIslandTorn num s = _
    exact run_unless (by simp [jtagServes, hmode]) (by simp only [hc]; rfl)
  case ffTorn =>
    show execIslandTorn (ffNum a) s = _
    refine run_unless (by simp [jtagServes, hmode]) ?_
    simp only [no_crossing_of_ffNum s.m a hnums, ff_found s.m a hff]
    cases a <;> rfl
  case aon =>
    show execGroupResetRelease .aon speed s = _
    exact run_unless (by simp [hin, unsupplied]) rfl
  case fab =>
    show execGroupResetRelease .fab speed s = _
    exact run_unless (by simp [hin, hsup]) rfl
  case spn =>
    show execGroupResetRelease .spn speed s = _
    exact run_unless (by simp [hin, hsup]) rfl
  case fe =>
    show execGroupResetRelease (.fe e) speed s = _
    rw [← Group.bitNo_fe]
    exact run_unless (by simp [hin, hsup]) rfl
  case port =>
    show execGroupResetRelease (.port p) speed s = _
    rw [← Group.bitNo_port]
    exact run_unless (by simp [hin, hsup, hperst]) rfl
  case act =>
    show execGroupResetRelease (.act a) speed s = _
    rw [← Group.bitNo_act]
    exact run_unless (by simp [hin, hsup]) rfl

end Sys2Proof.Proofs
end

section
/-! PROOFS. The module and diagnostic requests (spec/03 R182 to R185, spec/04 R202 to R206, spec/18 R929 to R936, Tables 18-6 and 18-7). -/

namespace Sys2Proof.Machine

@[simp] theorem carriedBy_accept (h k : Hdr) (op : Nat) (x : Bool) (m : Mach) (p : Act) : carriedBy (accept h op x m) k p = carriedBy m k p := rfl
@[simp] theorem norUsable_accept (h : Hdr) (op : Nat) (x : Bool) (m : Mach) : norUsable (accept h op x m) = norUsable m := rfl
@[simp] theorem memtestBusy_accept (h : Hdr) (op : Nat) (x : Bool) (m : Mach) (r : Nat) : memtestBusy (accept h op x m) r = memtestBusy m r := rfl

theorem Act.idx_le_one (a : Act) : a.idx ≤ 1 := by cases a <;> decide
theorem Act.other_idx_ne (a : Act) : a.other.idx ≠ a.idx := by cases a <;> decide

/-- The number of one of two groups that follow each other, read back from P0 (Table 3-4). -/
theorem toNat_groupNo (n : Nat) (a : Act) (hn : n < 2 ^ 31) : (BitVec.ofNat 32 (n + a.idx)).toNat = n + a.idx := by
  have := Act.idx_le_one a
  rw [BitVec.toNat_ofNat, Nat.mod_eq_of_lt (by omega)]

/-- A request that takes no parameter passes its row's checks when they are all 0 (R928). -/
theorem noParam_pass (h : Hdr) (h0 : h.p0 = 0) (h1 : h.p1 = 0) (h2 : h.p2 = 0) (h3 : h.p3 = 0) :
    firstFail [reserved [h.p0, h.p1, h.p2, h.p3]] = none := by
  simp [firstFail_eq_none, reserved, h0, h1, h2, h3]

/-- SET_MODE passes its row's checks for a target that the mode in force permits (Table 4-3). -/
theorem setModeChecks_pass (h : Hdr) (m : Mach) (t : Mode) (hbar : modeBarred m h = false) (ht : modeTarget h.p0 = some t) (h1 : h.p1 = 0) (h2 : h.p2 = 0)
    (h3 : h.p3 = 0) : firstFail [(modeBarred m h, stWrongMode), ((modeTarget h.p0).isNone, stBadParam), reserved [h.p1, h.p2, h.p3]] = none := by
  simp [firstFail_eq_none, reserved, hbar, ht, h1, h2, h3]

/-- RESET_GROUP passes its row's checks for a group that may be reset alone, unless it is the active engine's own, and for the whole module out of
STANDBY (R181, R184, R204; log entry 81). -/
theorem resetChecks_pass (h : Hdr) (m : Mach) (h1 : h.p1 = 0) (h2 : h.p2 = 0) (h3 : h.p3 = 0)
    (hg : (3 ≤ h.p0.toNat ∧ h.p0.toNat ≤ 8 ∧ h.p0.toNat ≠ 3 + m.fe.active.idx) ∨ (h.p0 = 0xFF ∧ m.sup.mode ≠ .standby)) :
    firstFail [(h.p0.toNat == 3 + m.fe.active.idx || (h.p0 == 0xFF && m.sup.mode == .standby), stWrongMode), reserved [h.p1, h.p2, h.p3],
      (h.p0 != 0xFF && (decide (h.p0.toNat < 3) || decide (8 < h.p0.toNat)), stBadParam)] = none := by
  have other : (h.p0.toNat ≠ 3 + m.fe.active.idx ∧ (h.p0 = 0xFF → m.sup.mode ≠ .standby)) ∧ (h.p0 ≠ 0xFF → 3 ≤ h.p0.toNat ∧ h.p0.toNat ≤ 8) := by
    rcases hg with ⟨hlo, hhi, ha⟩ | ⟨h0, hm⟩
    · exact ⟨⟨ha, fun e => by simp [e] at hhi⟩, fun _ => ⟨hlo, hhi⟩⟩
    · refine ⟨⟨?_, fun _ => hm⟩, fun hne => absurd h0 hne⟩
      cases m.fe.active <;> simp [h0, Act.idx]
  simpa [firstFail_eq_none, reserved, h1, h2, h3] using other

end Sys2Proof.Machine

namespace Sys2Proof.Proofs
open Sys2Proof.Machine

/-- Settles O30: each request is served and passes its row's checks, so it is accepted and its row's effect is what it leaves; the mode, group or memory
that it names chooses the branch. -/
theorem moduleRequestEffects : Obligations.ModuleRequestEffects := by
  refine ⟨fun s h hs h0 h1 h2 h3 hnor => ?identify, fun s h hs h0 h1 h2 h3 => ?mode, fun s h hs h0 h1 h2 h3 => ?health,
    fun s h t hs hbar ht h1 h2 h3 hstandby hsafe => ?flying, fun s h hs hbar ht h1 h2 h3 => ?safe, fun s h c hs hbar ht h1 h2 h3 hwho => ?standby,
    fun s h hs h1 h2 h3 h0 hmode => ?resetModule, fun s h hs h1 h2 h3 h0 => ?resetAct0, fun s h hs h1 h2 h3 h0 => ?resetAct1,
    fun s h p hs h1 h2 h3 h0 hc => ?resetPort, fun s h p hs h1 h2 h3 h0 hc => ?resetOwnPort, fun s h hs h1 h2 h3 h0 => ?resetEngine,
    fun s h hs h0 h1 h2 h3 => ?crossings, fun s h e f hs hmode h3 h0 h1 hfree => ?memtest, fun s h r hs hmode hok h0 hr => ?injectRow,
    fun s h w hs hmode hok h0 hchk hw => ?injectWord⟩
  case identify =>
    exact ⟨_, service_step s 0x0101 h lvHost _ _ _ hs (noParam_pass h h0 h1 h2 h3) (by simp only [norUsable_accept, hnor, if_true]), _, rfl, rfl⟩
  case mode => exact ⟨_, service_step s 0x0102 h lvHost _ _ _ hs (noParam_pass h h0 h1 h2 h3) rfl, _, rfl, rfl⟩
  case health => exact ⟨_, service_step s 0x0105 h lvHost _ _ _ hs (noParam_pass h h0 h1 h2 h3) rfl, _, rfl, rfl⟩
  case flying =>
    refine ⟨_, service_step s 0x0103 h _ _ _ _ hs (setModeChecks_pass h _ t hbar ht h1 h2 h3) rfl, _, rfl, ?_⟩
    simp only [ht, bne_iff_ne.mpr hstandby, bne_iff_ne.mpr hsafe, beq_eq_false_iff_ne.mpr hstandby, Bool.and_self, Bool.false_and, Bool.false_eq_true,
      if_false, if_true]
  case safe =>
    refine service_step s 0x0103 h _ _ _ _ hs (setModeChecks_pass h _ .safe hbar ht h1 h2 h3) ?_
    simp only [ht]
    rfl
  case standby =>
    refine service_step s 0x0103 h _ _ _ _ hs (setModeChecks_pass h _ .standby hbar ht h1 h2 h3) ?_
    simp only [ht, hwho]
    rfl
  case resetModule =>
    refine service_step s 0x0104 h lvMaint _ _ _ hs (resetChecks_pass h _ h1 h2 h3 (.inr ⟨h0, hmode⟩)) ?_
    simp only [h0]
    rfl
  case resetAct0 =>
    have engine := Act.idx_le_one s.m.fe.active
    have group : h.p0.toNat = 7 := by rw [h0]; rfl
    refine service_step s 0x0104 h lvMaint _ _ _ hs (resetChecks_pass h _ h1 h2 h3 (.inl (by rw [accept_fe]; omega))) ?_
    simp only [group]
  case resetAct1 =>
    have engine := Act.idx_le_one s.m.fe.active
    have group : h.p0.toNat = 8 := by rw [h0]; rfl
    refine service_step s 0x0104 h lvMaint _ _ _ hs (resetChecks_pass h _ h1 h2 h3 (.inl (by rw [accept_fe]; omega))) ?_
    simp only [group]
  case resetPort =>
    have engine := Act.idx_le_one s.m.fe.active
    have port := Act.idx_le_one p
    have group : h.p0.toNat = 5 + p.idx := by rw [h0, toNat_groupNo 5 p (by decide)]
    refine service_step s 0x0104 h lvMaint _ _ _ hs (resetChecks_pass h _ h1 h2 h3 (.inl (by rw [accept_fe]; omega))) ?_
    simp only [group]
    cases p <;> exact if_neg (by simp [hc])
  case resetOwnPort =>
    have engine := Act.idx_le_one s.m.fe.active
    have port := Act.idx_le_one p
    have group : h.p0.toNat = 5 + p.idx := by rw [h0, toNat_groupNo 5 p (by decide)]
    refine service_step s 0x0104 h lvMaint _ _ _ hs (resetChecks_pass h _ h1 h2 h3 (.inl (by rw [accept_fe]; omega))) ?_
    simp only [group]
    cases p <;> exact if_pos (by simp [hc])
  case resetEngine =>
    have engine := Act.idx_le_one s.m.fe.active.other
    have differs := Act.other_idx_ne s.m.fe.active
    have group : h.p0.toNat = 3 + s.m.fe.active.other.idx := by rw [h0, toNat_groupNo 3 _ (by decide)]
    refine service_step s 0x0104 h lvMaint _ _ _ hs (resetChecks_pass h _ h1 h2 h3 (.inl (by rw [accept_fe]; omega))) ?_
    simp only [group]
    cases s.m.fe.active <;> rfl
  case crossings => exact ⟨_, service_step s 0x0E03 h lvHost _ _ _ hs (noParam_pass h h0 h1 h2 h3) rfl, _, rfl, rfl⟩
  case memtest =>
    refine service_step s 0x0E01 h lvMaint _ _ _ hs ?checks ?body
    case checks => simp [firstFail_eq_none, reserved, hmode, h3, h0, h1]
    case body => simp only [memtestBusy_accept, hfree, Bool.false_eq_true, if_false]
  case injectRow =>
    subst hr
    refine service_step s 0x0E02 h lvMaint _ _ _ hs ?checks ?body
    case checks => simp [firstFail_eq_none, hmode, hok]
    case body => simp only [h0]; rfl
  case injectWord =>
    subst hw
    refine service_step s 0x0E02 h lvMaint _ _ _ hs ?checks ?body
    case checks => simp [firstFail_eq_none, hmode, hok]
    case body => simp only [h0, hchk]; rfl

end Sys2Proof.Proofs
end

section
/-! PROOFS. NVMe I/O commands that nothing bars, fails or holds, aborts, and the expiry of the media hold (spec/04 R229 to R232, spec/12 R619 to R635,
spec/13 R684 to R689, spec/16 R818 to R825, R1038). -/

namespace Sys2Proof.Machine

section
variable (c : NvCmd) (n : Ns) (m : Mach)

/-- A report of zones ends in its media phase (R619). -/
theorem runIo_zoneReport (nsid lba : Nat) :
    runIo c (.zoneReport nsid lba) n m = reportZones c n lba (onCtx c (fun y => { y with heldAt := none, phase := .media }) m) := rfl

/-- A Flush ends in its media phase (R818). -/
theorem runIo_flush (nsid : Nat) :
    runIo c (.flush nsid) n m = finish c .success (onCtx c (fun y => { y with heldAt := none, phase := .media }) m) := rfl

/-- A deallocation ends in its media phase (R635). -/
theorem runIo_deallocate (nsid : Nat) (rs : List (Nat × Nat)) :
    runIo c (.deallocate nsid rs) n m = deallocate c n rs (onCtx c (fun y => { y with heldAt := none, phase := .media }) m) := rfl

end

/-- An abort takes the command that it names while that has no result (R684, R825). -/
theorem abortLookup_running (t : NvCmd) (m : Mach) (h : (ctxOf m t).any (fun x => x.status.isNone) = true) :
    abortLookup t m = (abortWins t m, true) := by
  unfold abortLookup
  cases hx : ctxOf m t with
  | none => simp [hx] at h
  | some x =>
    have running : x.status = none := by simpa [hx] using h
    simp [running]

/-- An abort of a command that is not there or has its result changes nothing (R684, R825). -/
theorem abortLookup_ended (t : NvCmd) (m : Mach) (h : (ctxOf m t).any (fun x => x.status.isNone) = false) :
    abortLookup t m = (m, false) := by
  unfold abortLookup
  cases hx : ctxOf m t with
  | none => rfl
  | some x =>
    have ended : x.status.isSome = true := by simpa [hx, ← Option.not_isSome] using h
    simp [ended]

/-- An admin command that is fetched and that the engine may decode answers an abort with what the lookup found (R684, R825). -/
theorem execNvmeAbort_eq (s : State) (c : NvCmd) (sqid cid : BitVec 16) (ha : Admits s.m c) : execNvmeAbort c sqid cid s = .next { s with
    m := let r := abortLookup ⟨c.port, c.cntlid, sqid, cid⟩ (Decoded c s.m)
      finishWith c (if r.2 then 0 else 1) [] r.1 } :=
  admin_step s c _ _ ha rfl

/-- Giving a context its result changes the front end's contexts alone. -/
@[simp] theorem finish_sup (c : NvCmd) (st : NvSt) (m : Mach) : (finish c st m).sup = m.sup := rfl

/-- Nor do several results change the supervisor's state. -/
theorem foldl_finish_sup (xs : List Ctx) (st : NvSt) (m : Mach) : (xs.foldl (fun m x => finish x.id st m) m).sup = m.sup := by
  induction xs generalizing m with
  | nil => rfl
  | cons x xs ih => rw [List.foldl_cons, ih, finish_sup]

/-- The commands held too long fail, and SUP 0x0025 is reported unless this power cycle has reported it (R230). -/
theorem execMediaHoldExpiry_eq (s : State) (now : BitVec 48) (n : Mach) (hc : heldTooLong (clockTo now.toNat s.m) ≠ [])
    (hn : n = (heldTooLong (clockTo now.toNat s.m)).foldl (fun m x => finish x.id .namespaceNotReady m) (clockTo now.toNat s.m)) :
    execMediaHoldExpiry now s = .next { s with m := (if s.m.sup.holdReported then n
      else report 0x0025 nowhere (leBytes 1 ((!n.sup.actReady.p0).toNat + 2 * (!n.sup.actReady.p1).toNat) ++ leBytes 1 (stagesInOrder n.sup.stages))
        { n with sup.holdReported := true }) } := by
  subst hn
  have told := congrArg Sup.holdReported (foldl_finish_sup (heldTooLong (clockTo now.toNat s.m)) .namespaceNotReady (clockTo now.toNat s.m))
  refine run_to ((if_neg (by simp [hc])).trans ?_)
  dsimp only
  rw [told]
  rfl

end Sys2Proof.Machine

namespace Sys2Proof.Proofs
open Sys2Proof.Machine

/-- Settles O57: a command that runs has the effect of its kind; a report and a flush are taken to their media phase and end there. -/
theorem readingCommandsComplete : Obligations.ReadingCommandsComplete := by
  intro s c nsid lba cnt p d n
  refine ⟨fun h => io_step s c _ n _ h rfl, fun h => io_step s c _ n _ h rfl, fun h => io_step s c _ n _ h rfl, fun h => ?report, fun h => ?flush⟩
  case report => exact io_step s c _ n _ h (congrArg flow (runIo_zoneReport c n _ _ _))
  case flush => exact io_step s c _ n _ h (congrArg flow (runIo_flush c n _ _))

/-- Settles O58: a command that runs has the effect of its kind; a deallocation is taken to its media phase and ends there. -/
theorem writingCommandsComplete : Obligations.WritingCommandsComplete := by
  intro s c nsid lba cnt p d rs n
  refine ⟨fun h => io_step s c _ n _ h rfl, fun h => io_step s c _ n _ h rfl, fun h => io_step s c _ n _ h rfl, fun h => ?deallocate⟩
  case deallocate => exact io_step s c _ n _ h (congrArg flow (runIo_deallocate c n _ _ _))

/-- Settles O59: each zone command runs as one I/O command of its kind. -/
theorem zoneCommandsComplete : Obligations.ZoneCommandsComplete := by
  intro s c nsid lba al n
  exact ⟨fun h => io_step s c _ n _ h rfl, fun h => io_step s c _ n _ h rfl, fun h => io_step s c _ n _ h rfl, fun h => io_step s c _ n _ h rfl⟩

/-- Settles O60: an abort answers what its lookup found; the expiry finds commands held too long, and whether it has reported them before. -/
theorem abortAndHoldExpiryComplete : Obligations.AbortAndHoldExpiryComplete := by
  refine ⟨fun s c sqid cid hq hf hr => ?taken, fun s c sqid cid hq hf hr => ?ended, fun s now hc ht => ?again, fun s now hc ht => ?first⟩
  case taken =>
    show execNvmeAbort c sqid cid s = _
    rw [execNvmeAbort_eq s c sqid cid ⟨hq, hf⟩, abortLookup_running _ _ hr]
    rfl
  case ended =>
    show execNvmeAbort c sqid cid s = _
    rw [execNvmeAbort_eq s c sqid cid ⟨hq, hf⟩, abortLookup_ended _ _ hr]
    rfl
  case again =>
    show execMediaHoldExpiry now s = _
    rw [execMediaHoldExpiry_eq s now _ hc rfl, if_pos ht]
  case first =>
    refine ⟨_, _, show execMediaHoldExpiry now s = _ from execMediaHoldExpiry_eq s now _ hc rfl, rfl, rfl, ?_⟩
    exact if_neg (by simp [ht])

end Sys2Proof.Proofs
end

section
/-! PROOFS. The vault (spec/04 R217, spec/15 R773 to R807, Tables 15-4 and 15-5). -/

namespace Sys2Proof.Machine

/-- What follows the header of an image that was being written as `w` (R775, R778, R780): nothing while power is lost, the module reset that a
fabric error waits for, or the unloading of a vaulted shutdown. -/
def afterImage (w : VWrite) (n : Mach) : Mach :=
  if n.pwr.loss then n
  else if w.thenReset then spnModuleReset { n with vlt.seqDone := false }
  else if n.sup.shut == .vaulting then shutUnload { n with vlt.seqDone := false } else n

/-- The header of an image that is being written is programmed, and what waits for it follows. -/
theorem execVaultHeaderProgram_writing (s : State) (us : BitVec 32) (ms rate : BitVec 16) (ok : Bool) (w : VWrite) (n : Mach)
    (hw : s.m.vlt.writing = some w) (hn : n = vaultHeader us.toNat ms.toNat rate.toNat ok s.m) :
    execVaultHeaderProgram us ms rate ok s = .next { s with m := afterImage w n } := by
  subst hn
  refine run_to ?_
  simp only [hw]
  rfl

/-- With power present, no image under way and a block waiting, the erase takes the block of the lowest erase count (R785, R786). -/
theorem execVaultBlockErase_takes (s : State) (ok : Bool) (b : Nat) (hf : frozen s.m = false) (hw : s.m.vlt.writing = none)
    (hb : leastBy (fun b => assoc 0 s.m.vlt.erases b) s.m.vlt.spent = some b) :
    execVaultBlockErase ok s = .next { s with m := let k := { s.m with vlt.spent := s.m.vlt.spent.filter (· != b) }
      (if ok then wearCheck (forgetImages { k with
        vlt.erases := assocSet 0 k.vlt.erases b (assoc 0 k.vlt.erases b + 1), vlt.eraseCnt := k.vlt.eraseCnt.inc })
      else forgetImages (retireBlock b k)) } := by
  refine run_unless (by simp [hf, hw]) ?_
  simp only [hb]

/-- The first chunk of an import that finds a ready block is taken; the last chunk, which it may be too, ends the import (R803, R805). -/
theorem execVaultImport_first (s : State) (h : Hdr) (chunk : List Byte) (n : Mach) (hs : Served s.m h lvMaint) (hu : s.m.vlt.unresolved = true)
    (h0 : h.p0 = 4) (h1 : h.p1 = 0) (h2 : h.p2 = 0) (h3 : h.p3.toNat ≤ 1) (hmost : chunk.length ≤ 65536)
    (hfull : bit h.p3 0 = false → chunk.length = 65536) (hforeign : foreignImages (accept h 0x0A02 false s.m) = []) (himp : s.m.vlt.imp = none)
    (hblk : s.m.vlt.impBlocks = []) (hready : 0 < (takeReady (accept h 0x0A02 false s.m) 1).length)
    (hn : n = { accept h 0x0A02 false s.m with vlt.imp := some [chunk], vlt.impBlocks := takeReady (accept h 0x0A02 false s.m) 1 }) :
    execVaultImport h chunk s = .next { s with
      m := if bit h.p3 0 then importEnd h chunk (importOver n) else reply h stOk 0 [] n } := by
  subst hn
  refine service_step s 0x0A02 h lvMaint _ _ _ hs ?checks ?body
  case checks =>
    simpa [firstFail_eq_none, hu, h0, h2, hforeign, h3, hmost] using hfull
  case body =>
    have room : ¬ (takeReady (accept h 0x0A02 false s.m) 1).length * 32 ≤ 0 := by omega
    have first : (h.p1.toNat != 0) = false := by simp [h1]
    simp only [accept_vlt, himp, hblk, Option.getD_none, List.length_nil, Nat.zero_mul, Nat.le_refl, List.nil_append, room, first, decide_false,
      Bool.or_self, Bool.false_eq_true, if_true, if_false, List.flatten_cons, List.flatten_nil, List.append_nil]

end Sys2Proof.Machine

namespace Sys2Proof.Proofs
open Sys2Proof.Machine

/-- Settles O22: each event finds its condition met and has its effect; each request is served and passes its row's checks, so it is accepted and its
row's effect is what it leaves. -/
theorem vaultEffects : Obligations.VaultEffects := by
  refine ⟨fun s us ms rate ok w n hw hn hl => ?lost, fun s us ms rate ok w n hw hn hl hr hv => ?written, fun s us ms rate ok w n hw hn hl hr => ?reset,
    fun s us ms rate ok w n hw hn hl hr hv => ?unload, fun s die plane block hw hp => ?fail, fun s b hf hw hb => ?erased, fun s b hf hw hb => ?retired,
    fun s h9 => ?protectionLost, fun s => rfl, fun s dir n h8 h9 hl hr hu => ?decision, fun s dir n h8 h9 hl hr hu => ?noPage,
    fun s dir n q k i h8 h9 hl hr hi => ?goesOn, fun s h hs h0 h1 h2 h3 => ?status, fun s h i hs h0 h3 hk hq hlen => ?exported,
    fun s h hs h0 h1 h3 hk hf => ?discard, fun s h hs hu h0 h1 h2 h3 => ?acceptLoss,
    fun s h chunk hs hu h0 h1 h2 h3 hlen hf hi hb hr => ?chunk, fun s h chunk hs hu h0 h1 h2 h3 hlen hf hi hb hr => ?lastChunk,
    fun s h rate hs h0 h1 h2 h3 hi hw hr => ?test⟩
  case lost =>
    show execVaultHeaderProgram us ms rate ok s = _
    rw [execVaultHeaderProgram_writing s us ms rate ok w n hw hn, afterImage, if_pos hl]
  case written =>
    show execVaultHeaderProgram us ms rate ok s = _
    rw [execVaultHeaderProgram_writing s us ms rate ok w n hw hn]
    simp [afterImage, hl, hr, hv]
  case reset =>
    show execVaultHeaderProgram us ms rate ok s = _
    rw [execVaultHeaderProgram_writing s us ms rate ok w n hw hn]
    simp [afterImage, hl, hr]
  case unload =>
    show execVaultHeaderProgram us ms rate ok s = _
    rw [execVaultHeaderProgram_writing s us ms rate ok w n hw hn]
    simp [afterImage, hl, hr, hv]
  case fail =>
    show execPageProgramFail die plane block s = _
    exact run_when (by simp [hw, hp]) rfl
  case erased => exact execVaultBlockErase_takes s true b hf hw hb
  case retired => exact execVaultBlockErase_takes s false b hf hw hb
  case protectionLost =>
    show execProtectionLost s = _
    exact run_when h9 rfl
  case decision =>
    show execVaultReplay dir n s = _
    refine run_unless (by simp [h8, h9, hl]) ?_
    have page : (!norUsable s.m) = false := by simp [hu]
    simp only [hr]
    exact if_neg (ne_true_of_eq_false page)
  case noPage =>
    show execVaultReplay dir n s = _
    refine run_unless (by simp [h8, h9, hl]) ?_
    have page : (!norUsable s.m) = true := by simp [hu]
    simp only [hr]
    exact if_pos page
  case goesOn =>
    show execVaultReplay dir n s = _
    exact run_unless (by simp [h8, h9, hl]) (by simp only [hr, hi])
  case status => exact ⟨_, service_step s 0x0A01 h lvHost _ _ _ hs (noParam_pass h h0 h1 h2 h3) rfl, _, rfl, rfl⟩
  case exported =>
    refine service_step s 0x0A02 h lvMaint _ _ _ hs ?checks ?body
    case checks => simp [firstFail_eq_none, h0, h3, hk, hq, hlen]
    case body => simp [hk, hq]
  case discard =>
    refine ⟨_, service_step s 0x0A02 h lvMaint _ _ _ hs ?_ rfl, _, rfl, rfl⟩
    simp only [firstFail, h0, h1, h3, hk, hf, bne_self_eq_false, Bool.not_true, Bool.or_self, Bool.false_eq_true, if_false]
  case acceptLoss =>
    exact service_step s 0x0A02 h lvMaint _ _ _ hs (by simp [firstFail_eq_none, hu, h0, h1, h2, h3]) rfl
  case chunk =>
    show execVaultImport h chunk s = _
    rw [execVaultImport_first s h chunk _ hs hu h0 h1 h2 (by simp [h3]) (Nat.le_of_eq hlen) (fun _ => hlen) hf hi hb hr rfl, h3]
    rfl
  case lastChunk =>
    show execVaultImport h chunk s = _
    rw [execVaultImport_first s h chunk _ hs hu h0 h1 h2 (by simp [h3]) hlen (by simp [h3, bit]) hf hi hb hr rfl, h3]
    rfl
  case test =>
    refine ⟨_, service_step s 0x0A03 h lvMaint _ _ _ hs ?checks rfl, _, _, rfl, rfl, ?body⟩
    case checks => simp [firstFail_eq_none, reserved, h0, h1, h2, h3, hi, hw]
    case body =>
      simp only [List.foldl_nil, List.length_nil, Nat.zero_mod, Nat.mul_zero, Nat.add_zero, Nat.not_lt.mpr hr, hr, decide_true, if_false]

end Sys2Proof.Proofs
end

section
/-! PROOFS. NVMe admin commands on namespaces, identification, logs and firmware (spec/04 R222 to R224, R241, spec/12 R605 to R610, spec/17 R865, R870,
R871, spec/19 R980). -/

namespace Sys2Proof.Machine

/-- Holding no range changes nothing. -/
theorem holdRanges_nil (c : NvCmd) (m : Mach) : holdRanges c [] m = m := by
  simp [holdRanges]

/-- No command touches a range of none. -/
theorem rangeBusy_nil (m : Mach) : rangeBusy m [] = false := by
  refine List.any_eq_false.mpr fun x _ => ?_
  cases x.cmd <;> simp

/-- A list of one has no repeats. -/
theorem nubList_singleton {α : Type} [DecidableEq α] (x : α) : nubList [x] = [x] := rfl

/-- What FORMAT_NVM finds once it is decoded: a format, a protection type and an erase of Tables 12-1 and 17-1, of namespaces that there are; its
ranges are held (R606, R865). -/
theorem formatStart_holds (c : NvCmd) (nsid : BitVec 32) (ids rs : List Nat) (lbaf : BitVec 6) (pit ses : BitVec 3) (m : Mach) (hi : ids ≠ [])
    (hl : lbaf.toNat ≤ 2) (hp : pit.toNat ≤ 3) (hs : ses.toNat ≤ 2) (h0 : lbaf = 0 → pit = 0) :
    (if nsid != 0xFFFFFFFF && ids.isEmpty then finish c .invalidNamespace m
      else if 2 < lbaf.toNat then finish c .invalidFormat m
      else if 2 < ses.toNat || 3 < pit.toNat || (decide (lbaf = 0) && decide (pit ≠ 0)) then finish c .invalidField m
      else holdRanges c rs m) = holdRanges c rs m := by
  have named : (nsid != 0xFFFFFFFF && ids.isEmpty) = false := by simp [hi]
  have fields : (decide (2 < ses.toNat) || decide (3 < pit.toNat) || (decide (lbaf = 0) && decide (pit ≠ 0))) = false := by
    simpa [hs, hp] using h0
  rw [if_neg (ne_true_of_eq_false named), if_neg (Nat.not_lt.mpr hl), if_neg (ne_true_of_eq_false fields)]

section
variable (a : Act) (f : FwSlot) (m : Mach) (hf : f = Config.parseFw m.sup.fwBuf)
include hf

/-- A downloaded image without a good signature, or signed with a revoked key, fills no slot, and DSV 0x1110 tells it (R870). -/
theorem fillSlot_unsigned (hs : (!f.sigOk || m.id.revoked.getLsbD f.key.toNat) = true) :
    fillSlot a m = (report 0x1110 nowhere (leBytes 1 f.key.toNat ++ leBytes 1 (a.idx + 1)) m, false) := by
  subst hf
  exact if_pos hs

/-- A downloaded image older than MIN_SVN fills no slot, and DSV 0x1111 tells it (R871). -/
theorem fillSlot_old (hs : ¬ (!f.sigOk || m.id.revoked.getLsbD f.key.toNat) = true) (ho : f.svn.toNat < m.id.minSvn.toNat) :
    fillSlot a m = (report 0x1111 nowhere (leBytes 1 f.svn.toNat ++ leBytes 1 m.id.minSvn.toNat) m, false) := by
  subst hf
  exact (if_neg hs).trans (if_pos ho)

/-- A downloaded image that verifies fills its slot (R870, R871). -/
theorem fillSlot_verified (hs : ¬ (!f.sigOk || m.id.revoked.getLsbD f.key.toNat) = true) (ho : ¬ f.svn.toNat < m.id.minSvn.toNat) :
    fillSlot a m = ({ m with sup.fw := m.sup.fw.upd a (fun _ => some f), sup.fwBuf := [] }, true) := by
  subst hf
  exact (if_neg hs).trans (if_neg ho)

end

end Sys2Proof.Machine

namespace Sys2Proof.Proofs
open Sys2Proof.Machine

/-- Settles O32: each command that may have to wait finds its start's conditions met and may end at once; each other admin row runs on the decoded
context. -/
theorem adminCommandEffects : Obligations.AdminCommandEffects := by
  refine ⟨fun s c nsid lbaf pit ids ok h hw hids hne hl hp h0 hh hfree => ?format,
    fun s c nsid lbaf pit ses keys ids rs h hw hses hids hrs hne hl hp h0 hh hidle hfree hcom hkeys hmay => ?formatErase,
    fun s c pattern keys ids rs h hw hids hrs hh hidle hcom hkeys hmay => ?sanitize,
    fun s c nsid csi kind size fmt pit k i n hw hmaps hk hp hmade => ?create,
    fun s c nsid csi kind size fmt pit ids hw hmaps hids hne hcols hfree => ?delete,
    fun s c nsid attach id n k ha hn hk hpar hatt => ?attach, fun s c nsid csi ha => ?identify, fun s c offset numd ha => ?log,
    fun s c offset bytes ha hne hlen => ?download, fun s c slot a f ha ht hf => ?fill, fun s c slot a ha ht hfull => ?activate,
    fun s c stc ha hstc => ?selfTest⟩
  case format =>
    subst hids hh
    show execNvmeFormatNvm c nsid lbaf pit 0 [] ok s = _
    have noErase : rangeBusy (Waiting c 1 s.m) [] = false := rangeBusy_nil _
    have idle : (namedNss s.m nsid).any (execNvmeFormatNvm.nsBusyNow (Waiting c 1 s.m)) = false := by simpa using hfree
    refine held_go s c 1 _ _ _ (Waiting c 1 s.m) _ hw ?start rfl ?ready ?done
    case start => exact (formatStart_holds c nsid _ [] lbaf pit 0 _ hne hl hp (by decide) h0).trans (holdRanges_nil c _)
    case ready => simp [noErase, idle]
    case done => rfl
  case formatErase =>
    subst hids hrs
    show execNvmeFormatNvm c nsid lbaf pit ses keys true s = _
    have erases : ses ≠ 0 := by rintro rfl; simp at hses
    have known : ses.toNat ≤ 2 := by omega
    have idle : (namedNss s.m nsid).any (execNvmeFormatNvm.nsBusyNow h) = false := by simpa using hfree
    refine held_go s c 1 _ _ _ h _ hw ?start (by rw [hh]; rfl) ?ready ?done
    case start =>
      simp only [if_neg erases, hh]
      exact formatStart_holds c nsid _ _ lbaf pit ses _ hne hl hp known h0
    case ready => simp only [if_neg erases, hidle, idle, hcom, hkeys, Bool.not_false, Bool.and_self, Bool.or_true]
    case done => simp only [if_neg erases, commitOk, hmay, Bool.true_and, if_true]
  case sanitize =>
    subst hids hrs
    show execNvmeSanitize c 4 pattern keys true s = _
    refine held_go s c 2 _ _ _ h _ hw (by rw [hh]; rfl) (by rw [hh]; rfl) ?ready ?done
    case ready => simp only [hidle, hcom, hkeys, Bool.not_false, Bool.and_self]
    case done => simp only [commitOk, hmay, Bool.true_and, if_true]; rfl
  case create =>
    show execNvmeNamespaceManagement c true nsid csi kind size fmt pit s = _
    have maps : (Waiting c 3 s.m).zmg.mapsOk = true := hmaps
    refine held_start s c 3 _ _ _ _ hw ?_ rfl
    simp only [maps, hk, hmade, Nat.not_lt.mpr hp, Bool.not_true, Bool.false_eq_true, if_true, if_false]
  case delete =>
    subst hids
    show execNvmeNamespaceManagement c false nsid csi kind size fmt pit s = _
    have maps : (Waiting c 3 s.m).zmg.mapsOk = true := hmaps
    have named : (namedNss s.m nsid).isEmpty = false := by simp [hne]
    have free : (namedNss s.m nsid).any (nsBusy (Waiting c 3 s.m)) = false := by simpa using hfree
    have alone : (namedNss s.m nsid).any (fun i => !(columnsOf (Waiting c 3 s.m) i).isEmpty) = false := by simpa using hcols
    refine held_go s c 3 _ _ _ (Waiting c 3 s.m) _ hw ?start rfl ?ready rfl
    case start => simp only [maps, named, alone, Bool.not_true, Bool.false_and, Bool.false_eq_true, if_false]
    case ready => simp only [free, Bool.not_false, Bool.and_self]
  case attach =>
    show execNvmeNamespaceAttachment c nsid attach [id] s = _
    have found : nsOf (Decoded c s.m) nsid.toNat = some n := hn
    have ctrl : (Decoded c s.m).fe.ctrls.find? (fun k => k.cntlid == id) = some k := hk
    have data : (attach && isParity (Decoded c s.m) n.nsid) = false := by
      cases attach
      · rfl
      · exact hpar rfl
    refine admin_step s c _ _ ha ?_
    simp only [found, ctrl, nubList_singleton, data, hatt, List.filterMap_cons, List.filterMap_nil, List.any_cons, List.any_nil, List.isEmpty_cons,
      List.foldl_cons, List.foldl_nil, Option.map_some, Option.isNone_some, Bool.or_self, Bool.or_false, Bool.and_not_self, Bool.not_not,
      Bool.not_and_self, Bool.false_eq_true, if_false]
    rfl
  case identify => exact admin_step s c _ _ ha rfl
  case log => exact admin_step s c _ _ ha rfl
  case download =>
    refine admin_step s c _ _ ha (if_neg ?_)
    simp [hne, hlen]
  case fill =>
    show execNvmeFirmwareCommit c slot 0 s = _
    have target : fwTarget (Decoded c s.m) slot = some a := ht
    refine admin_step s c _ _ ha ((if_neg (by decide)).trans ?_)
    simp only [target]
    refine (if_neg (by decide)).trans ?_
    by_cases hs : (!f.sigOk || s.m.id.revoked.getLsbD f.key.toNat) = true
    · rw [if_pos hs, fillSlot_unsigned a f (Decoded c s.m) hf hs]
      rfl
    · rw [if_neg hs]
      by_cases ho : f.svn.toNat < s.m.id.minSvn.toNat
      · rw [if_pos ho, fillSlot_old a f (Decoded c s.m) hf hs ho]
        rfl
      · rw [if_neg ho, fillSlot_verified a f (Decoded c s.m) hf hs ho]
        rfl
  case activate =>
    show execNvmeFirmwareCommit c slot 2 s = _
    have target : fwTarget (Decoded c s.m) slot = some a := ht
    have full : ((Decoded c s.m).sup.fw.get a).isSome = true := hfull
    refine admin_step s c _ _ ha ((if_neg (by decide)).trans ?_)
    simp only [target, full, if_true]
  case selfTest =>
    refine admin_step s c _ _ ha (if_pos ?_)
    simpa [or_assoc] using hstc

end Sys2Proof.Proofs
end

section
/-! PROOFS. The spindle's drive: the start, the PWM periods, the zero-crossings, the steps and the loss of the rotor (spec/05 R257 to R273, R295 to
R297). -/

namespace Sys2Proof.Machine

/-- The rotor is tested under R265 in three states (R266). -/
theorem SpnState.tested_iff (st : SpnState) : st.tested = true ↔ st = .accel ∨ st = .run ∨ st = .brake := by
  cases st <;> simp [SpnState.tested]

/-- A measured speed at or above the flying speed sets FLY_OK and asks for no retract (R279). -/
theorem setSpeed_flying (v : BitVec 24) (m : Mach) (hf : flyOkAt m.spn.targetRpm.toNat v.toNat = true) :
    setSpeed v.toNat m = { m with spn.speed := v, spn.flyOk := true } := by
  simp [setSpeed, hf]

/-- FLY_OK that falls with heads loaded, outside the listening window, is reported, and both actuators retract (R280). -/
theorem setSpeed_falls (v : BitVec 24) (m : Mach) (hf : flyOkAt m.spn.targetRpm.toNat v.toNat = false) (hw : m.spn.flyOk = true)
    (hp : parked m = false) (hl : m.spn.listen = false) :
    setSpeed v.toNat m = slowRetract (report 0x0321 nowhere (leBytes 3 v.toNat ++ leBytes 2 m.spn.targetRpm.toNat) { m with
      spn.speed := v, spn.flyOk := false }) := by
  have falls : (m.spn.flyOk && !false && !parked m && !m.spn.listen) = true := by simp [hw, hp, hl]
  simp only [setSpeed, hf, BitVec.ofNat_toNat, BitVec.setWidth_eq]
  exact if_pos falls

/-- A floating bridge drives no phase. -/
theorem drivenI_floating (m : Mach) (i : Nat) (hb : m.spn.bridge = .floating) : drivenI m i = {} := by
  simp [drivenI, hb]

/-- In closed loop the current is shared by the observer angle (R259, R260). -/
theorem drivenI_run (m : Mach) (i : Nat) (hb : m.spn.bridge = .step) (hr : m.spn.st = .run) :
    drivenI m i = phaseCurrents (angleStep m.spn.elec) (anglePos m.spn.elec) m.spn.soften.toNat i := by
  simp [drivenI, hb, hr]

/-- A PWM period of a floating bridge outside RAMP advances the observer alone and drives nothing (R258, R264). -/
theorem execPwmPeriod_floating (iph : BitVec 16) (s : State) (hb : s.m.spn.bridge = .floating) (hr : s.m.spn.st ≠ .ramp) :
    execPwmPeriod iph s = .next { s with m := { s.m with
      spn.iph := iph, spn.elec := Config.observerStep s.m.spn.elec s.m.spn.ePeriod, spn.iPhase := {}, spn.duty := 0 } } := by
  refine run_to ?_
  simp [hb, hr, drivenI_floating]

/-- A PWM period in RUN limits the current to RUN_ILIM and puts the speed controller's duty in force (R261, R276). -/
theorem execPwmPeriod_run (iph : BitVec 16) (s : State) (e : BitVec 16) (i : Nat) (hb : s.m.spn.bridge = .step) (hr : s.m.spn.st = .run)
    (he : e = Config.observerStep s.m.spn.elec s.m.spn.ePeriod) (hi : i = Nat.min iph.toNat (spnRunIlim s.m)) :
    execPwmPeriod iph s = .next { s with m := { s.m with
      spn.iph := BitVec.ofNat 16 i, spn.elec := e, spn.iPhase := phaseCurrents (angleStep e) (anglePos e) s.m.spn.soften.toNat i
      spn.duty := BitVec.ofNat 16 (satTo 10000 s.m.spn.piDuty) } } := by
  subst he hi
  have limit : spnIlim s.m = spnRunIlim s.m := by simp [spnIlim, hr]
  refine run_to ?_
  simp [hb, hr, limit, drivenI_run]

/-- A crossing further than 12 % from the interval before it loses the rotor for cause 1, whatever else it shows (R265, R294). -/
theorem testedCrossing_off (p q : Nat) (err : Int) (m : Mach) (hq : m.spn.lastStep = some q) (ho : offBy12 p q = true) :
    testedCrossing p err m = loseRotor 1 { crossed p err m with
      spn.disRun := if deg20times9 < 9 * err.natAbs then m.spn.disRun + 1 else 0 } := by
  have far : near12 p m.spn.lastStep = false := by simp [near12, hq, ho]
  exact if_pos (by simp [far])

section
variable (x : MotorPhase) (p : BitVec 24) (pos : BitVec 16) (err : Int) (s : State)

/-- In a tested state a crossing counts only where it is searched for (R263, R265). -/
theorem execZeroCrossing_tested (ht : s.m.spn.st.tested = true) (hp : p ≠ 0) (hr : inReset s.m .spn = false) :
    execZeroCrossing x p pos err s = .next { s with
      m := if zcFound s.m x pos.toNat then testedCrossing p.toNat err s.m else s.m } := by
  have counts : (decide (p = 0) || inReset s.m .spn) = false := by simpa [hr] using hp
  refine run_to ((if_neg (ne_true_of_eq_false counts)).trans ?_)
  obtain hst | hst | hst := (SpnState.tested_iff _).mp ht <;> simp only [hst]

/-- In a tested state a crossing outside the window, or of a driven phase, is not seen (R263). -/
theorem execZeroCrossing_outside (ht : s.m.spn.st.tested = true) (hz : zcFound s.m x pos.toNat = false) :
    execZeroCrossing x p pos err s = .next { s with m := s.m } := by
  by_cases hc : (decide (p = 0) || inReset s.m .spn) = true
  · exact run_to (if_pos hc)
  · obtain ⟨hp, hr⟩ : p ≠ 0 ∧ inReset s.m .spn = false := by simpa using hc
    rw [execZeroCrossing_tested x p pos err s ht hp hr, if_neg (ne_true_of_eq_false hz)]

/-- A crossing found in RAMP measures the speed and goes on with the run toward handover while it is fast enough (R270). -/
theorem execZeroCrossing_ramp (hst : s.m.spn.st = .ramp) (hp : p ≠ 0) (hr : inReset s.m .spn = false) (hz : zcFound s.m x pos.toNat = true) :
    execZeroCrossing x p pos err s = .next { s with
      m := setSpeed (speedOf ((p.toNat :: s.m.spn.steps).take 36)) { crossed p.toNat err s.m with
        spn.zcRun := if 100 * spnHandover s.m * p.toNat ≤ 62500000000 then s.m.spn.zcRun + 1 else 0 } } := by
  have counts : (decide (p = 0) || inReset s.m .spn) = false := by simpa [hr] using hp
  refine run_to ((if_neg (ne_true_of_eq_false counts)).trans ?_)
  simp only [hst, hz, if_true]
  rfl

end

section
variable (ms : BitVec 32) (s : State) (hr : inReset s.m .spn = false) (hb : atBoundary s.m = true)
include hr hb

/-- A tested step that ends without a zero-crossing loses the rotor for cause 2 (R265). -/
theorem execCommutation_unseen (ht : s.m.spn.st.tested = true) (hz : s.m.spn.zcSeen = false) :
    execCommutation ms s = .next { s with m := loseRotor 2 s.m } := by
  refine run_unless ?_ (if_pos (by simp [ht, hz]))
  obtain hst | hst | hst := (SpnState.tested_iff _).mp ht <;> simp [hst, hr, hb]

/-- While the rotor coasts, a boundary within the revolution only counts the step (R257). -/
theorem execCommutation_coast (hst : s.m.spn.st = .coast) (hc : (s.m.spn.comStep + 1) % 6 ≠ 0) :
    execCommutation ms s = .next { s with m := nextStep s.m } := by
  have state : (nextStep s.m).spn.st = .coast := hst
  have within : (nextStep s.m).spn.comStep ≠ 0 := hc
  refine run_unless (by simp [hst, hr, hb]) ((if_neg (by simp [hst, SpnState.tested])).trans ?_)
  simp [state, within]

end

section
variable (us : BitVec 32) (s : State) (hst : s.m.spn.st = .lost) (hl : s.m.spn.listen = true) (hz : 12 ≤ s.m.spn.zcRun)
include hst hl hz

/-- Twelve consistent crossings of a rotor that has fallen below the flying speed: re-lock has failed (R296). -/
theorem execRelock_slow (hf : flyOkAt s.m.spn.targetRpm.toNat (speedOf (s.m.spn.steps.take 12)) = false) :
    execRelock us s = .next { s with m := relockFails (speedOf (s.m.spn.steps.take 12)) s.m } :=
  run_unless (by simp [hst, hl, hz]) (if_neg (by simp [hf]))

/-- Twelve consistent crossings at the flying speed: drive resumes, and the spindle no longer bars writing (R296). -/
theorem execRelock_flying (v : Nat) (hu : s.m.spn.unfollowed = false) (hv : v = speedOf (s.m.spn.steps.take 12))
    (hf : flyOkAt s.m.spn.targetRpm.toNat v = true) :
    execRelock us s = .next { s with m := report 0x0331 nowhere (leBytes 4 us.toNat ++ leBytes 3 v) (spnWusRelease
      (takeUp (if 100 * s.m.spn.targetRpm.toNat ≤ v then .run else .accel) .step { s.m with
        spn.listen := false, spn.speed := BitVec.ofNat 24 v, spn.flyOk := true, spn.integ := (v : Int) })) } := by
  subst hv
  exact run_unless (by simp [hst, hl, hz]) ((if_pos hf).trans (if_neg (by simp [hu])))

end

end Sys2Proof.Machine

namespace Sys2Proof.Proofs
open Sys2Proof.Machine

/-- Settles O6: each event finds the spindle in the state that it acts on; the crossings, the steps and re-lock then take the branch that the clause's
measures decide. The laws of the observer and of the PI controller, and the crossings that SPEED is taken over, are the model's choices (log entries 14
and 24). -/
theorem spindleDriveEffects : Obligations.SpindleDriveEffects := by
  refine ⟨fun s v hst hv => ?standing, fun s v hst hv hfast => ?fast, fun s v hst hv hslow => ?slow, fun s hst => ?align, fun s hst hz => ?handover,
    fun s hst => ?fail, fun s hw ht hh => ?retry, fun s hs => ?timeout, fun s iph hb hr => ?floating, fun s iph e i hb hr he hi => ?run,
    fun s x p pos err hst hp hr hz => ?rampCrossing, fun s x p pos err ht hz => ?outside, fun s x p pos err q ht hp hr hz hq ho => ?off,
    fun s ms hst hr hb hc => ?coasts, fun s ms ht hr hb hz => ?unseen, fun s v hf => ?flies, fun s v hf hw hp hl => ?falls,
    fun s ht hz => ?windowCloses, fun s ht => ?overcurrent, fun s us hst hl hz hf => ?relockSlow, fun s us v hst hl hz hu hv hf => ?relocks,
    fun s v hst hl => ?expiry⟩
  case standing =>
    subst hv
    show execCatchListenEnd 0 s = _
    exact run_unless (by simp [hst]) rfl
  case fast =>
    show execCatchListenEnd v s = _
    exact run_unless (by simp [hst]) ((if_neg hv).trans (if_pos hfast))
  case slow =>
    show execCatchListenEnd v s = _
    exact run_unless (by simp [hst]) ((if_neg hv).trans (if_neg (by simp [hslow])))
  case align =>
    show execAlignEnd s = _
    exact run_when (by simp [hst]) rfl
  case handover =>
    show execRampHandover s = _
    exact run_when (by simp [hst, hz]) rfl
  case fail =>
    show execStartAttemptFail s = _
    exact run_when (by simp [hst]) rfl
  case retry =>
    show execStartRetry s = _
    exact run_unless (by simp [hw]) (if_neg (by simpa [hh] using ht))
  case timeout =>
    show execSpinUpTimeout s = _
    exact run_unless (by simp [hs]) rfl
  case floating => exact execPwmPeriod_floating iph s hb hr
  case run => exact execPwmPeriod_run iph s e i hb hr he hi
  case rampCrossing => exact execZeroCrossing_ramp x p pos err s hst hp hr hz
  case outside => exact execZeroCrossing_outside x p pos err s ht hz
  case off =>
    show execZeroCrossing x p pos err s = _
    rw [execZeroCrossing_tested x p pos err s ht hp hr, if_pos hz, testedCrossing_off p.toNat q err s.m hq ho]
  case coasts => exact execCommutation_coast ms s hr hb hst hc
  case unseen => exact execCommutation_unseen ms s hr hb ht hz
  case flies =>
    show execFlyOkLoss v s = _
    exact run_to (setSpeed_flying v s.m hf)
  case falls =>
    show execFlyOkLoss v s = _
    exact run_to (setSpeed_falls v s.m hf hw hp hl)
  case windowCloses =>
    show execRotorLoss s = _
    exact run_when (by simp [ht, hz]) rfl
  case overcurrent =>
    show execPhaseOvercurrent s = _
    refine run_to ?_
    obtain hst | hst | hst := (SpnState.tested_iff _).mp ht <;> simp only [hst]
  case relockSlow => exact execRelock_slow us s hst hl hz hf
  case relocks => exact execRelock_flying us s hst hl hz v hu hv hf
  case expiry =>
    show execListenWindowExpiry v s = _
    exact run_when (by simp [hst, hl]) rfl

end Sys2Proof.Proofs
end

section
/-! PROOFS. Standstill, the once-around mark and the spindle's requests (spec/05 R274, R281, R286, R291, R301 to R305). -/

namespace Sys2Proof.Machine

@[simp] theorem parked_accept (h : Hdr) (op : Nat) (x : Bool) (m : Mach) : parked (accept h op x m) = parked m := rfl

/-- A coasting rotor that comes to rest stops the spindle, and a shutdown that waits for it goes on (R286, R291). -/
theorem execStandstill_coast (s : State) (hst : s.m.spn.st = .coast) :
    execStandstill s = .next { s with m := modeAdvance (standbyIfDone (spnStop s.m)) } :=
  run_when (by simp [hst]) rfl

/-- SRV0's mark anchors the index, and marks within 1° of one another are not reported (R301, R302). -/
theorem execOnceAroundMark_anchors (d : BitVec 16) (s : State) (hst : s.m.spn.st ≠ .stopped) (hl : loaded s.m .a0 = true) (hd : d.toNat ≤ 100) :
    execOnceAroundMark .a0 d s = .next { s with m := { s.m with
      spn.anchored := true, spn.markCycle := s.m.spn.cycle, spn.markElec := s.m.spn.elec } } := by
  refine run_unless (by simp [hst, hl]) ?_
  have agree : decide (100 < d.toNat) = false := by simp [hd]
  simp only [agree, Bool.and_false, Bool.false_and, Bool.false_eq_true, if_false]
  rfl

end Sys2Proof.Machine

namespace Sys2Proof.Proofs
open Sys2Proof.Machine

/-- Settles O7: standstill ends in what a waiting shutdown makes of it; the mark and the timeout find their condition met; each request is served and
passes its row's checks. -/
theorem spindleIndexAndRequestEffects : Obligations.SpindleIndexAndRequestEffects := by
  refine ⟨fun s hst hw => ?stands, fun s hst hw ht hstop => ?standby, fun s d hst hl hd => ?mark, fun s hp => ?unanchors,
    fun s h hs hm h1 h2 h3 h0 hp => ?demand, fun s h hs h0 h1 h2 h3 => ?state, fun s h v hs hm h0 h1 h2 h3 hv => ?curve⟩
  case stands =>
    show execStandstill s = _
    rw [execStandstill_coast s hst, standbyIfDone, if_neg (by simp [hw])]
  case standby =>
    show execStandstill s = _
    rw [execStandstill_coast s hst, standbyIfDone, if_pos (by simp [hw, ht, hstop])]
  case mark => exact execOnceAroundMark_anchors d s hst hl hd
  case unanchors =>
    show execIndexUnanchorTimeout s = _
    exact run_when hp rfl
  case demand =>
    exact service_step s 0x0601 h lvMaint _ _ _ hs (by simp [firstFail_eq_none, reserved, hm, h1, h2, h3, h0, hp]) rfl
  case state => exact service_step s 0x0602 h lvHost _ _ _ hs (noParam_pass h h0 h1 h2 h3) rfl
  case curve =>
    exact service_step s 0x0603 h lvMaint _ _ _ hs (by simp [firstFail_eq_none, reserved, hm, h0, h1, h2, h3, hv]) rfl

end Sys2Proof.Proofs
end

section
/-! PROOFS. Position sensing: windows, index frames, the acquisition limit, missing marks and alignment fields (spec/06 R308 to R341). -/

namespace Sys2Proof.Machine

theorem Pair.upd_upd {α : Type} (p : Pair α) (a : Act) (f g : α → α) : (p.upd a f).upd a g = p.upd a (fun x => g (f x)) := by
  cases a <;> rfl

theorem Pair.upd_congr {α : Type} {p : Pair α} {a : Act} {f g : α → α} (h : f (p.get a) = g (p.get a)) : p.upd a f = p.upd a g := by
  cases a <;> simpa [Pair.get, Pair.upd] using h

theorem Mach.onSrv_congr {m : Mach} {a : Act} {f g : SrvCtl → SrvCtl} (h : f (m.srv.get a) = g (m.srv.get a)) : m.onSrv a f = m.onSrv a g :=
  congrArg (fun p => { m with srv := p }) (Pair.upd_congr h)

/-! ### Events and the write-unsafe of Table 6-5 -/

/-- Heads off the ramp and acquired, in no state that has given up the track: an event of the reference is reported (R339). -/
theorem reportRef_reports (a : Act) (base : Nat) (ps : List Byte) (m : Mach) (ha : (m.srvRef.get a).acquired = true)
    (ho : (m.srv.get a).st ≠ .opened) (hr : (m.srv.get a).st ≠ .retract) :
    reportRef a base ps m = report (actCode base a) (onHead a 0) ps m := by
  have reports : posReports m a = true := by
    unfold posReports
    split <;> simp_all
  simp [reportRef, reports]

/-- Before acquisition an event of the reference is not reported (R339). -/
theorem reportRef_unacquired (a : Act) (base : Nat) (ps : List Byte) (m : Mach) (ha : (m.srvRef.get a).acquired = false) :
    reportRef a base ps m = m := by
  simp [reportRef, posReports, ha]

theorem posUnsafe_srvRef (a : Act) (align : Bool) (m : Mach) : (posUnsafe a align m).srvRef = m.srvRef.upd a (fun r => { r with
    wusPos := true, wusAlign := r.wusAlign || align, goodFields := 0, alignTrust := r.alignTrust && !align }) := by
  simp [posUnsafe]

/-! ### Windows -/

/-- The run of invalid windows reaches INV_LIMIT with one more (R337). -/
def SrvRef.lastInvalid (r : SrvRef) : Bool := decide (r.invRun + 1 = r.invLimit.toNat)

/-- What an invalid window changes of the sensing: its counts and runs, and at INV_LIMIT the write-unsafe (R336, R337). -/
theorem windowInvalid_srvRef (a : Act) (period : Nat) (m : Mach) : (windowInvalid a period m).srvRef = m.srvRef.upd a (fun r => { r with
    invCnt := r.invCnt.inc, invRun := r.invRun + 1, validRun := 0, setInUse := 0, correcting := false
    wusPos := r.wusPos || r.lastInvalid, goodFields := if r.lastInvalid then 0 else r.goodFields }) := by
  by_cases hl : (m.srvRef.get a).invRun + 1 = (m.srvRef.get a).invLimit.toNat
  · simp only [windowInvalid, Mach.onSrv_srvRef, Mach.onRef_srvRef, Pair.get_upd_same, if_pos hl, posUnsafe_srvRef, reportRef_srvRef, Pair.upd_upd]
    exact Pair.upd_congr (by simp [SrvRef.lastInvalid, hl])
  · simp only [windowInvalid, Mach.onSrv_srvRef, Mach.onRef_srvRef, Pair.get_upd_same, if_neg hl]
    exact Pair.upd_congr (by simp [SrvRef.lastInvalid, hl])

/-- What an invalid window changes of the control: the age of the word, the bin and the estimates (R336, R347, R390). -/
theorem windowInvalid_srv (a : Act) (period : Nat) (m : Mach) : (windowInvalid a period m).srv = m.srv.upd a (fun c => { c with
    cycAge := c.cycAge + 1, binBad := true, xEst := Config.estPos c.xEst c.vEst none, vEst := Config.estVel c.xEst c.vEst none }) := by
  simp only [windowInvalid]
  split <;> simp

/-- The machine once a window's sets are tested, and before a word is taken of it: the angle, the gain, the amplitudes, which sets pass, acquisition
(R311 to R313, R321) and the search for lane damage at the predicted period (R341). -/
def windowTested (a : Act) (pa pb : Bool) (x y : List Nat) (angle : BitVec 16) (settled : Bool) (m : Mach) : Mach :=
  laneDamage a .setB (!pb) (predicted m a / 4096).toNat (laneDamage a .setA (!pa) (predicted m a / 4096).toNat
    ((m.onSrv a (fun c => { c with angle := angle })).onRef a (fun r => { agc (pa || pb) (pairSum x) (pairSum y) r with
      aOk := pa, bOk := pb, ampA := BitVec.ofNat 16 (satTo 65535 (pairSum x)), ampB := BitVec.ofNat 16 (satTo 65535 (pairSum y))
      acquired := r.acquired || (settled && r.indexValid) })))

section
variable (a : Act) (pa pb : Bool) (x y : List Nat) (angle : BitVec 16) (settled : Bool) (m : Mach)

@[simp] theorem windowTested_srv :
    (windowTested a pa pb x y angle settled m).srv = m.srv.upd a (fun c => { c with angle := angle }) := by
  simp [windowTested]

@[simp] theorem windowTested_records : (windowTested a pa pb x y angle settled m).sup.records = m.sup.records := by
  simp [windowTested, laneDamage_records]

@[simp] theorem windowTested_srvRef_other : (windowTested a pa pb x y angle settled m).srvRef.get a.other = m.srvRef.get a.other := by
  simp [windowTested]

/-- The test of the sets takes no word and ends no run: of the parts that a word bears on, every one stays. -/
@[simp] theorem windowTested_keeps :
    ((windowTested a pa pb x y angle settled m).srvRef.get a).word1 = (m.srvRef.get a).word1 ∧
    ((windowTested a pa pb x y angle settled m).srvRef.get a).invRun = (m.srvRef.get a).invRun ∧
    ((windowTested a pa pb x y angle settled m).srvRef.get a).validRun = (m.srvRef.get a).validRun ∧
    ((windowTested a pa pb x y angle settled m).srvRef.get a).invCnt = (m.srvRef.get a).invCnt := by
  simp [windowTested, agc]

@[simp] theorem windowTested_laneAgree :
    ((windowTested a pa pb x y angle settled m).srvRef.get a).laneAgree = (m.srvRef.get a).laneAgree := by
  simp [windowTested, agc]

@[simp] theorem windowTested_correcting :
    ((windowTested a pa pb x y angle settled m).srvRef.get a).correcting = (m.srvRef.get a).correcting := by
  simp [windowTested, agc]

/-- Which sets pass, and acquisition, are as the window shows them (R313, R321). -/
@[simp] theorem windowTested_shows :
    ((windowTested a pa pb x y angle settled m).srvRef.get a).aOk = pa ∧
    ((windowTested a pa pb x y angle settled m).srvRef.get a).bOk = pb ∧
    ((windowTested a pa pb x y angle settled m).srvRef.get a).acquired =
      ((m.srvRef.get a).acquired || (settled && (m.srvRef.get a).indexValid)) := by
  simp [windowTested]

/-- The gain is frozen where no set passes (R312). -/
@[simp] theorem windowTested_gain_frozen :
    ((windowTested a false false x y angle settled m).srvRef.get a).gain = (m.srvRef.get a).gain := by
  simp [windowTested, agc]

@[simp] theorem posSet_windowTested (off n dflt : Nat) :
    posSet (windowTested a pa pb x y angle settled m) a off n dflt = posSet m a off n dflt := by
  simp [posSet, setting, recVal]

end

/-- What becomes of a tested window: its events, then the word of the sets that pass when it lies within the jump limit of the prediction, or none
(Tables 6-3 and 6-5, R317, R319, R336). -/
def windowTaken (a : Act) (pa pb : Bool) (ua ub : Nat) (p : Int) (skipped : Bool) (angle : Nat) (m : Mach) : Mach :=
  let m := windowEvents a pa pb ua ub (p / 4096).toNat skipped m
  match windowFraction m a pa pb ua ub with
  | none => windowInvalid a (p / 4096).toNat m
  | some (u, sets) =>
    let w := nearestWord u p
    if (m.srvRef.get a).correcting || decide (posSet m a 2 2 512 < (w - p).natAbs) then windowInvalid a (p / 4096).toNat m
    else windowValid a angle (BitVec.ofInt 32 w) sets m

/-- A window of which neither set passes reports event 0x33 and is invalid. -/
theorem windowTaken_neither (a : Act) (ua ub : Nat) (p : Int) (k : Bool) (angle : Nat) (m : Mach) :
    windowTaken a false false ua ub p k angle m = windowInvalid a (p / 4096).toNat
      (reportRef a 0x0433 (leBytes 2 (m.srvRef.get a).ampA.toNat ++ leBytes 2 (m.srvRef.get a).ampB.toNat) m) := rfl

/-- Two sets that agree give the word of their mean, when it lies within the jump limit and no period is being corrected. -/
theorem windowTaken_agree (a : Act) (ua ub u : Nat) (p : Int) (k : Bool) (angle : Nat) (m : Mach)
    (hagree : (wrap12 ((ub : Int) - ua)).natAbs ≤ (m.srvRef.get a).laneAgree.toNat)
    (hu : u = (((ua : Int) + (wrap12 ((ub : Int) - ua)).tdiv 2) % 4096).toNat)
    (hc : (m.srvRef.get a).correcting = false) (hj : (nearestWord u p - p).natAbs ≤ posSet m a 2 2 512) :
    windowTaken a true true ua ub p k angle m = windowValid a angle (BitVec.ofInt 32 (nearestWord u p)) 3 m := by
  subst hu
  simp only [windowTaken, windowEvents_agree m a ua ub _ k hagree, windowFraction_agree m a ua ub hagree]
  exact if_neg (by simp [hc, hj])

/-- A window of a running demodulator is tested and then taken. -/
theorem execDemodWindow_takes (a : Act) (magA magB x y : List Nat) (angle : BitVec 16) (settled pa pb : Bool) (s : State)
    (hd : demodulates s.m a = true) (hx : x = magA.map (fun v => v * (s.m.srvRef.get a).gain / 65536))
    (hy : y = magB.map (fun v => v * (s.m.srvRef.get a).gain / 65536))
    (hA : (setPasses s.m a x && !damaged (s.m.srvRef.get a) .setA (predicted s.m a / 4096).toNat) = pa)
    (hB : (setPasses s.m a y && !damaged (s.m.srvRef.get a) .setB (predicted s.m a / 4096).toNat) = pb) :
    ∃ k, execDemodWindow a magA magB angle settled s = .next { s with
      m := windowTaken a pa pb (setFraction s.m a 0 x) (setFraction s.m a 1 y) (predicted s.m a) k angle.toNat
        (windowTested a pa pb x y angle settled s.m) } := by
  subst hx hy hA hB
  exact ⟨_, run_unless (by simp [hd]) rfl⟩

/-! ### Index frames, the acquisition limit and missing marks -/

section
variable (a : Act) (set : LaneSet) (lane : BitVec 2) (x : BitVec 40) (amp : BitVec 16) (s : State)

/-- A frame that is not valid is not seen (R318). -/
theorem execIndexFrame_invalid (hf : frameValid x amp = false) : execIndexFrame a set lane x amp s = .next { s with m := s.m } :=
  run_to (if_pos (by simp [hf]))

/-- A valid frame of a running demodulator is seen, frame 0 as the once-around mark (R318, R322). -/
theorem execIndexFrame_valid (hd : demodulates s.m a = true) (hf : frameValid x amp = true) :
    execIndexFrame a set lane x amp s = .next { s with m := frameSeen a set lane.toNat (framePeriod x) (frameNumber x == 0) s.m } :=
  run_unless (by simp [hd, hf]) rfl

end

section
variable (a : Act) (set : LaneSet) (lane period : Nat) (mark : Bool) (m : Mach)

/-- A frame seen while no word is held makes the index valid and places the estimate (R320). -/
theorem frameSeen_first (hw : (m.srvRef.get a).word1 = none) : frameSeen a set lane period mark m =
    (m.onRef a (fun r => { r with indexValid := true, markOk := r.markOk || mark, markLost := r.markLost && !mark })).onSrv a
      (fun c => { c with xEst := laneCentre set lane period }) := by
  simp [frameSeen, hw]

/-- A frame within half a pitch of the word held corrects nothing (R319). -/
theorem frameSeen_near (w : BitVec 32) (hw : (m.srvRef.get a).word1 = some w) (hn : (laneCentre set lane period - (w.toNat : Int)).natAbs ≤ 2048) :
    frameSeen a set lane period mark m =
      m.onRef a (fun r => { r with indexValid := true, markOk := r.markOk || mark, markLost := r.markLost && !mark }) := by
  simp [frameSeen, hw, hn]

end

/-- A loaded actuator that still seeks without a position reports the acquisition limit (R321, R339). -/
theorem execAcqLimitExpiry_seek (a : Act) (s : State) (hst : (s.m.srv.get a).st = .seek) (ha : (s.m.srvRef.get a).acquired = false)
    (hl : loaded s.m a = true) :
    execAcqLimitExpiry a s = .next { s with
      m := report (actCode 0x0430 a) (onHead a 0) (leBytes 2 (s.m.srvRef.get a).ampA.toNat ++ leBytes 2 (s.m.srvRef.get a).ampB.toNat) s.m } :=
  run_when (by simp [hst, ha, hl]) rfl

/-- The mark is lost once, while the frames decode (R323). -/
theorem execMarkMissing_lost (a : Act) (s : State) (hd : demodulates s.m a = true) (hi : (s.m.srvRef.get a).indexValid = true)
    (hm : (s.m.srvRef.get a).markLost = false) :
    execMarkMissing a s = .next { s with m := reportRef a 0x0443 [] (s.m.onRef a (fun r => { r with markOk := false, markLost := true })) } :=
  run_when (by simp [hd, hi, hm]) rfl

/-! ### Alignment fields -/

section
variable (a : Act) (f : BitVec 7) (code : BitVec 12) (q0 q1 : Int) (s : State) (hd : demodulates s.m a = true)
include hd

/-- A field whose mark was not found, short of MISS_LIMIT, counts as missed (R335 to R337). -/
theorem execAlignmentField_missed (hst : (s.m.srv.get a).st = .settle ∨ (s.m.srv.get a).st = .follow)
    (hl : (s.m.srvRef.get a).missRun + 1 ≠ (s.m.srvRef.get a).missLimit.toNat) :
    execAlignmentField a (s.m.srv.get a).head f false code q0 q1 s = .next { s with m := ((s.m.onRef a (fun r => { r with
      fieldNo := f, fieldValid := false, amissCnt := r.amissCnt.inc, missRun := r.missRun + 1, goodFields := 0
      missFirst := if r.missRun = 0 then f else r.missFirst })).onSrv a (fun c => { c with fieldOk := c.st == .follow })) } := by
  refine run_unless (by obtain hst | hst := hst <;> simp [hst, hd]) ?_
  simp only [Bool.not_false, if_true]
  exact if_neg (by simpa using hl)

/-- A field of the wanted track within ALIGN_LIMIT, while the unit settles, is a good one (R333, R335, R338). -/
theorem execAlignmentField_settles (e : Int) (hst : (s.m.srv.get a).st = .settle)
    (ht : codeTrack (s.m.srv.get a).tgtTrack.toNat code.toNat = (s.m.srv.get a).tgtTrack.toNat)
    (he : e = (alignQ (s.m.srvRef.get a).alignReader q0 q1 *
      (pitchAt s.m a (s.m.srv.get a).head.toNat (s.m.srv.get a).tgtTrack.toNat : Int)).tdiv 1048576)
    (hl : e.natAbs ≤ (s.m.srvRef.get a).alignLimit.toNat) :
    execAlignmentField a (s.m.srv.get a).head f true code q0 q1 s = .next { s with m := posRelease a (((s.m.onRef a (fun r => { r with
      fieldNo := f, fieldValid := true, fieldErr := BitVec.ofInt 24 e, missRun := 0 })).onRef a (fun r => { r with
      alignTrust := true, goodFields := r.goodFields + 1 })).onSrv a (fun c => { c with fieldOk := c.st == .follow })) } := by
  have within : ¬ (s.m.srvRef.get a).alignLimit.toNat < e.natAbs := Nat.not_lt.mpr hl
  refine run_unless (by simp [hst, hd]) ?_
  -- at the wanted track the two track positions cancel: the field's error is the readers' offset alone
  simp [hst, ht, ← he, within]

end

end Sys2Proof.Machine

namespace Sys2Proof.Proofs
open Sys2Proof.Machine

/-- Settles O8: a window is tested and then taken, and the sets that pass decide what is taken of it; a frame, the acquisition limit and a missing mark
find their condition met; a field of the selected head is missed or good. That the gain scales the magnitudes and the readers' mean is truncated are the
model's choices (log entries 16 and 103). -/
theorem positionSensingEffects : Obligations.PositionSensingEffects := by
  refine ⟨fun s a magA magB x y angle settled u hd hx hy hA hB hm hagree hu hc hj => ?both,
    fun s a magA magB x y angle settled hd hx hy hA hB => ?neither, fun s a set lane x amp hd hf hw => ?frame, fun s a set lane x amp hf => ?noFrame,
    fun s a hst ha hl => ?limit, fun s a hd hi hm ha hst => ?mark, fun s a f code q0 q1 hd hst hl => ?missed,
    fun s a f code q0 q1 e hd hst ht he hl => ?good⟩
  case both =>
    have undamaged (set : LaneSet) (p : Nat) : damaged (s.m.srvRef.get a) set p = false := by simp [damaged, hm]
    obtain ⟨k, hex⟩ := execDemodWindow_takes a magA magB x y angle settled true true s hd hx hy (by simp [hA, undamaged]) (by simp [hB, undamaged])
    have word := windowTaken_agree a _ _ u (predicted s.m a) k angle.toNat (windowTested a true true x y angle settled s.m)
      (by rwa [windowTested_laneAgree]) hu (by rwa [windowTested_correcting]) (by rwa [posSet_windowTested])
    rw [word] at hex
    exact ⟨_, hex, by simp [windowValid]⟩
  case neither =>
    obtain ⟨k, hex⟩ := execDemodWindow_takes a magA magB x y angle settled false false s hd hx hy (by simp [hA]) (by simp [hB])
    rw [windowTaken_neither] at hex
    exact ⟨_, hex, by simp [windowInvalid_srvRef, windowInvalid_srv]⟩
  case frame =>
    show execIndexFrame a set lane x amp s = _
    rw [execIndexFrame_valid a set lane x amp s hd hf, frameSeen_first _ _ _ _ _ _ hw]
    rfl
  case noFrame => exact execIndexFrame_invalid a set lane x amp s hf
  case limit => exact execAcqLimitExpiry_seek a s hst ha hl
  case mark =>
    show execMarkMissing a s = _
    rw [execMarkMissing_lost a s hd hi hm, reportRef_reports _ _ _ _ (by simpa using ha) (by simp [hst]) (by simp [hst])]
  case missed =>
    show execAlignmentField a _ f false code q0 q1 s = _
    rw [execAlignmentField_missed a f code q0 q1 s hd (.inr hst) hl]
    refine congrArg (fun n => Host.Outcome.next { s with m := n }) (Mach.onSrv_congr ?_)
    simp [hst]
  case good => exact ⟨_, execAlignmentField_settles a f code q0 q1 s hd e hst ht he hl, by simp⟩

/-- Settles O56: each command has the effect of its branch; a missing mark is reported once the position is acquired. -/
theorem positionSensingCompletes : Obligations.PositionSensingCompletes := by
  refine ⟨fun s a magA magB angle settled hd hA hB => ?neither, fun s a set lane x amp w hd hf hw hn => ?near, fun s a hst ha hl => ?limit,
    fun s a hd hi hm ha => ?unacquired, fun s a hd hi hm ha ho hr => ?acquired, fun s a f code q0 q1 hd hst hl => ?missed⟩
  case neither =>
    obtain ⟨k, hex⟩ := execDemodWindow_takes a magA magB _ _ angle settled false false s hd rfl rfl (by simp [hA]) (by simp [hB])
    rw [windowTaken_neither] at hex
    exact ⟨_, hex, rfl, by simp [windowInvalid_srvRef, windowInvalid_srv]⟩
  case near =>
    show execIndexFrame a set lane x amp s = _
    rw [execIndexFrame_valid a set lane x amp s hd hf, frameSeen_near _ _ _ _ _ _ w hw hn]
    rfl
  case limit => exact execAcqLimitExpiry_seek a s hst ha hl
  case unacquired =>
    show execMarkMissing a s = _
    rw [execMarkMissing_lost a s hd hi hm, reportRef_unacquired _ _ _ _ (by simpa using ha)]
  case acquired =>
    show execMarkMissing a s = _
    rw [execMarkMissing_lost a s hd hi hm, reportRef_reports _ _ _ _ (by simpa using ha) (by simpa using ho) (by simpa using hr)]
  case missed => exact execAlignmentField_missed a f code q0 q1 s hd hst hl

end Sys2Proof.Proofs
end

section
/-! PROOFS. The position cycle, the current loop and the selection of banks (spec/07 R345 to R366, R403). -/

namespace Sys2Proof.Machine

/-- A command that can raise a write inhibit, outside the power-loss sequence, leaves what its own update makes of the machine it finds (R439). -/
theorem runCut_calm_to {s : State} {f : Mach → Mach} {m' : Mach} (hm : f s.m = m') (h : m'.pwr.loss = false) :
    s.runCut f = .next { s with m := m' } := by
  rw [runCut_calm s f (by rw [hm, h]), hm]

/-- From `m` to `n` a cycle changes neither the course nor the set-point of a unit, and nothing of the other unit or of the power unit. -/
structure SameDrive (a : Act) (m n : Mach) : Prop where
  course : SameCourse (m.srv.get a) (n.srv.get a)
  isp : (n.srv.get a).isp = (m.srv.get a).isp
  other : n.srv.get a.other = m.srv.get a.other
  pwr : n.pwr = m.pwr

theorem SameDrive.trans {a : Act} {m n k : Mach} (h : SameDrive a m n) (g : SameDrive a n k) : SameDrive a m k :=
  ⟨h.course.trans g.course, g.isp.trans h.isp, g.other.trans h.other, g.pwr.trans h.pwr⟩

/-- An update of one unit that keeps its course and its set-point. -/
theorem SameDrive.onSrv {a : Act} {m : Mach} {f : SrvCtl → SrvCtl} (hc : SameCourse (m.srv.get a) (f (m.srv.get a)))
    (hi : (f (m.srv.get a)).isp = (m.srv.get a).isp) : SameDrive a m (m.onSrv a f) :=
  ⟨by simpa using hc, by simpa using hi, by simp, rfl⟩

section
variable (a : Act) (m : Mach)

/-- The driver's test of the cycle (R360). -/
theorem driverClean_sameDrive : SameDrive a m (m.onSrv a driverClean) := by
  obtain ⟨st, pes, last, run, cnt, isp⟩ := driverClean_keeps (m.srv.get a)
  exact .onSrv ⟨st, pes, last, run, cnt⟩ isp

@[simp] theorem microSat_pwr : (microSat a m).pwr = m.pwr := by
  simp [microSat, apply_ite Mach.pwr]

/-- The microactuator's saturation count (R394). -/
theorem microSat_sameDrive : SameDrive a m (microSat a m) := by
  have keeps := microSat_keeps a m
  constructor
  · rw [keeps, Pair.get_upd_same]
    exact ⟨rfl, rfl, rfl, rfl, rfl⟩
  · rw [keeps, Pair.get_upd_same]
  · rw [keeps, Pair.get_upd_other]
  · exact microSat_pwr a m

/-- The sample of the repetitive controller's table (R388 to R390). -/
theorem rroSample_sameDrive (learn : Bool) (b : Nat) : SameDrive a m (m.onSrv a (rroSample learn b)) := by
  obtain ⟨st, pes, last, run, cnt, isp⟩ := rroSample_keeps learn b (m.srv.get a)
  exact .onSrv ⟨st, pes, last, run, cnt⟩ isp

@[simp] theorem offTrackTest_pwr : (offTrackTest a m).pwr = m.pwr := by
  unfold offTrackTest
  dsimp only
  split <;> simp

/-- The off-track test and the on-track signals (R368, R403). -/
theorem trackTests_sameDrive : SameDrive a m (onTrack a (offTrackTest a m)) := by
  obtain ⟨st, pes, last, run, cnt, isp, other⟩ := onTrack_keeps a m
  exact ⟨⟨st, pes, last, run, cnt⟩, isp, other, by simp [onTrack]⟩

end

/-- The angle and the position error of a cycle (R347, R351, R352). -/
def cycleError (a : Act) (angle : BitVec 16) (m : Mach) : Mach :=
  m.onSrv a (fun c => { c with angle := angle, pes := pesOf (cycleTarget m a angle.toNat) (positionSample c) })

/-- A cycle up to the hand-off: the position error, and the set-point computed from it (R347, R351 to R359). -/
def cycleStart (a : Act) (angle : BitVec 16) (vib : Int) (m : Mach) : Mach :=
  (cycleError a angle m).onSrv a (computeSetpoint (cycleError a angle m) a (cycleTarget m a angle.toNat) vib)

/-- A cycle after the hand-off: the driver, the microactuator, the table's sample and the track tests (R360, R368, R388 to R394, R403). -/
def cycleTests (a : Act) (angle : BitVec 16) (m : Mach) : Mach :=
  onTrack a (offTrackTest a ((microSat a (m.onSrv a driverClean)).onSrv a
    (rroSample (learning (microSat a (m.onSrv a driverClean)) a) (angle.toNat / 64))))

section
variable (a : Act) (phase : Nat) (angle : BitVec 16) (vib : Int) (old : SrvCtl) (m : Mach)

theorem cycleTests_sameDrive : SameDrive a m (cycleTests a angle m) :=
  (driverClean_sameDrive a m).trans ((microSat_sameDrive a _).trans ((rroSample_sameDrive a _ _ _).trans (trackTests_sameDrive a _)))

/-- The set-point's law leaves the course as the error has it. -/
theorem cycleStart_course : SameCourse ((cycleError a angle m).srv.get a) ((cycleStart a angle vib m).srv.get a) := by
  rw [cycleStart, Mach.onSrv_srv, Pair.get_upd_same]
  exact computeSetpoint_keeps ..

@[simp] theorem cycleStart_other : (cycleStart a angle vib m).srv.get a.other = m.srv.get a.other := by simp [cycleStart, cycleError]

@[simp] theorem cycleStart_pwr : (cycleStart a angle vib m).pwr = m.pwr := rfl

/-- A set-point in time for the current loop is handed over (R348). -/
theorem handOff_srv_inTime (hp : phase ≤ 187) : (handOff a phase old m).srv = m.srv.upd a (fun c => { c with
    spLast := BitVec.ofNat 8 phase, spMax := if c.spMax.toNat < phase then BitVec.ofNat 8 phase else c.spMax
    ovrRun := 0, ovrClean := c.ovrClean + 1, wusOvr := c.wusOvr && decide (c.ovrClean + 1 < 64) }) := by
  simp [handOff, hp]

/-- A set-point that is late leaves the previous one in force and counts (R350). -/
theorem handOff_srv_late (hp : 187 < phase) : (handOff a phase old m).srv = m.srv.upd a (fun c => { c with
    spLast := BitVec.ofNat 8 phase, spMax := if c.spMax.toNat < phase then BitVec.ofNat 8 phase else c.spMax
    isp := old.isp, ispBase := old.ispBase
    ovrRun := c.ovrRun + 1, ovrClean := 0, ovrCnt := c.ovrCnt.inc, wusOvr := c.wusOvr || decide (1 ≤ c.ovrRun) }) := by
  simp [handOff, Nat.not_le.mpr hp]

@[simp] theorem handOff_pwr : (handOff a phase old m).pwr = m.pwr := by
  unfold handOff
  split <;> simp

@[simp] theorem handOff_st : ((handOff a phase old m).srv.get a).st = (m.srv.get a).st := by
  rcases Nat.lt_or_ge 187 phase with hp | hp
  · simp [handOff_srv_late _ _ _ _ hp]
  · simp [handOff_srv_inTime _ _ _ _ hp]

end

/-- The machine after a position cycle of a unit that follows. -/
def followCycle (a : Act) (phase : BitVec 8) (vib : Int) (angle : BitVec 16) (m : Mach) : Mach :=
  (cycleTests a angle (handOff a phase.toNat (m.srv.get a) (cycleStart a angle vib m))).onSrv a (fun c => { c with cycWord := none, cycAge := 0 })

section
variable (a : Act) (phase : BitVec 8) (acc0 acc1 vib : Int) (angle : BitVec 16) (bad : BitVec 12) (s : State) (m : Mach)

/-- After the hand-off a unit that follows keeps its course and its set-point. -/
theorem followCycle_sameDrive : SameDrive a (handOff a phase.toNat (m.srv.get a) (cycleStart a angle vib m)) (followCycle a phase vib angle m) :=
  (cycleTests_sameDrive a angle _).trans (.onSrv ⟨rfl, rfl, rfl, rfl, rfl⟩ rfl)

/-- The word of the cycle is used up (R347). -/
theorem followCycle_cycWord : ((followCycle a phase vib angle m).srv.get a).cycWord = none := by simp [followCycle]

/-- A unit that follows, out of reset, neither seeks nor settles: its cycle is the hand-off with what stands before and after it (R345, R367). -/
theorem execPositionCycle_follow (hl : s.m.pwr.loss = false) (hst : (s.m.srv.get a).st = .follow) (hr : inReset s.m (.act a) = false) :
    execPositionCycle a phase acc0 acc1 angle bad s = .next { s with m := followCycle a phase (acc0 - acc1) angle s.m } := by
  have follows : ((cycleTests a angle (handOff a phase.toNat (s.m.srv.get a) (cycleStart a angle (acc0 - acc1) s.m))).srv.get a).st = .follow := by
    rw [(cycleTests_sameDrive a angle _).course.st, handOff_st, (cycleStart_course a angle _ s.m).st]
    simpa [cycleError] using hst
  refine runCut_calm_to ?_ (by simpa [(followCycle_sameDrive a phase _ angle s.m).pwr] using hl)
  simp only [hst, hr, Bool.false_eq_true, if_false]
  rw [followCycle, ← settleTest_follow a bad _ follows, ← seekTest_follow a (cycleTarget s.m a angle.toNat) _ follows]
  rfl

end

section
variable (a : Act) (i : Int) (s : State)

/-- In OPEN the driver is off: a sample of the current is only measured (R346, R360). -/
theorem execCurrentLoopSample_opened (lim : Bool) (hl : s.m.pwr.loss = false) (hst : (s.m.srv.get a).st = .opened) :
    execCurrentLoopSample a i lim s = .next { s with m := s.m.onSrv a (fun c => { c with imeas := i }) } :=
  runCut_calm_to (by simp only [hst]) hl

/-- A sample within 3,000 of the set-point, without the driver's limit, ends the run of bad samples and leaves the driver's record (R360). -/
theorem execCurrentLoopSample_near (hl : s.m.pwr.loss = false) (hst : (s.m.srv.get a).st = .follow) (hn : (i - (s.m.srv.get a).isp).natAbs ≤ 3000) :
    ∃ f : SrvCtl → SrvCtl, execCurrentLoopSample a i false s = .next { s with m := s.m.onSrv a f } ∧ (f (s.m.srv.get a)).imeas = i ∧
      (f (s.m.srv.get a)).drvRun = 0 ∧ (f (s.m.srv.get a)).isp = (s.m.srv.get a).isp ∧ (f (s.m.srv.get a)).drvBad = (s.m.srv.get a).drvBad := by
  have near : ¬ 3000 < (i - (s.m.srv.get a).isp).natAbs := Nat.not_lt.mpr hn
  refine ⟨_, runCut_calm_to (by simp [hst, near]; rfl) hl, ?_⟩
  simp [near, SrvCtl.due]

end

theorem Mach.onSrv_onSrv (m : Mach) (a : Act) (f g : SrvCtl → SrvCtl) : (m.onSrv a f).onSrv a g = m.onSrv a (fun c => g (f c)) :=
  congrArg (fun p => { m with srv := p }) (Pair.upd_upd ..)

/-- A pending selection of a loop for which no request waits takes effect, and the loop's preset is due (R363, R364). -/
theorem execBankSelect_pending (a : Act) (l : Loop) (k : BitVec 2) (s : State) (hp : (s.m.srv.get a).bankPend.getD l.idx none = some k)
    (hq : (s.m.srv.get a).bankReqs = []) :
    execBankSelect a l s = .next { s with m := s.m.onSrv a (fun c => { c.due l true with
      banksel := updAt c.banksel l.idx (fun _ => k), bankPend := updAt c.bankPend l.idx (fun _ => none), bankReqs := [] }) } := by
  have none_waits : (s.m.srv.get a).bankReqs.filter (fun q => q.2 == l.idx) = [] := by simp [hq]
  refine run_to ?_
  simp only [hp, SrvCtl.due, none_waits, List.foldl_nil, Mach.onSrv_onSrv]
  exact Mach.onSrv_congr (by simp [hq])

end Sys2Proof.Machine

namespace Sys2Proof.Proofs
open Sys2Proof.Machine

/-- Settles O9: a unit that follows takes the cycle's hand-off in time or late; a sample is measured alone or compared with the set-point; a pending
selection takes effect. -/
theorem servoLoopEffects : Obligations.ServoLoopEffects := by
  refine ⟨fun s a phase acc0 acc1 angle bad hl hst hr hp => ?inTime, fun s a phase acc0 acc1 angle bad hl hst hr hp => ?late,
    fun s a i lim hl hst => ?opened, fun s a i hl hst hn => ?near, fun s a l k hp hq => ?bank⟩
  case inTime =>
    refine ⟨_, execPositionCycle_follow a phase acc0 acc1 angle bad s hl hst hr, ?_⟩
    obtain ⟨⟨st, pes, last, run, _⟩, _, other, _⟩ := followCycle_sameDrive a phase (acc0 - acc1) angle s.m
    have start := cycleStart_course a angle (acc0 - acc1) s.m
    rw [handOff_srv_inTime _ _ _ _ hp] at st pes last run other
    simp [st, pes, last, run, other, followCycle_cycWord, start.st, start.pes, cycleError, hst]
  case late =>
    refine ⟨_, execPositionCycle_follow a phase acc0 acc1 angle bad s hl hst hr, ?_⟩
    obtain ⟨⟨_, _, _, run, cnt⟩, isp, _, _⟩ := followCycle_sameDrive a phase (acc0 - acc1) angle s.m
    have start := cycleStart_course a angle (acc0 - acc1) s.m
    rw [handOff_srv_late _ _ _ _ hp] at run cnt isp
    simp [run, cnt, isp, start.ovrRun, start.ovrCnt, cycleError]
  case opened => exact execCurrentLoopSample_opened a i s lim hl hst
  case near =>
    obtain ⟨f, hex, himeas, hrun, hisp, hbad⟩ := execCurrentLoopSample_near a i s hl hst hn
    exact ⟨_, hex, by simp [himeas, hrun, hisp, hbad]⟩
  case bank => exact ⟨_, execBankSelect_pending a l k s hp hq, by simp [SrvCtl.due]⟩

end Sys2Proof.Proofs
end

section
/-! PROOFS. The ends of seeks, loads, holds and retracts, shocks, and the strobes of the repetitive controller (spec/07 R365,
R372 to R381, R392, R398 to R402). -/

namespace Sys2Proof.Machine

/-- A hold that no request waits for ends without an answer (R380). -/
theorem answerHold_unasked (a : Act) (status reason : Nat) (m : Mach) (hq : (m.srv.get a).holdReq = none) :
    answerHold a status reason m = m.onSrv a (fun c => { c with holdReq := none, holdI := 0 }) := by
  simp [answerHold, hq]

section
variable (a : Act) (s : State)

/-- A SEEK other than an unload, with the reference acquired, that has not settled in time fails: the unit settles on the nearest data track (R372). -/
theorem execSeekTimeout_fails (n : Mach) (hst : (s.m.srv.get a).st = .seek) (hp : (s.m.srv.get a).phase ≠ .unload)
    (ha : (s.m.srvRef.get a).acquired = true)
    (hn : n = report (actCode 0x0451 a) (onHead a (s.m.srv.get a).head.toNat) (leBytes 3 (s.m.srv.get a).tgtTrack.toNat ++ leBytes 4
      (targetOf s.m a (s.m.srv.get a).head.toNat (s.m.srv.get a).tgtTrack.toNat (s.m.srv.get a).angle.toNat - (s.m.srv.get a).xEst).natAbs) s.m) :
    execSeekTimeout a s = .next { s with m := seekSettled a (enterSettle a (n.onSrv a (fun c => { c with
      seekFailed := true, tgtTrack := BitVec.ofNat 21 (nearestTrack n a (s.m.srv.get a).head.toNat ((s.m.srv.get a).xEst +
        offsetAt n a (s.m.srv.get a).head.toNat (s.m.srv.get a).tgtTrack.toNat (s.m.srv.get a).angle.toNat)) }))) } := by
  subst hn
  exact run_unless (by simp [hst, hp, ha]) rfl

/-- The first expiry in SETTLE is reported, and noted (R373). -/
theorem execSettleTimeout_first (hst : (s.m.srv.get a).st = .settle) (hl : (s.m.srv.get a).settleLate = false) :
    execSettleTimeout a s = .next { s with
      m := report (actCode 0x0452 a) (onHead a (s.m.srv.get a).head.toNat) (leBytes 4 (s.m.srv.get a).pesMax)
        (s.m.onSrv a (fun c => { c with settleLate := true })) } :=
  run_when (by simp [hst, hl]) rfl

/-- A lateness that has been noted is not reported again (R373). -/
theorem execSettleTimeout_again (hl : (s.m.srv.get a).settleLate = true) : execSettleTimeout a s = .next { s with m := s.m } :=
  run_to (if_neg (by simp [hl]))

/-- A load attempt that fails with tries left unloads and is made again (R377). -/
theorem execLoadAttemptFail_again (why : BitVec 8) (hst : (s.m.srv.get a).st = .seek) (hp : (s.m.srv.get a).phase = .load)
    (ha : (s.m.srvRef.get a).acquired = false) (hw : why = 1 ∨ why = 2) (ht : (s.m.srv.get a).loadTry ≤ loadRetry s.m a) :
    execLoadAttemptFail a why s = .next { s with m := s.m.onSrv a (fun c => { c with
      phase := .unload, bemfRef := -(loadBemf s.m a : Int), loadReason := why, loadAgain := true, loadFailed := false }) } := by
  refine run_unless (by rcases hw with rfl | rfl <;> simp [hst, hp, ha]) ?_
  simp only [decide_eq_true ht, if_true, Bool.not_true]

/-- A HOLD that ends of itself, with no seek and no request waiting, is followed by FOLLOW on the nearest data track (R365, R380). -/
theorem execHoldEnd_unasked (hst : (s.m.srv.get a).st = .hold) (hw : (s.m.srv.get a).seekWait = none) (hq : (s.m.srv.get a).holdReq = none) :
    execHoldEnd a 0 s = .next { s with
      m := (s.m.onSrv a (fun c => { (c.enter .follow).takeOver c.holdI with
        tgtTrack := BitVec.ofNat 21 (nearestTrack s.m a (s.m.srv.get a).head.toNat ((s.m.srv.get a).xEst +
          offsetAt s.m a (s.m.srv.get a).head.toNat (s.m.srv.get a).tgtTrack.toNat (s.m.srv.get a).angle.toNat))
        tgtHead := c.head })).onSrv a (fun c => { c with holdReq := none, holdI := 0 }) } := by
  refine run_unless (by simp [hst]) ?_
  simp only [hw]
  exact answerHold_unasked a _ _ _ (by simpa [SrvCtl.takeOver, SrvCtl.due, SrvCtl.enter] using hq)

/-- At the end of a retract no reset of the actuator waits: the mode goes on (R367, R398, R1006). -/
theorem execRetractComplete_unreset (hst : (s.m.srv.get a).st = .retract)
    (hw : (enterOpen a s.m).clk.resetWait.getLsbD (Group.bitNo (.act a)) = false) :
    execRetractComplete a s = .next { s with m := modeAdvance (moduleResetAfterRetract (lossSupply a (enterOpen a s.m))) } := by
  refine run_unless (by simp [hst]) ?_
  simp only [lossSupply_clk, hw, ifDo_false]

/-- A shock above SHOCK_WI inhibits writing and is reported (R402). -/
theorem execShockWi_crossing (pk : BitVec 16) (hl : s.m.pwr.loss = false) (hpk : 10 * shockWiLim s.m a < pk.toNat) :
    execShockWi a pk s = .next { s with m := refreshInhibit a (report (actCode 0x0454 a) (onHead a (s.m.srv.get a).head.toNat) (leBytes 2 pk.toNat)
      (s.m.onSrv a (fun c => { c with shockWi := true, shockHeld := false }))) } := by
  refine runCut_calm_to ?_ (by simpa using hl)
  simp [Nat.not_le.mpr hpk]

/-- Once ON_TRACK_W holds, the end of the hold time ends the inhibit of a shock at once (R402). -/
theorem execShockHoldExpiry_onTrack (hs : (s.m.srv.get a).shockWi = true) (ht : (s.m.srv.get a).onTrackW = true) :
    execShockHoldExpiry a s = .next { s with m := refreshInhibit a (s.m.onSrv a (fun c => { c with shockWi := false, shockHeld := false })) } :=
  run_when hs (congrArg (refreshInhibit a) (Mach.onSrv_congr (if_pos ht)))

end

end Sys2Proof.Machine

namespace Sys2Proof.Proofs
open Sys2Proof.Machine

/-- Settles O10: each event finds the unit in the state that it acts on and has its effect. That SHOCK_WI reports again while its inhibit stands and the
form of SHOCK_HOLD_EXPIRY (log entry 26), and that the offsets are those at the angle of the latest window or cycle (29), are the model's choices. -/
theorem actuatorEventEffects : Obligations.ActuatorEventEffects := by
  refine ⟨fun s a n hst hp ha hn => ?seek, fun s a why hst hp ha hw ht => ?load, fun s a hst hp => ?unload, fun s a hst hw hq => ?hold,
    fun s a hst hw => ?retracted, fun s a hr hst hf hs hw => ?reload, fun s a pk hpk hl => ?shockRet, fun s a pk hl hpk => ?shockWi,
    fun s a hs ht => ?shockEnd, fun s a hst => ?save, fun s a => ?clear, fun s a => ?tclr⟩
  case seek => exact execSeekTimeout_fails a s n hst (by simp [hp]) ha hn
  case load => exact execLoadAttemptFail_again a s why hst hp ha hw ht
  case unload =>
    show execUnloadComplete a s = _
    exact run_when (by simp [hst, hp]) rfl
  case hold => exact ⟨_, execHoldEnd_unasked a s hst hw hq, by simp [SrvCtl.takeOver, SrvCtl.due, SrvCtl.enter]⟩
  case retracted => exact execRetractComplete_unreset a s hst hw
  case reload =>
    show execReloadAfterRetract a s = _
    exact run_when (by simp [hr, hst, hf, hs, hw]) rfl
  case shockRet =>
    show execShockRet a pk s = _
    exact run_unless (by simp [hl, hpk]) rfl
  case shockWi => exact execShockWi_crossing a s pk hl hpk
  case shockEnd => exact execShockHoldExpiry_onTrack a s hs ht
  case save =>
    show execRroctlSave a s = _
    exact run_when (by simp [hst]) rfl
  case clear =>
    show execRroctlClear a s = _
    exact run_to rfl
  case tclr =>
    show execTclr a s = _
    exact run_to rfl

/-- Settles O46: the lateness of a SETTLE is noted with its report, so that the next expiry finds it noted; nothing that the command does touches the
state. -/
theorem settleTimeoutReportedOnce : Obligations.SettleTimeoutReportedOnce := by
  refine ⟨fun s a hst hl => execSettleTimeout_first a s hst hl, fun s a _ hl => execSettleTimeout_again a s hl, fun s t a hst hx => ?stays⟩
  cases hl : (s.m.srv.get a).settleLate with
  | false =>
    obtain rfl := Host.Outcome.next.inj ((execSettleTimeout_first a s hst hl).symm.trans hx)
    simpa using hst
  | true =>
    obtain rfl := Host.Outcome.next.inj ((execSettleTimeout_again a s hl).symm.trans hx)
    exact hst

end Sys2Proof.Proofs
end

section
/-! PROOFS. The servo's service requests (spec/07 R362 to R364, R379, R407). -/

namespace Sys2Proof.Machine

@[simp] theorem calHolds_accept (h : Hdr) (op : Nat) (x : Bool) (m : Mach) (a : Act) : calHolds (accept h op x m) a = calHolds m a := rfl
@[simp] theorem recordOpen_accept (h : Hdr) (op : Nat) (x : Bool) (m : Mach) : recordOpen (accept h op x m) = recordOpen m := rfl
@[simp] theorem shutOver_accept (h : Hdr) (op : Nat) (x : Bool) (m : Mach) : shutOver (accept h op x m) = shutOver m := rfl

/-- P0 of 0 or 1 names an actuator (R407). -/
theorem badAct_named {h : Hdr} (h0 : h.p0.toNat ≤ 1) : badAct h = (false, stBadParam) := by
  simp [badAct, h0]

/-- A list of reserved parameters is no fault when each is 0. -/
theorem reserved_zero {l : List Reg} (hz : ∀ r ∈ l, r = 0) : reserved l = (false, stBadParam) := by
  simpa [reserved] using hz

end Sys2Proof.Machine

namespace Sys2Proof.Proofs
open Sys2Proof.Machine

/-- Settles O11: each request is served and passes its row's checks, so it is accepted and its row's effect is what it leaves. -/
theorem servoRequestEffects : Obligations.ServoRequestEffects := by
  refine ⟨fun s h hs h0 h1 h2 h3 hc => ?state, fun s h bs hs h0 h1 h2 h3 hst hlen hv hz hw => ?load, fun s h hs h0 h1 h2 h3 hv hst => ?select,
    fun s h hs hm h0 h1 h2 h3 hst => ?opened, fun s h hs hm h0 h1 h2 h3 hst => ?opens, fun s h hs hm hat hfly ho hsh h0 h3 hst hd hr => ?close,
    fun s h hs h0 h1 h2 h3 => ?freeze, fun s h hs h0 h1 h2 h3 hlo hhi => ?set, fun s h hs hm h0 hst hlo hhi ht => ?current⟩
  case state =>
    exact service_step s 0x0501 h lvHost _ _ _ hs (by simp [firstFail_eq_none, reserved_zero, badAct_named h0, h1, h2, h3])
      (by simp [hc])
  case load =>
    have unused : ∀ i < 25, fieldAt bs (4 * (39 + i)) 4 = 0 := by simpa using hw
    exact service_step s 0x0502 h lvMaint _ _ _ hs
      (by simpa [firstFail_eq_none, reserved_zero, badAct_named h0, h1, h2, h3, hst, hlen] using ⟨⟨hv, hz⟩, unused⟩) rfl
  case select =>
    exact service_step s 0x0503 h lvMaint _ _ _ hs (by simp [firstFail_eq_none, reserved_zero, badAct_named h0, h1, h2, h3, hv, hst]) rfl
  case opened =>
    exact service_step s 0x0504 h lvMaint _ _ _ hs (by simp [firstFail_eq_none, reserved_zero, badAct_named h0, hm, h1, h2, h3])
      (if_pos (by simp [hst]))
  case opens =>
    exact service_step s 0x0504 h lvMaint _ _ _ hs (by simp [firstFail_eq_none, reserved_zero, badAct_named h0, hm, h1, h2, h3])
      (if_neg (by simp [hst]))
  case close =>
    have recorded := Option.isSome_iff_ne_none.mpr hr
    exact service_step s 0x0505 h lvMaint _ _ _ hs
      (by simp [firstFail_eq_none, reserved_zero, badAct_named h0, hm, hat, hfly, ho, hst, h3, hd, recorded]) (by simp [hsh, ho])
  case freeze =>
    exact service_step s 0x0506 h lvMaint _ _ _ hs (by simp [firstFail_eq_none, reserved_zero, badAct_named h0, h1, h2, h3]) (by simp [h1])
  case set =>
    exact service_step s 0x0506 h lvMaint _ _ _ hs
      (by simpa [firstFail_eq_none, reserved_zero, badAct_named h0, h1, h3, hlo, hhi] using h2) (by simp [h1])
  case current =>
    exact ⟨_, service_step s 0x0507 h lvMaint _ _ _ hs (by simp [firstFail_eq_none, badAct_named h0, hm, hst, hlo, hhi, ht]) rfl,
      by simp [SrvCtl.enter]⟩

end Sys2Proof.Proofs
end

section
/-! PROOFS. The words of a sequencer that select, seek, gate, read results and fetch descriptors (spec/08 R427, spec/11 R571 to R582). -/

namespace Sys2Proof.Machine

/-- `word_step` for the command of one opcode. -/
theorem fetched_step {s : State} {a : Act} {op : Nat} {act : BitVec 32 → Mach → Mach} {m' : Mach} {w : Reg} (hf : Fetches s.m a w) (hop : wOp w = op)
    (hb : act w s.m = m') : s.run (execWord a (· == op) act) = .next { s with m := m' } :=
  word_step s a _ act m' w hf (by simp [hop]) hb

/-- A GATE that masks neither sector gate drives the other gates and ends; nothing of R579 is judged (R576, R578). -/
theorem gateWord_noSectorGate (a : Act) (w : Reg) (m : Mach) (hr : bit w (17 + gRG) = false) (hw : bit w (17 + gWG) = false) :
    gateWord a w m = wordNext a w (driveGates a w false m) := by
  simp [gateWord, gateStop, hr, hw]

/-- Step 0 of the ladder is always usable (R572). -/
theorem syncSkips_zero (m : Mach) (a : Act) : syncSkips m a 0 = false := by
  simp [syncSkips]

end Sys2Proof.Machine

namespace Sys2Proof.Proofs
open Sys2Proof.Machine

/-- Settles O15: each word is the one that its PC fetches, so that its own effect is what the command leaves; where the word branches, the clause's
conditions take the branch. -/
theorem sequencerMediaWordEffects : Obligations.SequencerMediaWordEffects := by
  refine ⟨fun s a w hf hop hr hw => ?gate, fun s a w k1 k2 hf hop hg => ?head, fun s a w k1 hf hop hg => ?region,
    fun s a w hf hop hn ht => ?ontrack, fun s a w hf hop hv => ?sync, fun s a w hf hop hl => ?xferNone,
    fun s a w i r p hf hop hl hd => ?xferRead, fun s a w x xs r hf hop hx hr => ?decres, fun s a w hf hop hm hn => ?fetch,
    fun s a w hf hop hd hn => ?skipDefect, fun s a w hf hop hd => ?skipSound, fun s a w hf hop => ?align,
    fun s a w hf hop => ?preheat, fun s a w hf hop => ?mark, fun s a w hf hop => ?stat⟩
  case gate => exact fetched_step hf hop (gateWord_noSectorGate a w s.m hr hw)
  case head => exact fetched_step hf hop (if_neg (by simp [hg]))
  case region => exact fetched_step hf hop (if_neg (by simp [hg]))
  case ontrack =>
    have there : following (s.m.onCfx a (·.put fSFAIL false)) a (s.m.hif.get a).selHead.toNat ((s.m.cfx.get a).reg (wReg w)).toNat = true := ht
    exact fetched_step hf hop (by simp only [there, hn, if_true, Bool.false_eq_true, if_false])
  case sync =>
    refine ⟨_, fetched_step hf hop ?_, _, rfl, rfl⟩
    simp [hv, syncSkips_zero, wordNext]
  case xferNone => exact fetched_step hf hop (by simp only [hl]; rfl)
  case xferRead => exact fetched_step hf hop (by simp [hl, hd])
  case decres => exact fetched_step hf hop (by simp only [hx, hr])
  case fetch => exact fetched_step hf hop (by simp [hm, hn])
  case skipDefect => exact fetched_step hf hop (by simp [hd, hn, wordJump])
  case skipSound => exact fetched_step hf hop (if_neg (by simp [hd]))
  case align => exact fetched_step hf hop rfl
  case preheat => exact fetched_step hf hop rfl
  case mark => exact fetched_step hf hop rfl
  case stat => exact fetched_step hf hop rfl

end Sys2Proof.Proofs
end

section
/-! PROOFS. The head interface and the environment sensors (spec/08 R413 to R453). -/

namespace Sys2Proof.Machine

/-- The limit of the assist's temperature depends on the records in force alone. -/
theorem otLimit_congr {m n : Mach} (a : Act) (hs : n.sup = m.sup) : otLimit n a = otLimit m a := by
  simp [otLimit, setting, recVal, hs]

/-! ### Frames and the answers to STATUS -/

section
variable (a : Act) (m : Mach)

/-- Raising or releasing write inhibit leaves the assist cut-off as it is. -/
@[simp] theorem refreshInhibit_otCut : ((refreshInhibit a m).hif.get a).otCut = (m.hif.get a).otCut := by
  unfold refreshInhibit
  (repeat' split) <;> simp

/-- A frame that reads leaves the preamp as it is. -/
theorem sendFrame_read_pre (f : Frame) (acks : List Ack) (x : Bool) (hr : f.write = false) : (sendFrame a f acks x m).pre = m.pre := by
  simp only [sendFrame, hr, ifDo_false]
  split <;> simp

@[simp] theorem assistOver_pwr : (assistOver a m).pwr = m.pwr := by
  unfold assistOver
  dsimp only
  split <;> simp

@[simp] theorem assistCutoff_pwr (t : BitVec 16) : (assistCutoff a t m).pwr = m.pwr := by
  unfold assistCutoff
  dsimp only
  split <;> simp

@[simp] theorem statusActs_pwr (st : BitVec 8) : (statusActs a st m).pwr = m.pwr := by
  unfold statusActs ifDo
  (repeat' split) <;> simp

/-- A STATUS with neither AST_OC nor AST_OT calls for nothing (R441, R443). -/
theorem statusActs_sound (st : BitVec 8) (hoc : st.getLsbD 5 = false) (hot : st.getLsbD 6 = false) : statusActs a st m = m := by
  simp only [statusActs, hoc, hot, ifDo_false]

end

section
variable (a : Act) (s : State)

/-- A poll whose frame is accepted, with TEMP below OT_LIMIT and neither cut-off in STATUS, shows what it has read (R417, R418). -/
theorem execTelemetryPoll_sound (st : BitVec 8) (t v : BitVec 16) (i : BitVec 10) (acks : List Ack) (k n : Mach)
    (hl : s.m.pwr.loss = false) (hr : inReset s.m (.act a) = false)
    (hk : k = s.m.onPre a (fun p => { p with temp := t, astMeas := i.zeroExtend 16, astVmeas := v }))
    (hn : n = k.onPre a (fun p => { p with status := p.status ||| st ||| ownCutoff k a }))
    (hacc : (frameTries n a pollFrame acks).getLast?.getD .silent = .accepted) (ht : t.toInt < 4 * (otLimit s.m a : Int))
    (hoc : (n.pre.get a).status.getLsbD 5 = false) (hot : (n.pre.get a).status.getLsbD 6 = false) :
    execTelemetryPoll a st t v i false acks s = .next { s with m := (sendFrame a pollFrame acks false n).onHif a (fun h => { h with
      paStatus := (n.pre.get a).status, paTemp := t, vmeas := v, imeas := i }) } := by
  have sup : n.sup = s.m.sup := by rw [hn, hk]; rfl
  have pwr : n.pwr = s.m.pwr := by rw [hn, hk]; rfl
  have status := sendFrame_read_pre a n pollFrame acks false rfl
  have cool (f : Hif → Hif) : ¬ 4 * (otLimit ((sendFrame a pollFrame acks false n).onHif a f) a : Int) ≤ t.toInt := by
    rw [otLimit_congr a (m := s.m) (by simp [sup])]
    omega
  refine runCut_calm_to ?_ (by simp [pwr, hl])
  simp only [← hk, ← hn, hr, hacc, status, cool, statusActs_sound _ _ _ hoc hot, Bool.or_self, beq_self_eq_true, Bool.not_true, decide_false,
    Bool.false_eq_true, if_false]

/-- HBCTL takes its frame when the actuator is out of reset (R419). -/
theorem execHbctlGo_unreset (acks : List Ack) (hr : inReset s.m (.act a) = false) :
    execHbctlGo a acks s = .next { s with m := hbctlGo a acks s.m } :=
  run_unless hr rfl

/-- In SERVICE with the sequencer halted a frame through HBCTL is sent, and ACK shows the last answer to it (R419). -/
theorem hbctlGo_served (acks : List Ack) (m : Mach) (hm : m.sup.mode = .service) (hh : cfxHalted m a = true) :
    ((hbctlGo a acks m).hif.get a).hbDone = true ∧ ((hbctlGo a acks m).hif.get a).hbAck = BitVec.ofNat 2
      ((frameTries m a ⟨!(m.hif.get a).hbRw, (m.hif.get a).hbPage.toNat, (m.hif.get a).hbAddr.toNat,
        if (m.hif.get a).hbRw then [] else [(m.hif.get a).hbData], 1⟩ acks).getLast?.getD .silent).code := by
  simp [hbctlGo, hm, hh]

/-- Once TEMP is OT_HYST below OT_LIMIT, the assist cut-off ends (R442). -/
theorem execAssistOtEnd_cooled (t : BitVec 16) (hc : (s.m.hif.get a).otCut = true) (ht : t.toInt ≤ 4 * ((otLimit s.m a : Int) - otHyst s.m a)) :
    ∃ m', execAssistOtEnd a t s = .next { s with m := m' } ∧ (m'.hif.get a).otCut = false :=
  ⟨_, run_unless (by simpa [hc] using ht) rfl, by simp⟩

end

/-! ### Sensors -/

/-- From `m` to `n` the supervisor changes nothing but which sensors are outside their limits. -/
def SameReadings (m n : Mach) : Prop := n.sup = { m.sup with sensOut := n.sup.sensOut }

theorem SameReadings.of_sup {m n : Mach} (h : n.sup = m.sup) : SameReadings m n := by
  rw [SameReadings, h]

theorem SameReadings.trans {m n k : Mach} (h : SameReadings m n) (g : SameReadings n k) : SameReadings m k := by
  rw [SameReadings, g, h]

/-- One limit of record 0x0002, judged unless its sensor is at fault, changes no reading (R453). -/
theorem SameReadings.limit {m n : Mach} (h : SameReadings m n) (fault : Bool) (b code : Nat) (out : Bool) (pre post : List Byte) :
    SameReadings m (if fault then n else sensorLimit b code out pre post n) := by
  refine h.trans ?_
  unfold sensorLimit
  split
  · exact .of_sup rfl
  · split
    · exact .of_sup rfl
    · rw [SameReadings, report_sup]

/-- The reports of the sensors that have newly failed change nothing of the supervisor (R452). -/
theorem faultReports_sup (new : BitVec 4) (m : Mach) :
    ((List.range 4).foldl (fun m i => ifDo (new.getLsbD i) (report 0x0033 nowhere (leBytes 1 i)) m) m).sup = m.sup :=
  List.foldlRecOn (motive := fun n => n.sup = m.sup) _ _ rfl fun n hn _ _ => (ifDo_keeps Mach.sup _ _ n (report_sup _ _ _)).trans hn

/-- Each bit of SENSSTAT.FAULT is its input's test (R452, R1011). -/
theorem sensorFaults_tests (v0 v1 vp vh : BitVec 16) :
    ([v0, v1, vp, vh].zip (List.range 4)).all (fun v => (sensorFaults v0 v1 vp vh).getLsbD v.2 == sensorBad v.1) = true := by
  simp only [sensorFaults, show List.range 4 = [0, 1, 2, 3] from rfl, List.zip_cons_cons, List.zip_nil_right, List.all_cons, List.all_nil]
  generalize sensorBad v0 = b0, sensorBad v1 = b1, sensorBad vp = b2, sensorBad vh = b3
  revert b0 b1 b2 b3
  decide

/-- A sample takes its readings and judges the limits of the sensors that are sound; with none sound it judges nothing (R450 to R453). -/
theorem execSensorSample_readings (v0 v1 vp vh x y : BitVec 16) (s : State) : ∃ m', execSensorSample v0 v1 vp vh x y s = .next { s with m := m' } ∧
    SameReadings (takeReadings v0 v1 vp vh x y s.m) m' ∧ (sensorFaults v0 v1 vp vh = 0xF → m'.sup.sensOut = s.m.sup.sensOut) := by
  refine ⟨_, run_to rfl, ?_, fun hall => ?_⟩
  · exact ((((SameReadings.of_sup (faultReports_sup _ _)).limit _ _ _ _ _ _).limit _ _ _ _ _ _).limit _ _ _ _ _ _).limit _ _ _ _ _ _
  · have bad : ∀ i < 4, (takeReadings v0 v1 vp vh x y s.m).sup.sensFault.getLsbD i = true := by
      rw [show (takeReadings v0 v1 vp vh x y s.m).sup.sensFault = 0xF from hall]
      decide
    simp only [bad 0 (by decide), bad 1 (by decide), bad 2 (by decide), bad 3 (by decide), if_true, faultReports_sup]
    rfl

end Sys2Proof.Machine

namespace Sys2Proof.Proofs
open Sys2Proof.Machine

/-- Settles O12: each event finds its condition met and has its effect, outside the power-loss sequence with nothing cut off. That a frame of HBCTL is
resent as every other (log entry 27), that SENSOR_SAMPLE carries the inputs of all sensors (84), and the units, the truncation and the readings of faulty
sensors (104) are the model's choices. -/
theorem headInterfaceEffects : Obligations.HeadInterfaceEffects := by
  refine ⟨fun s a f acks hl hr => ?frame, fun s a st t v i acks k n hl hr hk hn hacc ht hoc hot => ?poll, fun s a st t v i acks hl => ?abandoned,
    fun s a acks hr hm hh => ?hbctl, fun s a hr => ?heater, fun s a st n k hl hr hn hk => ?wusAssert, fun s a => rfl,
    fun s a t hc ht => ?otEnd, fun s a mask => rfl, fun s v0 v1 vp vh x y => ?sensors⟩
  case frame =>
    show execHeadBusFrame a f acks s = _
    exact runCut_calm_to (if_neg (by simp [hr])) (by simpa using hl)
  case poll => exact execTelemetryPoll_sound a s st t v i acks k n hl hr hk hn hacc ht hoc hot
  case abandoned =>
    show execTelemetryPoll a st t v i true acks s = _
    exact runCut_calm_to (if_pos (by simp)) hl
  case hbctl => exact ⟨_, execHbctlGo_unreset a s acks hr, hbctlGo_served a acks s.m hm hh⟩
  case heater =>
    show execHeaterReady a s = _
    exact run_unless hr rfl
  case wusAssert =>
    subst hk hn
    show execWusNAssert a st s = _
    exact runCut_calm_to (if_neg (by simp [hr])) (by simpa using hl)
  case otEnd => exact execAssistOtEnd_cooled a s t hc ht
  case sensors =>
    obtain ⟨m', hex, hsup, hall⟩ := execSensorSample_readings v0 v1 vp vh x y s
    refine ⟨m', hex, ?_⟩
    dsimp only
    rw [hsup]
    exact ⟨rfl, rfl, rfl, rfl, rfl, sensorFaults_tests v0 v1 vp vh, hall⟩

end Sys2Proof.Proofs
end

section
/-! PROOFS. The read channel's events and service requests (spec/09 R458 to R507). -/

namespace Sys2Proof.Machine

@[simp] theorem dataHead_accept (h : Hdr) (op : Nat) (x : Bool) (m : Mach) (a : Act) (n : Nat) : dataHead (accept h op x m) a n = dataHead m a n := rfl
@[simp] theorem calHeld_accept (h : Hdr) (op : Nat) (x : Bool) (m : Mach) (a : Act) (n : Nat) : calHeld (accept h op x m) a n = calHeld m a n := rfl

/-- The metrics of a head that no calibration holds are those in the channel's table (R508). -/
theorem metOf_unheld (m : Mach) (a : Act) (n r : Nat) (hc : calHeld m a n = false) : metOf m a n r = assoc {} (m.ch.get a).mets (rtKey n r) :=
  if_neg (by simp [hc])

/-- The verdict of a decode on the fly that yields a codeword with the TAG asked for (R487, R488). -/
def flyVerdict (x : Sec) (k : SyncKind × Int) (d : Decode) : Verdict :=
  ⟨decOk, x.step, k.1.code, k.2, d.iters, d.iters, d.flips, false⟩

/-- A decode on the fly that succeeds under the sector's own TAG decides the sector, and no ladder step runs (R487, R488). -/
theorem judgeSector_onFly (mask : Nat) (x : Sec) (k : SyncKind × Int) (p : Payload) (g : SecSignal) (hok : g.fly.ok = true)
    (ht : p.info.tag = x.tag) : judgeSector mask x k (some p) g = flyVerdict x k g.fly := by
  simp [judgeSector, flyVerdict, hok, ht]

/-- The result word that a verdict gives (R492, Table 9-15 LASTSEC). -/
def Verdict.word (v : Verdict) : Reg := secWord v.step v.dec v.sync v.slip v.iters v.flips

@[simp] theorem flyVerdict_word (x : Sec) (k : SyncKind × Int) (d : Decode) :
    (flyVerdict x k d).word = secWord x.step decOk k.1.code k.2 d.iters d.flips := rfl

section
variable (a : Act) (m : Mach) (x : Sec) (g : SecSignal)

/-- Taking a sector changes nothing of the other channel. -/
theorem sectorTake_other (v : Verdict) (w : Reg) (found : Option Payload) : (sectorTake a x v w found g m).ch.get a.other = m.ch.get a.other := by
  simp [sectorTake]

/-- A sector decoded on the fly is counted as good, with its corrected bits, and delivers its word and its payload (R491, Table 9-12). -/
theorem sectorTake_onFly (k : SyncKind × Int) (d : Decode) (w : Reg) (p : Payload) :
    (sectorTake a x (flyVerdict x k d) w (some p) g m).ch.get a = { (m.ch.get a).measure x (flyVerdict x k d) g.mse with
      secs := deliverFirst w (some p) (m.ch.get a).secs
      lastSec := w, trLost := g.trLost, phErr := g.phErr, fofs := g.fofs, gains := g.gains
      secCnt := (m.ch.get a).secCnt.inc, corrBits := (m.ch.get a).corrBits.add d.flips } := by
  simp [sectorTake, flyVerdict, Chan.measure]

/-- The oldest sector without a result, a framed read whose decode on the fly succeeds, is taken and reported, and the channel adapts from it
(R458, R487). -/
theorem sectorResult_onFly (k : SyncKind × Int) (p : Payload) (g' : SecSignal) (v : Verdict) (hx : (m.ch.get a).secs.find? (·.result.isNone) = some x)
    (hr : x.write = false) (hstore : x.store.isSome = true) (hsync : x.sync = some k) (hk : k.1 ≠ .miss) (hp : readBack m a x = some p)
    (ht : p.info.tag = x.tag) (hg : g' = capSignal g (m.ch.get a)) (hok : g'.fly.ok = true) (hv : v = flyVerdict x k g'.fly) :
    sectorResult a g m = sectorAdapt a x g' (sectorReports a x v v.word (some p) g' (sectorTake a x v v.word (some p) g' m)) := by
  have read : (x.write || x.store.isNone) = false := by simp [hr, ← Option.not_isSome, hstore]
  have hit : (k.1 == .miss) = false := beq_false_of_ne hk
  have decoded : (v.dec == decOk) = true := by simp [hv, flyVerdict]
  subst hg
  simp only [sectorResult, hx, read, hsync, hit, hp, judgeSector_onFly _ x k p _ hok ht, ← hv, decoded, if_true, Bool.false_eq_true, if_false]
  rfl

end

/-- A decision frames the first read sector that has neither framing nor result, and is counted (R479 to R485). -/
theorem execSyncDecision_open (a : Act) (pn bg : List (Int × Nat)) (s : State) (k : SyncKind × Int)
    (ho : (s.m.ch.get a).secs.any (fun x => !x.write && x.sync.isNone && x.result.isNone) = true)
    (hk : k = syncDecide (s.m.ch.get a).step.toNat (s.m.ch.get a).pnTol.toNat (s.m.ch.get a).bgTol.toNat pn bg) :
    execSyncDecision a pn bg s = .next { s with
      m := s.m.onCh a (fun c => { c.countSync k.1 with secs := frameFirst k c.secs, acq := false, tracking := true }) } := by
  subst hk
  exact run_unless (by simp [ho]) rfl

/-- The trigger answers the capture that waits, with both buffers filled up with zeros (R507). -/
theorem execCaptureTrigger_pending (a : Act) (b : Reg) (xs : List Byte) (s : State) (h : Hdr) (hc : (s.m.ch.get a).capture = some h) :
    execCaptureTrigger a b xs s = .next { s with m := reply h stOk b.toNat ((xs ++ List.replicate 8192 0).take 8192) (s.m.onCh a (fun c =>
      { c with capture := none, capDone := true, samples := (xs ++ List.replicate 8192 0).take 8192 })) } :=
  run_to (by simp only [hc])

end Sys2Proof.Machine

namespace Sys2Proof.Proofs
open Sys2Proof.Machine

/-- Settles O13: a decision frames the sector whose gate is open; a sector decoded on the fly is taken, and neither its reports nor the adaptation touch
its counts or its result; a capture answers the request that waits; each request is served and passes its row's checks. -/
theorem channelEffects : Obligations.ChannelEffects := by
  refine ⟨fun s a pn bg hopen => ?sync, fun s a g g' x k p hx hr hstore hsync hk hp ht hg hok => ?result, fun s a b xs h hcap => ?trigger,
    fun s h a hs h3 ha hlo hhi hreg hd hc => ?metrics, fun s h a hs h3 ha h1 h2 hcap => ?capture⟩
  case sync => exact ⟨_, execSyncDecision_open a pn bg s _ hopen rfl, _, rfl, rfl⟩
  case result =>
    refine ⟨_, run_to (sectorResult_onFly a s.m x g k p g' _ hx hr hstore hsync hk hp ht hg hok rfl), ?_⟩
    simp [sectorAdapt_ch, sectorTake_onFly, sectorTake_other, Chan.measure]
  case trigger => exact execCaptureTrigger_pending a b xs s h hcap
  case metrics =>
    have single : ¬ h.p2 = 255#32 := fun e => absurd hreg (by rw [e]; decide)
    exact service_step s 0x0701 h lvHost _ _ _ hs (by simp [firstFail_eq_none, reserved_zero, h3, ha, hlo, hhi, hreg, hd])
      (by simp [ha, single, hc, metOf_unheld])
  case capture =>
    exact service_step s 0x0702 h lvMaint _ _ _ hs (by simp [firstFail_eq_none, reserved_zero, h3, ha, h1, h2, hcap]) (by simp [ha])

end Sys2Proof.Proofs
end

section
/-! PROOFS. Calibration: the check of the temperatures, the slices, the steps and the requests (spec/10 R514 to R549). -/

namespace Sys2Proof.Machine

section
variable (a : Act) (s : State)

/-- Preemption begins with the first job that is due: it is reported, and a slice starts (R526). -/
theorem execCalDeferExpiry_preempts (j : CalJob) (hrun : calHolds s.m a = false) (hpre : (s.m.cal.act.get a).preempt = false)
    (hj : (calCands s.m a).head? = some j) :
    execCalDeferExpiry a s = .next { s with m := openSlice a (report 0x1323 (onAct a) (leBytes 1 a.idx ++ leBytes 1 j.kind)
      (s.m.onCal a (fun c => { c with preempt := true }))) } :=
  run_unless hrun (by simp [beginPreempt, hpre, hj])

/-- The run once a step has taken `us` of its slice (R524, R531). -/
def CalRun.charged (us : Nat) (r : CalRun) : CalRun :=
  { r with sliceUs := r.sliceUs + us, totalUs := r.totalUs + us, steps := BitVec.ofNat 8 (satTo 255 (r.steps.toNat + 1)) }

/-- Another revolution of the run would pass the limit of its slice (R524). -/
abbrev SliceFull (m : Mach) (q : CalRun) : Prop := 1000 * sliceMs m < q.sliceUs + (60000000 + rpmFull m - 1) / rpmFull m

/-- What CAL_STEP does once the measurement has been taken: it goes on in the slice or ends it. -/
def calAfterStep (a : Act) (head : Nat) (m : Mach) : Mach :=
  let ends := match (m.cal.act.get a).run with
    | none => true
    | some q => decide (SliceFull m q)
  let n := ifDo (m.cal.act.get a).run.isNone (fun k => releaseHeldDo (modeAdvance k)) m
  if ends then sliceEnd a (mediaIdle n a) (headWaited n a head) n else n

/-- While the run goes on, only a full slice ends (R524, R529). -/
theorem calAfterStep_running (head : Nat) (m : Mach) (q : CalRun) (hq : (m.cal.act.get a).run = some q) :
    calAfterStep a head m = if SliceFull m q then sliceEnd a (mediaIdle m a) (headWaited m a head) m else m := by
  simp only [calAfterStep, hq, Option.isNone_some, ifDo_false, decide_eq_true_eq]

/-- What a step's measurement leaves: its run is judged on it, or abandoned past RUN_MAX (R529, R531). -/
def calMeasured (p : CalRun) (x : CalMeas) (temp : BitVec 16) (m : Mach) : Mach :=
  if 1000 * runMax m < p.totalUs then calAbandon a 4 m else calApplyMeas a p x temp m

/-- A step of a run in its slice is charged to the run, measured, and goes on in the slice or ends it (R524). -/
theorem execCalStep_inSlice (us : Nat) (x : CalMeas) (temp : BitVec 16) (r : CalRun) (hr : (s.m.cal.act.get a).run = some r)
    (hin : r.inSlice = true) :
    execCalStep a us x temp s = .next { s with
      m := calAfterStep a r.job.head (calMeasured a (r.charged us) x temp (onRun a (fun _ => r.charged us) s.m)) } := by
  refine run_to ?_
  simp only [hr]
  exact if_neg (by simp [hin])

/-- A step within RUN_MAX whose run goes on leaves the judged machine, its slice ended exactly when that is full (R524, R529). -/
theorem execCalStep_running (us : Nat) (x : CalMeas) (temp : BitVec 16) (r p q : CalRun) (m1 : Mach)
    (hr : (s.m.cal.act.get a).run = some r) (hin : r.inSlice = true) (hp : p = r.charged us)
    (hmax : p.totalUs ≤ 1000 * runMax (onRun a (fun _ => p) s.m)) (hm : m1 = calApplyMeas a p x temp (onRun a (fun _ => p) s.m))
    (hq : (m1.cal.act.get a).run = some q) :
    execCalStep a us x temp s = .next { s with
      m := if SliceFull m1 q then sliceEnd a (mediaIdle m1 a) (headWaited m1 a r.job.head) m1 else m1 } := by
  have judged : calMeasured a p x temp (onRun a (fun _ => p) s.m) = m1 := (if_neg (Nat.not_lt.mpr hmax)).trans hm.symm
  rw [execCalStep_inSlice a s us x temp r hr hin, ← hp, judged, calAfterStep_running a r.job.head m1 q hq]

end

/-- The modes in which CAL_RUN is served (R549). -/
theorem calRun_modeServes {x : Mode} (hx : x = .idleFly ∨ x = .active ∨ x = .service) :
    (x != .idleFly && x != .active && x != .service) = false := by
  rcases hx with rfl | rfl | rfl <;> rfl

theorem bit_zero_of_eq_zero {r : Reg} (hr : r = 0) : bit r 0 = false := by
  rw [hr]
  rfl

/-- A CAL_RUN that is not forced asks for the authority of a host (R549). -/
theorem served_unforced {m : Mach} {h : Hdr} (hs : Served m h lvHost) (h3 : h.p3 = 0) :
    Served m h (if bit h.p3 0 then lvMaint else lvHost) := by
  rwa [bit_zero_of_eq_zero h3]

end Sys2Proof.Machine

namespace Sys2Proof.Proofs
open Sys2Proof.Machine

/-- Settles O17: each event finds its condition met and has its effect; a step whose run goes on ends its slice exactly when one more revolution would
not fit; each request is served and passes its row's checks. That a step fits when one revolution still fits (log entry 36), that the entries of the queue
are the CAL_RUN requests of the actuator and that CAL_STATUS lists by kind with DH rising (39) are the model's choices. -/
theorem calibrationEffects : Obligations.CalibrationEffects := by
  refine ⟨fun s h0 h1 d0 d1 => rfl, fun s a hgap hidle => ?slice, fun s a j hrun hpre hj => execCalDeferExpiry_preempts a s j hrun hpre hj,
    fun s a hgap => ?gap, fun s a us x temp r p q m1 hr hin hp hmax hm hq hfits => ?goesOn,
    fun s a us x temp r p q m1 hr hin hp hmax hm hq hover => ?sliceEnds, fun s h hs hmode h3 h0 hmeas hby => ?bulkcap,
    fun s h hs hmode h3 h0 hnamed hsame0 hsame1 hroom0 hroom1 => ?queued, fun s h hs h0 h1 h2 h3 => ?status,
    fun s h hs h2 h3 h0 h1 => ?trigger⟩
  case slice =>
    show execCalSliceStart a s = _
    exact run_unless (by simp [hgap, hidle]) rfl
  case gap =>
    show execCalGapExpiry a s = _
    exact run_when hgap rfl
  case goesOn =>
    show execCalStep a us x temp s = _
    rw [execCalStep_running a s us x temp r p q m1 hr hin hp hmax hm hq, if_neg (Nat.not_lt.mpr hfits)]
  case sliceEnds =>
    show execCalStep a us x temp s = _
    rw [execCalStep_running a s us x temp r p q m1 hr hin hp hmax hm hq, if_pos hover]
  case bulkcap =>
    exact ⟨_, service_step s 0x0401 h _ _ _ _ (served_unforced hs h3)
      (by simp [firstFail_eq_none, reserved_zero, calRun_modeServes hmode, h3, h0, hmeas, hby]) (if_pos h0), _, rfl, rfl⟩
  case queued =>
    have other : h.p0 ≠ 5#32 := fun e => absurd h0 (by rw [e]; decide)
    have noForce : ¬ bit h.p3 0 = true := by simp [bit_zero_of_eq_zero h3]
    have known : ¬ 5 < h.p0.toNat := by omega
    have room0 : ¬ 16 ≤ (s.m.cal.act.get .a0).queue.length := by omega
    have room1 : ¬ 16 ≤ (s.m.cal.act.get .a1).queue.length := by omega
    exact ⟨_, service_step s 0x0401 h _ _ _ _ (served_unforced hs h3)
      (by simp [firstFail_eq_none, reserved_zero, calRun_modeServes hmode, h3, known, other, hnamed, hsame0, hsame1, room0, room1])
      ((if_neg other).trans (if_neg noForce)), _, rfl, rfl⟩
  case status =>
    exact ⟨_, service_step s 0x0402 h lvHost _ _ _ hs (by simp [firstFail_eq_none, reserved_zero, h0, h1, h2, h3]) rfl, _, rfl, rfl⟩
  case trigger =>
    have range : h.p1 ≠ 0 → 10 ≤ h.p1.toNat ∧ h.p1.toNat ≤ 200 := h1.resolve_left
    exact ⟨_, service_step s 0x0403 h lvMaint _ _ _ hs (by simpa [firstFail_eq_none, reserved_zero, h2, h3, h0] using range) rfl, _, rfl, rfl⟩

end Sys2Proof.Proofs
end

section
/-! PROOFS. The step and the queue, and one-time memory under every command (spec/17 R870 to R872, spec/19 R945, R946). -/

namespace Sys2Proof.Machine

/-- Every command but CONTROLLER_READY answers a next state, with the queue as before, and keeps one-time memory (R872). -/
theorem exec_keeps_id (c : Instr) (s : State) (hc : ∀ x, c ≠ .controllerReady x) :
    ∃ m', exec c s = .next { s with m := m' } ∧ m'.id = s.m.id := by
  cases c with
  | powerOnReset => exact execPowerOnReset_id ..
  | inputKindClassify => exact execInputKindClassify_id ..
  | pfcStart => exact execPfcStart_id ..
  | inputOutOfRange => exact execInputOutOfRange_id ..
  | inputOvervoltage => exact execInputOvervoltage_id ..
  | prechargeBypass => exact execPrechargeBypass_id ..
  | llcStart => exact execLlcStart_id ..
  | inputAbsentTimeout => exact execInputAbsentTimeout_id ..
  | vbulkBelow330 => exact execVbulkBelow330_id ..
  | inputDropout => exact execInputDropout_id ..
  | vbulkBelow180 => exact execVbulkBelow180_id ..
  | powerLossSequenceEnd => exact execPowerLossSequenceEnd_id ..
  | bulkcapStart => exact execBulkcapStart_id ..
  | bulkcapComplete => exact execBulkcapComplete_id ..
  | bulkcapAbandon => exact execBulkcapAbandon_id ..
  | brakeChopperGate => exact execBrakeChopperGate_id ..
  | brakeChopperRelease => exact execBrakeChopperRelease_id ..
  | chopperFault => exact execChopperFault_id ..
  | chopperWithhold => exact execChopperWithhold_id ..
  | chopperUnwithhold => exact execChopperUnwithhold_id ..
  | vmotOvpTrip => exact execVmotOvpTrip_id ..
  | vmotOvpRelease => exact execVmotOvpRelease_id ..
  | faultClr => exact execFaultClr_id ..
  | railFault => exact execRailFault_id ..
  | railRecoveryReset => exact execRailRecoveryReset_id ..
  | lifeCounterPersist => exact execLifeCounterPersist_id ..
  | rootPllLossOfLock => exact execRootPllLossOfLock_id ..
  | rootPllRelock => exact execRootPllRelock_id ..
  | crystalStop => exact execCrystalStop_id ..
  | crystalReturn => exact execCrystalReturn_id ..
  | chPllLossOfLock => exact execChPllLossOfLock_id ..
  | chPllRelock => exact execChPllRelock_id ..
  | freqKhzWrite => exact execFreqKhzWrite_id ..
  | freqSettled => exact execFreqSettled_id ..
  | crossingTransfer => exact execCrossingTransfer_id ..
  | islandTorn => exact execIslandTorn_id ..
  | groupResetRelease => exact execGroupResetRelease_id ..
  | uncorrectableError => exact execUncorrectableError_id ..
  | identityCheck => exact execIdentityCheck_id ..
  | firmwareSlotSelect => exact execFirmwareSlotSelect_id ..
  | settingsBankSelect => exact execSettingsBankSelect_id ..
  | dramTrainingComplete => exact execDramTrainingComplete_id ..
  | payloadReadComplete => exact execPayloadReadComplete_id ..
  | microcodeLoad => exact execMicrocodeLoad_id ..
  | vaultReplay => exact execVaultReplay_id ..
  | engineBoot => exact execEngineBoot_id ..
  | spinUpStart => exact execSpinUpStart_id ..
  | controllerReady x => exact absurd rfl (hc x)
  | mediaReady => exact execMediaReady_id ..
  | lastShutdownResolve => exact execLastShutdownResolve_id ..
  | mediaHoldExpiry => exact execMediaHoldExpiry_id ..
  | activeIdleTimeout => exact execActiveIdleTimeout_id ..
  | setFeaturesPowerManagement => exact execSetFeaturesPowerManagement_id ..
  | apstTransition => exact execApstTransition_id ..
  | pwrDisAssert => exact execPwrDisAssert_id ..
  | pwrDisRelease => exact execPwrDisRelease_id ..
  | shutdownDestageDone => exact execShutdownDestageDone_id ..
  | shutLimitExpiry => exact execShutLimitExpiry_id ..
  | shutdownComplete => exact execShutdownComplete_id ..
  | shutdownNotification => exact execShutdownNotification_id ..
  | controllerEnable => exact execControllerEnable_id ..
  | controllerDisable => exact execControllerDisable_id ..
  | catchListenEnd => exact execCatchListenEnd_id ..
  | alignEnd => exact execAlignEnd_id ..
  | rampHandover => exact execRampHandover_id ..
  | startAttemptFail => exact execStartAttemptFail_id ..
  | startRetry => exact execStartRetry_id ..
  | spinUpTimeout => exact execSpinUpTimeout_id ..
  | pwmPeriod => exact execPwmPeriod_id ..
  | zeroCrossing => exact execZeroCrossing_id ..
  | commutation => exact execCommutation_id ..
  | flyOkLoss => exact execFlyOkLoss_id ..
  | rotorLoss => exact execRotorLoss_id ..
  | phaseOvercurrent => exact execPhaseOvercurrent_id ..
  | relock => exact execRelock_id ..
  | listenWindowExpiry => exact execListenWindowExpiry_id ..
  | standstill => exact execStandstill_id ..
  | onceAroundMark => exact execOnceAroundMark_id ..
  | indexUnanchorTimeout => exact execIndexUnanchorTimeout_id ..
  | spnSetDemand => exact execSpnSetDemand_id ..
  | spnGetState => exact execSpnGetState_id ..
  | spnLoadCurve => exact execSpnLoadCurve_id ..
  | demodWindow => exact execDemodWindow_id ..
  | indexFrame => exact execIndexFrame_id ..
  | acqLimitExpiry => exact execAcqLimitExpiry_id ..
  | markMissing => exact execMarkMissing_id ..
  | alignmentField => exact execAlignmentField_id ..
  | currentLoopSample => exact execCurrentLoopSample_id ..
  | positionCycle => exact execPositionCycle_id ..
  | bankSelect => exact execBankSelect_id ..
  | seekTimeout => exact execSeekTimeout_id ..
  | settleTimeout => exact execSettleTimeout_id ..
  | loadAttemptFail => exact execLoadAttemptFail_id ..
  | unloadComplete => exact execUnloadComplete_id ..
  | holdEnd => exact execHoldEnd_id ..
  | retractComplete => exact execRetractComplete_id ..
  | reloadAfterRetract => exact execReloadAfterRetract_id ..
  | shockRet => exact execShockRet_id ..
  | shockWi => exact execShockWi_id ..
  | shockHoldExpiry => exact execShockHoldExpiry_id ..
  | rroctlSave => exact execRroctlSave_id ..
  | rroctlClear => exact execRroctlClear_id ..
  | tclr => exact execTclr_id ..
  | srvGetState => exact execSrvGetState_id ..
  | srvLoadBank => exact execSrvLoadBank_id ..
  | srvSelectBank => exact execSrvSelectBank_id ..
  | srvOpenLoop => exact execSrvOpenLoop_id ..
  | srvCloseLoop => exact execSrvCloseLoop_id ..
  | srvRroControl => exact execSrvRroControl_id ..
  | srvSetCurrent => exact execSrvSetCurrent_id ..
  | headBusFrame => exact execHeadBusFrame_id ..
  | telemetryPoll => exact execTelemetryPoll_id ..
  | hbctlGo => exact execHbctlGo_id ..
  | heaterReady => exact execHeaterReady_id ..
  | wusNAssert => exact execWusNAssert_id ..
  | assistOtEnd => exact execAssistOtEnd_id ..
  | astfaultClear => exact execAstfaultClear_id ..
  | sensorSample => exact execSensorSample_id ..
  | syncDecision => exact execSyncDecision_id ..
  | sectorResult => exact execSectorResult_id ..
  | captureTrigger => exact execCaptureTrigger_id ..
  | chGetMetrics => exact execChGetMetrics_id ..
  | chCapture => exact execChCapture_id ..
  | calTemperatureCheck => exact execCalTemperatureCheck_id ..
  | calSliceStart => exact execCalSliceStart_id ..
  | calDeferExpiry => exact execCalDeferExpiry_id ..
  | calGapExpiry => exact execCalGapExpiry_id ..
  | calStep => exact execCalStep_id ..
  | calRun => exact execCalRun_id ..
  | calStatus => exact execCalStatus_id ..
  | calSetTrigger => exact execCalSetTrigger_id ..
  | operationDispatch => exact execOperationDispatch_id ..
  | cfxNop => exact execCfxNop_id ..
  | cfxWait => exact execCfxWait_id ..
  | cfxWaitev => exact execCfxWaitev_id ..
  | cfxJmp => exact execCfxJmp_id ..
  | cfxJcc => exact execCfxJcc_id ..
  | cfxCall => exact execCfxCall_id ..
  | cfxRet => exact execCfxRet_id ..
  | cfxDecjnz => exact execCfxDecjnz_id ..
  | cfxTrap => exact execCfxTrap_id ..
  | cfxHalt => exact execCfxHalt_id ..
  | cfxIrq => exact execCfxIrq_id ..
  | cfxLoadc => exact execCfxLoadc_id ..
  | cfxAddc => exact execCfxAddc_id ..
  | cfxCmpc => exact execCfxCmpc_id ..
  | cfxSetf => exact execCfxSetf_id ..
  | cfxGate => exact execCfxGate_id ..
  | cfxHead => exact execCfxHead_id ..
  | cfxRegion => exact execCfxRegion_id ..
  | cfxOntrack => exact execCfxOntrack_id ..
  | cfxSync => exact execCfxSync_id ..
  | cfxXfer => exact execCfxXfer_id ..
  | cfxDecres => exact execCfxDecres_id ..
  | cfxFetch => exact execCfxFetch_id ..
  | cfxSkipdef => exact execCfxSkipdef_id ..
  | cfxAlign => exact execCfxAlign_id ..
  | cfxPreheat => exact execCfxPreheat_id ..
  | cfxMark => exact execCfxMark_id ..
  | cfxStat => exact execCfxStat_id ..
  | stallEnd => exact execStallEnd_id ..
  | waitevTimeout => exact execWaitevTimeout_id ..
  | tposAnchor => exact execTposAnchor_id ..
  | gateCountExpiry => exact execGateCountExpiry_id ..
  | sectorGateClose => exact execSectorGateClose_id ..
  | abortRequest => exact execAbortRequest_id ..
  | opTmoExpiry => exact execOpTmoExpiry_id ..
  | storeScrub => exact execStoreScrub_id ..
  | storedataWrite => exact execStoredataWrite_id ..
  | cfxLoad => exact execCfxLoad_id ..
  | cfxStatus => exact execCfxStatus_id ..
  | queueEntry => exact execQueueEntry_id ..
  | speculationStart => exact execSpeculationStart_id ..
  | operationComplete => exact execOperationComplete_id ..
  | ageCapDouble => exact execAgeCapDouble_id ..
  | cleaningWindow => exact execCleaningWindow_id ..
  | cleanStarved => exact execCleanStarved_id ..
  | ps1DutyUpdate => exact execPs1DutyUpdate_id ..
  | ps1CapFail => exact execPs1CapFail_id ..
  | nvmeRead => exact execNvmeRead_id ..
  | nvmeWrite => exact execNvmeWrite_id ..
  | nvmeZoneAppend => exact execNvmeZoneAppend_id ..
  | nvmeOpenZone => exact execNvmeOpenZone_id ..
  | nvmeCloseZone => exact execNvmeCloseZone_id ..
  | nvmeFinishZone => exact execNvmeFinishZone_id ..
  | nvmeResetZone => exact execNvmeResetZone_id ..
  | nvmeZoneManagementReceive => exact execNvmeZoneManagementReceive_id ..
  | nvmeDatasetManagement => exact execNvmeDatasetManagement_id ..
  | nvmeWriteZeroes => exact execNvmeWriteZeroes_id ..
  | nvmeCompare => exact execNvmeCompare_id ..
  | nvmeVerify => exact execNvmeVerify_id ..
  | nvmeFlush => exact execNvmeFlush_id ..
  | nvmeFormatNvm => exact execNvmeFormatNvm_id ..
  | nvmeSanitize => exact execNvmeSanitize_id ..
  | nvmeNamespaceManagement => exact execNvmeNamespaceManagement_id ..
  | nvmeNamespaceAttachment => exact execNvmeNamespaceAttachment_id ..
  | nvmeIdentify => exact execNvmeIdentify_id ..
  | nvmeGetLogPage => exact execNvmeGetLogPage_id ..
  | nvmeSetFeaturesTimestamp => exact execNvmeSetFeaturesTimestamp_id ..
  | nvmeAbort => exact execNvmeAbort_id ..
  | nvmeSecuritySend => exact execNvmeSecuritySend_id ..
  | nvmeSecurityReceive => exact execNvmeSecurityReceive_id ..
  | nvmeFirmwareImageDownload => exact execNvmeFirmwareImageDownload_id ..
  | nvmeFirmwareCommit => exact execNvmeFirmwareCommit_id ..
  | nvmeDeviceSelfTest => exact execNvmeDeviceSelfTest_id ..
  | nvmeKeepAlive => exact execNvmeKeepAlive_id ..
  | nvmeConnect => exact execNvmeConnect_id ..
  | destageRun => exact execDestageRun_id ..
  | directRewriteTimeout => exact execDirectRewriteTimeout_id ..
  | cleaning => exact execCleaning_id ..
  | cleaningJournalComplete => exact execCleaningJournalComplete_id ..
  | porchScan => exact execPorchScan_id ..
  | trackVerify => exact execTrackVerify_id ..
  | reservedCopyRepair => exact execReservedCopyRepair_id ..
  | sectorEnterCache => exact execSectorEnterCache_id ..
  | destageRequest => exact execDestageRequest_id ..
  | atticMoveComplete => exact execAtticMoveComplete_id ..
  | cacheDrainComplete => exact execCacheDrainComplete_id ..
  | dramScrub => exact execDramScrub_id ..
  | ecctestWrite => exact execEcctestWrite_id ..
  | ecctestRead => exact execEcctestRead_id ..
  | arbiterGrant => exact execArbiterGrant_id ..
  | mediaDeadlineMiss => exact execMediaDeadlineMiss_id ..
  | cacheSetMode => exact execCacheSetMode_id ..
  | cacheStatus => exact execCacheStatus_id ..
  | cacheLockRange => exact execCacheLockRange_id ..
  | cacheUnlockRange => exact execCacheUnlockRange_id ..
  | cacheInvalidateRange => exact execCacheInvalidateRange_id ..
  | dramRetirePage => exact execDramRetirePage_id ..
  | vaultHeaderProgram => exact execVaultHeaderProgram_id ..
  | pageProgramFail => exact execPageProgramFail_id ..
  | vaultBlockErase => exact execVaultBlockErase_id ..
  | protectionLost => exact execProtectionLost_id ..
  | protectionReturn => exact execProtectionReturn_id ..
  | vaultStatus => exact execVaultStatus_id ..
  | vaultExport => exact execVaultExport_id ..
  | vaultDiscard => exact execVaultDiscard_id ..
  | vaultAcceptLoss => exact execVaultAcceptLoss_id ..
  | vaultImport => exact execVaultImport_id ..
  | vaultTest => exact execVaultTest_id ..
  | submissionFetch => exact execSubmissionFetch_id ..
  | capsuleReceive => exact execCapsuleReceive_id ..
  | completionPost => exact execCompletionPost_id ..
  | watchdogRefresh => exact execWatchdogRefresh_id ..
  | watchdogExpiry => exact execWatchdogExpiry_id ..
  | fenceConfirmed => exact execFenceConfirmed_id ..
  | takeoverComplete => exact execTakeoverComplete_id ..
  | feStatus => exact execFeStatus_id ..
  | feTakeover => exact execFeTakeover_id ..
  | perstAssert => exact execPerstAssert_id ..
  | perstRelease => exact execPerstRelease_id ..
  | linkUp => exact execLinkUp_id ..
  | linkDown => exact execLinkDown_id ..
  | phyPllLoss => exact execPhyPllLoss_id ..
  | phyPllRelock => exact execPhyPllRelock_id ..
  | keepAliveTimeout => exact execKeepAliveTimeout_id ..
  | opalActivate => exact execOpalActivate_id ..
  | opalRevert => exact execOpalRevert_id ..
  | opalRevertsp => exact execOpalRevertsp_id ..
  | opalGenkey => exact execOpalGenkey_id ..
  | opalErase => exact execOpalErase_id ..
  | opalGet => exact execOpalGet_id ..
  | opalSet => exact execOpalSet_id ..
  | opalAuthenticate => exact execOpalAuthenticate_id ..
  | opalRandom => exact execOpalRandom_id ..
  | zgpHello => exact execZgpHello_id ..
  | zgpPeerTimeout => exact execZgpPeerTimeout_id ..
  | zgpFrameReceive => exact execZgpFrameReceive_id ..
  | zgpRetransmit => exact execZgpRetransmit_id ..
  | zgpAck => exact execZgpAck_id ..
  | zgpParityUpdate => exact execZgpParityUpdate_id ..
  | zgpGroupDef => exact execZgpGroupDef_id ..
  | zgpState => exact execZgpState_id ..
  | zgpReconRead => exact execZgpReconRead_id ..
  | zgpReconData => exact execZgpReconData_id ..
  | zgpDomainJoin => exact execZgpDomainJoin_id ..
  | zgpGroupCreate => exact execZgpGroupCreate_id ..
  | zgpGroupStatus => exact execZgpGroupStatus_id ..
  | zgpRebuild => exact execZgpRebuild_id ..
  | serviceRequestSubmit => exact execServiceRequestSubmit_id ..
  | serviceReplyRetrieve => exact execServiceReplyRetrieve_id ..
  | mctpRequest => exact execMctpRequest_id ..
  | uartFrame => exact execUartFrame_id ..
  | replyDiscard => exact execReplyDiscard_id ..
  | sessionIdleClose => exact execSessionIdleClose_id ..
  | authLockoutEnd => exact execAuthLockoutEnd_id ..
  | identifyModule => exact execIdentifyModule_id ..
  | getMode => exact execGetMode_id ..
  | setMode => exact execSetMode_id ..
  | resetGroup => exact execResetGroup_id ..
  | getHealth => exact execGetHealth_id ..
  | authChallenge => exact execAuthChallenge_id ..
  | authOpen => exact execAuthOpen_id ..
  | authClose => exact execAuthClose_id ..
  | readRecord => exact execReadRecord_id ..
  | stageRecord => exact execStageRecord_id ..
  | settingsCommit => exact execSettingsCommit_id ..
  | commitComplete => exact execCommitComplete_id ..
  | adaptiveCommit => exact execAdaptiveCommit_id ..
  | settingsStatus => exact execSettingsStatus_id ..
  | evrRead => exact execEvrRead_id ..
  | evrStatus => exact execEvrStatus_id ..
  | evrChallenge => exact execEvrChallenge_id ..
  | evrClear => exact execEvrClear_id ..
  | evrSetPolicy => exact execEvrSetPolicy_id ..
  | armRead => exact execArmRead_id ..
  | armWrite => exact execArmWrite_id ..
  | spareStatus => exact execSpareStatus_id ..
  | spareCommit => exact execSpareCommit_id ..
  | regRead => exact execRegRead_id ..
  | regWrite => exact execRegWrite_id ..
  | counterLowRead => exact execCounterLowRead_id ..
  | diagMemtest => exact execDiagMemtest_id ..
  | diagEccInject => exact execDiagEccInject_id ..
  | diagCrossStatus => exact execDiagCrossStatus_id ..
  | eventReport => exact execEventReport_id ..
  | eventNorProgram => exact execEventNorProgram_id ..
  | eventSectorRewrite => exact execEventSectorRewrite_id ..
  | i3cDynamicAddress => exact execI3cDynamicAddress_id ..
  | rstdaa => exact execRstdaa_id ..
  | wusNRelease => exact execWusNRelease_id ..
  | actLedHoldExpiry => exact execActLedHoldExpiry_id ..
  | vbulk60vCrossing => exact execVbulk60vCrossing_id ..
  | uartByteGapTimeout => exact execUartByteGapTimeout_id ..
  | operatingTimeTick => exact execOperatingTimeTick_id ..
  | identityPageProgram => exact execIdentityPageProgram_id ..
  | setFeaturesApst => exact execSetFeaturesApst_id ..
  | asynchronousEventRequest => exact execAsynchronousEventRequest_id ..
  | createIoQueue => exact execCreateIoQueue_id ..
  | deleteIoQueue => exact execDeleteIoQueue_id ..
  | reservationRegister => exact execReservationRegister_id ..
  | reservationAcquire => exact execReservationAcquire_id ..
  | reservationRelease => exact execReservationRelease_id ..
  | completionQueueHeadDoorbell => exact execCompletionQueueHeadDoorbell_id ..

/-- Every command answers a next state, with the queue as before, and keeps one-time memory or raises MIN_SVN once (R872). -/
theorem exec_id_or_raised (c : Instr) (s : State) :
    ∃ m', exec c s = .next { s with m := m' } ∧ (m'.id = s.m.id ∨ Raised s.m.id m'.id) := by
  by_cases hc : ∃ x, c = .controllerReady x
  · obtain ⟨x, rfl⟩ := hc
    exact execControllerReady_id x s
  · obtain ⟨m', he, hi⟩ := exec_keeps_id c s (fun x e => hc ⟨x, e⟩)
    exact ⟨m', he, .inl hi⟩

/-- A step idles on an empty queue, or is the meaning of the command at the front on the queue's rest. -/
theorem step_cases {s t : State} (h : step s = .next t) :
    t = s ∨ ∃ c rest, s.pending = c :: rest ∧ exec c { s with pending := rest } = .next t := by
  unfold step at h
  split at h
  next => exact .inl (Host.Outcome.next.inj h).symm
  next c rest hp => exact .inr ⟨c, rest, hp, h⟩

/-- A step keeps one-time memory or raises MIN_SVN once (R872). -/
theorem step_id_or_raised {s t : State} (h : step s = .next t) : t.m.id = s.m.id ∨ Raised s.m.id t.m.id := by
  obtain rfl | ⟨c, rest, -, he⟩ := step_cases h
  · exact .inl rfl
  · obtain ⟨m', he', hi⟩ := exec_id_or_raised c { s with pending := rest }
    cases he.symm.trans he'
    exact hi

end Sys2Proof.Machine

namespace Sys2Proof.Proofs
open Sys2Proof.Machine

/-- Settles O36: `step` matches on the queue. -/
theorem stepRunsFrontCommand : Obligations.StepRunsFrontCommand := fun _ _ _ => rfl

/-- Settles O37: `step` matches on the queue. -/
theorem emptyQueueIdles : Obligations.EmptyQueueIdles := by
  intro s hs
  simp [step, hs]

/-- Settles O38: the case split over the commands, and for a step the two cases of the queue. -/
theorem everyCommandAnswers : Obligations.EveryCommandAnswers := by
  have answers : ∀ (c : Instr) (s : State), Completes c s (fun _ => True) := fun c s =>
    let ⟨m', he, _⟩ := exec_id_or_raised c s
    ⟨m', he, trivial⟩
  refine ⟨answers, fun s => ?_⟩
  cases hp : s.pending with
  | nil => exact ⟨s, emptyQueueIdles s hp⟩
  | cons c rest =>
    obtain ⟨m', he, -⟩ := answers c { s with pending := rest }
    exact ⟨_, by simp only [step, hp]; exact he⟩

/-- Settles O39: the step is a command's, and each command was followed through its operations. -/
theorem oneTimeMemoryKept : Obligations.OneTimeMemoryKept := fun _ _ => step_id_or_raised

/-- Settles O40: a raise is made only below 64 and only upward. -/
theorem fuseBudgetKept : Obligations.FuseBudgetKept := by
  intro s t hs h
  obtain e | ⟨hlt, v, hv, e⟩ := step_id_or_raised h
  · rw [e]
    exact ⟨hs, Nat.le_refl _⟩
  · rw [e]
    exact ⟨Nat.succ_le_of_lt hlt, Nat.le_of_lt hv⟩

/-- Settles O41: a module after reset has used no raise. -/
theorem fuseBudgetAtReset : Obligations.FuseBudgetAtReset := Nat.zero_le 64

/-- Settles O42: `exec_keeps_id` names the next machine. -/
theorem onlyControllerReadyRaisesMinSvn : Obligations.OnlyControllerReadyRaisesMinSvn := by
  intro c s t hc h
  obtain ⟨m', he, hi⟩ := exec_keeps_id c s hc
  cases h.symm.trans he
  exact hi

end Sys2Proof.Proofs
end

section
/-! PROOFS. The control and register words of a sequencer (spec/11 R555 to R585, Tables 11-6 and 11-7). -/

namespace Sys2Proof.Machine

/-- WAITEV and JCC can test every flag (R1037). -/
theorem isLevel_flag {sel : Nat} (hs : sel < 24) : isLevel sel = true := by simp [isLevel, hs]

/-- The level of a flag is the flag. -/
theorem cfxLevel_flag (m : Mach) (a : Act) {sel : Nat} (hs : sel < 24) : cfxLevel m a sel = (m.cfx.get a).flag sel := if_pos hs

/-- A WAITEV on a flag ends at once when the flag has the level that it waits for, and stalls otherwise (R569). -/
theorem execCfxWaitev_flag (s : State) (a : Act) (w : Reg) (hf : Fetches s.m a w) (hop : wOp w = 0x02) (hs : wSel w < 24) :
    execCfxWaitev a s = .next { s with m := (
      if ((s.m.onCfx a (·.put fTMO false)).cfx.get a).flag (wSel w) = wSense w
      then wordEnd a (wTicks w) ((s.m.cfx.get a).pc + 1) (s.m.onCfx a (·.put fTMO false))
      else wordStall a (.event (wSense w) (wSel w) (wTarget w)) w (s.m.onCfx a (·.put fTMO false))) } := by
  have h31 : wSel w ≠ 31 := by omega
  have h24 : wSel w ≠ 24 := by omega
  have pc : (s.m.cfx.get a).pc + 1 = ((s.m.onCfx a (·.put fTMO false)).cfx.get a).pc + 1 := by simp [Cfx.put]
  refine fetched_step hf hop ?_
  simp only [h31, h24, isLevel_flag hs, cfxLevel_flag _ _ hs, pc, decide_false, Bool.false_and, Bool.or_false, Bool.true_and, beq_iff_eq, Bool.false_eq_true, if_false]
  rfl

/-- The command of TRAP takes the words of opcode 0x08 and of every opcode that Table 11-7 lacks (R568, R585). -/
theorem execCfxTrap_taken (s : State) (a : Act) (w : Reg) (hf : Fetches s.m a w) (hop : wOp w = 0x08 ∨ knownOpcode (wOp w) = false) :
    execCfxTrap a s = .next { s with m := cfxTrap a (if wOp w = 0x08 then field w 0 8 else 0x07) s.m } :=
  word_step s a _ _ _ w hf (by rcases hop with h | h <;> simp [h]) rfl

end Sys2Proof.Machine

namespace Sys2Proof.Proofs
open Sys2Proof.Machine

/-- Settles O14: each word is the one that its PC fetches, so that its own effect is what the command leaves; where the word branches, the clause's
conditions take the branch. -/
theorem sequencerControlWordEffects : Obligations.SequencerControlWordEffects := by
  refine ⟨fun s a w hf hop => ?nop, fun s a w hf hop => ?wait, fun s a w hf hop hs hl => ?waitevNow, fun s a w hf hop hs hl => ?waitevStalls,
    fun s a w hf hop => ?jmp, fun s a w hf hop hs => ?jcc, fun s a w hf hop hd => ?call, fun s a w x xs hf hop hx => ?ret,
    fun s a w v hf hop hv hn => ?decjnz, fun s a w hf hop => ?trap, fun s a w hf hop => ?unknown, fun s a w hf hop hw hg => ?halt,
    fun s a w hf hop => ?irq, fun s a w hf hop hs => ?loadImmediate, fun s a w hf hop hs => ?loadParameter,
    fun s a w r hf hop hs hr => ?add, fun s a w hf hop hs => ?cmp, fun s a w hf hop => ?setf⟩
  case nop => exact fetched_step hf hop rfl
  case wait => exact fetched_step hf hop rfl
  case waitevNow => exact (execCfxWaitev_flag s a w hf hop hs).trans (by rw [if_pos hl])
  case waitevStalls => exact (execCfxWaitev_flag s a w hf hop hs).trans (by rw [if_neg hl])
  case jmp => exact fetched_step hf hop rfl
  case jcc => exact fetched_step hf hop ((if_neg (Nat.not_le.mpr hs)).trans (by simp [wordJump]))
  case call => exact fetched_step hf hop (if_neg (Nat.not_le.mpr hd))
  case ret => exact fetched_step hf hop (by simp only [hx]; rfl)
  case decjnz =>
    have left : ((s.m.cfx.get a).reg (wReg w) - 1 == 0) = false := beq_false_of_ne (hv ▸ hn)
    exact fetched_step hf hop (by simp only [wordJump, bne, left, hv]; rfl)
  case trap => exact (execCfxTrap_taken s a w hf (.inl hop)).trans (by rw [if_pos hop])
  case unknown =>
    have other : wOp w ≠ 0x08 := fun e => by rw [e] at hop; exact absurd hop (by decide)
    exact (execCfxTrap_taken s a w hf (.inr hop)).trans (by rw [if_neg other])
  case halt => exact fetched_step hf hop (by simp [hw, hg])
  case irq => exact fetched_step hf hop rfl
  case loadImmediate => exact fetched_step hf hop (by simp [hs])
  case loadParameter => exact fetched_step hf hop (by simp [hs])
  case add =>
    subst hr
    exact fetched_step hf hop (by simp [hs, addcValue])
  case cmp => exact fetched_step hf hop (by simp [hs])
  case setf => exact fetched_step hf hop rfl

end Sys2Proof.Proofs
end

section
/-! PROOFS. What happens to a sequencer between its words, and the requests over its store (spec/11 R555 to R603). -/

namespace Sys2Proof.Machine

/-- Two changes of a sequencer that agree on its state leave the same machine. -/
theorem Mach.onCfx_congr {m : Mach} {a : Act} {f g : Cfx → Cfx} (h : f (m.cfx.get a) = g (m.cfx.get a)) : m.onCfx a f = m.onCfx a g :=
  congrArg (fun p => { m with cfx := p }) (Pair.upd_congr h)

section
variable (a : Act) (n : Nat) (m : Mach)

/-- Every COUNT timer that runs is n ticks further (R578). -/
@[simp] theorem timePasses_timers : ((timePasses a n m).cfx.get a).timers = (m.cfx.get a).timers.map (fun x => x.map (· - n)) := by
  simp [timePasses, elapse]

/-- No gate changes while ticks pass. -/
@[simp] theorem timePasses_gate (g : Nat) : ((timePasses a n m).cfx.get a).gate g = (m.cfx.get a).gate g := by
  simp [timePasses, elapse, Cfx.gate]

end

section
variable (s : State) (a : Act)

/-- A WAIT whose ticks have passed ends in sequence, when no stop was asked for (R555). -/
theorem execStallEnd_wait (t : BitVec 24) (n : Nat) (hst : (s.m.cfx.get a).stall = some (.wait n)) (hab : (s.m.cfx.get a).flag fABORT = false)
    (hpl : (s.m.cfx.get a).flag fPLOSS = false) (hn : n ≤ (s.m.cfx.get a).stallTicks + t.toNat) :
    execStallEnd a t none s = .next { s with m := wordEnd a t.toNat ((s.m.cfx.get a).pc + 1) s.m } := by
  simp [execStallEnd, hst, hab, hpl, stallOver, stallAct, hn]

/-- A WAITEV whose time limit has passed jumps with TMO set (R569). -/
theorem execWaitevTimeout_event (sense : Bool) (sel : Nat) (target : BitVec 12) (hst : (s.m.cfx.get a).stall = some (.event sense sel target))
    (h7 : (s.m.cfx.get a).reg 7 ≠ 0) :
    execWaitevTimeout a s = .next { s with m := (wordEnd a (((s.m.cfx.get a).reg 7).toNat - (s.m.cfx.get a).stallTicks) target
      (s.m.onCfx a (fun c => (c.setReg 7 0).put fTMO true))) } := by
  simp only [execWaitevTimeout, State.run_eq, hst, if_neg h7]

/-- When only the read gate's COUNT runs, its end raises a read gate that is low (R578). -/
theorem execGateCountExpiry_read (n : Nat) (ht : (s.m.cfx.get a).timers = [none, none, some n]) (hg : (s.m.cfx.get a).gate gRG = false) :
    execGateCountExpiry a s = .next { s with m := ((((timePasses a n s.m).onCfx a (fun c => { c with timers := [none, none, none] })).onCfx a
      (·.setGate gRG true)).onCh a (fun ch => { ch with read := true })) } := by
  have timers : ((timePasses a n s.m).cfx.get a).timers = [none, none, some 0] := by simp [ht]
  have clear : (timePasses a n s.m).onCfx a (fun c => { c with timers := c.timers.map (fun x => if x == some 0 then none else x) }) =
      (timePasses a n s.m).onCfx a (fun c => { c with timers := [none, none, none] }) :=
    Mach.onCfx_congr (by rw [timers]; rfl)
  have shortest : ((s.m.cfx.get a).timers.filterMap id).min? = some n := by rw [ht]; rfl
  simp only [execGateCountExpiry, State.run_eq, shortest, clear]
  simp [timers, hg]

/-- A scrub visit of a store row other than the last spare reads that row (R591). -/
theorem execStoreScrub_row (row : BitVec 13) (find : EccFind) (lap : BitVec 16) (hi : inReset s.m (.act a) = false) (hr : row.toNat < 4127) :
    execStoreScrub a (.store row) find lap s = .next { s with m := scrubRow a row.toNat find s.m } := by
  have inStore : ¬ 4128 ≤ row.toNat := by omega
  have notLast : row.toNat ≠ 4127 := by omega
  exact run_unless hi (by simp only [inStore, notLast, if_false])

/-- CFX_LOAD of a sound image holds the sequencer and keeps the request, and loads at once when the sequencer is halted (R603). -/
theorem execCfxLoad_taken (h : Hdr) (bs : List Byte) (m : Mach) (hs : Served s.m h lvMaint) (hm : s.m.sup.mode = .service)
    (ho : (s.m.srv.get a).st = .opened) (hz : h.p1 = 0 ∧ h.p2 = 0 ∧ h.p3 = 0) (h0 : actNum h.p0 = some a) (hb : imageOk bs = true)
    (he : m = (accept h 0x0703 false s.m).onCfx a (fun c => { c with hold := true, loadReq := some (h, bs) })) :
    execCfxLoad h bs s = .next { s with m := (if cfxHalted s.m a = true then finishLoad a m else m) } := by
  obtain ⟨h1, h2, h3⟩ := hz
  refine service_step s 0x0703 h lvMaint _ _ _ hs (by simp [firstFail_eq_none, reserved, hm, ho, h1, h2, h3, h0, hb]) ?_
  have halted : cfxHalted m a = cfxHalted s.m a := by rw [he]; simp [cfxHalted]
  simp only [h0, Option.getD_some, ← he, halted]

end

end Sys2Proof.Machine

namespace Sys2Proof.Proofs
open Sys2Proof.Machine

/-- Settles O16: the conditions of each clause choose the branch of its event; the requests are served and pass their row's checks. -/
theorem sequencerEventEffects : Obligations.SequencerEventEffects := by
  refine ⟨fun s a t n hst hab hpl hn => execStallEnd_wait s a t n hst hab hpl hn,
    fun s a sense sel target hst h7 _ => execWaitevTimeout_event s a sense sel target hst h7, fun s a k t hr => ?anchor,
    fun s a n ht hg => execGateCountExpiry_read s a n ht hg, fun s a t hw hg hs => ?readGate, fun s a t hw ht hp => ?writeGate,
    fun s a t o e hr hh hp he hi hl ho hd => ?dispatch, fun s a => rfl, fun s a ho hr ht hp => ?timeout,
    fun s a row lap hi hrow hc => ?scrubClean, fun s a row lap hi hrow hc => ?scrubFails, fun s a h r lap hi hh hr => ?scrubRegion,
    fun s a d hm ho hh hrow => ?storeData, fun s h bs a hs hm ho h1 h2 h3 h0 hb hh => ?loadWaits,
    fun s h bs a hs hm ho h1 h2 h3 h0 hb hh => ?loads, fun s h a c hs h1 h2 h3 h0 hc => ?status⟩
  case anchor =>
    show execTposAnchor a k t s = _
    exact run_unless hr rfl
  case readGate =>
    show execSectorGateClose a t s = _
    simp only [execSectorGateClose, State.run_eq, hw, hg, hs, Bool.and_self, if_true, Bool.false_eq_true, if_false]
  case writeGate =>
    show execSectorGateClose a t s = _
    simp only [execSectorGateClose, State.run_eq, hw, ht, hp, if_true, Bool.false_eq_true, if_false]
  case dispatch =>
    show execOperationDispatch a t s = _
    simp only [execOperationDispatch, State.run_eq, hr, hh, hp, he, hi, hl, ho, hd, bne_self_eq_false, Option.isSome_none, Bool.not_true, Bool.or_self,
      Bool.false_eq_true, if_false]
  case timeout =>
    show execOpTmoExpiry a s = _
    exact run_unless (by simp [hr, ht, hp, ho]) rfl
  case scrubClean => exact (execStoreScrub_row s a row .clean lap hi hrow).trans (by simp only [scrubRow, hc])
  case scrubFails => exact (execStoreScrub_row s a row .uncorrectable lap hi hrow).trans (by simp only [scrubRow, hc])
  case scrubRegion =>
    show execStoreScrub a (.region h r) .corrected lap s = _
    exact run_unless hi (if_neg (by simp only [Nat.not_le.mpr hh, Nat.not_le.mpr hr, decide_false, Bool.or_self, Bool.false_eq_true, not_false_eq_true]))
  case storeData =>
    show execStoredataWrite a d s = _
    exact run_to (if_neg (by simp only [hm, ho, hh, Nat.not_le.mpr hrow, bne_self_eq_false, Bool.not_true, decide_false, Bool.or_self,
      Bool.false_eq_true, not_false_eq_true]))
  case loadWaits => exact (execCfxLoad_taken s a h bs _ hs hm ho ⟨h1, h2, h3⟩ h0 hb rfl).trans (by simp [hh])
  case loads => exact (execCfxLoad_taken s a h bs _ hs hm ho ⟨h1, h2, h3⟩ h0 hb rfl).trans (by simp [hh])
  case status =>
    subst hc
    exact service_step s 0x0704 h lvHost _ _ _ hs (by simp [firstFail_eq_none, reserved, h1, h2, h3, h0]) (by simp [h0])

end Sys2Proof.Proofs
end

section
/-! PROOFS. What each NVMe I/O command that runs does (spec/12 R619 to R635, spec/13 R684 to R689, spec/14 R710 to R743, spec/17 R861, R1038). -/

namespace Sys2Proof.Machine

section
variable (c : NvCmd) (n : Ns) (nsid lba : Nat) (m : Mach)

/-- A write of a namespace without zones is staged (R625, R731). -/
theorem runIo_write_staged (cnt : Nat) (p : Prot) (d : List (Sector × BitVec 128)) (hk : n.kind ≠ .zoned) :
    runIo c (.write nsid lba cnt p d) n m = stageWrite c nsid lba p d (noteStream nsid true lba cnt (lbaAct n.kind (lba + cnt - 1))
      (onCtx c (fun y => { y with heldAt := none, phase := .media }) m)) := if_neg hk

/-- A write of a zoned namespace waits its turn in its zone (R624). -/
theorem runIo_write_zoned (cnt : Nat) (p : Prot) (d : List (Sector × BitVec 128)) (k : Mach) (hz : n.kind = .zoned)
    (hk : k = noteStream nsid true lba cnt (lbaAct n.kind (lba + cnt - 1)) (onCtx c (fun y => { y with heldAt := none, phase := .media }) m)) :
    runIo c (.write nsid lba cnt p d) n m = flow { k with zmg.zoneQ := k.zmg.zoneQ ++ [(zoneKey nsid (lba / 65536), c)] } := by
  subst hk
  exact if_pos hz

/-- Write Zeroes in a namespace without zones is staged as a write of zeros under the module's own protection information (R861, R1038). -/
theorem runIo_writeZeroes_staged (cnt : Nat) (p : Prot) (hk : n.kind ≠ .zoned) :
    runIo c (.writeZeroes nsid lba cnt p) n m = stageWrite c nsid lba { p with pract := true } (List.replicate cnt (0, 0))
      (noteStream nsid true lba cnt (lbaAct n.kind (lba + cnt - 1)) (onCtx c (fun y => { y with heldAt := none, phase := .media }) m)) := if_neg hk

/-- Write Zeroes in a zoned namespace waits its turn in its zone (R624, R1038). -/
theorem runIo_writeZeroes_zoned (cnt : Nat) (p : Prot) (k : Mach) (hz : n.kind = .zoned)
    (hk : k = noteStream nsid true lba cnt (lbaAct n.kind (lba + cnt - 1)) (onCtx c (fun y => { y with heldAt := none, phase := .media }) m)) :
    runIo c (.writeZeroes nsid lba cnt p) n m = flow { k with zmg.zoneQ := k.zmg.zoneQ ++ [(zoneKey nsid (lba / 65536), c)] } := by
  subst hk
  exact if_pos hz

/-- A command that opens, closes, finishes or resets zones waits its turn in each of them (R623, R631). -/
theorem runIo_zones (x : IoCmd) (al : Bool) (zs : List Nat) (k : Mach)
    (hx : x = .zoneOpen nsid lba al ∨ x = .zoneClose nsid lba al ∨ x = .zoneFinish nsid lba al ∨ x = .zoneReset nsid lba al)
    (hz : zs = (if al then List.range (n.size / 65536) else [lba / 65536])) (hne : zs ≠ [])
    (hk : k = onCtx c (fun y => { y with left := if al then zs else [] }) (onCtx c (fun y => { y with heldAt := none, phase := .media }) m)) :
    runIo c x n m = flow { k with zmg.zoneQ := k.zmg.zoneQ ++ zs.map (fun z => (zoneKey nsid z, c)) } := by
  have named : (if al then List.range (n.size / 65536) else [lba / 65536]).isEmpty = false := by simpa [← hz] using hne
  subst hk hz
  rcases hx with rfl | rfl | rfl | rfl
  all_goals exact if_neg (by rw [named]; exact Bool.false_ne_true)

end

end Sys2Proof.Machine

namespace Sys2Proof.Proofs
open Sys2Proof.Machine

/-- Settles O23: a command that runs has the effect of its kind, as `runIo` gives it; an abort answers what its lookup found. -/
theorem ioCommandEffects : Obligations.IoCommandEffects := by
  refine ⟨fun s c nsid lba cnt p n h => ?read, fun s c nsid lba p d n h hk => ?write, fun s c nsid lba p d n k h hz hk => ?writeZoned,
    fun s c nsid lba p d n k h hk => ?append, fun s c nsid lba al n zs k h hz hne hk => ?openZone, fun s c nsid lba al n zs k h hz hne hk => ?closeZone,
    fun s c nsid lba al n zs k h hz hne hk => ?finishZone, fun s c nsid lba al n zs k h hz hne hk => ?resetZone,
    fun s c nsid lba n h => ?report, fun s c nsid rs qs n hq h => ?deallocate, fun s c nsid lba cnt p n h hk => ?zeroes,
    fun s c nsid lba cnt p n k h hz hk => ?zeroesZoned, fun s c nsid lba p d n h => ?compare, fun s c nsid lba cnt p n h => ?verify,
    fun s c nsid n h => ?flush, fun s c t sqid cid x ha ht hx hr => ?abortTakes, fun s c sqid cid ha hx => ?abortNothing,
    fun s now k cs hk hcs hne hr => ?expiry⟩
  case read => exact io_step s c _ n _ h (congrArg flow rfl)
  case write => exact io_step s c _ n _ h (congrArg flow (runIo_write_staged c n _ _ _ _ p d hk))
  case writeZoned => exact io_step s c _ n _ h (congrArg flow (runIo_write_zoned c n _ _ _ _ p d k hz hk))
  case append =>
    subst hk
    exact io_step s c _ n _ h (congrArg flow rfl)
  case openZone => exact io_step s c _ n _ h (congrArg flow (runIo_zones c n _ _ _ _ al zs k (.inl rfl) hz hne hk))
  case closeZone => exact io_step s c _ n _ h (congrArg flow (runIo_zones c n _ _ _ _ al zs k (.inr (.inl rfl)) hz hne hk))
  case finishZone => exact io_step s c _ n _ h (congrArg flow (runIo_zones c n _ _ _ _ al zs k (.inr (.inr (.inl rfl))) hz hne hk))
  case resetZone => exact io_step s c _ n _ h (congrArg flow (runIo_zones c n _ _ _ _ al zs k (.inr (.inr (.inr rfl))) hz hne hk))
  case report => exact io_step s c _ n _ h (congrArg flow (runIo_zoneReport c n _ _ _))
  case deallocate =>
    subst hq
    exact io_step s c _ n _ h (congrArg flow (runIo_deallocate c n _ _ _))
  case zeroes => exact io_step s c _ n _ h (congrArg flow (runIo_writeZeroes_staged c n _ _ _ _ p hk))
  case zeroesZoned => exact io_step s c _ n _ h (congrArg flow (runIo_writeZeroes_zoned c n _ _ _ _ p k hz hk))
  case compare => exact io_step s c _ n _ h (congrArg flow rfl)
  case verify => exact io_step s c _ n _ h (congrArg flow rfl)
  case flush => exact io_step s c _ n _ h (congrArg flow (runIo_flush c n _ _))
  case abortTakes =>
    subst ht
    show execNvmeAbort c sqid cid s = _
    rw [execNvmeAbort_eq s c sqid cid ha, abortLookup_running _ _ (by simp [hx, hr])]
    rfl
  case abortNothing =>
    show execNvmeAbort c sqid cid s = _
    rw [execNvmeAbort_eq s c sqid cid ha, abortLookup_ended _ _ (by simp [hx])]
    rfl
  case expiry =>
    subst hk hcs
    have unreported : s.m.sup.holdReported = false := hr
    exact ⟨_, execMediaHoldExpiry_eq s now _ hne rfl, _, rfl, if_neg (by simp [unreported])⟩

end Sys2Proof.Proofs
end

section
/-! PROOFS. The media scheduler (spec/13 R654 to R693, R1036). -/

namespace Sys2Proof.Machine

/-- Telling the time changes no control bit of the scheduler. -/
@[simp] theorem clockTo_ctrl (now : Nat) (m : Mach) : (clockTo now m).sch.ctrl = m.sch.ctrl := rfl

/-- A fold of reports leaves the scheduler alone. -/
theorem foldl_report_sch {α : Type} (code : Nat) (w : α → Place) (ps : Mach → α → List Byte) (xs : List α) (m : Mach) :
    (xs.foldl (fun m x => report code (w x) (ps m x) m) m).sch = m.sch := by
  induction xs generalizing m with
  | nil => rfl
  | cons x xs ih => rw [List.foldl_cons, ih, report_sch]

section
variable (s : State) (a : Act)

/-- Speculation that is allowed runs its kind unless SCH.CTRL disables it (R683, Table 13-2). -/
theorem execSpeculationStart_allowed (now : BitVec 48) (kind : BitVec 2) (m' : Mach) (hs : specAllowed (clockTo now.toNat s.m) a = true)
    (hm : (match kind.toNat with
      | 0 => if (clockTo now.toNat s.m).sch.ctrl.getLsbD 0 then clockTo now.toNat s.m else readAhead a (clockTo now.toNat s.m)
      | 1 => if (clockTo now.toNat s.m).sch.ctrl.getLsbD 2 then clockTo now.toNat s.m else preSeek a (clockTo now.toNat s.m)
      | 2 => if (clockTo now.toNat s.m).sch.ctrl.getLsbD 1 then clockTo now.toNat s.m else preRead a (clockTo now.toNat s.m)
      | _ => clockTo now.toNat s.m) = m') :
    execSpeculationStart a now kind s = .next { s with m := m' } :=
  run_to ((if_neg (by simp [hs])).trans hm)

/-- The window is judged against the share in force: that of a forced cleaning, or the plain one (R672 to R674). -/
theorem execCleaningWindow_judges (now : BitVec 48) (busy clean : BitVec 32) (n : Mach) (hard : Bool) (share : Nat) (hn : n = clockTo now.toNat s.m)
    (hh : (n.zmg.force.get a || n.zmg.full.get a) = hard) (hs : share = if hard then schSet n 13 1 50 else schSet n 12 1 10) :
    execCleaningWindow a now busy clean s = .next { s with m := (placeNext a (onSch a (fun x => { x with
      cleanPct := BitVec.ofNat 16 (if busy = 0 then 0 else satTo 65535 (10000 * clean.toNat / busy.toNat))
      busyPct := (busy.toNat + 999) / 1000
      cleanOwed := !(cleanWanted n a).isEmpty && decide (100 * clean.toNat < share * busy.toNat)
      unmet := if hard && decide (100 * clean.toNat < share * busy.toNat) then x.unmet + 1 else 0 }) n)) } := by
  subst hn hh hs
  rfl

/-- In power state 1 the duty follows the measured input power (R692). -/
theorem execPs1DutyUpdate_ps1 (pin : BitVec 24) (d : Nat) (hp : s.m.sup.nvmePs = 1)
    (hd : (if 9000 < pin.toNat then max 20 (s.m.sch.duty - 5) else if pin.toNat < 8500 then min 100 (s.m.sch.duty + 5) else s.m.sch.duty) = d) :
    execPs1DutyUpdate pin s = .next { s with m := (placeNext .a1 (placeNext .a0 { s.m with pwr.pin := pin, sch.duty := d })) } := by
  subst hd
  exact run_unless (by simp [hp]) rfl

end

end Sys2Proof.Machine

namespace Sys2Proof.Proofs
open Sys2Proof.Machine

/-- Settles O18: the conditions of each clause choose the branch of its event. -/
theorem schedulerEffects : Obligations.SchedulerEffects := by
  refine ⟨fun s a now => rfl, fun s a now hs hc => ?readAhead, fun s a now hs hc => ?preSeek, fun s a now hs hc => ?preRead, fun s a now meas => rfl,
    fun s a now n hn => ?aged, fun s a now busy clean n hn hf hl => ?window, fun s a now busy clean n hn hh => ?forcedWindow,
    fun s a hh hu => ?starved, fun s pin hp hpin => ?dutyFalls, fun s pin hp hpin => ?dutyRises, fun s pin hp hlo hhi => ?dutyStays,
    fun s pin hp hd hpin => ?capFails⟩
  case readAhead => exact execSpeculationStart_allowed s a now 0 _ hs (if_neg (by simpa using hc))
  case preSeek => exact execSpeculationStart_allowed s a now 1 _ hs (if_neg (by simpa using hc))
  case preRead => exact execSpeculationStart_allowed s a now 2 _ hs (if_neg (by simpa using hc))
  case aged =>
    subst hn
    refine ⟨_, rfl, ?_⟩
    simp only [onSch, Pair.get_upd_same, foldl_report_sch, Bool.and_eq_true, decide_eq_true_eq, Bool.not_eq_true', and_assoc]
  case window =>
    refine (execCleaningWindow_judges s a now busy clean n false _ hn (by simp [hf, hl]) rfl).trans ?_
    simp
  case forcedWindow =>
    refine (execCleaningWindow_judges s a now busy clean n true _ hn (by simpa using hh) rfl).trans ?_
    simp
  case starved =>
    show execCleanStarved a s = _
    exact run_when (by simpa using ⟨hh, hu⟩) rfl
  case dutyFalls => exact execPs1DutyUpdate_ps1 s pin _ hp (if_pos hpin)
  case dutyRises => exact execPs1DutyUpdate_ps1 s pin _ hp ((if_neg (by omega)).trans (if_pos hpin))
  case dutyStays => exact execPs1DutyUpdate_ps1 s pin _ hp ((if_neg (by omega)).trans (if_neg (by omega)))
  case capFails =>
    show execPs1CapFail pin s = _
    exact run_when (by simp [hp, hd, hpin]) rfl

end Sys2Proof.Proofs
end

section
/-! PROOFS. The zone manager (spec/12 R617, R633 to R648, spec/13 R672, R673). -/

namespace Sys2Proof.Machine

/-- A MANAGED namespace is the one that cleaning and the porch scan look for (R639, R642). -/
theorem managedNs_found {m : Mach} {k : Nat} {n : Ns} (hn : nsOf m k = some n) (hk : n.kind = .managed) :
    (nsOf m k).filter (fun n => decide (n.kind = .managed)) = some n := by
  simp [hn, Option.filter, hk]

/-- In a MANAGED namespace each phase of a cleaning has its own effect (R639, R640, log entry 47). -/
theorem execCleaning_managed (s : State) (a : Act) (nsid : BitVec 6) (n : Ns) (hn : nsOf s.m nsid.toNat = some n) (hk : n.kind = .managed) :
    execCleaning a nsid 0 s = .next { s with m := cleanStart a n s.m } ∧ execCleaning a nsid 1 s = .next { s with m := cleanJournal a n s.m } ∧
    execCleaning a nsid 2 s = .next { s with m := cleanRemap a n s.m } := by
  simp only [execCleaning, State.run_eq, managedNs_found hn hk]
  exact ⟨rfl, rfl, rfl⟩

end Sys2Proof.Machine

namespace Sys2Proof.Proofs
open Sys2Proof.Machine

/-- Settles O19: the namespace of each clause is the one that its event looks for, and the clause's conditions choose the branch. -/
theorem zoneManagerEffects : Obligations.ZoneManagerEffects := by
  refine ⟨fun s a now => rfl, fun s a nsid => rfl, fun s a nsid n hn hk => (execCleaning_managed s a nsid n hn hk).1,
    fun s a nsid n hn hk => (execCleaning_managed s a nsid n hn hk).2.1, fun s a nsid n hn hk => (execCleaning_managed s a nsid n hn hk).2.2,
    fun s a nsid n hn hk ho => ?journaled, fun s a nsid ms n hn hk hr ho => ?porch, fun s a now => rfl, fun s a head str => ?oneCopy,
    fun s a head str => ?bothCopies⟩
  case journaled =>
    show execCleaningJournalComplete a nsid s = _
    simp only [execCleaningJournalComplete, State.run_eq, managedNs_found hn hk, ho, if_true]
  case porch =>
    show execPorchScan a nsid ms s = _
    simp only [execPorchScan, State.run_eq, managedNs_found hn hk, hr, ho, Bool.not_true, Bool.or_self, Bool.false_eq_true, if_false]
  case oneCopy =>
    show execReservedCopyRepair a head str false s = _
    exact run_to (if_neg Bool.false_ne_true)
  case bothCopies =>
    show execReservedCopyRepair a head str true s = _
    exact run_to (if_pos rfl)

end Sys2Proof.Proofs
end

section
/-! PROOFS. The cache and the DRAM (spec/12 R625, spec/14 R703 to R767, Table 14-7). -/

namespace Sys2Proof.Machine

section
variable (s : State)

/-- A scrub visit of an array that exists, in a trained DRAM and not at the end of a lap, does what the word's check bits call for (R703, R748 to
R754). -/
theorem execDramScrub_visit (arr : BitVec 4) (ad : BitVec 33) (rows : BitVec 8) (find : EccFind) (m' : Mach) (ha : arr.toNat ≤ 6)
    (ht : s.m.bcm.trained = true) (hm : (match scrubFind s.m arr.toNat ad.toNat find with
      | .clean => cleanAt arr.toNat ad.toNat s.m
      | .corrected => correctedAt arr.toNat ad.toNat s.m
      | .uncorrectable => fabUncorrectable arr.toNat ad.toNat rows s.m) = m') :
    execDramScrub arr ad rows find none s = .next { s with m := m' } :=
  run_unless (by simp [ht, ha]) hm

/-- Below the deadline of every media leaf the grant goes by credit (R764, R766). -/
theorem execArbiterGrant_credit (req : BitVec 11) (w0 w1 w2 : BitVec 32) (hr : req ≠ 0) (hg : s.m.bcm.grantNo ≠ 0)
    (h0 : w0.toNat < bcmSet s.m 4 2 1000) (h1 : w1.toNat < bcmSet s.m 4 2 1000) (h2 : w2.toNat < bcmSet s.m 4 2 1000) :
    execArbiterGrant req w0 w1 w2 s = .next { s with m := creditGrant req s.m } := by
  have none_late : [(0, w0.toNat), (1, w1.toNat), (2, w2.toNat)].filter (fun p => req.getLsbD p.1 && decide (bcmSet s.m 4 2 1000 ≤ p.2)) = [] := by
    simp [Nat.not_le.mpr h0, Nat.not_le.mpr h1, Nat.not_le.mpr h2]
  refine run_to ((if_neg hr).trans ?_)
  simp only [if_neg hg, none_late]
  rfl

/-- In SERVICE a write of ECCTEST with GO, TEST and a write access puts the test's word (R760). -/
theorem ecctestAccess_write (reg : Reg) (m : Mach) (hm : m.sup.mode = .service) (hgo : bit reg 10 = true) (hrw : bit reg 9 = false)
    (ht : bit reg 31 = true) : ecctestAccess reg m = ecctestPut { m with
      bcm.test := true, bcm.testTag := bit reg 24, bcm.testRw := false, bcm.testCheck := reg.extractLsb' 0 8 } := by
  simp [ecctestAccess, hm, hgo, hrw, ht]

/-- Outside SERVICE a write of ECCTEST with GO and a read access reads with the fields as they stand (R761). -/
theorem ecctestAccess_read (reg : Reg) (m : Mach) (hm : m.sup.mode ≠ .service) (hgo : bit reg 10 = true) (hrw : bit reg 9 = true) :
    ecctestAccess reg m = ecctestGet (bit reg 24) m := by
  simp [ecctestAccess, hm, hgo, hrw]

end

end Sys2Proof.Machine

namespace Sys2Proof.Proofs
open Sys2Proof.Machine

/-- Settles O21: the conditions of each clause choose the branch of its event; the requests are served and pass their row's checks. -/
theorem cacheEffects : Obligations.CacheEffects := by
  refine ⟨fun s now hf => run_unless (body := fun m => flow (clockTo now.toNat m)) hf rfl, fun s a now k hf hd hk => ?destage,
    fun s l r hm hn => ?evict, fun s ns line r hm => ?recalled, fun s => rfl,
    fun s arr ad rows find ha ht hf => execDramScrub_visit s arr ad rows find _ ha ht (by rw [hf]),
    fun s arr ad rows find ha ht hf => execDramScrub_visit s arr ad rows find _ ha ht (by rw [hf]),
    fun s arr ad rows find ha ht hf => execDramScrub_visit s arr ad rows find _ ha ht (by rw [hf]),
    fun s reg hgo hrw hm ht => ?testWrite, fun s reg hgo hrw hm => ?testRead,
    fun s req w0 w1 w2 hr hg h0 h1 h2 => execArbiterGrant_credit s req w0 w1 w2 hr hg h0 h1 h2, fun s leaf ns hl hn => ?deadline,
    fun s h x hs hm hwt h1 h2 h3 h0 hx => ?setMode, fun s h hs h0 h1 h2 h3 => ?status, fun s h hs hr hb hl => ?lock,
    fun s h hs hr h31 hb => ?unlock, fun s h hs hr h31 => ?invalidate, fun s h hs h1 h2 h3 hp hn => ?retire⟩
  case destage =>
    show execDestageRequest a now s = _
    have free : frozen (clockTo now.toNat s.m) = false := hf
    simp only [execDestageRequest, State.run_eq, free, hd, hk, Bool.not_true, Bool.or_self, Bool.false_eq_true, if_false]
  case evict =>
    show execAtticMoveComplete s = _
    simp only [execAtticMoveComplete, State.run_eq, hm, hn, Option.isSome_none, Bool.false_eq_true, if_false]
  case recalled =>
    show execAtticMoveComplete s = _
    simp only [execAtticMoveComplete, State.run_eq, hm]
  case testWrite =>
    show execEcctestWrite reg s = _
    exact run_when (by simp [hgo, hrw]) (ecctestAccess_write reg s.m hm hgo hrw ht)
  case testRead =>
    show execEcctestRead reg s = _
    exact run_when (by simp [hgo, hrw]) (ecctestAccess_read reg s.m hm hgo hrw)
  case deadline =>
    show execMediaDeadlineMiss leaf ns s = _
    exact run_when (by simp [hl, hn]) rfl
  case setMode =>
    exact service_step s 0x0801 h lvHost _ _ _ hs (by simp [firstFail_eq_none, reserved, hm, hwt, h1, h2, h3, h0]) (by simp only [hx])
  case status => exact ⟨_, service_step s 0x0802 h lvHost _ _ _ hs (noParam_pass h h0 h1 h2 h3) rfl, _, _, rfl, rfl, rfl⟩
  case lock => exact service_step s 0x0803 h lvHost _ _ _ hs (by simp [firstFail_eq_none, hr, hb]) (by simp only [hl])
  case unlock => exact ⟨_, service_step s 0x0804 h lvHost _ _ _ hs (by simp [firstFail_eq_none, hr, h31, hb]) rfl, _, _, rfl, rfl, rfl⟩
  case invalidate => exact ⟨_, service_step s 0x0805 h lvMaint _ _ _ hs (by simp [firstFail_eq_none, hr, h31]) rfl, _, rfl, rfl⟩
  case retire =>
    have visible : ¬ visiblePages ≤ h.p0.toNat := Nat.not_le.mpr hp
    have unretired : ∀ p ∈ s.m.bcm.retPages, p.1 ≠ h.p0.toNat := by simpa using hn
    exact ⟨_, service_step s 0x0905 h lvMaint _ _ _ hs (by simpa [firstFail_eq_none, reserved, h1, h2, h3, visible] using hn) rfl, _, rfl, rfl⟩

end Sys2Proof.Proofs
end

section
/-! PROOFS. Contexts, completions, queues and reservations of the NVMe controllers (spec/16 R816 to R826, R847, spec/18 R913). -/

namespace Sys2Proof.Machine

section
variable (c : NvCmd) (m : Mach)

/-- A fetched entry takes a context of its kind while one is free (R821). -/
theorem fetch_takes (hf : mayFetch m c = true) (hx : ctxOf m c = none) (ht : m.fe.tko = none) (ha : c.sqid = 0 → rsvUsed m < 64)
    (hi : c.sqid ≠ 0 → ioUsed m < 3072) : fetch c m = { m with
      fe.ctxs := m.fe.ctxs ++ [{ id := c, admin := c.sqid == 0, arrival := BitVec.ofNat 32 m.sch.now, cls := queueCls m c : Ctx }]
      prt := m.prt.upd c.port (fun p => { p with held := false }) } := by
  have room : (if (c.sqid == 0) = true then decide (64 ≤ rsvUsed m) else decide (3072 ≤ ioUsed m)) = false := by
    by_cases h0 : c.sqid = 0
    · rw [if_pos (by simp [h0]), decide_eq_false (Nat.not_le.mpr (ha h0))]
    · rw [if_neg (by simpa using h0), decide_eq_false (Nat.not_le.mpr (hi h0))]
  simp only [fetch, hf, hx, ht, room, Option.isSome_none, Bool.not_true, Bool.or_self, Bool.false_eq_true, if_false]

/-- In a takeover the port unit holds the entry (R833). -/
theorem fetch_held (hf : mayFetch m c = true) (hx : ctxOf m c = none) (ht : m.fe.tko.isSome = true) : fetch c m = { m with
    prt := m.prt.upd c.port (fun p => if p.heldCmds.contains c then p else { p with heldCmds := p.heldCmds ++ [c] }) } := by
  simp only [fetch, hf, hx, ht, Option.isSome_none, Bool.not_true, Bool.or_self, Bool.false_eq_true, if_false, if_true]

/-- A completion that may be posted takes an entry of its queue, frees its context, and lets held fetches go on (R821, R823, R826). -/
theorem post_posts (x : Ctx) (n : Mach) (hx : ctxOf m c = some x) (hp : mayPost m x = true) (hn : n = cqTake c m) :
    post c m = flow (shutCheck (onPrt c.port (fun p => { p with postCnt := p.postCnt.inc }) { n with
      fe.ctxs := n.fe.ctxs.filter (fun y => y.id != c), fe.posted := n.fe.posted.upd c.port (fun _ => some (withReady n x))
      prt := ⟨{ n.prt.p0 with held := false }, { n.prt.p1 with held := false }⟩ })) := by
  subst hn
  simp only [post, hx, hp, Bool.not_true, Bool.false_eq_true, if_false]

end

section
variable (s : State) (c : NvCmd) (k : Ctrlr) (hk : ctrlOf s.m c = some k)
include hk

/-- A PCIe controller's submission entry is fetched (R821). -/
theorem execSubmissionFetch_pcie (ht : k.tcp = false) : execSubmissionFetch c s = .next { s with m := fetch c s.m } :=
  run_unless (by simp [hk, ht]) rfl

/-- A capsule of an association is fetched (R821). -/
theorem execCapsuleReceive_tcp (ht : k.tcp = true) : execCapsuleReceive c s = .next { s with m := fetch c s.m } :=
  run_when (by simp [hk, ht]) rfl

end

/-- A reservation command that is decoded and that nothing bars runs on the reservation of its namespace and for its controller's host (R816). -/
theorem resv_step (s : State) (c : NvCmd) (nsid : Nat) (f : Resv → BitVec 128 → Mach → Mach) (n : Ns) (m' : Mach) (hq : c.sqid ≠ 0)
    (hf : fresh s.m c = true) (hb : ioBarred (Decoded c s.m) = none) (hn : nsOf s.m nsid = some n) (ha : n.att.get c.port = true)
    (hm : f (resvOf s.m nsid) (hostOf s.m c) (Decoded c s.m) = m') : s.run (resvRow c nsid f) = .next { s with m := m' } := by
  have queued : (c.sqid == 0) = false := beq_false_of_ne hq
  have there : nsOf (Decoded c s.m) nsid = some n := hn
  rw [← hm, State.run_eq]
  simp only [resvRow, queued, Bool.false_eq_true, if_false, begin_fresh c _ s.m hf, hb, there, ha, if_true]
  rfl

end Sys2Proof.Machine

namespace Sys2Proof.Proofs
open Sys2Proof.Machine

/-- Settles O24: an entry is fetched or held as its port may, a completion is posted, and admin and reservation rows run on the decoded context, where
each clause's conditions pass the row's checks. -/
theorem controllerQueueEffects : Obligations.ControllerQueueEffects := by
  refine ⟨fun s c k hk ht hf hx hn ha hi => ?fetches, fun s c k hk ht hf hx hn ha hi => ?receives, fun s c k hk ht hf hx hn => ?fetchHeld,
    fun s c k hk ht hf hx hn => ?receiveHeld, fun s c x hx hp => ⟨_, run_to (post_posts c s.m x _ hx hp rfl), _, rfl, rfl⟩,
    fun s p id qid taken hf ht => ?doorbell, fun s c k d r ha hk hn => ?notice, fun s c k ha hk hn => ?waits,
    fun s c cq qid size cqid prio k ha hk ht hq0 hq hfree hlo hhi hcq => ?create, fun s c cq qid k ha hk ht hq hcq => ?delete,
    fun s c nsid act ignore cptpl cur new n r hq hf hb hn hat hact hr => ?register,
    fun s c nsid act ty cur pre n r excepts hq hf hb hn hat hact hlo hhi hr => ?acquire,
    fun s c nsid act ty cur n r hq hf hb hn hat hact hr => ?release, fun s c ha => admin_step s c _ _ ha rfl⟩
  case fetches => exact (execSubmissionFetch_pcie s c k hk ht).trans (by rw [fetch_takes c s.m hf hx hn ha hi])
  case receives => exact (execCapsuleReceive_tcp s c k hk ht).trans (by rw [fetch_takes c s.m hf hx hn ha hi])
  case fetchHeld => exact (execSubmissionFetch_pcie s c k hk ht).trans (by rw [fetch_held c s.m hf hx hn])
  case receiveHeld => exact (execCapsuleReceive_tcp s c k hk ht).trans (by rw [fetch_held c s.m hf hx hn])
  case doorbell =>
    show execCompletionQueueHeadDoorbell p id qid taken s = _
    exact run_unless hf (if_neg (by simp [ht]))
  case notice =>
    have notices : (ctrlOf (Decoded c s.m) c).map (fun k => k.notices) = some (d :: r) := by rw [show ctrlOf (Decoded c s.m) c = some k from hk, ← hn]; rfl
    exact admin_step s c _ _ ha (by simp only [notices])
  case waits =>
    have notices : (ctrlOf (Decoded c s.m) c).map (fun k => k.notices) = some [] := by rw [show ctrlOf (Decoded c s.m) c = some k from hk, ← hn]; rfl
    exact admin_step s c _ _ ha (by simp only [notices])
  case create =>
    have there : ctrlOf (Decoded c s.m) c = some k := hk
    have named : (qid == 0 || decide (64 < qid.toNat) || k.queues.any (fun q => q.cq == cq && q.qid == qid)) = false := by
      rw [hfree, beq_false_of_ne hq0, decide_eq_false (Nat.not_lt.mpr hq)]; rfl
    have sized : (decide (size.toNat < 2) || decide (4096 < size.toNat)) = false := by
      rw [decide_eq_false (Nat.not_lt.mpr hlo), decide_eq_false (Nat.not_lt.mpr hhi)]; rfl
    have paired : (!cq && !k.queues.any (fun q => q.cq && q.qid == cqid)) = false := by
      cases cq
      · rw [hcq rfl]; rfl
      · rfl
    exact admin_step s c _ _ ha (by simp only [there, ht, named, sized, paired, Bool.false_eq_true, if_false])
  case delete =>
    have there : ctrlOf (Decoded c s.m) c = some k := hk
    have unused : (cq && k.queues.any (fun q => !q.cq && q.cqid == qid)) = false := by
      cases cq
      · rfl
      · rw [hcq rfl]; rfl
    exact admin_step s c _ _ ha (by simp only [there, ht, hq, unused, Bool.not_true, Bool.false_eq_true, if_false])
  case register =>
    have known : ¬ 2 < act.toNat := Nat.not_lt.mpr hact
    exact resv_step s c nsid.toNat _ n _ hq hf hb hn hat (by simp only [known, hr, if_false])
  case acquire =>
    have act2 : ¬ 2 < act.toNat := by omega
    have known : (decide (2 < act.toNat) || decide (ty.toNat < 1) || decide (6 < ty.toNat)) = false := by
      rw [decide_eq_false act2, decide_eq_false (Nat.not_lt.mpr hlo), decide_eq_false (Nat.not_lt.mpr hhi)]; rfl
    have noAbort : act ≠ 2 := fun e => by rw [e] at hact; exact absurd hact (by decide)
    exact resv_step s c nsid.toNat _ n _ hq hf hb hn hat (by simp only [known, hr, noAbort, Bool.false_eq_true, if_false])
  case release =>
    have known : ¬ 1 < act.toNat := Nat.not_lt.mpr hact
    exact resv_step s c nsid.toNat _ n _ hq hf hb hn hat (by simp only [known, hr, if_false])

end Sys2Proof.Proofs
end

section
/-! PROOFS. Controllers, associations, the engine pair and the links (spec/16 R811 to R848, R1043, spec/04 R245 to R248). -/

namespace Sys2Proof.Machine

@[simp] theorem stageDone_accept (h : Hdr) (op : Nat) (x : Bool) (m : Mach) (n : Nat) : stageDone (accept h op x m) n = stageDone m n := rfl
@[simp] theorem standbySound_accept (h : Hdr) (op : Nat) (x : Bool) (m : Mach) : standbySound (accept h op x m) = standbySound m := rfl

/-- An event leaves the soundness of the standby engine alone. -/
@[simp] theorem standbySound_report (code : Nat) (w : Place) (ps : List Byte) (m : Mach) : standbySound (report code w ps m) = standbySound m := by
  simp [standbySound]

/-- Two changes of a port unit that agree on its state leave the same machine. -/
theorem onPrt_congr {p : Act} {f g : Port → Port} {m : Mach} (h : f (m.prt.get p) = g (m.prt.get p)) : onPrt p f m = onPrt p g m :=
  congrArg (fun q => { m with prt := q }) (Pair.upd_congr h)

section
variable (s : State) (p : Act)

/-- An enabled controller's shutdown notification marks it, and starts the clean shutdown when it is the last (R245, R246). -/
theorem execShutdownNotification_marks (id : BitVec 16) (k : Ctrlr) (n : Mach)
    (hk : s.m.fe.ctrls.find? (fun k => k.cntlid == id && decide (k.port = p)) = some k)
    (he : k.en = true ∧ k.shutting = false ∧ k.shutDone = false) (hu : (s.m.prt.get p).up = true) (hf : frozen s.m = false)
    (hn : n = onCtrl p id (fun k => { k with shutting := true }) s.m) :
    execShutdownNotification p id s = .next { s with m := (if (allNotified n && !shutRuns n) = true
      then startShutdown .notify { n with sup.afterReset := none } else shutCheck n) } := by
  obtain ⟨en, notYet, notDone⟩ := he
  subst hn
  refine run_to ?_
  simp only [hk, en, notYet, notDone, hu, hf, Bool.not_true, Bool.or_self, Bool.false_eq_true, if_false]

/-- A command runs on the context that it has taken (R815). -/
theorem bareRun_takes (c : NvCmd) (f : Mach → Mach) (m n : Mach) (hx : ctxOf m c = none) (hn : n = bareContext c m) (hc : (ctxOf n c).isSome = true) :
    bareRun c f m = f n := by
  subst hn
  simp only [bareRun, hx, hc, Option.isSome_none, Bool.false_eq_true, if_false, if_true]

/-- A refresh that fails to come is reported, and the standby takes over when that is armed and it is sound (R828, R830). -/
theorem execWatchdogExpiry_reports (n : Mach) (he : engineUp s.m = true) (hl : s.m.pwr.loss = false)
    (hn : n = report 0x1020 nowhere (leBytes 1 s.m.fe.active.idx) { s.m with fe.wdtFed := false }) :
    execWatchdogExpiry s = .next { s with m := (if (armed s.m 0x1020 == 9 && standbySound s.m) = true
      then startTakeover 3 s.m.fe.active.other none n else n) } := by
  have arm : armed n 0x1020 = armed s.m 0x1020 := by rw [hn, report_armed]; rfl
  have sound : standbySound n = standbySound s.m := by rw [hn, standbySound_report]; rfl
  have active : n.fe.active = s.m.fe.active := by rw [hn, report_fe]
  refine run_unless (by simp [he, hl]) ?_
  simp only [← hn, arm, sound, active]

/-- A reset line that was held releases its port, unless the port's group has no supply (R185, R846). -/
theorem execPerstRelease_held (n : Mach) (hp : s.m.pins.perst.get p = true)
    (hn : n = { s.m with pins.perst := s.m.pins.perst.upd p (fun _ => false) }) :
    execPerstRelease p s = .next { s with m := (if unsupplied n (.port p) = true then n
      else groupReply (Group.bitNo (.port p)) (portReleased p (releaseIfReset (.port p) n))) } := by
  subst hn
  exact run_when hp rfl

/-- A PCIe link that comes up at its full rate and width is reported, and not as degraded (R812, R846, Table 16-1). -/
theorem execLinkUp_full (hu : (s.m.prt.get p).up = false) (hd : (s.m.prt.get p).linkDis = false) (hr : inReset s.m (.port p) = false)
    (hp : s.m.pins.perst.get p = false) (hl : s.m.pwr.llcOn = true) (hf : frozen s.m = false) (hfit : linkFits s.m p 5 2 = true)
    (hs : s.m.sup.fwSlot ≠ 3) (he : (s.m.prt.get p).eth = false) :
    execLinkUp p 5 2 s = .next { s with m := (report 0x1401 nowhere (leBytes 1 p.idx ++ leBytes 1 5 ++ leBytes 1 2) (onPrt p (fun _ => { s.m.prt.get p with
      up := true, pll := true, degraded := false, speed := 5, width := 2, fec := false, mtu := 0 }) s.m)) } := by
  have fit : linkFits s.m p (5 : BitVec 4).toNat (2 : BitVec 4).toNat = true := hfit
  have full : (!((5 : BitVec 4) == 5 && (2 : BitVec 4) == 2)) = false := rfl
  refine run_unless (by simp only [hu, hd, hr, hp, hl, hf, fit, beq_false_of_ne hs, Bool.not_true, Bool.and_false, Bool.or_self]) ?_
  simp only [he, full, Bool.false_eq_true, if_false]
  exact congrArg _ (onPrt_congr (by simp only [he, Bool.false_and, Bool.false_eq_true, if_false]))

end

end Sys2Proof.Machine

namespace Sys2Proof.Proofs
open Sys2Proof.Machine

/-- Settles O25: the conditions of each clause choose the branch of its event; the requests are served and pass their row's checks. -/
theorem portAndEngineEffects : Obligations.PortAndEngineEffects := by
  refine ⟨fun s p id cfg k hk he hu hf => ?enable, fun s p id ha => ?disable, fun s p id k n hk he hs hd hu hf hn ha hr => ?lastNotified,
    fun s p id k n hk he hs hd hu hf hn ha => ?notified, fun s p id ha => ?keepAlive,
    fun s c size host n id heth hu hf he hr hq hx hn hc hsize ha hcon hid => ?connect, fun s he => ?refresh, fun s he hl ha hs => ?expiryArmed,
    fun s he hl ha => ?expiry, fun s x t ht htr hf => ?fence, fun s gap => rfl, fun s h hs h0 h1 h2 h3 => ?status,
    fun s h c hs h0 h1 h2 h3 hm hst hso ht hp hw => ?takeover, fun s p hp => ?assert, fun s p n hp hn hu => ?releases, fun s p n hp hn hu => ?unsupplied,
    fun s p hu hd hr hp hl hf hfit hs he => execLinkUp_full s p hu hd hr hp hl hf hfit hs he, fun s p => rfl, fun s p hl => ?pllLoss,
    fun s p hr hl => ?pllRelock⟩
  case enable =>
    show execControllerEnable p id cfg s = _
    simp only [execControllerEnable, State.run_eq, hk, he, hu, hf, Bool.not_true, Bool.or_self, Bool.false_eq_true, if_false]
  case disable =>
    show execControllerDisable p id s = _
    exact run_when ha rfl
  case lastNotified => exact (execShutdownNotification_marks s p id k n hk ⟨he, hs, hd⟩ hu hf hn).trans (by simp [ha, hr])
  case notified =>
    have other : (allNotified n && !shutRuns n) = false := by rcases ha with h | h <;> simp [h]
    exact (execShutdownNotification_marks s p id k n hk ⟨he, hs, hd⟩ hu hf hn).trans (by rw [other]; rfl)
  case keepAlive => exact ⟨_, show execKeepAliveTimeout p id s = _ from run_when ha rfl, _, rfl, rfl⟩
  case connect =>
    subst hid
    show execNvmeConnect c size host s = _
    have sizeOk : ¬ 128 < size.toNat := Nat.not_lt.mpr hsize
    have room : ¬ 16 ≤ assocs n c.port ∧ ¬ 256 ≤ connections n := ⟨Nat.not_le.mpr ha, Nat.not_le.mpr hcon⟩
    obtain ⟨room, connRoom⟩ := room
    refine run_unless (by simp [heth, hu, hf, he, hr]) ((if_pos (by simp [hq])).trans ?_)
    rw [bareRun_takes c _ s.m n hx hn hc]
    simp only [sizeOk, room, connRoom, if_false]
  case refresh =>
    show execWatchdogRefresh s = _
    exact run_when he rfl
  case expiryArmed => exact (execWatchdogExpiry_reports s _ he hl rfl).trans (by rw [if_pos (by simp [ha, hs])])
  case expiry =>
    have stays : (armed s.m 0x1020 == 9 && standbySound s.m) = false := by
      rcases ha with h | h
      · rw [beq_false_of_ne h]; rfl
      · rw [h, Bool.and_false]
    exact (execWatchdogExpiry_reports s _ he hl rfl).trans (by rw [stays]; rfl)
  case fence =>
    show execFenceConfirmed x s = _
    refine run_to ?_
    simp only [ht, htr, hf, decide_false, Bool.or_self, Bool.false_eq_true, if_false]
  case status => exact ⟨_, service_step s 0x0C01 h lvHost _ _ _ hs (noParam_pass h h0 h1 h2 h3) rfl, _, rfl, rfl⟩
  case takeover =>
    refine service_step s 0x0C02 h lvMaint _ _ _ hs (by simp [firstFail_eq_none, reserved, hm, hst, h0, h1, h2, h3]) ?_
    have idle : (accept h 0x0C02 false s.m).fe.tko.isSome = false := by simp [ht]
    have posts : (accept h 0x0C02 false s.m).fe.posting = true := hp
    simp only [standbySound_accept, hso, idle, posts, hw, Bool.not_true, Bool.or_self, Bool.false_eq_true, if_false]
    rfl
  case assert =>
    show execPerstAssert p s = _
    exact run_unless hp rfl
  case releases => exact (execPerstRelease_held s p n hp hn).trans (by simp [hu])
  case unsupplied => exact (execPerstRelease_held s p n hp hn).trans (by simp [hu])
  case pllLoss =>
    show execPhyPllLoss p s = _
    exact run_unless (by simp [hl]) rfl
  case pllRelock =>
    show execPhyPllRelock p s = _
    exact run_unless (by simp [hr, hl]) rfl

end Sys2Proof.Proofs
end

section
/-! PROOFS. Sessions and methods of Opal (spec/17 R855 to R866). -/

namespace Sys2Proof.Machine

@[simp] theorem sessOf_onCtx (c d : NvCmd) (f : Ctx → Ctx) (m : Mach) : sessOf (onCtx d f m) c = sessOf m c := rfl
@[simp] theorem provedIn_onCtx (c d : NvCmd) (f : Ctx → Ctx) (m : Mach) (locking : Bool) (p : Nat → Bool) :
    provedIn (onCtx d f m) c locking p = provedIn m c locking p := rfl
@[simp] theorem noCommit_onCtx (d : NvCmd) (f : Ctx → Ctx) (m : Mach) : noCommit (onCtx d f m) = noCommit m := rfl

/-- A commit that nothing keeps from the NOR succeeds when the NOR does. -/
theorem commitOk_of_mayCommit {m : Mach} (h : mayCommit m = true) : commitOk m true = true := h

/-- What a revert does once it may: the ranges' new keys, the namespaces of `ids` emptied, and the answer. -/
def revertDone (c : NvCmd) (kind : Nat) (keys : List (BitVec 512)) (ok : Bool) (ids : List Nat) (m : Mach) : Mach :=
  let n := eraseRanges keys (List.range 16) (commitOk m ok) (fun o => manufactured (fun i => (o.ranges.getD i {}).key)) m
  freeRanges c (if commitOk m ok then
      answer c tcgOk [] (commitCtx c (report 0x1122 nowhere (leBytes 1 kind) { wipeNss ids n with dsv.sess := none }))
    else answer c tcgFail [] n)

/-- The revert of the model as a row that may wait. -/
theorem revertRow_eq (c : NvCmd) (k kind : Nat) (keys : List (BitVec 512)) (ok : Bool) (may : Mach → Bool) (m : Mach) :
    revertRow c k kind keys ok may m = heldRow c k
      (fun m => if may m then holdRanges c (List.range 16) m else answer c tcgNotAuth [] m)
      (fun m => !rangeBusy m (List.range 16) && noCommit m && enoughKeys keys 16)
      (revertDone c kind keys ok (m.zmg.maps.nss.map (fun n => n.nsid))) m := rfl

/-- What GenKey or Erase does once it may. -/
def rekeyDone (c : NvCmd) (range : Nat) (keys : List (BitVec 512)) (ok : Bool) (m : Mach) : Mach :=
  let n := eraseRanges keys [range] (commitOk m ok) id m
  freeRanges c (if commitOk m ok then answer c tcgOk [] (commitCtx c n) else answer c tcgFail [] n)

/-- GenKey or Erase of the model as a row that may wait. -/
theorem rekeyRow_eq (c : NvCmd) (k range : Nat) (keys : List (BitVec 512)) (ok : Bool) (m : Mach) :
    rekeyRow c k range keys ok m = heldRow c k (fun m => if !provedIn m c true isLockAdmin then answer c tcgNotAuth [] m else holdRanges c [range] m)
      (fun m => !rangeBusy m [range] && noCommit m && enoughKeys keys 1) (rekeyDone c range keys ok) m := rfl

section
variable (s : State) (c : NvCmd) (k : Nat) (keys : List (BitVec 512)) (h : Mach) (hw : Waits s.m c)
include hw

/-- A revert that its session may do, whose ranges no command touches and whose keys and commit succeed, gives every range a new key and brings the SPs
and the namespaces back to manufacture (R866). -/
theorem revertRow_reverts (kind : Nat) (may : Mach → Bool) (hm : may (Waiting c k s.m) = true)
    (hh : h = holdRanges c (List.range 16) (Waiting c k s.m)) (hb : rangeBusy h (List.range 16) = false) (hc : noCommit h = true)
    (hk : enoughKeys keys 16 = true) (hn : mayCommit h = true) :
    s.run (revertRow c k kind keys true may) = .next { s with m := (freeRanges c (answer c tcgOk [] (commitCtx c (report 0x1122 nowhere (leBytes 1 kind)
      { wipeNss (s.m.zmg.maps.nss.map (fun n => n.nsid)) (eraseRanges keys (List.range 16) true
          (fun o => manufactured (fun i => (o.ranges.getD i {}).key)) h) with dsv.sess := none })))) } := by
  rw [State.run, revertRow_eq]
  refine held_go s c k _ _ _ h _ hw ((if_pos hm).trans hh.symm) (by rw [hh]; rfl) (by simp only [hb, hc, hk, Bool.not_false, Bool.and_self]) ?_
  simp only [revertDone, commitOk_of_mayCommit hn, if_true]

/-- A new key for one range, by an Admin of the Locking SP (R864). -/
theorem rekeyRow_rekeys (range : Nat) (hm : provedIn s.m c true isLockAdmin = true) (hh : h = holdRanges c [range] (Waiting c k s.m))
    (hb : rangeBusy h [range] = false) (hc : noCommit h = true) (hk : enoughKeys keys 1 = true) (hn : mayCommit h = true) :
    s.run (rekeyRow c k range keys true) =
      .next { s with m := freeRanges c (answer c tcgOk [] (commitCtx c (eraseRanges keys [range] true id h))) } := by
  rw [State.run, rekeyRow_eq]
  refine held_go s c k _ _ _ h _ hw ((if_neg (by simp [hm])).trans hh.symm) (by rw [hh]; rfl) (by simp only [hb, hc, hk, Bool.not_false, Bool.and_self]) ?_
  simp only [rekeyDone, commitOk_of_mayCommit hn, if_true]

end

end Sys2Proof.Machine

namespace Sys2Proof.Proofs
open Sys2Proof.Machine

/-- Settles O33: a method that may have to wait finds its start's conditions met and may end at once; every other row runs on the decoded context. -/
theorem opalMethodEffects : Obligations.OpalMethodEffects := by
  refine ⟨fun s c locking ha hs hl => ?start, fun s c x ha hs => ?stop, fun s c r ha hr => ?receive, fun s c hw hp ha hc => ?activate,
    fun s c keys h psid hw hps hp hh hb hc hk hn => ?revert, fun s c keys h hw hp hh hb hc hk hn => ?revertsp,
    fun s c range keys h hw hp hh hb hc hk hn => rekeyRow_rekeys s c 14 keys h hw range.toNat hp hh hb hc hk hn,
    fun s c range keys h hw hp hh hb hc hk hn => rekeyRow_rekeys s c 15 keys h hw range.toNat hp hh hb hc hk hn,
    fun s c what ha hm => admin_step s c _ _ ha (if_pos hm), fun s c what h hw hh hm hv hc => ?set,
    fun s c auth proof x ha hs hof hon ht hp => ?authenticate, fun s c count x ha hs => ?random⟩
  case start =>
    have none : (Decoded c s.m).dsv.sess.isSome = false := by rw [show (Decoded c s.m).dsv.sess = none from hs]; rfl
    have usable : (locking && !(Decoded c s.m).dsv.opal.active) = false := by
      cases locking
      · rfl
      · rw [show (Decoded c s.m).dsv.opal.active = true from hl rfl]; rfl
    exact admin_step s c _ _ ha (by simp only [none, usable, bne_self_eq_false, Bool.false_eq_true, if_false])
  case stop => exact admin_step s c _ _ ha (by simp [hs])
  case receive =>
    have found : (Decoded c s.m).dsv.resp.find? (fun x => x.1 == c.cntlid) = some r := hr
    exact admin_step s c _ _ ha (by simp only [found, bne_self_eq_false, Bool.false_eq_true, if_false]; rfl)
  case activate =>
    have inactive : (Waiting c 10 s.m).dsv.opal.active = false := ha
    exact held_go s c 10 _ _ _ _ _ hw (by simp only [provedIn_onCtx, hp, inactive, Bool.not_true, Bool.false_eq_true, if_false]) rfl hc rfl
  case revert =>
    show execOpalRevert c keys true s = _
    subst hps
    exact revertRow_reverts s c _ keys h hw _ _ hp hh hb hc hk hn
  case revertsp => exact revertRow_reverts s c 13 keys h hw 1 _ (by simpa using hp) hh hb hc hk hn
  case set =>
    exact held_go s c 16 _ _ _ h _ hw (by simp only [← hh, hm, hv, Bool.not_true, Bool.false_eq_true, if_false]) (by rw [hh]) hc rfl
  case authenticate =>
    have named : (!(if x.locking then ofLocking auth.toNat else ofAdmin auth.toNat) || !authOn (Decoded c s.m) auth.toNat) = false := by
      rw [hof, show authOn (Decoded c s.m) auth.toNat = true from hon]; rfl
    have open_ : ¬ tryLimit (Decoded c s.m) ≤ assoc 0 (Decoded c s.m).dsv.tries auth.toNat := Nat.not_le.mpr ht
    have proven : provesPin (Decoded c s.m) auth.toNat proof = true := hp
    exact admin_step s c _ _ ha (by simp only [sessOf_onCtx, hs, named, open_, proven, Bool.false_eq_true, if_false, if_true]; rfl)
  case random => exact admin_step s c _ _ ha (by simp [hs])

end Sys2Proof.Proofs
end

section
/-! PROOFS. The Zhetar group protocol: timers, frames and messages (spec/17 R875 to R902). -/

namespace Sys2Proof.Machine

@[simp] theorem groupOf_inboxDone (x : Nat × BitVec 32 × ZMsg) (m : Mach) (gid : BitVec 32) : groupOf (inboxDone x m) gid = groupOf m gid := rfl
@[simp] theorem module_inboxDone (x : Nat × BitVec 32 × ZMsg) (m : Mach) : (inboxDone x m).dsv.module = m.dsv.module := rfl

/-- A peer that times out ends a creation that still waits for it (R887), and only such a one. -/
theorem peerTimeout_step (s : State) (peer : BitVec 16) (k m' : Mach) (e : k = peerDown peer.toNat s.m)
    (hm : (if (k.dsv.creation.map (fun x => x.left.contains peer.toNat)).getD false && (peerOf k peer.toNat).any (fun p => p.down) then creationFails k
      else k) = m') : execZgpPeerTimeout peer s = .next { s with m := zgpFlow m' } := by
  subst e hm
  rfl

/-- A message of a member answers a creation that waits for its group. -/
theorem creation_waits {m : Mach} {x : Creation} {gid : BitVec 32} (hc : m.dsv.creation = some x) (hg : x.grp.gid = gid) :
    (m.dsv.creation.map (fun x => x.grp.gid == gid)).getD false = true := by simp [hc, hg]

end Sys2Proof.Machine

namespace Sys2Proof.Proofs
open Sys2Proof.Machine

/-- Settles O34: the conditions of a clause choose the branch of its row, message by message. -/
theorem groupProtocolEffects : Obligations.GroupProtocolEffects := by
  refine ⟨fun s hj hf => ?hello, fun s peer k e hc => ?timeout, fun s peer k x p e hc hl hp hd => ?timeoutCreation,
    fun s dom epoch src dst seq ack msg p q k hj hd hs hp he ht hk hq => ?frame, fun s a dom epoch src dst seq ack msg hj hbad => ?frameFalse,
    fun s dst seq hit hh hany hf => ?retransmit, fun s src ack ok hp => ?ack, fun s src seq gid col lba ds g n hx hg hn => ?parity,
    fun s src k p c seq gid fresh ok cols g hx hc hg => ?groupDef, fun s src seq gid yes ok x n hx hn hc hg => ?groupAns,
    fun s src seq gid excepts assigned hx => ?state, fun s src col row seq gid g hx hg hh => ?read,
    fun s src col lba seq gid secs ok g w hx hg hh hw hl => ?dataOwn, fun s src col lba seq gid secs ok g xs hx hg hh hxs => ?dataFeed⟩
  case hello =>
    show execZgpHello s = _
    exact run_to (if_neg (by simp [hj, hf]))
  case timeout => exact peerTimeout_step s peer k k e (if_neg (by simp [hc]))
  case timeoutCreation => exact peerTimeout_step s peer k _ e (if_pos (by simp only [hc, hl, hp, hd, Option.map_some, Option.getD_some, Option.any_some, Bool.and_self]))
  case frame =>
    subst hk
    have other : (dom != s.m.dsv.domain) = false := by simp [hd]
    have here : (newer p.epoch epoch || decide (dst.toNat ≠ s.m.dsv.module)) = false := by simp [he, ht]
    show execZgpFrameReceive true dom epoch src dst seq ack msg s = _
    refine run_to ?_
    simp only [hj, other, hs, hp, here, Bool.not_true, Bool.or_self, Bool.false_eq_true, if_false, hq]
  case frameFalse =>
    show execZgpFrameReceive a dom epoch src dst seq ack msg s = _
    refine run_to ?_
    have refused : (!a || dom != s.m.dsv.domain) = true := by
      rcases hbad with h | h <;> simp [h]
    simp only [hj, refused, Bool.not_true, Bool.false_eq_true, if_false, if_true]
  case retransmit =>
    subst hh
    show execZgpRetransmit dst seq s = _
    exact run_to (if_pos (by simp only [hany, hf, Bool.not_false, Bool.and_self]))
  case ack =>
    show execZgpAck src ack ok s = _
    exact run_to (if_neg (by simpa [Option.isSome_iff_ne_none] using hp))
  case parity =>
    show execZgpParityUpdate s = _
    refine run_to ?_
    simp only [hx, hg, hn]
  case groupDef =>
    subst hg
    show execZgpGroupDef ok s = _
    refine run_to ?_
    simp only [hx, hc, Option.isSome_none, Bool.false_eq_true, if_false]
    exact (apply_ite _ _ _ _).symm
  case groupAns =>
    subst hn
    show execZgpGroupDef ok s = _
    refine run_to ?_
    simp only [hx]
    exact if_pos (creation_waits hc hg)
  case state =>
    show execZgpState s = _
    refine run_to ?_
    simp only [hx]
  case read =>
    show execZgpReconRead s = _
    refine run_to ?_
    simp only [hx, groupOf_inboxDone, hg]
    exact if_neg (by simpa using hh)
  case dataOwn =>
    subst hw
    show execZgpReconData ok s = _
    refine run_to ?_
    simp only [hx, hg, hh, beq_self_eq_true, if_true]
    exact if_neg (by simpa using hl)
  case dataFeed =>
    subst hxs
    have elsewhere : (g.holderAt col lba == s.m.dsv.module) = false := by simpa using hh
    show execZgpReconData ok s = _
    refine run_to ?_
    simp only [hx, hg, elsewhere, Bool.false_eq_true, if_false]

end Sys2Proof.Proofs
end

section
/-! PROOFS. Carriers of service requests, sessions and proofs (spec/18 R905 to R924). -/

namespace Sys2Proof.Machine

@[simp] theorem leBytes_length (n v : Nat) : (leBytes n v).length = n := by
  induction n generalizing v with
  | zero => rfl
  | succ n ih => simp [leBytes, ih]

@[simp] theorem lockedOut_accept (h : Hdr) (op : Nat) (x : Bool) (m : Mach) (who : Transport) : lockedOut (accept h op x m) who = lockedOut m who := rfl
@[simp] theorem lockedOut_report (code : Nat) (w : Place) (ps : List Byte) (m : Mach) (who : Transport) :
    lockedOut (report code w ps m) who = lockedOut m who := by simp [lockedOut]
@[simp] theorem challengeFor_accept (h : Hdr) (op : Nat) (x : Bool) (m : Mach) (who : Transport) (clear : Bool) (level : Nat) :
    challengeFor (accept h op x m) who clear level = challengeFor m who clear level := rfl
@[simp] theorem maintHash_accept (h : Hdr) (op : Nat) (x : Bool) (m : Mach) : maintHash (accept h op x m) = maintHash m := rfl
@[simp] theorem factoryBarred_accept (h : Hdr) (op : Nat) (x : Bool) (m : Mach) (level : Nat) :
    factoryBarred (accept h op x m) level = factoryBarred m level := rfl
@[simp] theorem proofGood_accept (h : Hdr) (op : Nat) (x : Bool) (m : Mach) (who : Transport) (level : Nat) (proof : List Byte) :
    proofGood (accept h op x m) who level proof = proofGood m who level proof := rfl
@[simp] theorem sessions_accept_length (h : Hdr) (op : Nat) (x : Bool) (m : Mach) :
    (accept h op x m).svc.sessions.length = m.svc.sessions.length := by simp [accept]
@[simp] theorem sessions_dropChallenge (who : Transport) (clear : Bool) (level : Nat) (m : Mach) :
    (dropChallenge who clear level m).svc.sessions = m.svc.sessions := rfl

/-- The checks of AUTH_CHALLENGE and AUTH_OPEN pass for an authority that is not barred. -/
theorem authChecks_pass {h : Hdr} {m : Mach} (h1 : h.p1 = 0) (h2 : h.p2 = 0) (h3 : h.p3 = 0) (hp : h.p0 = 1 ∨ h.p0 = 2)
    (hb : factoryBarred m h.p0.toNat = false) (rest : List (Bool × Nat)) (hr : firstFail rest = none) :
    firstFail ([(factoryBarred m h.p0.toNat, stWrongMode), reserved [h.p1, h.p2, h.p3], (h.p0 != 1 && h.p0 != 2, stBadParam)] ++ rest) = none := by
  have zeros : reserved [h.p1, h.p2, h.p3] = (false, stBadParam) := reserved_zero (by simp [h1, h2, h3])
  have named : (h.p0 != 1 && h.p0 != 2) = false := by rcases hp with e | e <;> rw [e] <;> decide
  simp only [List.cons_append, List.nil_append, firstFail, hb, zeros, named, hr, Bool.false_eq_true, if_false]

/-- The checks of EVR_CLEAR pass for a proof of 32 bytes. -/
theorem clearChecks_pass {h : Hdr} {proof : List Byte} (h0 : h.p0 = 0) (h1 : h.p1 = 0) (h2 : h.p2 = 0) (h3 : h.p3 = 0) (hl : proof.length = 32) :
    firstFail [reserved [h.p0, h.p1, h.p2, h.p3], (decide (proof.length ≠ 32), stBadLength)] = none := by
  simp [firstFail_eq_none, reserved, h0, h1, h2, h3, hl]

/-- The proofs that failed on a carrier within 60 s (R924). -/
def recentFails (who : Transport) (m : Mach) : List (Transport × BitVec 40) :=
  m.svc.fails.filter (fun f => f.1 == who && decide (m.sup.opSec.toNat < f.2.toNat + 60))

/-- A wrong proof as counted and reported (R924), before its place among the recent ones is judged. -/
def proofNoted (who : Transport) (level : Nat) (m : Mach) : Mach :=
  report 0x0040 nowhere (who.bytes ++ leBytes 1 level) { m with svc.authFail := m.svc.authFail.inc }

/-- One of the first four wrong proofs within 60 s. -/
theorem proofFailed_of_few {who : Transport} {level : Nat} {m : Mach} (hf : (recentFails who m).length < 4) :
    proofFailed who level m = { proofNoted who level m with
      svc.fails := m.svc.fails.filter (fun f => f.1 != who) ++ recentFails who m ++ [(who, m.sup.opSec)] } := by
  have few : (recentFails who m).length + 1 < 5 := by omega
  simp only [recentFails] at few
  simp only [proofFailed, proofNoted, recentFails, report_svc, report_sup, few, if_true]

/-- The fifth wrong proof within 60 s. -/
theorem proofFailed_of_many {who : Transport} {level : Nat} {m : Mach} (hf : 4 ≤ (recentFails who m).length) :
    proofFailed who level m = report 0x0041 nowhere who.bytes { proofNoted who level m with
      svc.fails := m.svc.fails.filter (fun f => f.1 != who)
      svc.lockouts := m.svc.lockouts.filter (fun l => l.1 != who) ++ [(who, m.sup.opSec)] } := by
  have many : ¬ (recentFails who m).length + 1 < 5 := by omega
  simp only [recentFails] at many
  simp only [proofFailed, proofNoted, report_svc, report_sup, many, if_false]

end Sys2Proof.Machine

namespace Sys2Proof.Proofs
open Sys2Proof.Machine

/-- Settles O55: the two requests go through their rows' checks; a wrong proof is judged by the number of recent ones. -/
theorem wrongProofsLockOut : Obligations.WrongProofsLockOut := by
  refine ⟨fun s h proof hs h1 h2 h3 hp hl hb hlock => ?openLocked, fun s h proof hs h0 h1 h2 h3 hl hlock => ?clearLocked,
    fun s h proof hs h1 h2 h3 hp hl hb hlock hbad => ?wrong, fun m who level => ?counted, fun m who level hf => ?fifth, fun m who level hf => ?fewer⟩
  case openLocked => exact service_step s 0x0107 h lvHost _ _ _ hs (authChecks_pass h1 h2 h3 hp hb [_] (by simp [firstFail, hl])) (if_pos hlock)
  case clearLocked => exact service_step s 0x0304 h lvHost _ _ _ hs (clearChecks_pass h0 h1 h2 h3 hl) (if_pos hlock)
  case wrong =>
    refine service_step s 0x0107 h lvHost _ _ _ hs (authChecks_pass h1 h2 h3 hp hb [_] (by simp [firstFail, hl])) ?_
    simp only [lockedOut_accept, hlock, proofGood_accept, hbad, Bool.not_false, Bool.false_eq_true, if_false, if_true]
  case counted =>
    rcases Nat.lt_or_ge (recentFails who m).length 4 with few | many
    · simp [proofFailed_of_few few, proofNoted]
    · simp [proofFailed_of_many many, proofNoted]
  case fifth =>
    rw [proofFailed_of_many hf, lockedOut_report]
    simp [lockedOut, proofNoted]
  case fewer =>
    rw [proofFailed_of_few hf]
    simp [lockedOut, proofNoted]

/-- Settles O29: requests on NVMe go through their decoded context, the others through the checks of their rows. -/
theorem carrierAndSessionEffects : Obligations.CarrierAndSessionEffects := by
  refine ⟨fun s c numd bytes ha => ?submit, fun s c numd tag o r ha hf hr hl => ?retrieve, fun s c numd tag o ha hf hr => ?retrieveNone,
    fun s bytes => ?mctp, fun s bytes hm => ?uart, fun s hb => ?gap, fun s id tag o hf => ?discard, fun s h hs h1 h2 h3 hp hb => ?challenge,
    fun s h proof c k hs h1 h2 h3 hp hb hlock hc hk hroom hproof => ?opens, fun s h hs h1 h2 h3 hx => ?close, fun s ref => rfl, fun s who => rfl⟩
  case submit => exact ⟨_, admin_step s c _ _ ha rfl, _, _, rfl, rfl, rfl⟩
  case retrieve =>
    have found : (Decoded c s.m).svc.out.find? (fun o => o.names (.nvme c.cntlid) tag) = some o := hf
    have fits : ¬ 4 * numd.toNat < 16 + r.data.length := Nat.not_lt.mpr hl
    exact admin_step s c _ _ ha (by simp only [retrieve, found, hr, fits, if_false])
  case retrieveNone =>
    have found : (Decoded c s.m).svc.out.find? (fun o => o.names (.nvme c.cntlid) tag) = some o := hf
    exact admin_step s c _ _ ha (by simp only [retrieve, found, hr])
  case mctp =>
    show execMctpRequest Config.vid 1 true bytes s = _
    exact run_to (if_pos (by simp))
  case uart =>
    show execUartFrame bytes s = _
    exact run_to (if_pos (by simp [hm]))
  case gap =>
    show execUartByteGapTimeout s = _
    exact run_to (if_neg (by simpa using hb))
  case discard =>
    show execReplyDiscard id tag s = _
    refine run_to ?_
    simp only [hf]
  case challenge =>
    exact ⟨_, service_step s 0x0106 h lvHost _ _ _ hs (authChecks_pass h1 h2 h3 hp hb [] rfl) rfl, _, rfl, rfl⟩
  case opens =>
    have proven : proofGood s.m h.who h.p0.toNat proof = true := by simp [proofGood, hc, hk, hproof]
    have room : ¬ 8 ≤ s.m.svc.sessions.length := Nat.not_le.mpr hroom
    refine ⟨_, service_step s 0x0107 h lvHost _ _ _ hs (authChecks_pass h1 h2 h3 hp hb [_] (by simp [firstFail, hproof])) ?_, _, _, rfl, rfl, rfl⟩
    simp only [lockedOut_accept, hlock, proofGood_accept, proven, sessions_dropChallenge, sessions_accept_length, room, Bool.not_true, Bool.false_eq_true,
      if_false]
    rfl
  case close =>
    refine ⟨_, service_step s 0x0108 h lvHost _ _ _ hs ?_ rfl, _, rfl, rfl⟩
    simp [firstFail_eq_none, reserved, h1, h2, h3, hx]

end Sys2Proof.Proofs
end

section
/-! PROOFS. The event recorder and the arming table (spec/19 R949 to R984). -/

namespace Sys2Proof.Machine

@[simp] theorem armed_accept (h : Hdr) (op : Nat) (x : Bool) (m : Mach) (code : Nat) : armed (accept h op x m) code = armed m code := rfl
@[simp] theorem armEntry_accept (h : Hdr) (op : Nat) (x : Bool) (m : Mach) (code : Nat) : armEntry (accept h op x m) code = armEntry m code := rfl

/-- A condition of the manual's tables is named (R955). -/
theorem eventInfo_isNone {code : Nat} (h : (eventInfo code).isSome = true) : (eventInfo code).isNone = false := by
  rw [← Option.not_isSome, h]; rfl

/-- Under log mode a new record that finds no free slot is dropped (R974). -/
theorem Evr.record_of_full {e : Evr} {code : Nat} {w : Place} {opsec : BitVec 40} {pcycle : BitVec 32} {ps : List Byte} (sev : Sev) (hlog : e.ixd3 = true)
    (hfull : storeSlots ≤ e.held.length) (hnew : bumpRepeat code w opsec pcycle ps 4 e.held = none) :
    e.record code sev w opsec pcycle ps = e.drop sev := by
  have full : ¬ e.held.length < storeSlots := Nat.not_lt.mpr hfull
  simp only [Evr.record, hnew, full, hlog, if_false, if_true]

/-- A drop raises the count of its severity alone. -/
theorem Evr.drop_eq (e : Evr) (sev : Sev) : e.drop sev = { e with
    drop0 := if sev = .info then e.drop0.inc else e.drop0
    drop1 := if sev = .notice then e.drop1.inc else e.drop1
    drop2 := if sev = .error then e.drop2.inc else e.drop2
    drop3 := if sev = .critical then e.drop3.inc else e.drop3 } := by
  cases sev <;> rfl

/-- What a report of the manual's tables makes of the recorder. -/
theorem report_evr {code : Nat} {i : EventInfo} (hi : eventInfo code = some i) (w : Place) (ps : List Byte) (m : Mach) :
    (report code w ps m).evr = m.evr.record code i.sev (placeOf code w ps) m.sup.opSec m.sup.pcycle (paramBytes ps) := by
  simp only [report, hi]

end Sys2Proof.Machine

namespace Sys2Proof.Proofs
open Sys2Proof.Machine

/-- Settles O47: the report's record is the drop of its severity. -/
theorem logModeDropsNewRecord : Obligations.LogModeDropsNewRecord := by
  intro s code act head zone ps i hi hlog hfull hnew
  refine ⟨_, rfl, ?_⟩
  exact ((report_evr hi _ _ _).trans (Evr.record_of_full i.sev hlog hfull hnew)).trans (Evr.drop_eq _ _)

/-- Settles O27: the requests go through the checks of their rows, the events through their own conditions. -/
theorem recorderEffects : Obligations.RecorderEffects := by
  refine ⟨fun s code act head zone ps => rfl, fun s x hx => ?program, fun s x hx => ?programFails,
    fun s sector n hr hn => ?rewriteDone, fun s sector hr => ?rewriteFails, fun s sector n hr hn => ?rewriteCut,
    fun s h hs h2 h3 hl hu => ?read, fun s h e hs h0 h1 h2 h3 he => ?status, fun s h hs h0 h1 h2 h3 => ?challenge,
    fun s h proof c k hs h0 h1 h2 h3 hlock hc hk hproof => ?clear, fun s h hs h1 h2 h3 hp => ?policy, fun s h hs h1 h2 h3 hp hi => ?armRead,
    fun s h hs h1 h2 h3 hp => ?armReadAll, fun s h hs h2 h3 hi hperm => ?armWrite⟩
  case program =>
    show execEventNorProgram true s = _
    refine run_to ?_
    simp only [hx, if_true]
    rfl
  case programFails =>
    show execEventNorProgram false s = _
    refine run_to ?_
    simp only [hx, Bool.false_eq_true, if_false]
  case rewriteDone =>
    subst hn
    show execEventSectorRewrite sector .done s = _
    exact run_to (if_neg (by simp [hr]))
  case rewriteFails =>
    show execEventSectorRewrite sector .failed s = _
    exact run_to (if_neg (by simp [hr]))
  case rewriteCut =>
    subst hn
    show execEventSectorRewrite sector .cut s = _
    exact run_to (if_neg (by simp [hr]))
  case read =>
    refine service_step s 0x0301 h lvHost _ _ _ hs ?_ rfl
    have inRange : (decide (h.p1.toNat < 1) || decide (2048 < h.p1.toNat)) = false := by simpa using ⟨Nat.one_le_iff_ne_zero.mp hl, hu⟩
    simp only [firstFail, reserved_zero (l := [h.p2, h.p3]) (by simp [h2, h3]), inRange, Bool.false_eq_true, if_false]
  case status =>
    subst he
    exact service_step s 0x0302 h lvHost _ _ _ hs (noParam_pass h h0 h1 h2 h3) rfl
  case challenge => exact ⟨_, service_step s 0x0303 h lvHost _ _ _ hs (noParam_pass h h0 h1 h2 h3) rfl, _, rfl, rfl⟩
  case clear =>
    refine service_step s 0x0304 h lvHost _ _ _ hs (clearChecks_pass h0 h1 h2 h3 (by simp [hproof])) ?_
    simp only [lockedOut_accept, hlock, challengeFor_accept, hc, maintHash_accept, hk, hproof, beq_self_eq_true, Bool.false_eq_true, if_false, if_true]
    rfl
  case policy =>
    refine ⟨_, service_step s 0x0305 h lvMaint _ _ _ hs ?_ rfl, _, rfl, rfl⟩
    simpa [firstFail_eq_none, reserved, h1, h2, h3] using hp
  case armRead =>
    have one : (h.p0 == 0xFFFF) = false := by simpa using hp
    refine service_step s 0x0901 h lvHost _ _ _ hs ?_ ?_
    · simp [firstFail_eq_none, reserved, h1, h2, h3, eventInfo_isNone hi]
    · simp only [one, armEntry_accept, Bool.false_eq_true, if_false]
  case armReadAll =>
    refine service_step s 0x0901 h lvHost _ _ _ hs ?_ ?_
    · simp [firstFail_eq_none, reserved, h1, h2, h3, hp]
    · simp only [hp, beq_self_eq_true, armEntry_accept, if_true]
  case armWrite =>
    refine ⟨_, service_step s 0x0902 h lvMaint _ _ _ hs ?_ rfl, _, rfl, by rw [armed_accept]⟩
    simp [firstFail_eq_none, reserved, h2, h3, eventInfo_isNone hi, hperm]

end Sys2Proof.Proofs
end

section
/-! PROOFS. Uncorrectable errors, the spare requests, DISCARD_ALL and the Timestamp feature (spec/19 R956 to R964, R981; spec/18 R939). -/

namespace Sys2Proof.Machine

/-- A reply leaves the staging area alone. -/
@[simp] theorem reply_staged (h : Hdr) (st d : Nat) (bs : List Byte) (m : Mach) : (reply h st d bs m).svc.staged = m.svc.staged := by
  unfold reply replyRaw
  split
  · rw [replyNotice_svc]
  · rfl

/-- The checks of SPARE_COMMIT pass outside STANDBY for a spare that can be brought in. -/
theorem spareChecks_pass {h : Hdr} {m : Mach} (hmode : m.sup.mode ≠ .standby) (hbad : spareBad m h = false) (hbusy : spareBusy m h = false) :
    firstFail [(decide (m.sup.mode = Mode.standby), stWrongMode), (spareBad m h, stBadParam), (spareBusy m h, stBusy)] = none := by
  simp [firstFail_eq_none, hmode, hbad, hbusy]

end Sys2Proof.Machine

namespace Sys2Proof.Proofs
open Sys2Proof.Machine

/-- Settles O20: an error outside its block's reset takes that block's effect; the requests pass the checks of their rows. -/
theorem spareEffects : Obligations.SpareEffects := by
  refine ⟨fun s e arr => rfl, fun s p arr hr => ?port, fun s a row hr => ?store, fun s a h r hr => ?regionRam, fun s a arr row hr => ?servo,
    fun s arr hr => ?spindle, fun s arr ad rows hr => ?fabric, fun s arr ad => rfl, fun s h hs h0 h1 h2 h3 => ?status,
    fun s h hs hmode hbad hbusy => ?commit⟩
  case port =>
    show execUncorrectableError (.port p arr) s = _
    exact run_unless hr rfl
  case store =>
    show execUncorrectableError (.store a row) s = _
    exact run_unless hr rfl
  case regionRam =>
    show execUncorrectableError (.regionRam a h r) s = _
    exact run_unless hr rfl
  case servo =>
    show execUncorrectableError (.servo a arr row) s = _
    exact run_unless hr rfl
  case spindle =>
    show execUncorrectableError (.spindle arr) s = _
    exact run_unless hr rfl
  case fabric =>
    show execUncorrectableError (.fabric arr ad rows) s = _
    exact run_unless hr rfl
  case status => exact ⟨_, service_step s 0x0903 h lvHost _ _ _ hs (noParam_pass h h0 h1 h2 h3) rfl, _, rfl, rfl⟩
  case commit => exact ⟨_, service_step s 0x0904 h lvMaint _ _ _ hs (spareChecks_pass hmode hbad hbusy) rfl, _, rfl, rfl⟩

/-- Settles O48: the row of the Timestamp feature has one outcome. -/
theorem timestampFeatureRefused : Obligations.TimestampFeatureRefused := fun s c ha => admin_step s c _ _ ha rfl

/-- Settles O49, from the effect of DISCARD_ALL: what is kept is what the module staged. -/
theorem discardAllKeepsModuleStagings : Obligations.DiscardAllKeepsModuleStagings := by
  intro s h hs h0 h1 h2 h3
  obtain ⟨_, _, discard, _⟩ := settingsEffects
  obtain ⟨m, he, n, hn, hm⟩ := discard s h hs h0 h1 h2 h3
  refine ⟨m, he, fun r del own => ?_⟩
  subst hm hn
  simp [accept]

end Sys2Proof.Proofs
end
